-- ==== Sys2Proof/Word.lean ====
section
/-! DEFINITION. The word types of the S8 model and the names of its units (chapter 00, "Parts of the module are
numbered as follows", and R9, R14, R19). Byte-order, bit-field and sign helpers stand in Machine/Bits.lean. -/

namespace Sys2Proof

/-- One byte. -/
abbrev Byte := BitVec 8

/-- A string of bytes, the byte at the lowest address first (R5). -/
abbrev Bytes := List (BitVec 8)

/-- Die number 0 to 7, a position in the grid (R9). -/
abbrev Die := Fin 8

/-- A die's west or east half (R14). -/
inductive Half where
  | w
  | e
  deriving DecidableEq, Repr

/-- The two control ports (R16). -/
inductive Port where
  | a
  | b
  deriving DecidableEq, Repr

/-- A core by die, half and number within the half (R18: 36 physical cores a half). -/
structure Core where
  die : Die
  half : Half
  num : Fin 36
  deriving DecidableEq, Repr

/-- A vat by kind, die and number (R18): 2,304 charge-trap vats and 288 culture vats a die. Whether the number is
logical or physical is said where it is used (R8). -/
inductive Vat where
  | ct (die : Die) (num : Fin 2304)
  | culture (die : Die) (num : Fin 288)
  deriving DecidableEq, Repr

/-- Rind unit u of a die (R88: 36 units a die, 18 a half). -/
structure RindUnit where
  die : Die
  num : Fin 36
  deriving DecidableEq, Repr

/-- A lane (track) of a step, 0 to 95 (R190). -/
abbrev Lane := Fin 96

/-- A pour slot of a vat, 0 to 127 (R66). -/
abbrev PourSlot := Fin 128

/-- A Helca lane d.n as 9d + n (R206). -/
abbrev LinkLane := Fin 72

/-- An attention engine in engine order: 2 × die, plus 1 for the E half (chapter 10). -/
abbrev EngineId := Fin 16

/-- A sequence slot (R315). -/
abbrev SeqSlot := Fin 8192

/-- The state a hoop-code word is found in when it is read (R397). -/
inductive WordErr where
  | corrected
  | uncorrectable
  deriving DecidableEq, Repr

/-- Words found upset since they were last read: word number (module address / 16) and what the decoder reports. -/
abbrev Upsets := List (Nat × WordErr)

end Sys2Proof
end

