-- ==== Sys2Proof/Machine/Bits.lean ====
section
/-! DEFINITION. Bit-field, sign and byte-order helpers. Every field of more than one byte is stored least significant
byte first (R5), and bit 0 is the least significant bit (R5). -/

namespace Sys2Proof.Machine

/-- Bits [lo + width - 1 : lo] of a number. -/
def field (w lo width : Nat) : Nat := (w / 2 ^ lo) % 2 ^ width

/-- The number whose bits [lo + width - 1 : lo] are `v` and whose other bits are those of `w`. -/
def setField (w lo width v : Nat) : Nat := w - field w lo width * 2 ^ lo + (v % 2 ^ width) * 2 ^ lo

/-- Two's complement: the signed value of the low `width` bits. -/
def toSigned (width w : Nat) : Int :=
  let u := w % 2 ^ width
  if u < 2 ^ (width - 1) then (u : Int) else (u : Int) - 2 ^ width

/-- Two's complement: the `width` bits that stand for an integer. -/
def ofSigned (width : Nat) (v : Int) : Nat := (v % (2 ^ width : Int)).toNat

/-- The unsigned value of bytes, least significant first (R5). -/
def leNat (b : Bytes) : Nat :=
  match b with
  | [] => 0
  | x :: rest => x.toNat + 256 * leNat rest

/-- The `n` bytes of a number, least significant first (R5). -/
def leBytes (n v : Nat) : Bytes :=
  match n with
  | 0 => []
  | k + 1 => BitVec.ofNat 8 v :: leBytes k (v / 256)

/-- Byte `i` of a string of bytes; a byte beyond its end is zero (R296). -/
def byteAt (b : Bytes) (i : Nat) : Byte := b.getD i 0

/-- Bytes made `n` long, cut or filled with zeros. -/
def padTo (n : Nat) (b : Bytes) : Bytes :=
  match n, b with
  | 0, _ => []
  | k + 1, [] => 0 :: padTo k []
  | k + 1, x :: rest => x :: padTo k rest

/-- `n` bytes from offset `i`, bytes beyond the end being zero. -/
def bytesAt (b : Bytes) (i n : Nat) : Bytes := padTo n (b.drop i)

/-- The field of `n` bytes at offset `i`, least significant byte first. -/
def leAt (b : Bytes) (i n : Nat) : Nat := leNat (bytesAt b i n)

/-- The signed field of `n` bytes at offset `i`. -/
def leIntAt (b : Bytes) (i n : Nat) : Int := toSigned (8 * n) (leAt b i n)

/-- `n` zero bytes. -/
def zeros (n : Nat) : Bytes := List.replicate n 0

/-- A string of bytes with `v` written from offset `i` (kept at its length). -/
def overlay (b : Bytes) (i : Nat) (v : Bytes) : Bytes :=
  b.take i ++ v.take (b.length - i) ++ b.drop (i + v.length)

/-- Are all bytes from offset `lo` up to `hi` zero? -/
def zeroBetween (b : Bytes) (lo hi : Nat) : Bool := (bytesAt b lo (hi - lo)).all (· = 0)

/-- The indexes below `n` whose bit is set in `w`. -/
def bitsOf (n w : Nat) : List Nat := (List.range n).filter (fun i => field w i 1 = 1)

/-- The number whose set bits are the listed indexes. -/
def ofBits (l : List Nat) : Nat := (l.eraseDups).foldl (fun a i => a + 2 ^ i) 0

/-- The least multiple of `m` that is at least `n`. -/
def roundUp (m n : Nat) : Nat := (n + m - 1) / m * m

/-- ceil(n / d). -/
def ceilDiv (n d : Nat) : Nat := (n + d - 1) / d

/-- Limit an integer to lo … hi. -/
def clampInt (lo hi v : Int) : Int := if v < lo then lo else if hi < v then hi else v

end Sys2Proof.Machine
end

