-- ==== Sys2Proof/Syntax.lean ====
section
/-! DEFINITION. The commands of the S8: one constructor of `Instr` for each row of spec/opcode_table.json, with the
operands that arrive with the command (a frame's bytes, a flit's bytes, converter codes, a reading) or that say which
unit it is about. Everything else a command needs is in the state. -/

namespace Sys2Proof

/-- Who makes a memory access (R27, R227): a core, in machine or user mode, by a scalar access or by the whole-row
vector access of R227, with the first register of its group of four; or an attention engine. -/
inductive Agent where
  | core (c : Core) (machineMode : Bool) (vectorRow : Option (Fin 32))
  | engine (e : EngineId)
  deriving DecidableEq, Repr

/-- One access to a module address (R25, R27). `data` is what a write carries, `len` the number of bytes. -/
structure Access where
  agent : Agent
  write : Bool
  addr : BitVec 64
  len : Nat
  data : Bytes
  upset : Upsets
  deriving DecidableEq, Repr

/-- An inline dictionary write to the object a row of the table is about (R458, R463): the port it arrives on, its
RequestId and the value's bytes. -/
structure ObjWrite where
  port : Port
  requestId : BitVec 32
  value : Bytes
  deriving DecidableEq, Repr

/-- A control frame as it arrives: the port, the frame slot of the cycle and the 256 bytes of R296. -/
structure Frame where
  port : Port
  slot : Fin 16
  raw : Bytes
  deriving DecidableEq, Repr

/-- A Helca flit as it arrives: the lane and the 64 bytes of R251. -/
structure Flit where
  lane : LinkLane
  raw : Bytes
  deriving DecidableEq, Repr

/-- Words of the mesh flits that carry a command's data which a fault has upset (R241): how many are corrected, and for each
uncorrectable word the number of its flit within that data, 64 bytes to a flit (R238). -/
structure MeshErr where
  corrected : Nat
  flits : List Nat
  deriving DecidableEq, Repr

/-- What a fetch window's read meets: upset words of the rows and upset mesh flits on the way (R231, R241). -/
structure FetchUpsets where
  words : Upsets
  mesh : MeshErr
  deriving DecidableEq, Repr

/-- A placed transfer, by the index of its record, and what upsets its flits on a mesh or a die bridge (R206, R241, R244). -/
structure Carried where
  record : Nat
  mesh : MeshErr
  deriving DecidableEq, Repr

/-- What the far end of a lane reports as it trains: its module, and whether all its live lanes report the same trunk pairing (R250). -/
structure PeerReport where
  number : Nat
  agreed : Bool
  deriving DecidableEq, Repr

/-- What a stage of checksum localisation measured (R165). Column errors are in 0.001 % of rms A, block errors in
stage-4 units, weights in 1/256 step. -/
inductive Findings where
  | column (errs : List (Nat × Nat)) (checksumErr : Nat)
  | block (errs : List (Nat × Nat × Nat))
  | row (values : List (Nat × Nat × Int))
  deriving DecidableEq, Repr

/-- A crossing that has timed out (R451, R452): seam crossing k of a die, a die bridge, or another asynchronous
crossing of a half, with the physical unit on its stopped side. -/
inductive Crossing where
  | seam (die : Die) (k : Fin 8)
  | bridge (n : Fin 10)
  | core (c : Core)
  | rind (u : RindUnit)
  | engine (e : EngineId)
  deriving DecidableEq, Repr

/-- The codes of one probe pour of a measurement round: the 2,144 (1,072) pair codes of a forward pour, or the
row-side codes of a reverse pour's two slots. -/
abbrev ProbeCodes := List (BitVec 10)

/-- The result of an image or page read: every page readable, or a page that stays uncorrectable (R331, R485). -/
inductive ReadResult where
  | readable
  | failed
  deriving DecidableEq, Repr

/-- The commands of the S8, in the order of spec/opcode_table.json. -/
inductive Instr where
  /-- R27 -/
  | memoryAccess (a : Access)
  /-- R183 -/
  | stepBoundary
  /-- R185 -/
  | stepOverrun (die : Die) (half : Half)
  /-- R68 -/
  | fetchWindow (vat : Vat) (slot : PourSlot) (upset : FetchUpsets)
  /-- R69 -/
  | highPour (vat : Vat) (slot : PourSlot)
  /-- R67 -/
  | lowPour (vat : Vat) (slot : PourSlot)
  /-- R76 -/
  | doublePour (vat : Vat) (slot : PourSlot)
  /-- R74 -/
  | reversePour (vat : Vat) (slot : PourSlot)
  /-- R82 -/
  | pourCodesReachRind (vat : Vat) (slot : PourSlot) (codes : List (BitVec 10)) (tick : Nat) (upset : Upsets)
  /-- R124 -/
  | reserveDecision (vat : Vat) (slot : PourSlot)
  /-- R125 -/
  | unrepairedRelease (vat : Vat) (lane : Lane) (tick : Nat) (upset : Upsets)
  /-- R134 -/
  | reductionRead (reduction : BitVec 12) (tick : Nat) (mesh : List (RindUnit × Lane × MeshErr))
  /-- R134 -/
  | addNode (reduction : BitVec 12) (lane : Lane) (node : Nat) (tick : Nat) (mesh : MeshErr)
  /-- R259 -/
  | transferStart (transfer : Carried)
  /-- R256 -/
  | transferArrived (lane : LinkLane) (transfer : Carried) (tick : Nat)
  /-- R138 -/
  | carrySave (unit : RindUnit) (reduction : BitVec 12) (lane : Lane)
  /-- R138 -/
  | carryRestore (unit : RindUnit) (reduction : BitVec 12) (lane : Lane) (upset : Upsets)
  /-- R158 -/
  | calibrationStart (vat : Vat)
  /-- R156 -/
  | calibrationComplete (vat : Vat) (roundA roundB : List ProbeCodes)
  /-- R150 -/
  | referenceCheck (codes : List (BitVec 16))
  /-- R508 -/
  | measStartEdge
  /-- R148 -/
  | measStart (w : ObjWrite)
  /-- R148 -/
  | measConversionDone (nanovolts : Int)
  /-- R150 -/
  | measFirmwareHoldExpire
  /-- R165 -/
  | localisationStageDone (vat : Vat) (group : Fin 16) (found : Findings)
  /-- R168: the two cells' single-cell readings, in 1/256 step above the floor -/
  | absorbPulseVerify (vat : Vat) (row col : Fin 2048) (trueCell complementCell : Nat)
  /-- R169 -/
  | columnMoveDone (vat : Vat) (col : Fin 2048)
  /-- R170: pairs that ended outside ±0.5 step (row, pair, value in 1/256 step), and the integrator gain step -/
  | programmeVerifyDone (vat : Vat) (off : List (Nat × Nat × Int)) (gainStep : Fin 4)
  /-- R176 -/
  | rewriteRequest (die : Die) (w : ObjWrite)
  /-- R174 -/
  | rewriteStart (vat : Vat)
  /-- R172 -/
  | wearCountSave
  /-- R211 -/
  | runLoadRequest (w : ObjWrite)
  /-- R211 -/
  | runLoadComplete
  /-- R210 -/
  | runStartStep (w : ObjWrite)
  /-- R260 -/
  | barrierDoneRx (f : Flit)
  /-- R260 -/
  | barrierReleaseRx (f : Flit)
  /-- R262 -/
  | barrierIsolatedRx (f : Flit)
  /-- R222 -/
  | xferRow (core : Core) (machineMode : Bool) (rd rs1 rs2 : Fin 32)
  /-- R219 -/
  | xferWait (core : Core) (rd rs1 : Fin 32)
  /-- R222 -/
  | xferComplete (core : Core) (tag : Fin 16) (upset : Upsets) (mesh : MeshErr)
  /-- R223 -/
  | pourPost (core : Core) (rd rs1 rs2 : Fin 32) (tick : Nat)
  /-- R223 -/
  | pourPatch (core : Core) (rd rs1 rs2 : Fin 32) (tick : Nat)
  /-- R224 -/
  | accRd (core : Core) (rs1 rs2 : Fin 32)
  /-- R224 -/
  | accWr (core : Core) (rd rs1 rs2 : Fin 32)
  /-- R225 -/
  | taskEnd (core : Core) (rs1 : Fin 32) (tick : Nat)
  /-- R219 -/
  | stepWait (core : Core) (rd : Fin 32)
  /-- R219 -/
  | vencN8 (core : Core) (vd vs1 : Fin 32)
  /-- R219 -/
  | vrndN8 (core : Core) (vd vs1 : Fin 32)
  /-- R219 -/
  | vrndW16 (core : Core) (vd vs1 : Fin 32)
  /-- R219 -/
  | valign (core : Core) (vd vs1 rs2 : Fin 32)
  /-- R220 -/
  | illegalCustom (core : Core) (machineMode : Bool) (word : BitVec 32)
  /-- R232 -/
  | coreMoveRequest (die : Die) (w : ObjWrite)
  /-- R45 -/
  | taskBuildPourVectors (task : Nat) (lane : Lane)
  /-- R57 -/
  | taskRound (task : Nat) (lane : Lane)
  /-- R205 -/
  | taskNormActivation (task : Nat) (lane : Lane)
  /-- R285 -/
  | taskAttentionCombine (layer : Nat) (lane : Lane) (node : Fin 15)
  /-- R322 -/
  | taskSample (task : Nat) (lane : Lane)
  /-- R199 -/
  | taskRoute (group : Nat)
  /-- R205 -/
  | taskEmbed (task : Nat) (lane : Lane)
  /-- R389 -/
  | taskRipening (job : Fin 4) (task : Nat) (lane : Lane)
  /-- R405: what a faulty core's result differs by, column by column; empty for a sound core -/
  | taskTrierCheck (die : Die) (half : Half) (record : Fin 64) (core : Core) (error : List Int)
  /-- R205 -/
  | taskTransferStaging (task : Nat) (lane : Lane)
  /-- R234 -/
  | taskFirmware (die : Die) (half : Half)
  /-- R257 -/
  | bulkFlitRx (f : Flit)
  /-- R255 -/
  | creditFlitRx (f : Flit)
  /-- R257 -/
  | nakRx (f : Flit)
  /-- R265 -/
  | laneNoticeRx (f : Flit)
  /-- R256 -/
  | reductionTokenRx (f : Flit)
  /-- R257 -/
  | reductionTokenTimeout (lane : LinkLane) (transfer : Nat)
  /-- R263 -/
  | tickExchange (tick16 : Nat)
  /-- R263 -/
  | tickFlitRx (f : Flit) (arrival16 : Nat)
  /-- R250 -/
  | laneTraining (lane : LinkLane) (peerModule : PeerReport) (peerDie : Die) (peerLane : Fin 9) (latency16 : Nat)
  /-- R265 -/
  | laneSignalLoss (lane : LinkLane)
  /-- R266 -/
  | laneFail (lane : LinkLane)
  /-- R246 -/
  | bridgeWireFail (bridge : Fin 10)
  /-- R280 -/
  | attentionWalk (engine : EngineId) (layer : Nat) (lane : Lane) (upset : Upsets)
  /-- R308 -/
  | admitRequest (f : Frame)
  /-- R326 -/
  | cancel (f : Frame)
  /-- R317 -/
  | pause (f : Frame)
  /-- R319 -/
  | resume (f : Frame)
  /-- R304 -/
  | idleFrame (f : Frame)
  /-- R295 -/
  | controlCycleBoundary
  /-- R304 -/
  | ownerRelease (w : ObjWrite)
  /-- R302 -/
  | bulkPromptTokens (f : Frame)
  /-- R210 -/
  | bulkMakeSheet (f : Frame)
  /-- R361 -/
  | bulkWeightShard (f : Frame)
  /-- R420 -/
  | bulkTestPack (f : Frame)
  /-- R374 -/
  | bulkCulture (f : Frame)
  /-- R487 -/
  | bulkFirmware (f : Frame)
  /-- R339 -/
  | pauseImageWritten (slot : SeqSlot)
  /-- R345 -/
  | restoreComplete (slot : SeqSlot) (read : ReadResult)
  /-- R331: corrected words, words uncorrectable after the retries, retries used -/
  | cellarPageRead (stripe : Nat) (die : Die) (corrected uncorrectable retries : Nat)
  /-- R348 -/
  | scrubPass (stripe : Nat) (retries corrected : Nat) (read : ReadResult)
  /-- R330 -/
  | cellarRebuild (stripe : Nat)
  /-- R342 -/
  | cellarSecond
  /-- R343 -/
  | pauseKeyExtend (w : ObjWrite)
  /-- R358 -/
  | wheelLoadRequest (w : ObjWrite)
  /-- R362 -/
  | shardReceived (shard : Nat)
  /-- R362 -/
  | shardTimeout (shard : Nat)
  /-- R362 -/
  | shardRetryWait (shard : Nat)
  /-- R360 -/
  | shardDataFlit (f : Flit)
  /-- R359 -/
  | shardRequestFlit (f : Flit)
  /-- R364 -/
  | blockReadVerified (vat : Vat)
  /-- R366 -/
  | wheelUnload (w : ObjWrite)
  /-- R371 -/
  | wheelDrainStep (w : ObjWrite)
  /-- R375 -/
  | cultureLoadRequest (w : ObjWrite)
  /-- R375: whether every role's first calibration met its bound -/
  | cultureWriteComplete (place : Fin 512) (verified : Bool)
  /-- R380 -/
  | cultureUnload (w : ObjWrite)
  /-- R383 -/
  | ripenJobRequest (w : ObjWrite)
  /-- R385 -/
  | ripenJobStop (w : ObjWrite)
  /-- R392 -/
  | ripenPublishStep (w : ObjWrite)
  /-- R391 -/
  | ripenUpdate (job : Fin 4)
  /-- R392 -/
  | ripenPartReady (job : Fin 4)
  /-- R403 -/
  | trierSample (unit : RindUnit)
  /-- R410 -/
  | trierVerdictTimeout (die : Die) (half : Half) (record : Fin 64)
  /-- R412 -/
  | replicaDigestCheck
  /-- R417 -/
  | coreTestDue (core : Core)
  /-- R417 -/
  | testOverdue (core : Core)
  /-- R416: the physical core and whether every kernel's digest matched within MaxCycles -/
  | coreTestComplete (core : Core) (passed : Bool)
  /-- R415 -/
  | vatTest (vat : Vat) (kernel : Nat) (codes : List (BitVec 10)) (recomputed : List Int)
  /-- R414 -/
  | routerTest (die : Die) (half : Half) (position : Fin 40) (expected got : List Int)
  /-- R420 -/
  | testPackLoadRequest (w : ObjWrite)
  /-- R402 -/
  | sramScrub (word : Nat) (found : Option WordErr)
  /-- R402 -/
  | dramScrub (word : Nat) (found : Option WordErr)
  /-- R426: the 1 ms average of ModulePower, in mW -/
  | capLoop (average : Nat)
  /-- R424: the input monitor and the 51 rail monitors in the order of RailPower (R441), 10 ms averages in mW -/
  | powerMonitorCompare (input : Nat) (rails : List Nat)
  /-- R430: the measured module energy of the window, in µJ -/
  | estimateWindow (measured : Nat)
  /-- R431: the period the voltage table gives for the sagged voltage, in 0.1 ps -/
  | droopTrip (die : Die) (half : Half) (period : Nat)
  /-- R431 -/
  | droopRecover (die : Die) (half : Half)
  /-- R432 -/
  | droopFault (die : Die) (half : Half)
  /-- R433: the eight readings in 0.1 °C -/
  | thermalSample (die : Die) (half : Half) (readings : List Int)
  /-- R434: the model's prediction in 0.1 °C -/
  | thermalModel (die : Die) (half : Half) (sensor : Fin 8) (predicted : Int)
  /-- R435 -/
  | sensorOverride (w : ObjWrite)
  /-- R437 -/
  | dieTrip (die : Die)
  /-- R438 -/
  | diePowerCycle (w : ObjWrite)
  /-- R438 -/
  | diePowerRestore (die : Die)
  /-- R440 -/
  | energySave
  /-- R517: the inlet reading in 0.1 °C -/
  | inletHigh (temp : Int)
  /-- R517 -/
  | inletNormal (temp : Int)
  /-- R443 -/
  | clockMonitorWindow (die : Die) (count : Nat)
  /-- R443 -/
  | missingEdge (die : Die)
  /-- R442: the oscillator's measured deviation from the crystal, in ppb -/
  | oscDiscipline (die : Die) (deviation : Int)
  /-- R446 -/
  | holdoverSteer (die : Die)
  /-- R449 -/
  | halfClockControl (w : ObjWrite)
  /-- R454 -/
  | halfPllLocked (die : Die) (half : Half)
  /-- R452 -/
  | crossingTimeout (x : Crossing)
  /-- R453 -/
  | halfService (w : ObjWrite)
  /-- R466 -/
  | dictRead (f : Frame)
  /-- R458 -/
  | dictWrite (f : Frame)
  /-- R470 -/
  | segmentedWriteOpen (f : Frame)
  /-- R470 -/
  | transferAbort (f : Frame)
  /-- R470 -/
  | segmentData (f : Frame)
  /-- R468 -/
  | segmentAbort (f : Frame)
  /-- R469 -/
  | segmentResend (f : Frame)
  /-- R469 -/
  | segmentedReadClose (port : Port) (id : BitVec 16)
  /-- R470 -/
  | segmentedWriteTimeout (port : Port) (id : BitVec 16)
  /-- R472 -/
  | eventClear (w : ObjWrite)
  /-- R475 -/
  | eventMask (w : ObjWrite)
  /-- R462 -/
  | configSave (w : ObjWrite)
  /-- R462 -/
  | configRestoreDefaults (w : ObjWrite)
  /-- R480: whether each die's test record has a valid copy (R483) and a core that passes the ROM's check (R484) -/
  | powerUp (recordValid starterCore : List Bool)
  /-- R506 -/
  | modReset
  /-- R481 -/
  | carrierRailFault
  /-- R502 -/
  | inputVoltageStop
  /-- R502 -/
  | inputRecover
  /-- R485 -/
  | bootAttempt (die : Die) (read : ReadResult)
  /-- R487 -/
  | firmwareLoadRequest (w : ObjWrite)
  /-- R488 -/
  | coordinatorChoice
  /-- R492 -/
  | handoverStep (w : ObjWrite)
  /-- R494 -/
  | handoverHeartbeatTimeout
  /-- R494 -/
  | handoverConfirm
  /-- R480 -/
  | modResetRelease (recordValid starterCore : List Bool)
  /-- R481 -/
  | carrierRailsRestored (recordValid starterCore : List Bool)
  /-- R444 -/
  | windowFlagRx (die : Die) (reporter : Die)
  /-- R488 -/
  | starterRestart (die : Die)
  /-- R494 -/
  | machineModeTrap (die : Die) (half : Half)
  deriving DecidableEq, Repr

end Sys2Proof
end

