-- ==== Sys2Proof/Decode.lean ====
section
/-! DEFINITION. The module has no instruction words of a program of its own: the opcode table gives no row any bits, so no
word of the table spells a command. The words the S8 does decode are the cores' extension instructions, here (R218 to R220),
and the pour instructions, frames, flits and sheets, in Machine/Sheet.lean, Machine/Hoop.lean and the meanings that receive
them. -/

namespace Sys2Proof

/-- The command a word spells by the table's bits: none, since no row of spec/opcode_table.json has bits. -/
def decodeTableWord (_nbits _w : Nat) : Option Instr := none

/-- The extension instruction a 32-bit word spells in a mode, on a core at a tick, by R218's fields and R219's table; none
where R220 calls it illegal. -/
def decodeExtension (core : Core) (machine : Bool) (tick w : Nat) : Option Instr :=
  let rd := Fin.ofNat 32 (Machine.field w 7 5)
  let rs1 := Fin.ofNat 32 (Machine.field w 15 5)
  let rs2 := Fin.ofNat 32 (Machine.field w 20 5)
  match Machine.field w 0 7, Machine.field w 12 3, Machine.field w 25 7 with
  | 0x0B, 0, 0 => some (.xferRow core machine rd rs1 rs2)
  | 0x0B, 0, 1 => some (.xferWait core rd rs1)
  | 0x0B, 1, 0 => if machine then some (.pourPost core rd rs1 rs2 tick) else none
  | 0x0B, 1, 1 => some (.pourPatch core rd rs1 rs2 tick)
  | 0x0B, 2, 0 => if machine then some (.accRd core rs1 rs2) else none
  | 0x0B, 2, 1 => if machine then some (.accWr core rd rs1 rs2) else none
  | 0x0B, 3, 0 => some (.taskEnd core rs1 tick)
  | 0x0B, 3, 1 => some (.stepWait core rd)
  | 0x2B, 0, 0 => some (.vencN8 core rd rs1)
  | 0x2B, 0, 1 => if rs1.val % 4 = 0 then some (.vrndN8 core rd rs1) else none
  | 0x2B, 0, 2 => if rs1.val % 4 = 0 then some (.vrndW16 core rd rs1) else none
  | 0x2B, 0, 3 => some (.valign core rd rs1 rs2)
  | _, _, _ => none

end Sys2Proof
end

