-- ==== Sys2Proof/Machine/Sha.lean ====
section
/-! DEFINITION. SHA-256 and the RSASSA-PSS verification of RFC 8017 under the parameters of R352 (SHA-256, MGF1 with
SHA-256, a 32-byte salt), by which the S8 checks digests and signatures (R24). -/

namespace Sys2Proof.Machine

/-- A 32-bit word of SHA-256. -/
abbrev W32 := BitVec 32

/-- The first 64 primes. -/
def shaPrimes : List Nat :=
  [2, 3, 5, 7, 11, 13, 17, 19, 23, 29, 31, 37, 41, 43, 47, 53, 59, 61, 67, 71, 73, 79, 83, 89, 97, 101, 103, 107, 109,
    113, 127, 131] ++
  [137, 139, 149, 151, 157, 163, 167, 173, 179, 181, 191, 193, 197, 199, 211, 223, 227, 229, 233, 239, 241, 251, 257,
    263, 269, 271, 277, 281, 283, 293, 307, 311]

/-- The integer cube root by bisection on `fuel` bits. -/
def cubeRoot (fuel n : Nat) : Nat :=
  match fuel with
  | 0 => 0
  | k + 1 =>
    let r := 2 * cubeRoot k (n / 8)
    if (r + 1) * (r + 1) * (r + 1) ≤ n then r + 1 else r

/-- The round constants: the first 32 bits of the fractional parts of the cube roots of the primes. -/
def shaK : List W32 := shaPrimes.map (fun p => BitVec.ofNat 32 (cubeRoot 40 (p * 2 ^ 96)))

/-- The initial hash value: the first 32 bits of the fractional parts of the square roots of the first eight primes. -/
def shaInit : List W32 := (shaPrimes.take 8).map (fun p => BitVec.ofNat 32 (Nat.sqrt (p * 2 ^ 64)))

/-- The padded message: a one bit, zeros, and the length in bits in eight bytes, most significant first. -/
def shaPad (m : Bytes) : Bytes :=
  let n := m.length
  let z := (119 - n % 64) % 64
  m ++ [0x80] ++ zeros z ++ (leBytes 8 (8 * n)).reverse

/-- The 64 words of the message schedule of one block, newest first while it is built. -/
def shaSchedule (block : Bytes) : List W32 :=
  let w0 : List W32 := (List.range 16).map (fun i => BitVec.ofNat 32 (leNat (bytesAt block (4 * i) 4).reverse))
  ((List.range 48).foldl (fun (acc : List W32) _ =>
    let w2 := acc.getD 1 0
    let w7 := acc.getD 6 0
    let w15 := acc.getD 14 0
    let w16 := acc.getD 15 0
    let s0 := w15.rotateRight 7 ^^^ w15.rotateRight 18 ^^^ (w15 >>> 3)
    let s1 := w2.rotateRight 17 ^^^ w2.rotateRight 19 ^^^ (w2 >>> 10)
    (w16 + s0 + w7 + s1) :: acc) w0.reverse).reverse

/-- One round on the eight working variables. -/
def shaRound (v : List W32) (kw : W32 × W32) : List W32 :=
  match v with
  | [a, b, c, d, e, f, g, h] =>
    let s1 := e.rotateRight 6 ^^^ e.rotateRight 11 ^^^ e.rotateRight 25
    let ch := (e &&& f) ^^^ (~~~e &&& g)
    let t1 := h + s1 + ch + kw.1 + kw.2
    let s0 := a.rotateRight 2 ^^^ a.rotateRight 13 ^^^ a.rotateRight 22
    let maj := (a &&& b) ^^^ (a &&& c) ^^^ (b &&& c)
    [t1 + s0 + maj, a, b, c, d + t1, e, f, g]
  | _ => v

/-- The compression of one 64-byte block. -/
def shaBlock (h : List W32) (block : Bytes) : List W32 :=
  List.zipWith (· + ·) h ((List.zip shaK (shaSchedule block)).foldl shaRound h)

/-- Blocks of 64 bytes, one after another. -/
def shaBlocks (n : Nat) (h : List W32) (m : Bytes) : List W32 :=
  match n with
  | 0 => h
  | k + 1 => shaBlocks k (shaBlock h (m.take 64)) (m.drop 64)

/-- SHA-256 of a string of bytes. -/
def sha256 (m : Bytes) : Bytes :=
  let p := shaPad m
  (shaBlocks (p.length / 64) shaInit p).flatMap (fun w => (leBytes 4 w.toNat).reverse)

/-- MGF1 with SHA-256: `n` blocks of mask. -/
def mgf1 (seed : Bytes) (n : Nat) : Bytes :=
  (List.range n).flatMap (fun i => sha256 (seed ++ (leBytes 4 i).reverse))

/-- b^e mod m by square and multiply on `fuel` bits of e. -/
def modPow (fuel b e m : Nat) : Nat :=
  match fuel with
  | 0 => 1 % m
  | k + 1 =>
    let r := modPow k (b * b % m) (e / 2) m
    if e % 2 = 1 then b * r % m else r

/-- An RSA-3072 public key: modulus and exponent. -/
structure RsaKey where
  modulus : Nat
  exponent : Nat
  deriving DecidableEq, Repr, Inhabited

/-- RSASSA-PSS verification of a 384-byte signature of a message (R352): EMSA-PSS with SHA-256 and a 32-byte salt. -/
def pssVerify (key : RsaKey) (message signature : Bytes) : Bool :=
  if key.modulus = 0 ∨ signature.length ≠ 384 then false
  else
    let s := leNat signature.reverse
    if key.modulus ≤ s then false
    else
      let modBits := Nat.log2 key.modulus + 1
      let emBits := modBits - 1
      let emLen := ceilDiv emBits 8
      let m := modPow 32 s key.exponent key.modulus
      let em := (leBytes emLen m).reverse
      if 256 ^ emLen ≤ m ∨ emLen < 66 then false
      else
        let h := bytesAt em (emLen - 33) 32
        let dbLen := emLen - 33
        let masked := bytesAt em 0 dbLen
        let mask := padTo dbLen (mgf1 h (ceilDiv dbLen 32))
        let db := List.zipWith (· ^^^ ·) masked mask
        let spare := 8 * emLen - emBits
        let top := BitVec.ofNat 8 ((byteAt db 0).toNat % 2 ^ (8 - spare))
        let salt := bytesAt db (dbLen - 32) 32
        let mPrime := zeros 8 ++ sha256 message ++ salt
        byteAt em (emLen - 1) = 0xBC ∧ (byteAt masked 0).toNat / 2 ^ (8 - spare) = 0 ∧
          top :: (db.drop 1).take (dbLen - 34) = zeros (dbLen - 33) ∧ byteAt db (dbLen - 33) = 0x01 ∧
          sha256 mPrime = h

/-- A signed byte string: its last 384 bytes are the RSASSA-PSS signature of every byte before it, whose SHA-256 is the hash that
EMSA-PSS signs (R352, R353; DEDUCED). -/
def signedBy (key : RsaKey) (image : Bytes) : Bool :=
  image.length > 384 && pssVerify key (image.take (image.length - 384)) (image.drop (image.length - 384))

end Sys2Proof.Machine
end

