-- ==== Sys2Proof/Machine/Hoop.lean ====
section
/-! DEFINITION. The hoop code (R397): a Reed–Solomon code over GF(2^8) with two check symbols, shortened to 16 data
symbols in memory, to 14 in a Helca word (R251) and to 30 in a control frame group (R296). -/

namespace Sys2Proof.Machine

/-- Multiply by α, a root of x^8 + x^4 + x^3 + x^2 + 1. -/
def gfTimesAlpha (x : Nat) : Nat := if 128 ≤ x then (2 * x) ^^^ 0x11D else 2 * x

/-- Multiply by α^k. -/
def gfTimesPower (x k : Nat) : Nat :=
  match k with
  | 0 => x
  | j + 1 => gfTimesAlpha (gfTimesPower x j)

/-- The value at α^0 of the polynomial whose first listed symbol is the coefficient of the highest degree. -/
def syndrome0 (word : List Nat) : Nat := word.foldl (fun acc s => acc ^^^ s) 0

/-- Its value at α^1. -/
def syndrome1 (word : List Nat) : Nat := word.foldl (fun acc s => gfTimesAlpha acc ^^^ s) 0

/-- The two check symbols of data symbols: the word data ++ check is a multiple of (x − 1)(x − α). -/
def hoopCheck (data : Bytes) : Bytes :=
  -- synthetic division of data · x^2 by x^2 + (α + 1)x + α, the generator polynomial
  let r := data.foldl (fun (acc : Nat × Nat) b =>
    let lead := acc.1 ^^^ b.toNat
    (acc.2 ^^^ lead ^^^ gfTimesAlpha lead, gfTimesAlpha lead)) (0, 0)
  [BitVec.ofNat 8 r.1, BitVec.ofNat 8 r.2]

/-- What the decoder makes of a word. -/
inductive HoopResult where
  | good (data : Bytes)
  | corrected (data : Bytes)
  | uncorrectable
  deriving DecidableEq, Repr

/-- Decode a word of data symbols and two check symbols (R397): syndromes at α^0 and α^1; a single-symbol error of
value e at degree i has syndromes e and e·α^i. -/
def hoopDecode (word : Bytes) : HoopResult :=
  let syms := word.map BitVec.toNat
  let n := word.length
  let s0 := syndrome0 syms
  let s1 := syndrome1 syms
  if s0 = 0 ∧ s1 = 0 then .good (word.take (n - 2))
  else if s0 = 0 ∨ s1 = 0 then .uncorrectable
  else
    match (List.range n).find? (fun i => gfTimesPower s0 i = s1) with
    | none => .uncorrectable
    | some i =>
      let at_ := n - 1 - i
      let fixed := (List.range n).map (fun j => if j = at_ then byteAt word j ^^^ BitVec.ofNat 8 s0 else byteAt word j)
      .corrected (fixed.take (n - 2))

/-- The data of a decoded word, none when it is uncorrectable. -/
def HoopResult.data? (r : HoopResult) : Option Bytes :=
  match r with
  | .good d => some d
  | .corrected d => some d
  | .uncorrectable => none

/-- Was a symbol corrected? -/
def HoopResult.wasCorrected (r : HoopResult) : Bool :=
  match r with
  | .corrected _ => true
  | _ => false

/-- Data of consecutive words, none when any is uncorrectable. -/
def joinWords (ws : List HoopResult) : Option Bytes :=
  ws.foldr (fun w acc => match w.data?, acc with
    | some d, some rest => some (d ++ rest)
    | _, _ => none) (some [])

/-- The eight check groups of a 256-byte control frame (R296): group k covers bytes 30k to 30k + 29, and its check
bytes are bytes 240 + 2k and 241 + 2k. -/
def frameGroups (raw : Bytes) : List HoopResult :=
  (List.range 8).map (fun k => hoopDecode (bytesAt raw (30 * k) 30 ++ bytesAt raw (240 + 2 * k) 2))

/-- The 240 data bytes of a control frame, corrected; none when a group is uncorrectable (R296, R300). -/
def frameData (raw : Bytes) : Option Bytes := joinWords (frameGroups raw)

/-- A control frame's bytes from its 240 data bytes (R296). -/
def encodeFrame (data : Bytes) : Bytes :=
  let d := padTo 240 data
  d ++ (List.range 8).flatMap (fun k => hoopCheck (bytesAt d (30 * k) 30))

/-- The four words of a 64-byte Helca flit (R251): word w is 14 data bytes followed by its 2 check bytes. -/
def flitWords (raw : Bytes) : List HoopResult := (List.range 4).map (fun w => hoopDecode (bytesAt raw (16 * w) 16))

/-- The 56 data bytes of a flit, corrected; none when a word is uncorrectable. -/
def flitData (raw : Bytes) : Option Bytes := joinWords (flitWords raw)

/-- The header bytes of a flit whose first word decodes (R251, R257). -/
def flitHeader (raw : Bytes) : Option Bytes := ((hoopDecode (bytesAt raw 0 16)).data?).map (fun d => d.take 8)

/-- A flit's bytes from its 56 data bytes: 8 of header and 48 of payload (R251). -/
def encodeFlit (data : Bytes) : Bytes :=
  let d := padTo 56 data
  (List.range 4).flatMap (fun w => bytesAt d (14 * w) 14 ++ hoopCheck (bytesAt d (14 * w) 14))

/-- The number of corrected words of a flit. -/
def flitCorrected (raw : Bytes) : Nat := ((flitWords raw).filter HoopResult.wasCorrected).length

end Sys2Proof.Machine
end

