-- ==== Sys2Proof/Machine/Float.lean ====
section
/-! DEFINITION. Rounding to the nearest integer with ties to even (chapter 02: rne), and the IEEE binary32, binary64
and bfloat16 arithmetic the S8's cores use (R42, R216): round to nearest even, subnormals kept. Every operation is
formed exactly on a dyadic or rational value and rounded once. -/

namespace Sys2Proof.Machine

/-- rne(n / d) for d > 0: nearest integer, ties to even. -/
def rneDiv (n : Int) (d : Nat) : Int :=
  let q := n / (d : Int)
  let r := n % (d : Int)
  if 2 * r < d then q else if (d : Int) < 2 * r then q + 1 else if q % 2 = 0 then q else q + 1

/-- rne(n × 2^k). -/
def rneScale (n k : Int) : Int := if 0 ≤ k then n * 2 ^ k.toNat else rneDiv n (2 ^ (-k).toNat)

/-- A dyadic number m × 2^e. -/
structure Dyadic where
  m : Int
  e : Int
  deriving DecidableEq, Repr

/-- rne(x × 2^k) for a dyadic x. -/
def Dyadic.rne (x : Dyadic) (k : Int) : Int := rneScale x.m (x.e + k)

/-- The exact sum of two dyadic numbers. -/
def Dyadic.add (x y : Dyadic) : Dyadic :=
  let e := min x.e y.e
  { m := x.m * 2 ^ (x.e - e).toNat + y.m * 2 ^ (y.e - e).toNat, e := e }

/-- The exact product of two dyadic numbers. -/
def Dyadic.mul (x y : Dyadic) : Dyadic := { m := x.m * y.m, e := x.e + y.e }

/-- A binary floating-point format: precision with the hidden bit, exponent of the largest binade, and field widths. -/
structure FloatFormat where
  prec : Nat
  emax : Int
  expBits : Nat
  deriving DecidableEq, Repr

/-- IEEE binary32. -/
def binary32 : FloatFormat := { prec := 24, emax := 127, expBits := 8 }

/-- IEEE binary64. -/
def binary64 : FloatFormat := { prec := 53, emax := 1023, expBits := 11 }

/-- W16, bfloat16 (R42). -/
def bfloat16 : FloatFormat := { prec := 8, emax := 127, expBits := 8 }

/-- A floating-point datum: a NaN, an infinity, or a finite value (−1)^neg × m × 2^e. -/
inductive Fp where
  | nan
  | inf (neg : Bool)
  | fin (neg : Bool) (m : Nat) (e : Int)
  deriving DecidableEq, Repr, Inhabited

/-- Is the datum a NaN or an infinity? -/
def Fp.nonFinite (x : Fp) : Bool :=
  match x with
  | .fin _ _ _ => false
  | _ => true

/-- The exact value of a finite datum; 0 for the others. -/
def Fp.toDyadic (x : Fp) : Dyadic :=
  match x with
  | .fin neg m e => { m := if neg then -(m : Int) else m, e := e }
  | _ => { m := 0, e := 0 }

/-- Read a datum from its bits. -/
def FloatFormat.decode (f : FloatFormat) (w : Nat) : Fp :=
  let frac := f.prec - 1
  let m := field w 0 frac
  let x := field w frac f.expBits
  let neg := field w (frac + f.expBits) 1 = 1
  if x = 2 ^ f.expBits - 1 then (if m = 0 then .inf neg else .nan)
  else if x = 0 then .fin neg m (1 - f.emax - frac)
  else .fin neg (m + 2 ^ frac) ((x : Int) - f.emax - frac)

/-- Round (−1)^neg × num / den to the format, nearest even (den > 0). -/
def FloatFormat.roundRat (f : FloatFormat) (neg : Bool) (num den : Nat) : Fp :=
  if num = 0 then .fin neg 0 0
  else
    let e0 : Int := (Nat.log2 num : Int) - Nat.log2 den
    let e1 : Int := if (if 0 ≤ e0 then den * 2 ^ e0.toNat ≤ num else den ≤ num * 2 ^ (-e0).toNat) then e0 else e0 - 1
    let q : Int := max (e1 - (f.prec - 1 : Nat)) (1 - f.emax - (f.prec - 1 : Nat))
    let m : Nat := if 0 ≤ q then (rneDiv num (den * 2 ^ q.toNat)).toNat else (rneDiv (num * 2 ^ (-q).toNat : Nat) den).toNat
    if (2 : Int) ^ (f.emax + 1).toNat ≤ (if 0 ≤ q then (m : Int) * 2 ^ q.toNat else (m : Int) / 2 ^ (-q).toNat) then .inf neg
    else .fin neg m q

/-- Round a dyadic value to the format; a zero takes the sign given. -/
def FloatFormat.roundDyadic (f : FloatFormat) (zeroNeg : Bool) (x : Dyadic) : Fp :=
  if x.m = 0 then .fin zeroNeg 0 0
  else if 0 ≤ x.e then f.roundRat (x.m < 0) (x.m.natAbs * 2 ^ x.e.toNat) 1
  else f.roundRat (x.m < 0) x.m.natAbs (2 ^ (-x.e).toNat)

/-- The bits of a datum that the format holds exactly; a NaN is the positive quiet NaN. -/
def FloatFormat.encode (f : FloatFormat) (x : Fp) : Nat :=
  let frac := f.prec - 1
  let s (neg : Bool) : Nat := if neg then 2 ^ (frac + f.expBits) else 0
  match x with
  | .nan => (2 ^ f.expBits - 1) * 2 ^ frac + 2 ^ (frac - 1)
  | .inf neg => s neg + (2 ^ f.expBits - 1) * 2 ^ frac
  | .fin neg m e =>
    if m = 0 then s neg
    else
      let eMin : Int := 1 - f.emax - frac
      -- bring the significand to `prec` bits, or to the subnormal quantum
      let want : Int := max eMin ((Nat.log2 m : Int) - frac + e)
      let m' : Nat := if want ≤ e then m * 2 ^ (e - want).toNat else m / 2 ^ (want - e).toNat
      if m' < 2 ^ frac then s neg + m'
      else s neg + (want + f.emax + frac).toNat * 2 ^ frac + (m' - 2 ^ frac)

/-- Addition with one rounding. An exact zero sum is +0 unless both operands are negative zeros. -/
def FloatFormat.add (f : FloatFormat) (x y : Fp) : Fp :=
  match x, y with
  | .nan, _ => .nan
  | _, .nan => .nan
  | .inf a, .inf b => if a = b then .inf a else .nan
  | .inf a, .fin _ _ _ => .inf a
  | .fin _ _ _, .inf b => .inf b
  | .fin a ma ea, .fin b mb eb =>
    f.roundDyadic (a && b) (Dyadic.add (Fp.toDyadic (.fin a ma ea)) (Fp.toDyadic (.fin b mb eb)))

/-- The datum with its sign turned. -/
def Fp.neg (x : Fp) : Fp :=
  match x with
  | .nan => .nan
  | .inf a => .inf (!a)
  | .fin a m e => .fin (!a) m e

/-- Subtraction with one rounding. -/
def FloatFormat.sub (f : FloatFormat) (x y : Fp) : Fp := f.add x y.neg

/-- Multiplication with one rounding. -/
def FloatFormat.mul (f : FloatFormat) (x y : Fp) : Fp :=
  match x, y with
  | .nan, _ => .nan
  | _, .nan => .nan
  | .inf a, .inf b => .inf (a ^^ b)
  | .inf a, .fin b m _ => if m = 0 then .nan else .inf (a ^^ b)
  | .fin a m _, .inf b => if m = 0 then .nan else .inf (a ^^ b)
  | .fin a ma ea, .fin b mb eb =>
    f.roundDyadic (a ^^ b) (Dyadic.mul (Fp.toDyadic (.fin a ma ea)) (Fp.toDyadic (.fin b mb eb)))

/-- Division with one rounding. -/
def FloatFormat.div (f : FloatFormat) (x y : Fp) : Fp :=
  match x, y with
  | .nan, _ => .nan
  | _, .nan => .nan
  | .inf _, .inf _ => .nan
  | .inf a, .fin b _ _ => .inf (a ^^ b)
  | .fin a _ _, .inf b => .fin (a ^^ b) 0 0
  | .fin a ma ea, .fin b mb eb =>
    if mb = 0 then (if ma = 0 then .nan else .inf (a ^^ b))
    else if ea ≥ eb then f.roundRat (a ^^ b) (ma * 2 ^ (ea - eb).toNat) mb
    else f.roundRat (a ^^ b) ma (mb * 2 ^ (eb - ea).toNat)

/-- Square root of a non-negative datum with one rounding: the integer square root carries enough bits that its
remainder only breaks ties. -/
def FloatFormat.sqrt (f : FloatFormat) (x : Fp) : Fp :=
  match x with
  | .nan => .nan
  | .inf neg => if neg then .nan else .inf false
  | .fin neg m e =>
    if m = 0 then .fin neg 0 0
    else if neg then .nan
    else
      let m2 : Nat := if e % 2 = 0 then m else 2 * m
      let e2 : Int := if e % 2 = 0 then e else e - 1
      let big := m2 * 2 ^ 240
      let r := Nat.sqrt big
      let sticky := if r * r = big then 2 * r else 2 * r + 1
      f.roundDyadic false { m := sticky, e := e2 / 2 - 121 }

/-- x < y on finite data and infinities; false where either is a NaN. -/
def Fp.lt (x y : Fp) : Bool :=
  match x, y with
  | .nan, _ => false
  | _, .nan => false
  | .inf a, .inf b => a && !b
  | .inf a, .fin _ _ _ => a
  | .fin _ _ _, .inf b => !b
  | .fin a ma ea, .fin b mb eb =>
    (Dyadic.add (Fp.toDyadic (.fin a ma ea)) { m := -(Fp.toDyadic (.fin b mb eb)).m, e := eb }).m < 0

/-- Widen or narrow a datum to a format with one rounding. -/
def FloatFormat.convert (f : FloatFormat) (x : Fp) : Fp :=
  match x with
  | .nan => .nan
  | .inf a => .inf a
  | .fin a m e => f.roundDyadic a (Fp.toDyadic (.fin a m e))

/-- Narrow binary32 bits to W16 (R42): nearest even, overflow to infinity, a NaN to the quiet NaN of the source's
sign with fraction 0x40. -/
def narrowW16 (w : Nat) : Nat :=
  match binary32.decode w with
  | .nan => field w 31 1 * 2 ^ 15 + 0x7FC0
  | x => bfloat16.encode (bfloat16.convert x)

/-! ### Correctly rounded powers

e^x and 2^x of a finite datum are enclosed between rationals with denominator 2^bits by an alternating-free Taylor sum
on a reduced argument and rounded to binary32 once both ends round alike. -/

/-- Fixed-point enclosure of e^y for 0 ≤ y = num / 2^bits < 1: the Taylor sum to `terms` terms, rounded down, and an
upper bound one `terms + 4` units above. -/
def expTaylor (bits num terms : Nat) : Nat :=
  (List.range terms).foldl (fun (acc : Nat × Nat) i =>
    (acc.1 + acc.2, acc.2 * num / (2 ^ bits * (i + 1)))) (0, 2 ^ bits) |>.1

/-- ln 2 with `bits` fractional bits, rounded down: Σ 1 / (k 2^k). -/
def ln2Fixed (bits : Nat) : Nat :=
  (List.range (bits + 8)).foldl (fun acc i => acc + 2 ^ (bits + 16) / ((i + 1) * 2 ^ (i + 1))) 0 / 2 ^ 16

/-- 2^k × f / 2^bits rounded to binary32, with f in fixed point. -/
def roundFixed32 (bits f : Nat) (k : Int) : Fp :=
  binary32.roundDyadic false { m := (f : Int), e := k - bits }

/-- The number of fractional bits used: ample for every binary32 argument whose result is not exact. -/
def powBits : Nat := 256

/-- 2^x correctly rounded to binary32 (R283). -/
def exp2Fp (x : Fp) : Fp :=
  match x with
  | .nan => .nan
  | .inf neg => if neg then .fin false 0 0 else .inf false
  | .fin neg m e =>
    let v := Fp.toDyadic (.fin neg m e)
    let k := if 0 ≤ v.e then v.m * 2 ^ (min v.e 20).toNat else v.m / 2 ^ (min (-v.e) 400).toNat
    if (200 : Int) < k then .inf false
    else if k < -200 then .fin false 0 0
    else
      let frac : Nat :=
        if 0 ≤ v.e then 0
        else ((v.m - k * 2 ^ (min (-v.e) 400).toNat) * 2 ^ powBits / 2 ^ (min (-v.e) 400).toNat).toNat
      if frac = 0 then roundFixed32 0 1 k
      else roundFixed32 powBits (expTaylor powBits (frac * ln2Fixed powBits / 2 ^ powBits) 80) k

/-- e^x correctly rounded to binary32 (R322 step 3). -/
def expFp (x : Fp) : Fp :=
  match x with
  | .nan => .nan
  | .inf neg => if neg then .fin false 0 0 else .inf false
  | .fin neg m e =>
    let v := Fp.toDyadic (.fin neg m e)
    if v.m = 0 then .fin false 1 0
    else
      let big := if 0 ≤ v.e then v.m * 2 ^ (min v.e 20).toNat else v.m / 2 ^ (min (-v.e) 400).toNat
      if (200 : Int) < big then .inf false
      else if big < -200 then .fin false 0 0
      else
        let fixed : Int := if 0 ≤ v.e then v.m * 2 ^ (v.e.toNat + powBits) else v.m * 2 ^ powBits / 2 ^ (min (-v.e) 400).toNat
        let k := fixed / (ln2Fixed powBits : Int)
        let r := (fixed - k * (ln2Fixed powBits : Int)).toNat
        roundFixed32 powBits (expTaylor powBits r 80) k

end Sys2Proof.Machine
end

