-- ==== Sys2Proof/Config.lean ====
section
/-! DEFINITION. What one module fixes (its signed test record, the keys its firmware and mask ROM carry) and the values
the manual leaves open. Each is a constant without a body: nothing can be proved of its value, so a claim that holds,
holds for every value. The architectural figures that the manual states stand here as numbers. -/

namespace Sys2Proof.Config

open Sys2Proof.Machine

/-! ### Figures the manual states -/

/-- Frames of a half's hot page pool (R30). -/
def framesPerHalf : Nat := 734003

/-- Entries of the pause index (R350: PauseEntriesFree starts at 65,536). -/
def pauseEntries : Nat := 65536

/-- Bytes of data of the Pause partition, 11,008 GiB (R332). -/
def pauseBytes : Nat := 11008 * 2 ^ 30

/-- Bytes of data of the Golden partition, 1,024 GiB (R332). -/
def goldenBytes : Nat := 1024 * 2 ^ 30

/-- Bytes of data of the Culture partition, 256 GiB (R332). -/
def cultureBytes : Nat := 256 * 2 ^ 30

/-! ### The test record (R482): constants of one module -/

/-- Section 1: the oscillator trim of a die. -/
opaque oscTrim : Nat → Nat
/-- Section 2: entry `i` of the voltage table of half `h` (die order, W before E), in mV (R439). -/
opaque voltageTable : Nat → Nat → Nat
/-- Section 3: the reference trims of a half: read bias, integrator, converter (R147). -/
opaque referenceTrim : Nat → Nat → Nat
/-- Section 4: nominal K of a die for gain steps 0 to 3 (R120). -/
opaque nominalGain : Nat → Nat → Nat
/-- Section 5: is a physical vat or culture vat bad? -/
opaque vatBad : Nat → Bool
/-- Section 6: the state of a physical core: 0 in service, 1 spare, 4 retired. -/
opaque coreStart : Nat → Nat
/-- Section 7: is a router retired? Index 80·die + 40·half + position. -/
opaque routerBad : Nat → Bool
/-- Section 7: spare wire groups of a bridge. -/
opaque bridgeSpares : Nat → Nat
/-- Section 9: the conversion efficiency at a load in mW, in 1/65,536 (R424). -/
opaque railEfficiency : Nat → Nat
/-- Section 8: flash spare of a die, in MiB. -/
opaque flashSpare : Nat → Nat
/-- Section 10: the signed identity record. -/
opaque identityRecord : Bytes
/-- SerialNumber (R478). -/
opaque serialNumber : Nat
/-- The hardware revision code of the modules this manual applies to (R1). -/
def hardwareRevision : Nat := 0x0002

/-! ### Keys (R352, R419, R435, R482, R484) -/

/-- The Jendetra firmware key. -/
opaque firmwareKey : RsaKey
/-- The Jendetra test-pack key, carried by the firmware image. -/
opaque testPackKey : RsaKey
/-- The Jendetra service key, carried by the firmware image. -/
opaque serviceKey : RsaKey
/-- FirmwareKeyDigest: the SHA-256 that the mask ROM holds. -/
opaque firmwareKeyDigest : Bytes
/-- TestKeyDigest: the SHA-256 of the test-pack key, from the firmware image. -/
opaque testKeyDigest : Bytes
/-- The built-in test pack's limit and expected values of the firmware image (R419). -/
opaque builtInPack : Bytes

/-! ### Values set by firmware at start-up (R461) -/

/-- PageTableBase (R272). -/
opaque pageTableBase : Nat
/-- RootTableBase (R273). -/
opaque rootTableBase : Nat
/-- TrierArea: the working-area offset of a half's trier records (R404). -/
opaque trierArea : Nat → Nat

/-! ### Values the manual leaves open -/

/-- A fresh value from a running count: nonces (R340) and every value the manual leaves open without operands. -/
opaque freeValue : Nat → Nat
/-- The result of a quotient of turning whose divisor is zero, by its dividend (R155 states none). -/
opaque quotientCorner : Int → Nat
/-- K_row of a physical vat from a round's codes (R155: formed "as K_j", with no row-side gain reference to form it of). -/
opaque rowGainOf : Nat → List (List Nat) → Nat
/-- ln of a binary64 datum, as the sampler evaluates it (R322 step 6: "evaluated in binary64"; its last place is not
stated). -/
opaque ln64 : Fp → Fp
/-- The softmax of logits in binary32 at temperature 1 (R389: the order of its operations is not stated). -/
opaque softmax32 : List Fp → List Fp
/-- What a runtime routine writes: kind, routine, argument, the rows it reads and the rounded results of the combinations it makes of
partials among them (R205: norms, activation functions, embeddings and their order of operations belong to the wheel). -/
opaque routineRows : Nat → Nat → Nat → Bytes → Bytes → Bytes
/-- The combinations of double words that a runtime routine makes, by kind, routine and argument: for each, the bytes of its input at which
the partials stand, the lowest-numbered source first (R140: norm statistics; the wheel places them). -/
opaque statisticOffsets : Nat → Nat → Nat → List (List Nat)
/-- The format a routine's consumer requires of its combinations: 0 binary32, 1 W16, otherwise N8 (R141). -/
opaque statisticFormat : Nat → Nat → Nat → Nat
/-- The 512-byte rows a runtime routine reads and writes for one lane, by kind, routine and argument (R205). -/
opaque routineInputs : Nat → Nat → Nat → Nat
opaque routineOutputs : Nat → Nat → Nat → Nat
/-- The lane-status bits a runtime routine's own operations bring (R129), by kind, routine, argument and the rows it reads. -/
opaque routineStatus : Nat → Nat → Nat → Bytes → Nat
/-- Does a rounding task round to W16 rather than N8? Its Routine and Argument choose (R57), in a coding the manual does not
give. -/
opaque roundsToW16 : Nat → Nat → Bool
/-- The score that ranks an expert whose router output is a NaN (R199 does not rank one). -/
opaque nanScore : Nat → Fp
/-- The working-area offset of the copy of a sheet buffer that a half holds (R210, R401; firmware allots it, R30). -/
opaque sheetArea : Nat → Nat → Nat
/-- The attention phases of a run that come before a module's first phase, by RunId and FirstPhase: other modules hold them,
and no register of this module tells their number. -/
opaque attentionBefore : Nat → Nat → Nat
/-- The share of a die's flash spare, in MiB, that replacing one bad block takes (R332, R349 give no block size). -/
opaque flashBlock : Nat
/-- A role's stored input, as binary32 data, from an entry of the activation store: role and the entry's bytes (R388 gives the
order within an entry no layout). -/
opaque storedInput : Nat → Bytes → List Fp
/-- The gradient of a role's output at a backward step: role, the gradient rows the task reads and the binary32 master copy
(R389: the backward passes of norms and activation functions belong to the wheel). -/
opaque roleGradient : Nat → Bytes → List (Nat × Nat) → List Fp
/-- Does the serving runtime own the byte at a module address of a working area? (R30, R235: firmware allots the areas.) -/
opaque runtimeOwns : Nat → Bool
/-- The working-area offset of a half's ripening rows, RipenAreaMiB long (R384; firmware allots it, R30). -/
opaque ripenArea : Nat → Nat
/-- The MiB that a run's activation store takes in a half's ripening rows, by RunId and half (R384, R388: the number and width of
a phase's norms, activation functions and roles belong to the wheel). -/
opaque ripenStore : Nat → Nat → Nat
/-- What a backward ripening task writes, by routine, argument, the rows it reads, the token's stored inputs and the master copy
(R389: the backward passes of norms and activation functions belong to the wheel). -/
opaque gradientRows : Nat → Nat → Bytes → Bytes → List (Nat × Nat) → Bytes
end Sys2Proof.Config
end

