-- ==== Sys2Proof/Machine/Formats.lean ====
section
/-! DEFINITION. The number formats of chapter 02: N8 and N4 blocks, pour vectors, pour units, long accumulators and L64
partials, with every conversion the chapter defines. Conversions answer what they count beside their result, so that
the caller raises the counters of R58. -/

namespace Sys2Proof.Machine

/-- A block of 32 codes with its scale byte (R36, R39): N8 codes lie in −127 … +127, N4 codes in −8 … +7. -/
structure Block where
  scale : Nat
  codes : List Int
  deriving DecidableEq, Repr

/-- What a conversion counted: elements clamped, blocks zeroed, blocks poisoned, reserved codes read (R58). -/
structure Tally where
  clamps : Nat := 0
  zeroed : Nat := 0
  poison : Nat := 0
  reserved : Nat := 0
  deriving DecidableEq, Repr

/-- Counts added up. -/
def Tally.add (a b : Tally) : Tally :=
  { clamps := a.clamps + b.clamps, zeroed := a.zeroed + b.zeroed, poison := a.poison + b.poison,
    reserved := a.reserved + b.reserved }

/-- The zero block (R36). -/
def Block.zero : Block := { scale := 0, codes := List.replicate 32 0 }

/-- The poison block (R36). -/
def Block.poison : Block := { scale := 0xFF, codes := List.replicate 32 0 }

/-- A value to be encoded: exact, or not finite (R38). -/
abbrev Exact := Option Dyadic

/-- The code of an element as it is read (R37): −128 is taken as −127 in a block whose scale lies in 1–254. -/
def readN8Code (scale : Nat) (b : Byte) : Int :=
  let v := b.toInt
  if v = -128 ∧ 1 ≤ scale ∧ scale ≤ 254 then -127 else v

/-- How many codes of a block read as the reserved code −128 (R37). -/
def reservedCodes (scale : Nat) (b : Bytes) : Nat :=
  if 1 ≤ scale ∧ scale ≤ 254 then (b.filter (fun x => x = 0x80)).length else 0

/-- Read a block from its scale byte and code bytes. -/
def Block.ofBytes (scale : Byte) (codes : Bytes) : Block :=
  { scale := scale.toNat, codes := codes.map (readN8Code scale.toNat) }

/-- Encode 32 exact values as an N8 block (R38). -/
def encodeN8 (vs : List Exact) : Block × Tally :=
  if vs.any (· = none) then (Block.poison, { poison := 1 })
  else
    let xs : List Dyadic := vs.map (fun v => v.getD { m := 0, e := 0 })
    if xs.all (fun x => x.m = 0) then (Block.zero, {})
    else
      let fits (s : Nat) : Bool := xs.all (fun x => (x.rne (127 - (s : Int))).natAbs ≤ 127)
      match (List.range 254).find? (fun i => fits (i + 1)) with
      | some i =>
        let s := i + 1
        let codes := xs.map (fun x => x.rne (127 - (s : Int)))
        if codes.all (· = 0) then (Block.zero, { zeroed := 1 }) else ({ scale := s, codes := codes }, {})
      | none =>
        let raw := xs.map (fun x => x.rne (-127))
        ({ scale := 254, codes := raw.map (clampInt (-127) 127) },
         { clamps := (raw.filter (fun c => c < -127 ∨ 127 < c)).length })

/-- Convert an N8 block to N4 (R40). -/
def n8ToN4 (b : Block) : Block × Tally :=
  if b.scale = 0 then (Block.zero, {})
  else if b.scale = 0xFF then (Block.poison, {})
  else
    let y1 := b.codes.map (fun x => rneDiv x 16)
    let tooBig := y1.any (· = 8)
    let t := if tooBig then b.scale + 5 else b.scale + 4
    let y := if tooBig then b.codes.map (fun x => rneDiv x 32) else y1
    if 0xFE < t then
      let raw := b.codes.map (fun x => rneScale x ((b.scale : Int) - 0xFE))
      let cl := raw.map (clampInt (-8) 7)
      let n := (raw.filter (fun c => c < -8 ∨ 7 < c)).length
      if cl.all (· = 0) then (Block.zero, { clamps := n, zeroed := 1 }) else ({ scale := 0xFE, codes := cl }, { clamps := n })
    else if y.all (· = 0) then (Block.zero, { zeroed := 1 })
    else ({ scale := t, codes := y }, {})

/-- Widen an N4 block to N8, exactly (R41). -/
def n4ToN8 (b : Block) : Block :=
  if b.scale = 0 then Block.zero
  else if b.scale = 0xFF then Block.poison
  else if b.scale ≤ 4 then { scale := 1, codes := b.codes.map (fun c => c * 2 ^ (b.scale - 1)) }
  else { scale := b.scale - 4, codes := b.codes.map (fun c => c * 16) }

/-- The exact value of element `i` of an N8 block: none in a poison block (R36). -/
def Block.value (b : Block) (i : Nat) : Exact :=
  if b.scale = 0 then some { m := 0, e := 0 }
  else if b.scale = 0xFF then none
  else some { m := b.codes.getD i 0, e := (b.scale : Int) - 127 }

/-! ### Layouts (R43, R44) -/

/-- The packed layout of an N8 block: the scale byte, then 32 codes (R44). -/
def Block.packN8 (b : Block) : Bytes := BitVec.ofNat 8 b.scale :: b.codes.map (fun c => BitVec.ofInt 8 c)

/-- The packed layout of an N4 block: the scale byte, then element 2i in the low nibble of byte 1 + i (R44). -/
def Block.packN4 (b : Block) : Bytes :=
  BitVec.ofNat 8 b.scale ::
    (List.range 16).map (fun i =>
      BitVec.ofNat 8 (ofSigned 4 (b.codes.getD (2 * i) 0) + 16 * ofSigned 4 (b.codes.getD (2 * i + 1) 0)))

/-- Read a packed N8 block (R44). -/
def unpackN8 (b : Bytes) : Block := Block.ofBytes (byteAt b 0) (bytesAt b 1 32)

/-- Read a packed N4 block (R44). -/
def unpackN4 (b : Bytes) : Block :=
  { scale := (byteAt b 0).toNat,
    codes := (List.range 32).map (fun j => toSigned 4 (field (byteAt b (1 + j / 2)).toNat (4 * (j % 2)) 4)) }

/-- The blocks of a vector of `n` elements in N8 split layout (R43): element rows first, then scale rows. -/
def splitBlocks (rows : Bytes) (n : Nat) : List Block :=
  let scaleArea := ceilDiv n 512 * 512
  (List.range (n / 32)).map (fun b => Block.ofBytes (byteAt rows (scaleArea + b)) (bytesAt rows (32 * b) 32))

/-- A vector in N8 split layout: whole element rows, then whole scale rows (R43). -/
def toSplit (bs : List Block) : Bytes :=
  let codes : Bytes := bs.flatMap (fun b => b.codes.map (fun c => BitVec.ofInt 8 c))
  let scales : Bytes := bs.map (fun b => BitVec.ofNat 8 b.scale)
  padTo (roundUp 512 codes.length) codes ++ padTo (roundUp 512 scales.length) scales

/-- The blocks of a vector of `n` elements in N4 split layout (R43): element rows of 1,024 elements, an even element in the low nibble
of its byte, then scale rows. -/
def splitBlocksN4 (rows : Bytes) (n : Nat) : List Block :=
  let scaleArea := ceilDiv n 1024 * 512
  (List.range (n / 32)).map (fun b =>
    { scale := (byteAt rows (scaleArea + b)).toNat,
      codes := (List.range 32).map (fun i =>
        let j := 32 * b + i
        toSigned 4 (field (byteAt rows (512 * (j / 1024) + j % 1024 / 2)).toNat (4 * (j % 2)) 4)) })

/-- A vector in N4 split layout: whole element rows, then whole scale rows (R43). -/
def toSplitN4 (bs : List Block) : Bytes :=
  let codes : Bytes := bs.flatMap (fun b => (List.range 16).map (fun i =>
    BitVec.ofNat 8 (ofSigned 4 (b.codes.getD (2 * i) 0) + 16 * ofSigned 4 (b.codes.getD (2 * i + 1) 0))))
  let scales : Bytes := bs.map (fun b => BitVec.ofNat 8 b.scale)
  padTo (roundUp 512 codes.length) codes ++ padTo (roundUp 512 scales.length) scales

/-- The number of bytes an N8 vector of `n` elements takes in split layout. -/
def splitLength (n : Nat) : Nat := roundUp 512 n + roundUp 512 (n / 32)

/-! ### The pour vector (R45 to R49) -/

/-- One lane's input to one vat (R49), with the codes as integers. -/
structure PourVector where
  exponent : Nat
  poison : Bool
  anyClamp : Bool
  fallback : Bool
  lifted : List (Nat × Int)
  tripMap : List Nat
  z : List Nat
  s : List Nat
  codes : List Int
  deriving DecidableEq, Repr

/-- Align an element of a block of scale `s` to the pour exponent `p` (R45 step 4): the code, and whether it was
clamped. -/
def alignCode (p s : Nat) (x : Int) : Int × Bool :=
  if s = 0 ∨ s = 0xFF then (0, false)
  else if s ≤ p then (rneScale x ((s : Int) - p), false)
  else
    let v := x * 2 ^ (s - p)
    (clampInt (-127) 127 v, v < -127 ∨ 127 < v)

/-- The signed high nibble of an aligned code (R45 step 5). -/
def highNibble (a : Int) : Int := a / 16

/-- The unsigned low nibble of an aligned code (R45 step 5). -/
def lowNibble (a : Int) : Int := a % 16

/-- The pour exponent of a lane's source blocks (R45 step 3). -/
def pourExponent (blocks : List Block) (lifted : List Nat) : Nat :=
  let counts (b : Nat) : Bool :=
    let bl := blocks.getD b Block.zero
    bl.scale ≠ 0 && bl.scale ≠ 0xFF &&
      (List.range 32).any (fun i => !(lifted.contains (32 * b + i)) && bl.codes.getD i 0 ≠ 0)
  let scales := (List.range blocks.length).filterMap (fun b =>
    if counts b then some (blocks.getD b Block.zero).scale else none)
  min 0xFA (scales.foldl max 0)

/-- Z_b: aligned codes of a block that are non-zero with a high nibble of 0 (R48). -/
def zCounter (codes : List Int) : Nat := (codes.filter (fun a => 1 ≤ a ∧ a ≤ 15)).length

/-- Convert source blocks to a pour vector (R45, R48). `zT` and `sT` are the fallback thresholds in effect. -/
def buildPourVector (blocks : List Block) (lifted : List Nat) (zT sT : Nat) : PourVector × Tally :=
  let p := pourExponent blocks lifted
  let alignBlock (b : Nat) : List (Int × Bool) :=
    let bl := blocks.getD b Block.zero
    (List.range 32).map (fun i =>
      if lifted.contains (32 * b + i) then (0, false) else alignCode p bl.scale (bl.codes.getD i 0))
  let per := (List.range blocks.length).map alignBlock
  let zs := per.map (fun l => zCounter (l.map (·.1)))
  let ss := per.map (fun l => (l.filter (·.2)).length)
  let trips := (List.range blocks.length).filter (fun b => zT ≤ zs.getD b 0 ∨ sT ≤ ss.getD b 0)
  let clampTotal := ss.foldl (· + ·) 0
  ({ exponent := p,
     poison := blocks.any (fun b => b.scale = 0xFF),
     anyClamp := clampTotal ≠ 0,
     fallback := trips ≠ [],
     lifted := lifted.map (fun r =>
       let bl := blocks.getD (r / 32) Block.zero
       (bl.scale, bl.codes.getD (r % 32) 0)),
     tripMap := trips, z := zs, s := ss,
     codes := per.flatMap (fun l => l.map (·.1)) },
   { clamps := clampTotal })

/-- The bytes of a pour vector: the header row of R49, then the aligned codes. `rows` is 5 for a charge-trap vat and 3
for a culture vat (R87). -/
def PourVector.toBytes (v : PourVector) (rows : Nat) : Bytes :=
  let flags := (if v.poison then 1 else 0) + (if v.anyClamp then 2 else 0) + (if v.fallback then 4 else 0)
  let head : Bytes := leBytes 1 v.exponent ++ leBytes 1 flags ++ leBytes 1 v.lifted.length ++ zeros 5 ++
    leBytes 8 (ofBits v.tripMap)
  let entries : Bytes := padTo 16 (v.lifted.flatMap (fun e => [BitVec.ofNat 8 e.1, BitVec.ofInt 8 e.2]))
  let zc : Bytes := padTo 64 (v.z.map (BitVec.ofNat 8))
  let sc : Bytes := padTo 64 (v.s.map (BitVec.ofNat 8))
  padTo 512 (head ++ entries ++ zc ++ sc) ++ padTo (512 * (rows - 1)) (v.codes.map (fun c => BitVec.ofInt 8 c))

/-- Read a pour vector from its rows (R49). -/
def PourVector.ofBytes (b : Bytes) (n : Nat) : PourVector :=
  let flags := (byteAt b 1).toNat
  let lc := min 8 (byteAt b 2).toNat
  { exponent := (byteAt b 0).toNat, poison := field flags 0 1 = 1, anyClamp := field flags 1 1 = 1,
    fallback := field flags 2 1 = 1,
    lifted := (List.range lc).map (fun k => ((byteAt b (16 + 2 * k)).toNat, (byteAt b (17 + 2 * k)).toInt)),
    tripMap := bitsOf 64 (leAt b 8 8),
    z := (bytesAt b 32 64).map BitVec.toNat, s := (bytesAt b 96 64).map BitVec.toNat,
    codes := (bytesAt b 512 n).map BitVec.toInt }

/-! ### Pour units, long accumulators, L64 (R50 to R56) -/

/-- The largest pour unit value (R50). -/
def pourUnitMax : Int := 8388607

/-- The limit of a long accumulator's magnitude (R52: the code −2^95 is never produced). -/
def accMax : Int := 2 ^ 95 - 1

/-- A long accumulator with its poison and saturated bits (R52). -/
structure Acc where
  value : Int := 0
  poison : Bool := false
  saturated : Bool := false
  deriving DecidableEq, Repr

/-- Add into a long accumulator (R52, R54): bits are ORed, a sum beyond the range takes the nearer limit. -/
def Acc.add (x y : Acc) : Acc :=
  let v := x.value + y.value
  let sat := v < -accMax ∨ accMax < v
  { value := clampInt (-accMax) accMax v, poison := x.poison || y.poison,
    saturated := x.saturated || y.saturated || sat }

/-- Does adding the two saturate? (R54) -/
def Acc.saturates (x y : Acc) : Bool := x.value + y.value < -accMax || accMax < x.value + y.value

/-- The rounded contribution k of R53 step 2: rne(p × m × 2^(P − 127 + e − q)). -/
def contribution (p : Int) (m : Nat) (exponent : Nat) (e q : Int) (halved : Bool) : Int :=
  rneScale (p * m) ((exponent : Int) - 127 + e - q - (if halved then 1 else 0))

/-- Limit a contribution to −K … +K (R132). -/
def limitContribution (k : Int) (limit : Nat) : Int × Bool := (clampInt (-(limit : Int)) limit k, (limit : Int) < k.natAbs)

/-- The 16-byte container of a long accumulator (R52). -/
def Acc.toBytes (a : Acc) : Bytes :=
  leBytes 12 (ofSigned 96 a.value) ++
    leBytes 4 ((if a.poison then 1 else 0) + (if a.saturated then 2 else 0))

/-- Read a container (R52); reserved bits are ignored. -/
def Acc.ofBytes (b : Bytes) : Acc :=
  { value := toSigned 96 (leAt b 0 12), poison := field (leAt b 12 4) 0 1 = 1, saturated := field (leAt b 12 4) 1 1 = 1 }

/-- The limit of an L64's magnitude (R55). -/
def l64Max : Int := 2 ^ 63 - 1

/-- An accumulator as an L64 (R56), with whether it was limited. The division truncates towards zero; it is exact
unless the accumulator sits at a limit. -/
def Acc.toL64 (a : Acc) (q : Int) : Int × Bool :=
  let v := if 0 ≤ q + 48 then Int.tdiv a.value (2 ^ (q + 48).toNat) else a.value * 2 ^ (-(q + 48)).toNat
  (clampInt (-l64Max) l64Max v, v < -l64Max ∨ l64Max < v)

/-- A received L64 as the accumulator operand it stands for (R56). -/
def accOfL64 (l q : Int) (poison : Bool) : Acc := { value := l * 2 ^ (q + 48).toNat, poison := poison }

/-- The exact value of an accumulator, A × 2^−48 (R52); none when it is poisoned (R57). -/
def Acc.exact (a : Acc) : Exact := if a.poison then none else some { m := a.value, e := -48 }

/-- Round an accumulator to W16 (R57): nearest even from the exact value, the NaN 0x7FC0 when poisoned. -/
def Acc.roundW16 (a : Acc) : Nat :=
  if a.poison then 0x7FC0 else bfloat16.encode (bfloat16.roundDyadic false { m := a.value, e := -48 })

end Sys2Proof.Machine
end

