-- ==== Sys2Proof/Machine/Maps.lean ====
section
/-! DEFINITION. Keyed plain data: a list of (key, value) pairs with strictly rising keys. `SMap.find` answers what is
held at a key, `SMap.put` keeps the list in the one canonical form in which no entry equals what an unlisted key reads
as, so that equal contents are equal data. -/

namespace Sys2Proof.Machine

/-- A map from natural numbers, kept as (key, value) pairs with strictly rising keys. -/
abbrev SMap (α : Type) := List (Nat × α)

variable {α : Type}

/-- What the map holds at key `k`. -/
def SMap.find (m : SMap α) (k : Nat) : Option α :=
  match m with
  | [] => none
  | (k', v) :: rest => if k = k' then some v else SMap.find rest k

/-- What the map holds at key `k`, and `d` where it lists nothing. -/
def SMap.getD (m : SMap α) (k : Nat) (d : α) : α := (SMap.find m k).getD d

/-- Take key `k` out of the map. -/
def SMap.erase (m : SMap α) (k : Nat) : SMap α :=
  match m with
  | [] => []
  | (k', v) :: rest => if k = k' then SMap.erase rest k else (k', v) :: SMap.erase rest k

/-- Set key `k` to `v`, keeping the keys strictly rising. -/
def SMap.insert (m : SMap α) (k : Nat) (v : α) : SMap α :=
  match m with
  | [] => [(k, v)]
  | (k', v') :: rest =>
    if k < k' then (k, v) :: (k', v') :: rest
    else if k = k' then (k, v) :: rest
    else (k', v') :: SMap.insert rest k v

/-- Set key `k` to `v` in a map whose unlisted keys read as `d`: the value `d` is not listed. -/
def SMap.put [DecidableEq α] (d : α) (m : SMap α) (k : Nat) (v : α) : SMap α :=
  if v = d then SMap.erase m k else SMap.insert m k v

/-- Change what key `k` holds, reading an unlisted key as `d`. -/
def SMap.modify (m : SMap α) (k : Nat) (d : α) (f : α → α) : SMap α :=
  SMap.insert m k (f (SMap.getD m k d))

/-- The map with every value changed by `f`. -/
def SMap.mapVal {β : Type} (f : Nat → α → β) (m : SMap α) : SMap β := m.map (fun e => (e.1, f e.1 e.2))

/-- The entries that `p` keeps. -/
def SMap.keep (p : Nat → α → Bool) (m : SMap α) : SMap α := m.filter (fun e => p e.1 e.2)

/-- Are the keys strictly rising? -/
def SMap.sorted (m : SMap α) : Bool :=
  match m with
  | [] => true
  | (k, _) :: rest => rest.all (fun e => k < e.1) && SMap.sorted rest

/-- The canonical form of a map whose unlisted keys read as `d`. -/
def SMap.wf [DecidableEq α] (d : α) (m : SMap α) : Bool := SMap.sorted m && m.all (fun e => e.2 ≠ d)

/-- A rising list of numbers with `k` put in. -/
def insertNat (k : Nat) (l : List Nat) : List Nat :=
  match l with
  | [] => [k]
  | x :: rest => if k < x then k :: x :: rest else if k = x then x :: rest else x :: insertNat k rest

/-- Put an element into a list before the first one it does not come after. -/
def putSorted (before : α → α → Bool) (x : α) (l : List α) : List α :=
  match l with
  | [] => [x]
  | y :: rest => if before x y then x :: y :: rest else y :: putSorted before x rest

/-- A list in the order of `before`, elements that are alike in it keeping their order. -/
def sortBy (before : α → α → Bool) (l : List α) : List α := l.foldr (putSorted before) []

/-- A list of numbers without `k`. -/
def eraseNat (k : Nat) (l : List Nat) : List Nat := l.filter (fun x => x ≠ k)

end Sys2Proof.Machine
end

