-- ==== Sys2Proof/Machine/Sheet.lean ====
section
/-! DEFINITION. The records of a make sheet and how they are read from its rows: the header (R201), the sections (R202)
and the records of R77, R186, R203 to R209, R247, R278 and R372. The types hold each field as the manual lays it out;
nothing is checked here (R211 is in Machine/LoadCheck.lean). -/

namespace Sys2Proof.Machine

/-- A pour instruction (R77), field by field. -/
structure PourInstr where
  opcode : Nat
  direction : Nat
  phase : Nat
  slotKind : Nat
  average : Nat
  accumulate : Nat
  slot : Nat
  lane : Nat
  vatKind : Nat
  vat : Nat
  coreHalf : Nat
  coreNum : Nat
  row : Nat
  reserved : Nat
  reduction : Nat
  reservedLow : Nat
  tag : Nat
  deriving DecidableEq, Repr

/-- Read the 128-bit pour instruction word (R77). -/
def PourInstr.ofWord (w : Nat) : PourInstr :=
  { opcode := field w 120 8, direction := field w 118 2, phase := field w 116 2, slotKind := field w 114 2,
    average := field w 112 2, accumulate := field w 111 1, slot := field w 104 7, lane := field w 97 7,
    vatKind := field w 96 1, vat := field w 84 12, coreHalf := field w 83 1, coreNum := field w 77 6,
    row := field w 67 10, reserved := field w 64 3, reduction := field w 52 12, reservedLow := field w 32 20,
    tag := field w 0 32 }

/-- The 128-bit word of a pour instruction (R77). -/
def PourInstr.toWord (p : PourInstr) : Nat :=
  p.opcode * 2 ^ 120 + p.direction * 2 ^ 118 + p.phase * 2 ^ 116 + p.slotKind * 2 ^ 114 + p.average * 2 ^ 112 +
  p.accumulate * 2 ^ 111 + p.slot * 2 ^ 104 + p.lane * 2 ^ 97 + p.vatKind * 2 ^ 96 + p.vat * 2 ^ 84 +
  p.coreHalf * 2 ^ 83 + p.coreNum * 2 ^ 77 + p.row * 2 ^ 67 + p.reserved * 2 ^ 64 + p.reduction * 2 ^ 52 +
  p.reservedLow * 2 ^ 32 + p.tag

/-- One entry of a slot plan (R186): the kind and the start in units of 16 ticks. -/
structure SlotEntry where
  kind : Nat
  reserved : Nat
  start : Nat
  deriving DecidableEq, Repr

/-- A core named in the layout of OutputCore (R204). -/
structure CoreRef where
  die : Nat
  half : Nat
  num : Nat
  deriving DecidableEq, Repr

/-- A vat binding (R203). -/
structure Binding where
  kind : Nat
  die : Nat
  num : Nat
  plan : Nat
  offset : Nat
  averaged : Bool
  expert : Bool
  first : Nat
  count : Nat
  deriving DecidableEq, Repr

/-- A reduction record (R204). -/
structure Reduction where
  number : Nat
  grid : Int
  carry : Bool
  expert : Bool
  width : Nat
  contributions : Nat
  limit : Nat
  readTick : Nat
  phase : Nat
  saveArea : Nat
  outCore : CoreRef
  outRow : Nat
  tree : Nat
  deriving DecidableEq, Repr

/-- A core task record (R205). -/
structure CoreTask where
  core : CoreRef
  kind : Nat
  atomic : Nat
  startTick : Nat
  endTick : Nat
  phase : Nat
  firstLane : Nat
  laneCount : Nat
  inputRow : Nat
  outputRow : Nat
  routine : Nat
  argument : Nat
  deriving DecidableEq, Repr

/-- A transfer record (R206). -/
structure Transfer where
  kind : Nat
  format : Nat
  lane : Nat
  source : CoreRef
  destModule : Nat
  bridge : Bool
  path : Nat
  startTick : Nat
  endTick : Nat
  length : Nat
  dest : CoreRef
  destRow : Nat
  deriving DecidableEq, Repr

/-- A track record (R207). -/
structure Track where
  number : Nat
  kind : Nat
  span : Nat
  ripen : Bool
  companion : Bool
  stride : Nat
  residues : Nat
  dieMask : Nat
  deriving DecidableEq, Repr

/-- An expert group record (R208). -/
structure ExpertGroup where
  phase : Nat
  experts : Nat
  topK : Nat
  depth : Nat
  core : CoreRef
  deadline : Nat
  firstReduction : Nat
  capacity : List Nat
  deriving DecidableEq, Repr

/-- The barrier record (R209). -/
structure BarrierRecord where
  root : Nat
  parent : Nat
  parentLane : Nat
  children : Nat
  childModule : List Nat
  childLane : List Nat
  deriving DecidableEq, Repr

/-- An estimate record (R209), energies in µJ, peak power in mW. -/
structure Estimate where
  die : Nat
  step : Nat
  vat : Nat
  core : Nat
  memory : Nat
  link : Nat
  static : Nat
  peak : Nat
  deriving DecidableEq, Repr

/-- An entry of the Trees section (R247). -/
structure TreeEntry where
  kind : Nat
  operands : Nat
  die : Nat
  half : Nat
  position : Nat
  parent : Nat
  path : Nat
  peer : Nat
  slot : Nat
  transfer : Nat
  deriving DecidableEq, Repr

/-- An attention record (R278). -/
structure AttentionRecord where
  phase : Nat
  layer : Nat
  heads : Nat
  w16 : Bool
  scoreScale : Nat
  queryCore : CoreRef
  queryRow : Nat
  walkTick : Nat
  partialTick : Nat
  outCore : CoreRef
  outRow : Nat
  nodes : List CoreRef
  wheelLayer : Nat
  deriving DecidableEq, Repr

/-- A culture place record (R372). -/
structure PlaceRecord where
  place : Nat
  group : Nat
  roles : Nat
  vats : List Nat
  shape : Nat
  deriving DecidableEq, Repr

/-- The header of a sheet (R201). -/
structure SheetHeader where
  format : Nat
  kind : Nat
  lostDie : Nat
  runId : Nat
  moduleIndex : Nat
  runModules : Nat
  wheelId : Nat
  lanes : Nat
  longTracks : Nat
  entrySteps : Nat
  wheelVersion : Nat
  phases : Nat
  firstPhase : Nat
  lastPhase : Nat
  attentionPhases : Nat
  strideI : Nat
  strideS : Nat
  barrierLead : Nat
  plannedDone : Nat
  minDone : Nat
  latencyBound : Nat
  startStep : Nat
  attentionFrames : Nat
  runDigest : Bytes
  deriving DecidableEq, Repr

/-- A make sheet (R201, R202). -/
structure Sheet where
  header : SheetHeader
  plans : List (List SlotEntry)
  bindings : List Binding
  instrs : List PourInstr
  reductions : List Reduction
  tasks : List CoreTask
  transfers : List Transfer
  tracks : List Track
  groups : List ExpertGroup
  barrier : List BarrierRecord
  estimates : List Estimate
  trees : List TreeEntry
  attention : List AttentionRecord
  places : List PlaceRecord
  deriving DecidableEq, Repr

/-- Read a core in the layout of OutputCore: [9:7] die, [6] half, [5:0] core (R204). -/
def CoreRef.ofWord (w : Nat) : CoreRef := { die := field w 7 3, half := field w 6 1, num := field w 0 6 }

/-- Read a slot plan of 128 entries (R186). -/
def slotPlanOf (b : Bytes) : List SlotEntry :=
  (List.range 128).map (fun i =>
    let w := leAt b (2 * i) 2
    { kind := field w 14 2, reserved := field w 12 2, start := field w 0 12 })

/-- Read a vat binding (R203). -/
def Binding.ofBytes (b : Bytes) : Binding :=
  let v := leAt b 0 2
  { kind := field v 15 1, die := field v 12 3, num := field v 0 12, plan := leAt b 2 2, offset := leAt b 4 1,
    averaged := field (leAt b 5 1) 0 1 = 1, expert := field (leAt b 5 1) 1 1 = 1,
    first := leAt b 8 4, count := leAt b 12 2 }

/-- Read a reduction record (R204). -/
def Reduction.ofBytes (b : Bytes) : Reduction :=
  { number := leAt b 0 2, grid := leIntAt b 2 1, carry := field (leAt b 3 1) 0 1 = 1, expert := field (leAt b 3 1) 1 1 = 1,
    width := leAt b 4 2, contributions := leAt b 6 2, limit := leAt b 8 8, readTick := leAt b 16 2, phase := leAt b 18 2,
    saveArea := leAt b 20 6, outCore := CoreRef.ofWord (leAt b 28 2), outRow := leAt b 30 2, tree := leAt b 32 4 }

/-- Read a core task record (R205). -/
def CoreTask.ofBytes (b : Bytes) : CoreTask :=
  { core := CoreRef.ofWord (leAt b 0 2), kind := leAt b 2 1, atomic := leAt b 3 1, startTick := leAt b 4 2,
    endTick := leAt b 6 2, phase := leAt b 8 2, firstLane := leAt b 10 1, laneCount := leAt b 11 1,
    inputRow := leAt b 12 2, outputRow := leAt b 14 2, routine := leAt b 16 4, argument := leAt b 20 4 }

/-- Read a transfer record (R206). -/
def Transfer.ofBytes (b : Bytes) : Transfer :=
  let p := leAt b 8 2
  { kind := leAt b 0 1, format := leAt b 1 1, lane := leAt b 2 1, source := CoreRef.ofWord (leAt b 4 2),
    destModule := leAt b 6 2, bridge := field p 15 1 = 1, path := field p 0 15, startTick := leAt b 10 2,
    endTick := leAt b 12 2, length := leAt b 14 2, dest := CoreRef.ofWord (leAt b 16 2), destRow := leAt b 18 2 }

/-- Read a track record (R207). -/
def Track.ofBytes (b : Bytes) : Track :=
  { number := leAt b 0 1, kind := leAt b 1 1, span := leAt b 2 1, ripen := field (leAt b 3 1) 0 1 = 1,
    companion := field (leAt b 3 1) 1 1 = 1, stride := leAt b 4 2, residues := leAt b 6 2, dieMask := leAt b 8 1 }

/-- Read an expert group record (R208). -/
def ExpertGroup.ofBytes (b : Bytes) : ExpertGroup :=
  { phase := leAt b 0 2, experts := leAt b 2 2, topK := leAt b 4 1, depth := leAt b 5 1,
    core := CoreRef.ofWord (leAt b 6 2), deadline := leAt b 8 2, firstReduction := leAt b 10 2,
    capacity := (bytesAt b 256 256).map BitVec.toNat }

/-- Read the barrier record (R209). -/
def BarrierRecord.ofBytes (b : Bytes) : BarrierRecord :=
  { root := leAt b 0 2, parent := leAt b 2 2, parentLane := leAt b 4 1, children := leAt b 5 1,
    childModule := (List.range 8).map (fun i => leAt b (8 + 2 * i) 2),
    childLane := (bytesAt b 24 8).map BitVec.toNat }

/-- Read an estimate record (R209). -/
def Estimate.ofBytes (b : Bytes) : Estimate :=
  { die := leAt b 0 1, step := leAt b 4 4, vat := leAt b 8 4, core := leAt b 12 4, memory := leAt b 16 4,
    link := leAt b 20 4, static := leAt b 24 4, peak := leAt b 28 4 }

/-- Read a tree entry (R247). -/
def TreeEntry.ofBytes (b : Bytes) : TreeEntry :=
  let p := leAt b 2 2
  { kind := leAt b 0 1, operands := leAt b 1 1, die := field p 13 3, half := field p 12 1, position := field p 6 6,
    parent := leAt b 4 2, path := leAt b 6 2, peer := leAt b 8 2, slot := leAt b 10 1, transfer := leAt b 12 2 }

/-- Read an attention record (R278). -/
def AttentionRecord.ofBytes (b : Bytes) : AttentionRecord :=
  { phase := leAt b 0 2, layer := leAt b 2 2, heads := leAt b 4 1, w16 := field (leAt b 5 1) 0 1 = 1,
    scoreScale := leAt b 8 4, queryCore := CoreRef.ofWord (leAt b 12 2), queryRow := leAt b 14 2,
    walkTick := leAt b 16 2, partialTick := leAt b 18 2, outCore := CoreRef.ofWord (leAt b 20 2), outRow := leAt b 22 2,
    nodes := (List.range 7).map (fun i => CoreRef.ofWord (leAt b (24 + 2 * i) 2)), wheelLayer := leAt b 38 2 }

/-- Read a culture place record (R372). -/
def PlaceRecord.ofBytes (b : Bytes) : PlaceRecord :=
  { place := leAt b 0 2, group := leAt b 2 2, roles := leAt b 4 1,
    vats := (List.range 24).map (fun i => leAt b (8 + 2 * i) 2), shape := leAt b 56 4 }

/-- Read the header row (R201). -/
def SheetHeader.ofBytes (b : Bytes) : SheetHeader :=
  { format := leAt b 0 2, kind := leAt b 2 1, lostDie := leAt b 3 1, runId := leAt b 4 4, moduleIndex := leAt b 8 2,
    runModules := leAt b 10 2, wheelId := leAt b 12 1, lanes := leAt b 13 1, longTracks := leAt b 14 1,
    entrySteps := leAt b 15 1, wheelVersion := leAt b 16 4, phases := leAt b 20 2, firstPhase := leAt b 22 2,
    lastPhase := leAt b 24 2, attentionPhases := leAt b 26 2, strideI := leAt b 28 2, strideS := leAt b 30 2,
    barrierLead := leAt b 32 2, plannedDone := leAt b 34 2, minDone := leAt b 36 2, latencyBound := leAt b 38 2,
    startStep := leAt b 40 8, attentionFrames := leAt b 48 4, runDigest := bytesAt b 56 32 }

/-- A section of a sheet: kind, record size, first row, record count (R201). -/
structure SectionEntry where
  kind : Nat
  size : Nat
  firstRow : Nat
  count : Nat
  deriving DecidableEq, Repr

/-- The section entries of a header row (R201). -/
def sectionsOf (b : Bytes) : List SectionEntry :=
  (List.range 16).map (fun i =>
    { kind := leAt b (88 + 12 * i) 2, size := leAt b (90 + 12 * i) 2, firstRow := leAt b (92 + 12 * i) 4,
      count := leAt b (96 + 12 * i) 4 })

/-- The records of the section of a kind: each record's bytes. -/
def sectionRecords (b : Bytes) (kind : Nat) : List Bytes :=
  match (sectionsOf b).find? (fun e => e.kind = kind) with
  | none => []
  | some e => (List.range e.count).map (fun i => bytesAt b (512 * e.firstRow + e.size * i) e.size)

/-- Read a whole sheet from its rows (R201, R202). -/
def Sheet.ofBytes (b : Bytes) : Sheet :=
  { header := SheetHeader.ofBytes b
    plans := (sectionRecords b 1).map slotPlanOf
    bindings := (sectionRecords b 2).map Binding.ofBytes
    instrs := (sectionRecords b 3).map (fun r => PourInstr.ofWord (leAt r 0 16))
    reductions := (sectionRecords b 4).map Reduction.ofBytes
    tasks := (sectionRecords b 5).map CoreTask.ofBytes
    transfers := (sectionRecords b 6).map Transfer.ofBytes
    tracks := (sectionRecords b 7).map Track.ofBytes
    groups := (sectionRecords b 8).map ExpertGroup.ofBytes
    barrier := (sectionRecords b 9).map BarrierRecord.ofBytes
    estimates := (sectionRecords b 10).map Estimate.ofBytes
    trees := (sectionRecords b 11).map TreeEntry.ofBytes
    attention := (sectionRecords b 12).map AttentionRecord.ofBytes
    places := (sectionRecords b 13).map PlaceRecord.ofBytes }

/-- A sheet's bytes with the header's RunDigest taken as zero, for its entry of the digest list (R180). -/
def sheetDigestBytes (b : Bytes) : Bytes := overlay b 56 (zeros 32)

/-- The reduction record of a number (R204). -/
def Sheet.reduction (s : Sheet) (n : Nat) : Option Reduction := s.reductions.find? (fun r => r.number = n)

/-- The binding of a logical vat: kind 0 charge-trap, 1 culture. -/
def Sheet.binding (s : Sheet) (kind die num : Nat) : Option Binding :=
  s.bindings.find? (fun b => b.kind = kind ∧ b.die = die ∧ b.num = num)

/-- The instructions in a binding's range. -/
def Sheet.bindingInstrs (s : Sheet) (b : Binding) : List PourInstr := (s.instrs.drop b.first).take b.count

/-- A reduction's tree: the entries that follow the header of its index, with their number within the tree (R247, R523). -/
def Sheet.treeOf (s : Sheet) (r : Reduction) : List (Nat × TreeEntry) :=
  let n := ((s.trees.drop r.tree).head?.map (·.parent)).getD 0
  ((s.trees.drop (r.tree + 1)).take n).zipIdx.map (fun p => (p.2 + 1, p.1))

/-- Ticks of a binding's slot: 16 × Start + Offset (R186). -/
def Sheet.slotStart (s : Sheet) (b : Binding) (slot : Nat) : Nat :=
  16 * (((s.plans.getD b.plan []).getD slot { kind := 3, reserved := 0, start := 0 }).start + b.offset)

/-- The kind of a binding's slot (R186). -/
def Sheet.slotKind (s : Sheet) (b : Binding) (slot : Nat) : Nat :=
  ((s.plans.getD b.plan []).getD slot { kind := 3, reserved := 0, start := 0 }).kind

end Sys2Proof.Machine
end

