-- ==== Sys2Proof/Machine/State.lean ====
section
/-! DEFINITION. The state of the module, plain data, one structure for each chapter of the manual, the reasons a step can
stop, and the state right after reset. Physical vats and logical vats are numbered alike: 2592·die + number for a
charge-trap vat, 2592·die + 2304 + number for a culture vat. Halves are numbered 2·die, plus 1 for E. Cores are numbered
72·die + 36·half + number, rind units 36·die + number, objects by index·256 + subindex and their elements by
object·2^32 + element. -/

namespace Sys2Proof.Machine

/-! ### Chapter 18: the dictionary -/

/-- The latest raise of an event counter (R473, R477). -/
structure Raise where
  step : Nat
  unit : Nat
  value : Nat
  deriving DecidableEq, Repr

/-- An event frame waiting to be sent (R473). -/
structure EventFrame where
  obj : Nat
  element : Nat
  counter : Nat
  nonMaskable : Bool
  mark : Raise
  deriving DecidableEq, Repr

/-- An upstream frame waiting to be sent, or sent: its type, handle, flags and payload (R297, R298). -/
structure UpFrame where
  type : Nat
  handle : Nat
  flags : Nat
  payload : Bytes
  deriving DecidableEq, Repr

/-- An open segmented transfer (R468 to R470): the segments received, or the snapshot being sent. -/
structure DictTransfer where
  id : Nat
  port : Port
  write : Bool
  obj : Nat
  requestId : Nat
  length : Nat
  segments : List (Nat × Bytes)
  snapshot : Bytes
  lastCycle : Nat
  deriving DecidableEq, Repr

/-- The values ConfigSave keeps in the Catalogue partition (R462). -/
structure SavedConfig where
  values : SMap Nat
  blobs : SMap Bytes
  deriving DecidableEq, Repr

/-- The object dictionary and the events (chapter 18). -/
structure Dict where
  /-- Values in effect of RW and RWB objects of fixed size, by object element; an unlisted one has its table default
  (R458, R461). Reset: empty, every object at its default. -/
  settings : SMap Nat
  /-- Values of RW objects of type DOMAIN (R457). Reset: empty, every object at its default. -/
  blobs : SMap Bytes
  /-- Pending RWB values (R459). Reset: empty. -/
  pending : SMap Nat
  /-- Every counter object, U32 event counters and U64 counters, by object element (R471). Reset: empty, all 0. -/
  counts : SMap Nat
  /-- The event flags that are set, with their latest raise (R471, R477). Reset: empty. -/
  flags : SMap Raise
  /-- Masked event counters, rising (R475). Reset: empty. -/
  masked : List Nat
  /-- The event queue, oldest first, at most 256 (R474). Reset: empty. -/
  queue : List EventFrame
  /-- Were frames dropped since the last frame sent? (R474) Reset: false. -/
  dropped : Bool
  /-- The copy ConfigSave wrote and whether it is sound against its SHA-256 (R462). Reset: none; the cellar of a module
  as delivered holds no copy. -/
  saved : Option (SavedConfig × Bool)
  /-- ConfigState (R478). Reset: 0. -/
  configState : Nat
  /-- Open segmented transfers, reads and writes (R468). Reset: empty. -/
  transfers : List DictTransfer
  /-- The next TransferId (R464). Reset: 1, DESIGN CHOICE. -/
  nextId : Nat
  /-- The events written to the cellar's Log partition, newest first (R332, R477). Reset: empty. -/
  logged : List EventFrame
  deriving DecidableEq, Repr

/-! ### Chapter 11: control ports and serving -/

/-- An answer record (R307). -/
structure AnswerRecord where
  downSlot : Nat
  kind : Nat
  refused : Bool
  reason : Nat
  requestId : Nat
  handle : Nat
  cls : Nat
  track : Nat
  residue : Nat
  admitStep : Nat
  firstTokenStep : Nat
  stride : Nat
  fill : Nat
  firstTokenTicks : Nat
  completionSeconds : Nat
  deriving DecidableEq, Repr

/-- One control port (R295, R299). -/
structure PortState where
  /-- The cycle of the last good frame (R299, R304). Reset: none. -/
  lastGood : Option Nat
  /-- Admission answers decided in this cycle (R305). Reset: empty. -/
  records : List AnswerRecord
  /-- Dictionary answers waiting to be sent, oldest first (R466). Reset: empty. -/
  answers : List UpFrame
  /-- Segmented transfer frames waiting to be sent (R469). Reset: empty. -/
  segments : List UpFrame
  /-- Token out frames and completion records waiting for this port (R320, R324). Reset: empty. -/
  tokens : List UpFrame
  records07 : List UpFrame
  /-- Event frames waiting for this port (R473). Reset: empty. -/
  events : List UpFrame
  /-- The frames of the latest 16 upstream slots: slots 12–15 of the cycle that ended and 0–11 of the one that began; a slot
  not listed carries an idle frame (R299, R305). Reset: empty. -/
  upstream : List (Nat × UpFrame)
  deriving DecidableEq, Repr

/-- Both ports and write ownership (R295, R303, R304, R309). -/
structure Ports where
  a : PortState
  b : PortState
  /-- OwnerPort (R303). Reset: port A (R486). -/
  owner : Port
  /-- Did the owner write 1 to OwnerRelease since the last cycle boundary? (R304) Reset: false. -/
  releaseAsked : Bool
  /-- The cycle in which ownership last moved (R304). Reset: none. -/
  movedAt : Option Nat
  /-- The cycle count, of which the low 24 bits are CurrentCycle (R295). Reset: 0. -/
  cycle : Nat
  /-- The last 256 kept answers, by port and RequestId, newest first (R309). Reset: empty. -/
  kept : List (Port × AnswerRecord)
  deriving DecidableEq, Repr

/-- The states of a sequence slot (R316); a slot not listed is FREE. -/
inductive SlotState where
  | admitted
  | running
  | draining
  | pausing
  | parked
  deriving DecidableEq, Repr

/-- The fields of an admit or resume request (R306). -/
structure Request where
  requestId : Nat
  cls : Nat
  pinPolicy : Nat
  wheelId : Nat
  wheelVersion : Nat
  cultureId : Nat
  cultureVersion : Nat
  promptLength : Nat
  maxNew : Nat
  temperature : Nat
  topP : Nat
  sampleSeed : Nat
  stops : List Nat
  window : Nat
  pauseKey : Nat
  ripenJob : Nat
  deriving DecidableEq, Repr

/-- The completion record a slot will send: outcome, error, flag bits, pause key and digest (R324). -/
structure Completion where
  outcome : Nat
  error : Nat
  promiseBroken : Bool
  pauseKey : Nat
  digest : Bytes
  deriving DecidableEq, Repr

/-- A token sampled in a step that waits for its commit (R320, R321). -/
structure SampledToken where
  /-- The lane on which it was sampled (R320). -/
  lane : Nat
  token : Nat
  position : Nat
  step : Nat
  status : Nat
  logProb : Nat
  last : Bool
  deriving DecidableEq, Repr

/-- An entry in flight (R190, R194, R377): the step in which it entered phase 0, its number in the sequence, its lane and the
culture place that serves it. -/
structure EntryMade where
  step : Nat
  entry : Nat
  lane : Nat
  culturePlace : Option Nat
  deriving DecidableEq, Repr

/-- A sequence in a slot (R310 to R326). -/
structure Sequence where
  state : SlotState
  req : Request
  /-- The port its request came on. -/
  port : Port
  /-- Track and residue held; none for a parked class B sequence without one (R522). -/
  place : Option (Nat × Nat)
  /-- Fill f of the prompt (R310). -/
  fill : Nat
  admitStep : Nat
  /-- Steps in which the next entry is due and in which output token 0 is sampled (R311, R312). -/
  nextEntry : Nat
  firstTokenStep : Nat
  /-- Restored length L at a resume, 0 at an admit (R308). -/
  restored : Nat
  /-- The pending token of a resume (R337). -/
  pendingToken : Option Nat
  /-- Prompt tokens received, by prompt index (R302). -/
  prompt : SMap Nat
  /-- Entries made into phase 0: the pending token of a resume, prompt tokens, generated tokens (R302, R311). -/
  entered : Nat
  /-- Entries still in flight, latest first (R190). -/
  entriesAt : List EntryMade
  /-- Output tokens waiting for their commit, oldest first (R320, R321). -/
  sampled : List SampledToken
  /-- The latest output token with its position. -/
  lastToken : Option (Nat × Nat)
  /-- The culture version pinned, CultureId 0 for none, and the wheel version that served its latest entry (R324, R369,
  R376). -/
  cultureId : Nat
  cultureVersion : Nat
  wheelVersion : Nat
  /-- TokensEmitted, Unrepaired and Clamped token counts (R324). -/
  emitted : Nat
  unrepaired : Nat
  clamped : Nat
  /-- MaxNewTokens still to be produced (R337). -/
  left : Nat
  /-- SamplerDraws (R322, R337). -/
  draws : Nat
  /-- OR of the tokens' lane statuses (R130), and of the results of the token now in flight (R130). -/
  status : Nat
  inFlight : Nat
  lastStep : Nat
  promptLate : Bool
  followed : Bool
  parkedOnce : Bool
  /-- A pause request that takes effect at the next segment boundary; the pause index entry it reserved (R317, R338). -/
  pauseAsked : Option Nat
  /-- Must it be paused by force at the next segment boundary? (R379, R371) -/
  forcedPause : Bool
  /-- Was it cancelled while RUNNING? (R326) -/
  cancelled : Bool
  /-- The completion record waiting for the next commit (R324). -/
  completion : Option Completion
  /-- Its stripe list (R274). -/
  stripes : List Nat
  /-- The pause index entry holding its pages while PARKED or PAUSING (R318, R339). -/
  entry : Option Nat
  /-- Is a restore of its image in progress? (R345) -/
  restoring : Bool
  /-- Frames committed per engine (R291) and reservations that hold no frame yet (R314). -/
  frames : List Nat
  reserved : List Nat
  deriving DecidableEq, Repr

/-- Admission, slots and their counts (chapter 11). -/
structure Serving where
  /-- The sequences in slots, by slot number; an unlisted slot is FREE (R316). Reset: empty. -/
  slots : SMap Sequence
  /-- Slot generations; an unlisted slot has generation 1 (R315). Reset: empty. -/
  generations : SMap Nat
  /-- Frames whose release falls due: step and frames per engine (R292). Reset: empty. -/
  releases : List (Nat × List Nat)
  /-- Ended sequences' records waiting for the next cycle boundary: handle, sequence, record (R324). Reset: empty. -/
  finished : List (Nat × Sequence × Completion)
  /-- Handles of sequences that ended COMPLETED and whose slot has not been taken since (R326). Reset: empty. -/
  completed : List Nat
  /-- CurrentStep at the latest cycle boundary: a later boundary at which it has moved is a commit (R320). Reset: 0. -/
  commitStep : Nat
  deriving DecidableEq, Repr

/-! ### Chapter 07: runs -/

/-- One of the nine sheet buffers (R210). -/
structure SheetBuffer where
  bytes : Bytes
  /-- 0 idle, 1 receiving, 2 checking, 3 loaded, 4 refused (R215). -/
  state : Nat
  reason : Nat
  record : Nat
  sheet : Option Sheet
  deriving DecidableEq, Repr

/-- Runs, steps and the barrier (chapters 07 and 09). -/
structure Run where
  /-- The buffers 0 to 8; an unlisted one is empty (R210). Reset: empty. -/
  buffers : SMap SheetBuffer
  /-- The buffer named by the latest RunLoadRequest and its status (R215). Reset: 0, idle. -/
  loadBuffer : Nat
  /-- RunDigestList as written (R180, R215). Reset: empty. -/
  digestList : Bytes
  /-- This module's index among the run's modules, set when a run starts (R211 0x002). Reset: none. -/
  moduleIndex : Option Nat
  /-- The running sheet (R179). Reset: none. -/
  running : Option Sheet
  /-- The running run's base sheet and its degraded sheets by die (R180). Reset: none and empty. -/
  base : Option Sheet
  degraded : SMap Sheet
  /-- ActiveDegradedDie (R215). Reset: 0xFF. -/
  degradedDie : Nat
  /-- The sheet that is to become the running sheet, a die's degraded sheet or the base sheet (0xFF), and the first step at
  which it may (R214, R495). Reset: none. -/
  switchTo : Option (Nat × Nat)
  /-- The replaced sheet of an open version switch and the last step it is used (R369). Reset: none. -/
  oldSheet : Option (Sheet × Nat)
  /-- CurrentStep (R179, R459). Reset: 0. -/
  step : Nat
  /-- The step from which residues count (R192, R212): StartStep of the run that placed the sequences. Reset: 0. -/
  origin : Nat
  /-- LastStepTicks and MaxStepTicks (R215). Reset: 0. -/
  lastTicks : Nat
  maxTicks : Nat
  /-- The release tick named for this step (R183). Reset: none. -/
  release : Option Nat
  /-- Done flits and own done ticks collected in this step: trunk (8 for the module itself) to tick (R183, R260).
  Reset: empty. -/
  dones : SMap Nat
  /-- Halves done in this step, with their done tick (R182). Reset: empty. -/
  halfDone : SMap Nat
  /-- Halves marked overrun in this step (R185). Reset: empty. -/
  overrun : List Nat
  /-- Die losses announced in this step: module and die (R254, R260). Reset: empty. -/
  announced : List (Nat × Nat)
  /-- Losses announced in earlier steps of the run, until a lane of the lost die trains again (R134, R250, R260). Reset: empty. -/
  farLost : List (Nat × Nat)
  /-- Child trunks found cut off (R262). Reset: empty. -/
  lostChildren : List Nat
  /-- Has the collector sent its done flit of this step? (R260) Reset: false. -/
  sentDone : Bool
  /-- Closed tracks, and those among them that losses of this module's own dies close (R214). Reset: empty. -/
  closed : List Nat
  ownClosed : List Nat
  /-- Tracks that this step's barrier flits of other modules report closed (R214). Reset: empty. -/
  closing : List Nat
  /-- Did a child report an overrun in this step? (R260) Reset: false. -/
  belowOverrun : Bool
  /-- Dies to be lost at the next boundary (R32, R213). Reset: empty. -/
  losing : List Nat
  /-- Dies that are lost or not in service (R32). Reset: all eight, until each die's firmware runs (R488). -/
  lostDies : List Nat
  /-- Active lanes of each held phase: phase to lane numbers (R195). Reset: empty. -/
  active : SMap (List Nat)
  /-- The slot whose token a lane carries at a phase, phase·128 + lane (R190). Reset: empty. -/
  carrying : SMap Nat
  /-- Backward passes: phase to lanes (R396 RipenActive). Reset: empty. -/
  ripenActive : SMap (List Nat)
  /-- Old-version stamps: phase to lanes (R369). Reset: empty. -/
  stamps : SMap (List Nat)
  /-- Culture place of phase·128 + lane (R373). Reset: empty, none. -/
  lanePlace : SMap Nat
  /-- Sheet tasks ended, transfers sent and transfers arrived in this step (R182). Reset: empty. -/
  tasksEnded : List Nat
  transfersSent : List Nat
  transfersArrived : List Nat
  /-- Tasks with an Atomic span still open: record index to the step at whose end it ends (R225). Reset: empty. -/
  atomicUntil : SMap Nat
  /-- Latest tick at which work of a half ended in this step (R182). Reset: empty. -/
  workTick : SMap Nat
  /-- Energy windows: steps in the window, E_w so far in µJ, mismatching windows in a row, their largest ratio (R430).
  Reset: 0. -/
  windowSteps : Nat
  windowEnergy : Nat
  mismatches : List Nat
  deriving DecidableEq, Repr

/-! ### Memory -/

/-- What the latest access answered (the model's own report of R27: performed or refused, and the bytes read). -/
structure AccessResult where
  performed : Bool
  data : Bytes
  accessFault : Bool
  deriving DecidableEq, Repr

/-- Memory (chapter 01, R226, R397 to R402). -/
structure Mem where
  /-- The bytes of the DRAM tier and the SRAM by module address, unlisted bytes reading 0 (R230, R480, R481).
  Reset: empty. -/
  bytes : SMap Byte
  /-- Words (address / 16) whose stored word no longer decodes (R399). Reset: empty. -/
  bad : List Nat
  /-- Steps in which a row or frame returned corrected words: row (address / 512) or frame to the steps, latest first
  (R399, R400). Reset: empty. -/
  hits : SMap (List Nat)
  /-- Rows due to be bound to a spare row at the next boundary (R399). Reset: empty. -/
  rowsDue : List Nat
  /-- Spare rows used in each scratchpad bank, by core·8 + bank (R399). Reset: empty, none used. -/
  sparesUsed : SMap Nat
  /-- Frames to be withdrawn, and frames withdrawn, by engine·2^20 + frame (R400). Reset: empty. -/
  framesDue : List Nat
  framesGone : List Nat
  /-- Working-area blocks due to be bound to a reserve block (R400). Reset: empty. -/
  blocksDue : List Nat
  /-- The latest access's result. The model's own. Reset: performed, nothing read. -/
  last : AccessResult
  deriving DecidableEq, Repr

/-! ### Chapters 03 to 05: vats, rind, reductions -/

/-- A pour vector in a fetch register (R68, R70). -/
structure Fetched where
  vector : PourVector
  /-- Poison from an uncorrectable word of its rows (R231). -/
  poisoned : Bool
  /-- The 512-byte rows as fetched, kept for a trier sample (R404). -/
  rows : Bytes
  deriving DecidableEq, Repr

/-- A pour that has started and whose codes have not reached the rind (R70). -/
structure Flight where
  instr : PourInstr
  fetched : Fetched
  physical : Nat
  /-- Lane-status bits its codes have brought so far (R72). -/
  status : Nat := 0
  deriving DecidableEq, Repr

/-- A held high result (R83, R98). -/
structure Hold where
  vat : Nat
  physical : Nat
  instr : PourInstr
  fetched : Fetched
  /-- The I32 held values (R104) and whether they were formed from an averaged pour (R76: then in half units). -/
  values : List Int
  halved : Bool
  /-- Lane-status bits its pours have brought (R72). -/
  status : Nat
  deriving DecidableEq, Repr

/-- An accumulator set of a rind unit (R80): one accumulator a column and the lane status. -/
structure AccSet where
  opened : Bool
  restored : Bool
  cols : List Acc
  status : Nat
  deriving DecidableEq, Repr

/-- A partial at a node of a reduction tree (R134). -/
structure Partial where
  cols : List Acc
  status : Nat
  deriving DecidableEq, Repr

/-- A physical vat to be freed at the boundary that begins a step: the header State it takes and the spare number it takes
over, if any (R22, R174, R366, R378). -/
structure VatFreeing where
  physical : Nat
  step : Nat
  state : Nat
  number : Option Nat
  deriving DecidableEq, Repr

/-- Vats, pours, rind units and reductions (chapters 03 to 05). -/
structure Vats where
  /-- The vat map: logical to physical; an unlisted logical vat is backed by its own number (R21). Reset: identity. -/
  map : SMap Nat
  /-- Unbacked logical vats, rising (R23). Reset: empty. -/
  unbacked : List Nat
  /-- Vats to be freed at a later boundary (R22, R174). Reset: empty. -/
  freeing : List VatFreeing
  /-- Retired rind units (R119). Reset: empty. -/
  unitsRetired : List Nat
  /-- Rind units that met an uncorrectable word in this step (R119, R398). Reset: empty. -/
  unitsPoisoned : List Nat
  /-- IntegratorGain step of physical vats; unlisted 0 (R72, R90). Reset: empty, DESIGN CHOICE (Set by turning). -/
  gainStep : SMap Nat
  /-- Entries of the slot lists written in service: vat·128 + slot (R78, R223). Reset: empty. -/
  posted : SMap PourInstr
  /-- Entries posted for the next step, and for the one after it where the next step's fetch window has begun (R223). Reset: empty. -/
  postedNext : SMap PourInstr
  postedLater : SMap PourInstr
  /-- Reserve entries granted in this step (R124). Reset: empty. -/
  granted : SMap PourInstr
  /-- Expert slots patched in this step: vat·128 + slot to lane and row (R198, R223). Reset: empty. -/
  patched : SMap (Nat × Nat)
  /-- Fetch windows begun in this step: vat·128 + slot (R223). Reset: empty. -/
  windows : List Nat
  /-- Fetch windows begun in this step for slots of the next, which start before tick 192 of it (R68). Reset: empty. -/
  ahead : List Nat
  /-- Fetch registers, vat·128 + slot (R68). Reset: empty. -/
  fetched : SMap Fetched
  /-- Pours in flight, vat·128 + slot (R70). Reset: empty. -/
  flights : SMap Flight
  /-- Slots performed or found idle in this step, vat·128 + slot (R182). Reset: empty. -/
  slotsDone : List Nat
  /-- First results of double and reverse pours, vat·128 + slot of the first (R74, R76). Reset: empty. -/
  firsts : SMap (List Int × Flight)
  /-- Lanes waiting for a reserve slot: vat to (lane, high slot) (R124). Reset: empty. -/
  waiting : SMap (List (Nat × Nat))
  /-- Lanes to be released when their result is held: vat·128 + lane (R125). Reset: empty. -/
  releasing : List Nat
  /-- Reserve slots of each vat decided in this step (R124). Reset: empty. -/
  decided : List Nat
  /-- Hold records (R83), in the order they were taken. Reset: empty. -/
  holds : List Hold
  /-- Accumulator sets: (unit·4096 + reduction)·128 + lane (R80). Reset: empty. -/
  sets : SMap AccSet
  /-- Operands at tree nodes: ((reduction·128 + lane)·65536 + node)·4 + operand (R134). Reset: empty. -/
  operands : SMap Partial
  /-- Partials waiting to leave the die, by transfer record index (R134, R247). Reset: empty. -/
  outgoing : SMap Partial
  /-- Roots delivered in this step: reduction·128 + lane (R134, R182). Reset: empty. -/
  delivered : List Nat
  /-- Carried sets saved in earlier steps, and in this one: (unit·4096 + reduction)·128 + lane (R138). Reset: empty. -/
  carried : List Nat
  savedNow : List Nat
  /-- Reductions whose leaves were read in this step (R134, R182). Reset: empty. -/
  readsServed : List Nat
  /-- Next probe record of each rind unit and how many are unread (R104). Reset: empty. -/
  probeNext : SMap Nat
  probeUnread : SMap Nat
  /-- The physical vat whose pour filled each probe record, unit·3 + record (R104, R146). Reset: empty. -/
  probeVats : SMap Nat
  /-- Checksum hits: physical·16 + group to the pour numbers of the hits; pours counted per vat (R164). Reset: empty. -/
  sumHits : SMap (List Nat)
  sumPours : SMap Nat
  /-- Sums of e_k² over the standard probes of the latest round B, physical·16 + group: 16 times σ_k² (R164; R178 ChecksumLimits). Reset:
  empty, DESIGN CHOICE. -/
  sumSquares : SMap Nat
  /-- LastPourFaultTag of each die (R90). Reset: 0. -/
  faultTag : SMap Nat
  deriving DecidableEq, Repr

/-! ### Chapter 06: turning -/

/-- A vat's quality record (R163) with what turning knows of it. -/
structure Quality where
  normError : Nat
  unstable : Bool
  /-- The pairs marked unstable (R157). -/
  unstablePairs : List Nat
  candidate : Bool
  /-- Is it to be calibrated whatever its age: its localisation has finished? (R158, R165) -/
  calDue : Bool
  atEndurance : Bool
  maskedGroups : List Nat
  redundantUsed : Nat
  residuals : Nat
  cycles : Nat
  /-- Partial cycles, one for each ABSORB (R172). -/
  partials : Nat
  /-- Has a calibration been accepted since it was programmed? (R364) -/
  calibrated : Bool
  lastCalStep : Nat
  lastCalTemp : Int
  retries : Nat
  /-- Hours at which it was programmed (R173). -/
  programmedAt : Nat
  deriving DecidableEq, Repr

/-- A calibration in progress: cause and the step it began (R152). -/
structure Calibration where
  startStep : Nat
  first : Bool
  /-- Was a probe of the round under way lost to ProbeOverrun, so that the round is measured again? (R146) -/
  spoilt : Bool
  /-- The vat's probe answers, fetched into the working area of its half at the start (R154); the manual gives their place there none. -/
  answers : Bytes
  deriving DecidableEq, Repr

/-- Where a localisation stands (R165): stage, group, columns, blocks found; groups flagged meanwhile wait for their turn. -/
structure Localisation where
  stage : Nat
  group : Nat
  columns : List Nat
  blocks : List (Nat × Nat)
  waiting : List Nat
  deriving DecidableEq, Repr

/-- A live rewrite (R174): source service number, spare physical vat, RewriteStatus state, tries, the spares that failed, cause. -/
structure Rewrite where
  service : Nat
  source : Nat
  spare : Nat
  state : Nat
  tries : Nat
  tried : List Nat
  fault : Bool
  unitCause : Bool
  content : Nat
  deriving DecidableEq, Repr

/-- Turning (chapter 06). -/
structure Turning where
  /-- Quality records by physical vat; an unlisted one is zero (R163). Reset: empty, DESIGN CHOICE (Set by turning). -/
  quality : SMap Quality
  /-- Calibrations in progress by physical vat (R152). Reset: empty. -/
  calibrations : SMap Calibration
  /-- Table rows staged by turning for the next boundary: address and bytes (R114, R156). Reset: empty. -/
  staged : List (Nat × Bytes)
  /-- Calibrations that found their unit's staging area committed: physical vat and table writes, staged at the next boundary (R159).
  Reset: empty. -/
  deferred : List (Nat × List (Nat × Bytes))
  /-- Pool rows that a staged header has left: unit·2048 + row, and the step from which they are free (R115). Reset: empty. -/
  oldRows : List (Nat × Nat)
  /-- Redundant pairs programmed since the vat was erased, by physical vat (R169). Reset: empty. -/
  usedPairs : SMap (List Nat)
  /-- The column maps that the Catalogue holds of vats whose tables have lost power: (data pair, redundant pair) (R490). Reset: empty. -/
  columnMaps : SMap (List (Nat × Nat))
  /-- Localisations in progress (R165). Reset: empty. -/
  localisations : SMap Localisation
  /-- Weights being absorbed: physical vat to (row, column) (R168). Reset: empty. -/
  absorbing : SMap (List (Nat × Nat))
  /-- Column moves in progress: physical vat to (data column, redundant pair) (R169). Reset: empty. -/
  moving : SMap (List (Nat × Nat))
  /-- Rewrites in progress by source physical vat (R174). Reset: empty. -/
  rewrites : SMap Rewrite
  /-- RewriteStatus of each die (R177). Reset: 0. -/
  status : SMap Nat
  /-- The service number that a die's latest RewriteRequest named (R177). Reset: empty. -/
  requested : SMap Nat
  /-- Vats given to the programme-verify engines to erase and programme, in the order in which they came (R79, R170). Reset: empty. -/
  programming : List Nat
  /-- Pairs that ended a programming outside ±0.5 step, by physical vat: row, pair, measured value in 1/256 step (R170: the measured
  values in the working area). Reset: empty. -/
  measured : SMap (List (Nat × Nat × Int))
  /-- Maintenance slots of a vat that turning, and the trier, have used in this step (R145). Reset: empty. -/
  slotsUsed : SMap Nat
  trierSlots : SMap Nat
  /-- Write counts of culture vat rows, the largest of each physical vat (R172). Reset: empty, 0. -/
  rowWrites : SMap Nat
  /-- Wear counts as last saved to the Log: cycles and row writes (R172). Reset: empty. -/
  savedCycles : SMap Nat
  savedWrites : SMap Nat
  /-- The measurement ADC: a conversion running, on the channel with the mux bank and converter selection at its start
  (R148, R149). Reset: none. -/
  converting : Option (Nat × Nat × Nat)
  /-- MeasResult and the conversion count (R148, R178). Reset: 0. -/
  measResult : Nat
  conversions : Nat
  /-- Trim steps moved since the test record, by half·3 + generator (R150). Reset: empty, the test record's trims. -/
  trims : SMap Int
  /-- Trim moves taking effect at the next boundary (R150). Reset: empty. -/
  trimMoves : SMap Int
  /-- Is RefInFault standing? (R151) Reset: false. -/
  refFault : Bool
  deriving DecidableEq, Repr

/-! ### Chapter 08: cores -/

/-- A row transfer (R222): addresses, rows, rows done, status when ended. -/
structure RowTransfer where
  source : Nat
  dest : Nat
  rows : Nat
  status : Option Nat
  machineMode : Bool
  deriving DecidableEq, Repr

/-- A move of a logical core (R232): half, logical number, spare number, source and target physical cores, rows copied,
CoreMoveStatus state, switch step, the CoreState its source takes at M + 1 (1 spare, 3 testing, 4 retired). -/
structure CoreMove where
  half : Nat
  logical : Nat
  spareNumber : Nat
  source : Nat
  target : Nat
  copied : Nat
  state : Nat
  sourceState : Nat
  startStep : Nat
  deriving DecidableEq, Repr

/-- Cores and their management (chapter 08). -/
structure Cores where
  /-- Integer registers: core·32 + register; unlisted 0; x0 is never listed (R216). Reset: empty. -/
  x : SMap (BitVec 64)
  /-- Vector registers of 128 bytes: core·32 + register; unlisted zero (R216). Reset: empty. -/
  v : SMap Bytes
  /-- Floating-point registers, 64 bits: core·32 + register; unlisted zero (R216: F and D). Reset: empty, DESIGN CHOICE. -/
  f : SMap (BitVec 64)
  /-- Control and status registers by core·4096 + RISC-V number, the 16 entries of physical memory protection, vl and vtype among them;
  unlisted zero (R216: Zicsr). An exception writes mcause (0x342) and mtval (0x343). Reset: empty, DESIGN CHOICE. -/
  csr : SMap Nat
  /-- The latest exception a core has taken: RISC-V cause and trap value (R216, R220, R231). Reset: empty. -/
  traps : SMap (Nat × Nat)
  /-- Cores stalled in step.wait, with rd (R219), in xfer.row for want of a tag, with rd and the transfer to start, and in xfer.wait,
  with rd and tag (R219, R222). Reset: empty. -/
  waiting : SMap Nat
  tagStalls : SMap (Nat × RowTransfer)
  xferStalls : SMap (Nat × Nat)
  /-- Row transfers: core·16 + tag (R222). Reset: empty. -/
  transfers : SMap RowTransfer
  /-- Task status: lane-status bits set by the encoding instructions (R219). Reset: empty. -/
  taskStatus : SMap Nat
  /-- The core map: half·36 + logical to physical core of the half; unlisted identity (R21, R236). Reset: identity. -/
  map : SMap Nat
  /-- Unbacked logical cores (R23). Reset: empty. -/
  unbacked : List Nat
  /-- CoreState of physical cores: 0 in service, 1 spare, 2 agent, 3 testing, 4 retired, and the others of R236; unlisted
  as in the test record (R236). Reset: empty. -/
  states : SMap Nat
  /-- Moves in progress by half (R232). Reset: empty. -/
  moves : SMap CoreMove
  /-- CoreMoveStatus of each die (R236). Reset: 0. -/
  moveStatus : SMap Nat
  /-- CoreStallCycles (R236). Reset: empty, 0. -/
  stalls : SMap Nat
  /-- AgentCore of a half; unlisted 35; 0xFF when the agent works in kind-255 tasks (R234, R236). Reset: empty. -/
  agents : SMap Nat
  /-- Halves whose agent starves (R234). Reset: empty. -/
  starved : List Nat
  /-- Kind-255 tasks run in this step: half (R234). Reset: empty. -/
  firmwareRan : List Nat
  deriving DecidableEq, Repr

/-! ### Chapter 09: fabric and links -/

/-- A Helca lane (R250 to R266). -/
structure LinkLaneState where
  /-- LaneState: 0 in service, 1 spare, 2 replacing, 3 failed, 4 training, 5 miswired (R267). -/
  state : Nat
  /-- The number of the lane it replaces, plus 1; 0 for none. -/
  replaces : Nat
  peerModule : Nat
  peerDie : Nat
  /-- LaneLatency in 1/16 tick (R263). -/
  latency : Nat
  /-- Transmit side: next Seq, bulk flits not yet acknowledged (oldest first), flits sent and credits returned (R255). -/
  nextSeq : Nat
  unacked : List Bytes
  sent : Nat
  credits : Nat
  /-- Bulk flits to send and the tokens that follow them, oldest first, with replays before them (R255, R256, R257). -/
  queue : List Bytes
  /-- Shard flits that wait for slots that no placed transfer needs (R360). Reset: empty. -/
  background : List Bytes
  /-- Control flits pending for a control slot, by their data (R252). -/
  control : List Bytes
  /-- The number of the next flit slot, counted from the last training, and the flits put on the line in this step with their
  slots; a bulk slot not listed carried idle bulk (R252, R255). -/
  slot : Nat
  line : List (Nat × Bytes)
  /-- Receive side: next Seq expected, discarding until a replay, flits freed (R257). -/
  expected : Nat
  discarding : Bool
  freed : Nat
  /-- Flits received; the numbers of the uncorrectable ones; failed replays of the flit expected next, and whether a flit came, since
  the last NAK, whose header cannot be read (R257, R265). -/
  errors : List Nat
  received : Nat
  replays : Nat
  missed : Bool
  /-- Tick exchange: SendTick and arrival of the last tick flit, own SendTick of the last sent (R263), in 1/16 tick. -/
  echoSend : Nat
  echoReceive : Nat
  deriving DecidableEq, Repr

/-- Fabric, bridges and links (chapter 09). -/
structure Fabric where
  /-- The lanes, 9d + n; an unlisted lane is training and has exchanged nothing (R250). Reset: empty. -/
  lanes : SMap LinkLaneState
  /-- Lane bindings for the next boundary: lane to spare (R266). Reset: empty. -/
  laneChanges : List (Nat × Nat)
  /-- Lanes without backing (R213, R266), and trunks whose loss has been acted on (R262), until a lane of theirs trains again. Reset:
  empty. -/
  unbacked : List Nat
  trunksLost : List Nat
  /-- Arriving transfers: lane·65536 + transfer, the lane by its logical number (R8, R266), to the payload held, next flit, whether the last came, and the token's flit
  count (R256); those that cross a die bridge stand under lane 72. Reset: empty. -/
  arriving : SMap (Bytes × Nat × Bool × Option Nat)
  /-- Retired routers beyond the test record's: 80·die + 40·half + position (R239). Reset: empty. -/
  routers : List Nat
  /-- Failed bridges and spare wire groups used (R246). Reset: empty. -/
  bridgesFailed : List Nat
  groupsUsed : SMap Nat
  /-- Bridges with a wire group reassignment for the next boundary (R246). Reset: empty. -/
  groupDue : List Nat
  /-- TickOffset in ps and the sum of offsets of the tick loop's integral term (R263, R448). Reset: 0. -/
  offset : Int
  offsetSum : Int
  aligned : Bool
  /-- Has the module's tick counter been set from a first exchange? (R448) Reset: false. -/
  tickSet : Bool
  /-- The module cut off from its parent (R262). Reset: false. -/
  isolated : Bool
  deriving DecidableEq, Repr

/-! ### Chapter 10: attention -/

/-- A double word (R140): hi and lo as binary32 data. -/
abbrev DoubleWord := Nat × Nat

/-- A partial of one head (R283): maximum, denominator, 512 sums, as binary32 data, and the record count. -/
structure HeadPartial where
  m : Nat
  l : DoubleWord
  v : List DoubleWord
  count : Nat
  deriving DecidableEq, Repr

/-- The partials of a lane at an engine or a node (R284). -/
structure LanePartial where
  heads : List HeadPartial
  status : Nat
  deriving DecidableEq, Repr

/-- A walk in progress on a long track (R288): step within the walk, directory and generation of its step 0. -/
structure Walk where
  index : Nat
  directory : Nat
  generation : Nat
  deriving DecidableEq, Repr

/-- Attention engines and pages (chapter 10). -/
structure Attention where
  /-- Partials delivered or open: (layer·128 + lane)·32 + source, sources 0–15 engines, 16–23 level-1 nodes, 24–30 nodes 0
  to 6 (R284, R285). Reset: empty. -/
  partials : SMap LanePartial
  /-- Walks in progress: (layer·128 + lane)·16 + engine (R288). Reset: empty. -/
  walks : SMap Walk
  /-- Root entries with a pending directory, by layer·8192 + slot, to their PublishStep (R275). Reset: empty. -/
  publishing : SMap Nat
  /-- EngineFramesRead by engine (R293). Reset: empty, 0. -/
  framesRead : SMap Nat
  /-- Frames (engine·2^20 + frame) and table blocks that the roots named at the latest boundary, and those that an edit has made unused
  since, to the step from which they may be written again (R276, R292). Reset: empty. -/
  namedFrames : List Nat
  namedBlocks : List Nat
  heldFrames : SMap Nat
  heldBlocks : SMap Nat
  /-- LastPageMismatch: handle, layer, page (R281). Reset: 0. -/
  mismatch : Nat × Nat × Nat
  /-- PageTableBlocks taking effect at the next run start (R293). Reset: 131,072. -/
  blocks : Nat
  /-- Attention engines retired with their crossing (R452), or awaiting their die's return to the base sheet (R495).
  Reset: empty. -/
  retired : List Nat
  deriving DecidableEq, Repr

/-! ### Chapter 12: the cellar -/

/-- A pause image (R337): the sequence's state and, for each layer, its frames. -/
structure PauseImage where
  header : Bytes
  frames : List Bytes
  deriving DecidableEq, Repr

/-- A pause index entry (R340). -/
structure PauseEntry where
  nonce : Nat
  expiry : Nat
  length : Nat
  pages : Nat
  layerTag : Nat
  /-- 1 writing, 2 stored, 3 restoring, 4 lost; a free entry is not listed. -/
  state : Nat
  image : PauseImage
  /-- The number of the first stripe that holds it (R329: the Catalogue's image maps). -/
  stripe : Nat
  deriving DecidableEq, Repr

/-- The cellar (chapter 12). -/
structure Cellar where
  /-- The pause index, by entry number; unlisted entries are free (R340). Reset: empty. -/
  index : SMap PauseEntry
  /-- The number of the next stripe of the Pause partition to be written (the Catalogue's stripe map, R330). Reset: 0. -/
  nextStripe : Nat
  /-- CellarSeconds and its last saved count (R342). Reset: 0. -/
  seconds : Nat
  savedSeconds : Nat
  /-- PauseKeyExtendStatus (R350). Reset: 0. -/
  extendStatus : Nat
  /-- RestorePagesPerStep (R336). Reset: 0. -/
  restorePages : Nat
  /-- Pages still to be read for accepted resumes, slot to pages in order of acceptance (R344), and for parked sequences that resume,
  which come later (R335). Reset: empty. -/
  restores : List (Nat × Nat)
  parkedRestores : List (Nat × Nat)
  /-- Stripes lacking a page of a die (R330). Reset: empty. -/
  narrow : SMap (List Nat)
  /-- Stripes with pages that cannot be read: stripe to dies (R330, R331). Reset: empty. -/
  lostPages : SMap (List Nat)
  /-- FlashSpareLeft used beyond the test record's, by die, in MiB (R349). Reset: empty. -/
  spareUsed : SMap Nat
  /-- CellarWrittenBytes (R350) and the bytes written in the last 30 days, by day. Reset: 0 and empty. -/
  written : Nat
  days : List Nat
  /-- Golden shards held verified: wheel key·65536 + shard; wheel key is WheelId·2^32 + Version (R332, R363).
  Reset: empty. -/
  golden : SMap Bytes
  /-- The probe answers kept beside the golden image, by physical vat (R154). Reset: empty. -/
  answers : SMap Bytes
  /-- Culture images held: CultureId·65536 + Version (R374). Reset: empty. -/
  images : SMap Bytes
  /-- Sequences that were PARKED at a power loss: handle, pause index entry, sequence (R491). Reset: empty. -/
  parked : List (Nat × Nat × Sequence)
  deriving DecidableEq, Repr

/-! ### Chapter 13: wheels and cultures -/

/-- A manifest as verified (R353). -/
structure Manifest where
  wheelId : Nat
  version : Nat
  shardCount : Nat
  blockCount : Nat
  vocabulary : Nat
  shards : List (Nat × Bytes)
  deriving DecidableEq, Repr

/-- An entry of a placement table (R357). -/
structure Placement where
  block : Nat
  vat : Nat
  lostDie : Nat
  deriving DecidableEq, Repr

/-- A shard being fetched (R362): bytes received as segments, the source in use, the next round's wait in seconds, whether
it waits between rounds. -/
structure ShardFetch where
  segments : List (Nat × Bytes)
  source : Nat
  wait : Nat
  idle : Bool
  deriving DecidableEq, Repr

/-- A held wheel version (R351, R382). -/
structure Wheel where
  wheelId : Nat
  version : Nat
  /-- 1 loading, 2 READY, 3 failed, 4 unloading (R382). -/
  state : Nat
  reason : Nat
  manifest : Manifest
  placement : List Placement
  verified : List Nat
  fetching : SMap ShardFetch
  /-- Placement entries, by index, that are programmed and read-verified (R364); the physical vats taken for entries whose vats
  are not yet staged to State 2; and how many vats each entry has failed on. -/
  ready : List Nat
  targets : SMap Nat
  tries : SMap Nat
  /-- Its recomputed ReplicaDigest (R412). -/
  digest : Bytes
  deriving DecidableEq, Repr

/-- Wheels (chapter 13). -/
structure Wheels where
  /-- The wheel table, at most 8 (R351). Reset: empty. -/
  table : List Wheel
  /-- WheelManifest and WheelPlacement as last written (R382). Reset: empty. -/
  manifest : Bytes
  placement : Bytes
  /-- Unloaded wheels, oldest first, whose golden images stay (R366). Reset: empty. -/
  unloaded : List Nat
  /-- Content of physical vats: wheel key and block (R363). Reset: empty. -/
  content : SMap (Nat × Nat)
  deriving DecidableEq, Repr

/-- A culture version (R375, R382). -/
structure Culture where
  cultureId : Nat
  version : Nat
  /-- 1 receiving, 2 awaiting place, 3 writing, 4 READY, 5 retiring, 6 failed (R382). -/
  state : Nat
  reason : Nat
  place : Option Nat
  pins : Nat
  shape : Nat
  force : Bool
  length : Nat
  sha : Bytes
  segments : List (Nat × Bytes)
  waited : Bool
  /-- Is it a ripened part, not READY until its publish step? (R392) -/
  part : Bool
  /-- The roles that its image's blocks hold, in order, and the physical vats being written for them. -/
  roles : List Nat
  targets : SMap Nat
  /-- How many times a role has failed (R375), and whether every role is read-verified, so that its vats are to be staged. -/
  tries : Nat
  verified : Bool
  deriving DecidableEq, Repr

/-- Cultures (chapter 13). -/
structure Cultures where
  /-- The culture table in the order of the requests (R375). Reset: empty. -/
  table : List Culture
  /-- CulturePlaceState: 0 free, 1 writing, 2 in service, 3 retiring, 4 unbacked; unlisted 0 (R382). Reset: empty. -/
  places : SMap Nat
  /-- Places free one step after a boundary: place and step (R378). Reset: empty. -/
  freeing : List (Nat × Nat)
  deriving DecidableEq, Repr

/-! ### Chapter 14: ripening -/

/-- A ripening job (R383, R396). -/
structure Job where
  /-- 0 idle, 1 waiting for start, 2 running, 3 part writing, 4 part ready, 5 failed (R396). -/
  state : Nat
  reason : Nat
  request : Bytes
  startStep : Nat
  updates : Nat
  lossTokens : Nat
  /-- PartVersion, PublishedVersion, and the version and step of a publication to come (R392, R396). -/
  part : Nat
  published : Nat
  publish : Option (Nat × Nat)
  /-- Is it to stop at the next boundary? (R385) -/
  stopping : Bool
  /-- The roles held, and the header of the base image (R374, R384). -/
  roles : List Nat
  header : Bytes
  /-- binary32 master weights, momentum values and gradient sums: role·2^20 + 1024·row + column (R384). -/
  master : SMap Nat
  momentum : SMap Nat
  gradient : SMap Nat
  deriving DecidableEq, Repr

/-- A loss position whose gradient is on its way (R387, R389): its job, slot and handle, ripening track, entry, the step in which
its logits are formed, and the target token. -/
structure Pass where
  job : Nat
  slot : Nat
  handle : Nat
  lane : Nat
  entry : Nat
  sampling : Nat
  target : Nat
  deriving DecidableEq, Repr

/-- Ripening (chapter 14). -/
structure Ripening where
  /-- Jobs 1 to 4; an unlisted job is idle (R396). Reset: empty. -/
  jobs : SMap Job
  /-- Activation store: (slot·4096 + phase)·65536 + task to the N8 rows that the task kept (R388). Reset: empty. -/
  store : SMap Bytes
  /-- Backward passes under way, oldest first (R389). Reset: empty. -/
  passes : List Pass
  deriving DecidableEq, Repr

/-! ### Chapter 15: trier and tests -/

/-- A trier record's arbitration beyond its bytes (R404 to R411). -/
structure TrierRecord where
  step : Nat
  vat : Nat
  physical : Nat
  lane : Nat
  form : Nat
  status : Nat
  content : Nat
  generation : Nat
  rows : Bytes
  results : List Int
  /-- The half's mean junction temperature and CellarSeconds at the sample (R406). -/
  temp : Int := 0
  seconds : Nat := 0
  tolerance : Nat
  cores : List Nat
  /-- The reference results the cores computed, A, B and C (R407). -/
  computed : List (List Int)
  /-- Faulty columns each probe saw (R407 step 4, 5). -/
  probes : List (List Nat)
  /-- The step of the last probe: two probes fall in different steps (R407 step 4). -/
  probeStep : Option Nat := none
  reference : List Int
  verdict : Nat
  deriving DecidableEq, Repr

/-- A core's test record (R421 CoreTestState): last test step, pack, state. -/
structure CoreTest where
  lastStep : Nat
  pack : Nat
  /-- 0 never tested, 1 pass, 2 pass on retest, 3 fail. -/
  result : Nat
  failures : Nat
  due : Bool
  /-- Steps deferred so far, and whether TestOverdue has been raised (R417). -/
  deferral : Nat
  overdue : Bool
  deriving DecidableEq, Repr

/-- Trier, digests and tests (chapter 15). -/
structure Trier where
  /-- Trier records in use: half·64 + record (R404). Reset: empty. -/
  records : SMap TrierRecord
  /-- Results retained for sampling in this step: vat·128 + lane (R404). Reset: empty. -/
  results : SMap TrierRecord
  /-- Rotation of each unit: last vat sampled (R403). Reset: empty. -/
  rotation : SMap Nat
  /-- Suspect columns: physical·2048 + column to the step they were marked (R408, R409). Reset: empty. -/
  suspects : SMap Nat
  /-- Transients: physical·2048 + column to their steps, latest first (R409). Reset: empty. -/
  transients : SMap (List Nat)
  /-- Core tests by physical core (R416). Reset: empty. -/
  cores : SMap CoreTest
  /-- Vats that failed their limits once (R415). Reset: empty. -/
  vatFails : List Nat
  /-- The active pack's bytes, none for the built-in pack (R419). Reset: none. -/
  pack : Option Bytes
  /-- The pack being received: PackId, Length, segments; TestPackState's state and reason (R420, R421). Reset: 0, empty. -/
  packId : Nat
  packLength : Nat
  segments : List (Nat × Bytes)
  packState : Nat
  packReason : Nat
  packNext : Option Bytes
  /-- Halves blocked for want of a spare (R418). Reset: empty. -/
  blocked : List Nat
  deriving DecidableEq, Repr

/-! ### Chapter 16: power and heat -/

/-- Power, droop and heat (chapter 16). -/
structure Power where
  /-- ModulePower and InputPower, mW (R424, R441). Reset: 0. -/
  module : Nat
  input : Nat
  /-- RailPower, 51 rails, mW; empty until they are first compared (R424, R441). Reset: empty. -/
  rails : List Nat
  /-- IdlePower, mW (R441). Reset: 520,000. -/
  idle : Nat
  /-- EstimateScale, 1.0 = 65,536 (R430, R441). Reset: 65,536. -/
  scale : Nat
  /-- RunEnergy, LastRunEnergy, EnergyTotal, µJ, and the energy of this step; the total as last saved (R440). Reset: 0. -/
  run : Nat
  lastRun : Nat
  total : Nat
  step : Nat
  saved : Nat
  /-- JunctionTemp in 0.1 °C and SensorState, die, half, sensor (R441). Reset: empty, 0. -/
  temps : SMap Int
  sensors : SMap Nat
  /-- Milliseconds a sensor has been off its model, or back in range (R434); override expiries (R435); model values. -/
  offModel : SMap Nat
  backIn : SMap Nat
  overrides : SMap Nat
  model : SMap Int
  /-- InletTemp, 0.1 °C (R441), and whether the inlet reads high (R517). Reset: 0, false. -/
  inlet : Int
  inletHigh : Bool
  /-- ThrottleStage of a half; unlisted 0 (R436). Reset: empty. -/
  stage : SMap Nat
  /-- Tripped dies, with the time of the trip in ms (R437, R438). Reset: empty. -/
  tripped : SMap Nat
  /-- Dies whose power is being cycled (R438). Reset: empty. -/
  cycling : List Nat
  /-- PowerMonitorFault standing and agreeing comparisons since (R424). Reset: false, 0. -/
  monitorFault : Bool
  agreeing : Nat
  /-- Milliseconds at floor above cap, and whether admission is refused for it (R427). Reset: 0, false. -/
  floorTime : Nat
  capRefusal : Bool
  /-- Core clocks of the halves in MHz, unlisted 2,000 (R236), and 1,700 for each once power is up (R480); moves for the next boundary
  (R426). Reset: empty, 2,000 each. -/
  clocks : SMap Nat
  clockMoves : SMap Int
  /-- Stretched periods in 0.1 ps by half, while a droop lasts (R431). Reset: empty. -/
  droop : SMap Nat
  /-- Milliseconds without an active lane and the draw summed over them (R422). Reset: 0. -/
  idleMs : Nat
  idleSum : Nat
  /-- Milliseconds since power-up, counted by the cap loop (R426). Reset: 0. -/
  uptime : Nat
  deriving DecidableEq, Repr

/-! ### Chapter 17: clocks -/

/-- Clocks and crossings (chapter 17). -/
structure Clocks where
  /-- ClockSource of a die: 0 crystal, 1 oscillator in holdover, 2 oscillator, the third of R455; unlisted 0.
  Reset: empty. -/
  source : SMap Nat
  /-- OscTrim moves since the test record, in 0.05 ppm steps (R442). Reset: empty. -/
  oscMoves : SMap Int
  /-- Milliseconds of uptime at the switch to the oscillator (R446). Reset: empty. -/
  switchedAt : SMap Nat
  /-- CrystalDeviation, ppb (R455). Reset: 0. -/
  deviation : Int
  /-- PllCorrection of a die, ppb (R448). Reset: empty, 0. -/
  correction : SMap Int
  /-- Frozen root PLL loops (R443). Reset: empty. -/
  frozen : List Nat
  /-- Dies whose last window was flagged, and flags received: die·8 + reporter (R444). Reset: empty. -/
  flagged : List Nat
  flagsSeen : List Nat
  /-- Dies with OscillatorFault standing (R445). Reset: empty. -/
  oscFault : List Nat
  /-- Die with the latest HalfClockState: 0 running, 1 divided, 2 stopped, 3 locking; unlisted 0 (R455). Reset: empty. -/
  halfState : SMap Nat
  /-- Isolated crossings: seams 8·die + k, bridges 64 + n, others 128 + number (R452). Reset: empty. -/
  isolated : List Nat
  deriving DecidableEq, Repr

/-! ### Chapters 19 and 20: start-up and pins -/

/-- An image in a boot partition slot (R484, R497). -/
structure BootImage where
  /-- 1 valid, 2 invalid, 3 writing. -/
  state : Nat
  bytes : Bytes
  deriving DecidableEq, Repr

/-- An entry of BootLog (R497). -/
structure BootEntry where
  die : Nat
  image : Nat
  result : Nat
  release : Nat
  seconds : Nat
  deriving DecidableEq, Repr

/-- Start-up, firmware and the header's pins (chapters 19 and 20). -/
structure Boot where
  /-- BootState of a die; unlisted 0, off (R497). Reset: empty. -/
  state : SMap Nat
  /-- Boot partition slots: 2·die + slot, A 0, B 1; unlisted empty (R332). Reset: empty, DESIGN CHOICE. -/
  images : SMap BootImage
  /-- Preferred slot of a die; unlisted A (R484). Reset: empty. -/
  preferred : SMap Nat
  /-- JoinWait in the boot control block, s (R484, R497). Reset: 10. -/
  joinWait : Nat
  /-- Slot the firmware of a die runs from (R497). Reset: empty. -/
  running : SMap Nat
  /-- Attempts made, and consecutive failures, of a die (R485). Reset: empty. -/
  attempts : SMap Nat
  failures : SMap Nat
  /-- Dies whose test record has no valid copy (R483) or whose ROM finds no core (R484). Reset: empty. -/
  badRecords : List Nat
  noStarter : List Nat
  /-- BootLog, newest last, at most 64 (R497). Reset: empty. -/
  log : List BootEntry
  /-- CoordinatorDie and DeputyDie (R488). Reset: 0xFF until the choice, DESIGN CHOICE (Set at start-up). -/
  coordinator : Nat
  deputy : Nat
  /-- The settings as last mirrored to the deputy's working area (R489). Reset: empty. -/
  mirror : SavedConfig
  /-- FirmwareLoadRequest's Length, segments held and FirmwareLoadState (R487). Reset: 0, empty. -/
  loadLength : Nat
  segments : List (Nat × Bytes)
  loadState : Nat
  loadReason : Nat
  /-- HandoverStep in effect, HandoverState and its reason (R492, R493). Reset: 0. -/
  handoverStep : Nat
  handoverState : Nat
  handoverReason : Nat
  /-- The step a switched handover began, and the slot it came from (R494). Reset: none. -/
  switchedAt : Option Nat
  /-- Dies rejoining: firmware runs, vats being restored (R495). Reset: empty. -/
  rejoining : List Nat
  /-- Is power applied and are the carrier rails within limits? (R480, R481) Reset: true and false. -/
  inputGood : Bool
  railsGood : Bool
  /-- MOD_RESET_N low (R481). Reset: false. -/
  resetLow : Bool
  /-- Is the input stopped by its monitor? (R502) Reset: false. -/
  stopped : Bool
  /-- PWR_GOOD (R480, R506). Reset: false. -/
  pwrGood : Bool
  /-- ALERT_N driven low by a starter of these dies (R485). Reset: empty. -/
  starterAlert : List Nat
  deriving DecidableEq, Repr

/-- The module: everything the manual gives it. -/
structure S8 where
  mem : Mem
  dict : Dict
  ports : Ports
  serve : Serving
  run : Run
  vats : Vats
  turn : Turning
  cores : Cores
  fab : Fabric
  attn : Attention
  cellar : Cellar
  wheels : Wheels
  cultures : Cultures
  ripen : Ripening
  trier : Trier
  power : Power
  clock : Clocks
  boot : Boot
  /-- The model's own count of free values drawn (a value the manual leaves open is `Config.freeValue` of it). -/
  free : Nat
  deriving DecidableEq, Repr

/-- The state of the block: the module and the commands that wait, first in first out. -/
structure State where
  chip : S8
  /-- The commands that wait, first in first out. Reset: empty. -/
  pending : List Instr
  deriving DecidableEq, Repr

/-- Why a step stops at a fault. -/
inductive Fault where
  /-- A limit that the manual says the S8 relies on and does not check is broken; R3 leaves the behaviour undefined.
  Raised by HALF_CLOCK_CONTROL for a ratio beyond R450, by RUN_START_STEP for a step earlier than R210 allows, by
  WHEEL_DRAIN_STEP and RIPEN_PUBLISH_STEP for a step that breaks R371 and R392.
  Safe: the model stops where the manual says nothing of what the hardware does. -/
  | undefinedByR3 (rule : Nat)
  deriving DecidableEq, Repr

/-- Why a command is refused. -/
inductive Refusal where
  /-- A command whose meaning the model does not give yet. Safe: the run stops. -/
  | notModelled (mnemonic : String)
  /-- The command's operands cannot arise on the hardware (a frame that is not 256 bytes, a flit that is not 64 bytes):
  `WellFormed` is false of it. Raised by every meaning. Safe: no hardware event corresponds to the command. -/
  | illFormed
  deriving DecidableEq, Repr

/-! ### Reset -/

/-- A port after reset. -/
def PortState.reset : PortState :=
  { lastGood := none, records := [], answers := [], segments := [], tokens := [], records07 := [], events := [],
    upstream := [] }

/-- The dictionary after reset (R461). -/
def Dict.reset : Dict :=
  { settings := [], blobs := [], pending := [], counts := [], flags := [], masked := [], queue := [], dropped := false,
    saved := none, configState := 0, transfers := [], nextId := 1, logged := [] }

/-- The ports after reset: port A holds ownership (R486). -/
def Ports.reset : Ports :=
  { a := PortState.reset, b := PortState.reset, owner := .a, releaseAsked := false, movedAt := none, cycle := 0, kept := [] }

/-- Serving after reset: every slot FREE at generation 1 (R315). -/
def Serving.reset : Serving := { slots := [], generations := [], releases := [], finished := [], completed := [], commitStep := 0 }

/-- Runs after reset: none loaded; no die is in service before its firmware runs. -/
def Run.reset : Run :=
  { buffers := [], loadBuffer := 0, digestList := [], moduleIndex := none, running := none, base := none, degraded := [],
    degradedDie := 0xFF, switchTo := none, oldSheet := none, step := 0, origin := 0, lastTicks := 0, maxTicks := 0, release := none,
    dones := [], halfDone := [], overrun := [], announced := [], farLost := [], lostChildren := [], sentDone := false, closed := [], ownClosed := [], closing := [], belowOverrun := false, losing := [],
    lostDies := [0, 1, 2, 3, 4, 5, 6, 7], active := [], carrying := [], ripenActive := [], stamps := [], lanePlace := [],
    tasksEnded := [], transfersSent := [], transfersArrived := [], atomicUntil := [], workTick := [], windowSteps := 0,
    windowEnergy := 0, mismatches := [] }

/-- Memory after reset: cleared (R481). -/
def Mem.reset : Mem :=
  { bytes := [], bad := [], hits := [], rowsDue := [], sparesUsed := [], framesDue := [], framesGone := [], blocksDue := [],
    last := { performed := true, data := [], accessFault := false } }

/-- Vats after reset. -/
def Vats.reset : Vats :=
  { map := [], unbacked := [], freeing := [], unitsRetired := [], unitsPoisoned := [], gainStep := [],
    posted := [], postedNext := [], postedLater := [], granted := [], patched := [], windows := [], ahead := [], fetched := [], flights := [],
    slotsDone := [], firsts := [], waiting := [], releasing := [], decided := [], holds := [], sets := [], operands := [],
    outgoing := [], delivered := [], carried := [], savedNow := [], readsServed := [], probeNext := [], probeUnread := [], probeVats := [], sumHits := [],
    sumPours := [], sumSquares := [], faultTag := [] }

/-- Turning after reset. -/
def Turning.reset : Turning :=
  { quality := [], calibrations := [], staged := [], deferred := [], oldRows := [], usedPairs := [], columnMaps := [], localisations := [], absorbing := [],
    moving := [], rewrites := [], status := [], requested := [], programming := [], measured := [], slotsUsed := [], trierSlots := [],
    rowWrites := [], savedCycles := [], savedWrites := [], converting := none, measResult := 0, conversions := 0, trims := [], trimMoves := [], refFault := false }

/-- Cores after reset: registers zero, the core map the identity. -/
def Cores.reset : Cores :=
  { x := [], v := [], f := [], csr := [], traps := [], waiting := [], tagStalls := [], xferStalls := [], transfers := [], taskStatus := [],
    map := [], unbacked := [], states := [], moves := [], moveStatus := [], stalls := [], agents := [], starved := [],
    firmwareRan := [] }

/-- Fabric after reset: every lane is to train. -/
def Fabric.reset : Fabric :=
  { lanes := [], laneChanges := [], unbacked := [], trunksLost := [], arriving := [], routers := [], bridgesFailed := [], groupsUsed := [], groupDue := [],
    offset := 0, offsetSum := 0, aligned := false, tickSet := false, isolated := false }

/-- Attention after reset. -/
def Attention.reset : Attention :=
  { partials := [], walks := [], publishing := [], framesRead := [], namedFrames := [], namedBlocks := [], heldFrames := [],
    heldBlocks := [], mismatch := (0, 0, 0),
    blocks := 131072, retired := [] }

/-- The cellar of a module as delivered: nothing stored. -/
def Cellar.reset : Cellar :=
  { index := [], nextStripe := 0, seconds := 0, savedSeconds := 0, extendStatus := 0, restorePages := 0, restores := [],
    parkedRestores := [], narrow := [], lostPages := [], spareUsed := [], written := 0, days := [], golden := [], answers := [], images := [],
    parked := [] }

/-- Wheels after reset: none held. -/
def Wheels.reset : Wheels := { table := [], manifest := [], placement := [], unloaded := [], content := [] }

/-- Cultures after reset: none held. -/
def Cultures.reset : Cultures := { table := [], places := [], freeing := [] }

/-- Ripening after reset: every job idle. -/
def Ripening.reset : Ripening := { jobs := [], store := [], passes := [] }

/-- Trier and tests after reset: the built-in pack is active. -/
def Trier.reset : Trier :=
  { records := [], results := [], rotation := [], suspects := [], transients := [], cores := [], vatFails := [],
    pack := none, packId := 0, packLength := 0, segments := [], packState := 0, packReason := 0, packNext := none,
    blocked := [] }

/-- Power after reset (R441). -/
def Power.reset : Power :=
  { module := 0, input := 0, rails := [], idle := 520000, scale := 65536, run := 0, lastRun := 0, total := 0,
    step := 0, saved := 0, temps := [], sensors := [], offModel := [], backIn := [], overrides := [], model := [],
    inlet := 0, inletHigh := false, stage := [], tripped := [], cycling := [], monitorFault := false, agreeing := 0,
    floorTime := 0, capRefusal := false, clocks := [], clockMoves := [], droop := [], idleMs := 0, idleSum := 0, uptime := 0 }

/-- Clocks after reset: every die on the crystal (R455). -/
def Clocks.reset : Clocks :=
  { source := [], oscMoves := [], switchedAt := [], deviation := 0, correction := [], frozen := [], flagged := [],
    flagsSeen := [], oscFault := [], halfState := [], isolated := [] }

/-- Start-up before the power-up sequence: every die off (R480, R497). -/
def Boot.reset : Boot :=
  { state := [], images := [], preferred := [], joinWait := 10, running := [], attempts := [], failures := [],
    badRecords := [], noStarter := [], log := [], coordinator := 0xFF, deputy := 0xFF, mirror := { values := [], blobs := [] },
    loadLength := 0, segments := [], loadState := 0,
    loadReason := 0, handoverStep := 0, handoverState := 0, handoverReason := 0, switchedAt := none, rejoining := [],
    inputGood := true, railsGood := false, resetLow := false, stopped := false, pwrGood := false, starterAlert := [] }

/-- The module right after reset. -/
def S8.reset : S8 :=
  { mem := Mem.reset, dict := Dict.reset, ports := Ports.reset, serve := Serving.reset, run := Run.reset,
    vats := Vats.reset, turn := Turning.reset, cores := Cores.reset, fab := Fabric.reset, attn := Attention.reset,
    cellar := Cellar.reset, wheels := Wheels.reset, cultures := Cultures.reset, ripen := Ripening.reset,
    trier := Trier.reset, power := Power.reset, clock := Clocks.reset, boot := Boot.reset, free := 0 }

/-- The machine right after reset: the module's reset state and no command waiting. -/
def State.reset : State := { chip := S8.reset, pending := [] }

end Sys2Proof.Machine
end

