-- ==== Sys2Proof/Machine/Catalogue.lean ====
section
/-! DEFINITION. The object dictionary's catalogue: each object's number (index·256 + subindex), type, access kind,
default and range, from the object tables of every chapter. Objects at 0x3n00 and 0x4n00 are listed once, for die 0;
die n's are 0x10000·n higher. A length is given for a DOMAIN of one required size, 0 for one of varying size. -/

namespace Sys2Proof.Machine

/-- Object types (R457). -/
inductive ObjType where
  | bool | u8 | u16 | u32 | u64 | i16 | i32 | i64 | f32 | str | domain
  deriving DecidableEq, Repr

/-- The type's code (R457). -/
def ObjType.code (t : ObjType) : Nat :=
  match t with
  | .bool => 1 | .u8 => 2 | .u16 => 3 | .u32 => 4 | .u64 => 5 | .i16 => 11 | .i32 => 6 | .i64 => 7 | .f32 => 8
  | .str => 9 | .domain => 10

/-- The type's size in bytes, 0 where it varies (R457). -/
def ObjType.size (t : ObjType) : Nat :=
  match t with
  | .bool => 1 | .u8 => 1 | .u16 => 2 | .u32 => 4 | .u64 => 8 | .i16 => 2 | .i32 => 4 | .i64 => 8 | .f32 => 4
  | .str => 0 | .domain => 0

/-- Access kinds (R458). -/
inductive AccessKind where
  | const | ro | rw | wo | rwb
  deriving DecidableEq, Repr

/-- One object of the catalogue. -/
structure ObjInfo where
  obj : Nat
  type : ObjType
  access : AccessKind
  default : Nat
  lo : Nat
  hi : Nat
  length : Nat
  /-- Is it an event counter: a U32, or a DOMAIN of U32 elements, whose name ends in Count (R471)? -/
  counter : Bool
  deriving DecidableEq, Repr

/-! ### Object numbers -/

/-- FallbackZThreshold (R58). -/
def Obj.fallbackZThreshold : Nat := 0x200010
/-- FallbackSThreshold (R58). -/
def Obj.fallbackSThreshold : Nat := 0x200011
/-- ZeroedBlockCount (R58). -/
def Obj.zeroedBlockCount : Nat := 0x124001
/-- SaturatedCodeCount (R58). -/
def Obj.saturatedCodeCount : Nat := 0x124002
/-- ClampCount (R58). -/
def Obj.clampCount : Nat := 0x124003
/-- PoisonBlockCount (R58). -/
def Obj.poisonBlockCount : Nat := 0x124004
/-- PourUnitSatCount (R58). -/
def Obj.pourUnitSatCount : Nat := 0x124005
/-- AccSatCount (R58). -/
def Obj.accSatCount : Nat := 0x124006
/-- L64SatCount (R58). -/
def Obj.l64SatCount : Nat := 0x124007
/-- HighPourCount (R90). -/
def Obj.highPourCount : Nat := 0x300001
/-- LowPourCount (R90). -/
def Obj.lowPourCount : Nat := 0x300002
/-- ReversePourCount (R90). -/
def Obj.reversePourCount : Nat := 0x300003
/-- DoublePourCount (R90). -/
def Obj.doublePourCount : Nat := 0x300004
/-- MaintenancePourCount (R90). -/
def Obj.maintenancePourCount : Nat := 0x300005
/-- CulturePourCount (R90). -/
def Obj.culturePourCount : Nat := 0x300006
/-- ConverterSatCount (R90). -/
def Obj.converterSatCount : Nat := 0x300010
/-- RefSatCount (R90). -/
def Obj.refSatCount : Nat := 0x300011
/-- PourFaultCount (R90). -/
def Obj.pourFaultCount : Nat := 0x300012
/-- AccumulateOrderFaultCount (R90). -/
def Obj.accumulateOrderFaultCount : Nat := 0x300013
/-- LastPourFaultTag (R90). -/
def Obj.lastPourFaultTag : Nat := 0x300014
/-- IntegratorGain (R90). -/
def Obj.integratorGain : Nat := 0x300020
/-- ColumnMap (R90). -/
def Obj.columnMap : Nat := 0x300021
/-- RindMode (R121). -/
def Obj.rindMode : Nat := 0x200012
/-- RefMinDrive (R121). -/
def Obj.refMinDrive : Nat := 0x200013
/-- RindResidualReserve (R121). -/
def Obj.rindResidualReserve : Nat := 0x200014
/-- RindPoolFree (R121). -/
def Obj.rindPoolFree : Nat := 0x300030
/-- RindFullCount (R121). -/
def Obj.rindFullCount : Nat := 0x300031
/-- ResidualDroppedCount (R121). -/
def Obj.residualDroppedCount : Nat := 0x300032
/-- HeldGainUseCount (R121). -/
def Obj.heldGainUseCount : Nat := 0x300033
/-- StagingRejectCount (R121). -/
def Obj.stagingRejectCount : Nat := 0x300034
/-- ProbeOverrunCount (R121). -/
def Obj.probeOverrunCount : Nat := 0x300035
/-- RindUnitState (R121). -/
def Obj.rindUnitState : Nat := 0x300036
/-- TableGeneration (R121). -/
def Obj.tableGeneration : Nat := 0x300037
/-- IntegratorNominalGain (R121). -/
def Obj.integratorNominalGain : Nat := 0x300038
/-- UnrepairedCount (R144). -/
def Obj.unrepairedCount : Nat := 0x124008
/-- ContributionLimitCount (R144). -/
def Obj.contributionLimitCount : Nat := 0x124009
/-- NonFiniteCombineCount (R144). -/
def Obj.nonFiniteCombineCount : Nat := 0x12400A
/-- FallbackTripCount (R144). -/
def Obj.fallbackTripCount : Nat := 0x300040
/-- LowPourGrantCount (R144). -/
def Obj.lowPourGrantCount : Nat := 0x300041
/-- ReserveIdleCount (R144). -/
def Obj.reserveIdleCount : Nat := 0x300042
/-- CarrySaveCount (R144). -/
def Obj.carrySaveCount : Nat := 0x300043
/-- CarryRestoreCount (R144). -/
def Obj.carryRestoreCount : Nat := 0x300044
/-- CalibrationInterval (R178). -/
def Obj.calibrationInterval : Nat := 0x200020
/-- CalTempDelta (R178). -/
def Obj.calTempDelta : Nat := 0x200021
/-- TurningSlots (R178). -/
def Obj.turningSlots : Nat := 0x200022
/-- CalibrationRetryLimit (R178). -/
def Obj.calibrationRetryLimit : Nat := 0x200023
/-- CellRepairPolicy (R178). -/
def Obj.cellRepairPolicy : Nat := 0x200024
/-- ChecksumThresholdSigma (R178). -/
def Obj.checksumThresholdSigma : Nat := 0x200025
/-- ChecksumHitLimit (R178). -/
def Obj.checksumHitLimit : Nat := 0x200026
/-- ChecksumWindow (R178). -/
def Obj.checksumWindow : Nat := 0x200027
/-- ColumnCellLimit (R178). -/
def Obj.columnCellLimit : Nat := 0x200028
/-- RefreshMargin (R178). -/
def Obj.refreshMargin : Nat := 0x200029
/-- RetentionRefreshAge (R178). -/
def Obj.retentionRefreshAge : Nat := 0x20002A
/-- EnduranceLimit (R178). -/
def Obj.enduranceLimit : Nat := 0x20002B
/-- CultureEnduranceLimit (R178). -/
def Obj.cultureEnduranceLimit : Nat := 0x20002C
/-- RewriteConcurrency (R178). -/
def Obj.rewriteConcurrency : Nat := 0x20002D
/-- ProgrammingPowerBudget (R178). -/
def Obj.programmingPowerBudget : Nat := 0x20002E
/-- AutoRewrite (R178). -/
def Obj.autoRewrite : Nat := 0x20002F
/-- MeasChannel (R178). -/
def Obj.measChannel : Nat := 0x230001
/-- MeasStart (R178). -/
def Obj.measStart : Nat := 0x230002
/-- MeasResult (R178). -/
def Obj.measResult : Nat := 0x230003
/-- MeasLowPower (R178). -/
def Obj.measLowPower : Nat := 0x230004
/-- MeasFirmwareHold (R178). -/
def Obj.measFirmwareHold : Nat := 0x230005
/-- MeasStartIgnoredCount (R178). -/
def Obj.measStartIgnoredCount : Nat := 0x230006
/-- ReferenceCheckInterval (R178). -/
def Obj.referenceCheckInterval : Nat := 0x230007
/-- MeasMuxBank (R178). -/
def Obj.measMuxBank : Nat := 0x230008
/-- MeasConvSelect (R178). -/
def Obj.measConvSelect : Nat := 0x230009
/-- CalRejectCount (R178). -/
def Obj.calRejectCount : Nat := 0x124010
/-- CalUnstableCount (R178). -/
def Obj.calUnstableCount : Nat := 0x124011
/-- ChecksumMismatchCount (R178). -/
def Obj.checksumMismatchCount : Nat := 0x124012
/-- ChecksumTransientCount (R178). -/
def Obj.checksumTransientCount : Nat := 0x124013
/-- AbsorbCount (R178). -/
def Obj.absorbCount : Nat := 0x124014
/-- AbsorbOutOfRangeCount (R178). -/
def Obj.absorbOutOfRangeCount : Nat := 0x124015
/-- ColumnRemapCount (R178). -/
def Obj.columnRemapCount : Nat := 0x124016
/-- RewriteCount (R178). -/
def Obj.rewriteCount : Nat := 0x124017
/-- RewriteFailCount (R178). -/
def Obj.rewriteFailCount : Nat := 0x124018
/-- RewriteBlockedCount (R178). -/
def Obj.rewriteBlockedCount : Nat := 0x124019
/-- RefInFaultCount (R178). -/
def Obj.refInFaultCount : Nat := 0x12401A
/-- VatQuality (R178). -/
def Obj.vatQuality : Nat := 0x300050
/-- RewriteRequest (R178). -/
def Obj.rewriteRequest : Nat := 0x300051
/-- RewriteStatus (R178). -/
def Obj.rewriteStatus : Nat := 0x300052
/-- ChecksumLimits (R178). -/
def Obj.checksumLimits : Nat := 0x300053
/-- ReferenceTrim (R178). -/
def Obj.referenceTrim : Nat := 0x300054
/-- RunId (R215). -/
def Obj.runId : Nat := 0x500001
/-- RunState (R215). -/
def Obj.runState : Nat := 0x500002
/-- ActiveDegradedDie (R215). -/
def Obj.activeDegradedDie : Nat := 0x500003
/-- CurrentStep (R215). -/
def Obj.currentStep : Nat := 0x500004
/-- RunStartStep (R215). -/
def Obj.runStartStep : Nat := 0x500005
/-- RunLoadRequest (R215). -/
def Obj.runLoadRequest : Nat := 0x500006
/-- RunLoadStatus (R215). -/
def Obj.runLoadStatus : Nat := 0x500007
/-- RunDigestList (R215). -/
def Obj.runDigestList : Nat := 0x500008
/-- LastStepTicks (R215). -/
def Obj.lastStepTicks : Nat := 0x500009
/-- MaxStepTicks (R215). -/
def Obj.maxStepTicks : Nat := 0x50000A
/-- StepOverrunCount (R215). -/
def Obj.stepOverrunCount : Nat := 0x50000B
/-- Turnaround (R215). -/
def Obj.turnaround : Nat := 0x50000C
/-- StrideI (R215). -/
def Obj.strideI : Nat := 0x50000D
/-- StrideS (R215). -/
def Obj.strideS : Nat := 0x50000E
/-- ExpertOverflowCount (R215). -/
def Obj.expertOverflowCount : Nat := 0x50000F
/-- ExpertDropCount (R215). -/
def Obj.expertDropCount : Nat := 0x500010
/-- LaneActive (R215). -/
def Obj.laneActive : Nat := 0x500011
/-- TrackClosed (R215). -/
def Obj.trackClosed : Nat := 0x500012
/-- EstimatedStepEnergy (R215). -/
def Obj.estimatedStepEnergy : Nat := 0x500013
/-- CoreMoveRowsPerStep (R236). -/
def Obj.coreMoveRowsPerStep : Nat := 0x480001
/-- IllegalCustomCount (R236). -/
def Obj.illegalCustomCount : Nat := 0x480002
/-- XferFaultCount (R236). -/
def Obj.xferFaultCount : Nat := 0x480003
/-- ScratchpadCorrectedCount (R236). -/
def Obj.scratchpadCorrectedCount : Nat := 0x480004
/-- ScratchpadUncorrectableCount (R236). -/
def Obj.scratchpadUncorrectableCount : Nat := 0x480005
/-- TaskOverrunCount (R236). -/
def Obj.taskOverrunCount : Nat := 0x480006
/-- AgentStarvedCount (R236). -/
def Obj.agentStarvedCount : Nat := 0x480007
/-- CoreMap (R236). -/
def Obj.coreMap : Nat := 0x400001
/-- CoreState (R236). -/
def Obj.coreState : Nat := 0x400002
/-- CoreMoveRequest (R236). -/
def Obj.coreMoveRequest : Nat := 0x400003
/-- CoreMoveStatus (R236). -/
def Obj.coreMoveStatus : Nat := 0x400004
/-- CoreStallCycles (R236). -/
def Obj.coreStallCycles : Nat := 0x400005
/-- HalfCoreClock (R236). -/
def Obj.halfCoreClock : Nat := 0x400006
/-- AgentCore (R236). -/
def Obj.agentCore : Nat := 0x400007
/-- LaneState (R267). -/
def Obj.laneState : Nat := 0x800001
/-- LaneLatency (R267). -/
def Obj.laneLatency : Nat := 0x800002
/-- TrunkPeer (R267). -/
def Obj.trunkPeer : Nat := 0x800003
/-- LaneErrorLimit (R267). -/
def Obj.laneErrorLimit : Nat := 0x800004
/-- TickParentLane (R267). -/
def Obj.tickParentLane : Nat := 0x800005
/-- TickOffset (R267). -/
def Obj.tickOffset : Nat := 0x800006
/-- RouterState (R267). -/
def Obj.routerState : Nat := 0x800007
/-- BridgeState (R267). -/
def Obj.bridgeState : Nat := 0x800008
/-- FabricCorrectedCount (R267). -/
def Obj.fabricCorrectedCount : Nat := 0x800010
/-- FabricUncorrectableCount (R267). -/
def Obj.fabricUncorrectableCount : Nat := 0x800011
/-- FlitCorrectedCount (R267). -/
def Obj.flitCorrectedCount : Nat := 0x800012
/-- FlitReplayCount (R267). -/
def Obj.flitReplayCount : Nat := 0x800013
/-- ControlFlitLostCount (R267). -/
def Obj.controlFlitLostCount : Nat := 0x800014
/-- LaneFailCount (R267). -/
def Obj.laneFailCount : Nat := 0x800015
/-- TrunkMiswireCount (R267). -/
def Obj.trunkMiswireCount : Nat := 0x800016
/-- BridgeFaultCount (R267). -/
def Obj.bridgeFaultCount : Nat := 0x800017
/-- TickAlignFaultCount (R267). -/
def Obj.tickAlignFaultCount : Nat := 0x800018
/-- BarrierChildLostCount (R267). -/
def Obj.barrierChildLostCount : Nat := 0x800019
/-- BarrierIsolatedCount (R267). -/
def Obj.barrierIsolatedCount : Nat := 0x80001A
/-- PageTableBase (R293). -/
def Obj.pageTableBase : Nat := 0x640001
/-- PageTableBlocks (R293). -/
def Obj.pageTableBlocks : Nat := 0x640002
/-- RootTableBase (R293). -/
def Obj.rootTableBase : Nat := 0x640003
/-- AttentionLayersHeld (R293). -/
def Obj.attentionLayersHeld : Nat := 0x640004
/-- FramesAhead (R293). -/
def Obj.framesAhead : Nat := 0x640005
/-- HotPoolHeadroom (R293). -/
def Obj.hotPoolHeadroom : Nat := 0x640006
/-- HotPoolFree (R293). -/
def Obj.hotPoolFree : Nat := 0x640007
/-- HotPoolCommitted (R293). -/
def Obj.hotPoolCommitted : Nat := 0x640008
/-- EmptyAttentionCount (R293). -/
def Obj.emptyAttentionCount : Nat := 0x640009
/-- PageMismatchCount (R293). -/
def Obj.pageMismatchCount : Nat := 0x64000A
/-- LastPageMismatch (R293). -/
def Obj.lastPageMismatch : Nat := 0x64000B
/-- PublishReplacedCount (R293). -/
def Obj.publishReplacedCount : Nat := 0x64000C
/-- HotPoolShortCount (R293). -/
def Obj.hotPoolShortCount : Nat := 0x64000D
/-- AttentionUncorrectableCount (R293). -/
def Obj.attentionUncorrectableCount : Nat := 0x64000E
/-- EngineFramesRead (R293). -/
def Obj.engineFramesRead : Nat := 0x64000F
/-- StripeList (R293). -/
def Obj.stripeList : Nat := 0x640010
/-- OwnerPort (R328). -/
def Obj.ownerPort : Nat := 0x110001
/-- OwnerRelease (R328). -/
def Obj.ownerRelease : Nat := 0x110002
/-- PortLive (R328). -/
def Obj.portLive : Nat := 0x110003
/-- OwnerChangeCount (R328). -/
def Obj.ownerChangeCount : Nat := 0x110004
/-- ControlFrameLostCount (R328). -/
def Obj.controlFrameLostCount : Nat := 0x110005
/-- RequestSlotErrorCount (R328). -/
def Obj.requestSlotErrorCount : Nat := 0x110006
/-- CurrentCycle (R328). -/
def Obj.currentCycle : Nat := 0x110007
/-- SlotsFree (R328). -/
def Obj.slotsFree : Nat := 0x600001
/-- SlotState (R328). -/
def Obj.slotState : Nat := 0x600002
/-- AdmitLead (R328). -/
def Obj.admitLead : Nat := 0x600003
/-- FillI (R328). -/
def Obj.fillI : Nat := 0x600004
/-- FillS (R328). -/
def Obj.fillS : Nat := 0x600005
/-- BReserve (R328). -/
def Obj.bReserve : Nat := 0x600006
/-- BCompletionHours (R328). -/
def Obj.bCompletionHours : Nat := 0x600007
/-- RefusalCount (R328). -/
def Obj.refusalCount : Nat := 0x600008
/-- AdmitCount (R328). -/
def Obj.admitCount : Nat := 0x600009
/-- PromiseBrokenCount (R328). -/
def Obj.promiseBrokenCount : Nat := 0x60000A
/-- ParkCount (R328). -/
def Obj.parkCount : Nat := 0x60000B
/-- WheyTokenCount (R328). -/
def Obj.wheyTokenCount : Nat := 0x60000C
/-- PromptLateCount (R328). -/
def Obj.promptLateCount : Nat := 0x60000D
/-- BOutstanding (R328). -/
def Obj.bOutstanding : Nat := 0x60000E
/-- PromptIgnoredCount (R328). -/
def Obj.promptIgnoredCount : Nat := 0x60000F
/-- PauseTimeToLive (R350). -/
def Obj.pauseTimeToLive : Nat := 0x680001
/-- PauseKeyExtend (R350). -/
def Obj.pauseKeyExtend : Nat := 0x680002
/-- PauseKeyExtendStatus (R350). -/
def Obj.pauseKeyExtendStatus : Nat := 0x680003
/-- CellarSeconds (R350). -/
def Obj.cellarSeconds : Nat := 0x680004
/-- CellarForcedReserve (R350). -/
def Obj.cellarForcedReserve : Nat := 0x680005
/-- CellarRestoreShare (R350). -/
def Obj.cellarRestoreShare : Nat := 0x680006
/-- RestorePagesPerStep (R350). -/
def Obj.restorePagesPerStep : Nat := 0x680007
/-- ScrubInterval (R350). -/
def Obj.scrubInterval : Nat := 0x680008
/-- PauseEntriesFree (R350). -/
def Obj.pauseEntriesFree : Nat := 0x680009
/-- PauseBytesFree (R350). -/
def Obj.pauseBytesFree : Nat := 0x68000A
/-- FlashSpareLeft (R350). -/
def Obj.flashSpareLeft : Nat := 0x68000B
/-- CellarWrittenBytes (R350). -/
def Obj.cellarWrittenBytes : Nat := 0x68000C
/-- CellarCorrectedCount (R350). -/
def Obj.cellarCorrectedCount : Nat := 0x680010
/-- CellarRebuildCount (R350). -/
def Obj.cellarRebuildCount : Nat := 0x680011
/-- CellarDataLostCount (R350). -/
def Obj.cellarDataLostCount : Nat := 0x680012
/-- PauseExpiredCount (R350). -/
def Obj.pauseExpiredCount : Nat := 0x680013
/-- LogLostCount (R350). -/
def Obj.logLostCount : Nat := 0x680014
/-- CellarWearAheadCount (R350). -/
def Obj.cellarWearAheadCount : Nat := 0x680015
/-- CellarSpareLowCount (R350). -/
def Obj.cellarSpareLowCount : Nat := 0x680016
/-- PublisherKeys (R382). -/
def Obj.publisherKeys : Nat := 0x700001
/-- WheelManifest (R382). -/
def Obj.wheelManifest : Nat := 0x700002
/-- WheelPlacement (R382). -/
def Obj.wheelPlacement : Nat := 0x700003
/-- WheelSources (R382). -/
def Obj.wheelSources : Nat := 0x700004
/-- WheelLoadRequest (R382). -/
def Obj.wheelLoadRequest : Nat := 0x700005
/-- WheelTable (R382). -/
def Obj.wheelTable : Nat := 0x700006
/-- WheelUnload (R382). -/
def Obj.wheelUnload : Nat := 0x700007
/-- ShardBuffers (R382). -/
def Obj.shardBuffers : Nat := 0x700008
/-- LoadConcurrency (R382). -/
def Obj.loadConcurrency : Nat := 0x700009
/-- WheelDrainStep (R382). -/
def Obj.wheelDrainStep : Nat := 0x70000A
/-- ReplicaDigest (R382). -/
def Obj.replicaDigest : Nat := 0x70000B
/-- LaneWheelStamp (R382). -/
def Obj.laneWheelStamp : Nat := 0x70000C
/-- ShardCorruptCount (R382). -/
def Obj.shardCorruptCount : Nat := 0x700010
/-- ShardTimeoutCount (R382). -/
def Obj.shardTimeoutCount : Nat := 0x700011
/-- WheelLoadFailCount (R382). -/
def Obj.wheelLoadFailCount : Nat := 0x700012
/-- UnloadRefusedCount (R382). -/
def Obj.unloadRefusedCount : Nat := 0x700013
/-- CultureLoadRequest (R382). -/
def Obj.cultureLoadRequest : Nat := 0x700020
/-- CultureTable (R382). -/
def Obj.cultureTable : Nat := 0x700021
/-- CultureUnload (R382). -/
def Obj.cultureUnload : Nat := 0x700022
/-- CultureSpaceWaitCount (R382). -/
def Obj.cultureSpaceWaitCount : Nat := 0x700023
/-- CultureFollowCount (R382). -/
def Obj.cultureFollowCount : Nat := 0x700024
/-- CultureLoadFailCount (R382). -/
def Obj.cultureLoadFailCount : Nat := 0x700025
/-- LaneCulturePlace (R382). -/
def Obj.laneCulturePlace : Nat := 0x380001
/-- CulturePlaceState (R382). -/
def Obj.culturePlaceState : Nat := 0x380002
/-- RipenJobRequest (R396). -/
def Obj.ripenJobRequest : Nat := 0x780001
/-- RipenJobState (R396). -/
def Obj.ripenJobState : Nat := 0x780002
/-- RipenJobStop (R396). -/
def Obj.ripenJobStop : Nat := 0x780003
/-- RipenPublishStep (R396). -/
def Obj.ripenPublishStep : Nat := 0x780004
/-- RipenAreaMiB (R396). -/
def Obj.ripenAreaMiB : Nat := 0x780005
/-- RipenWearSlack (R396). -/
def Obj.ripenWearSlack : Nat := 0x780006
/-- RipenActive (R396). -/
def Obj.ripenActive : Nat := 0x780007
/-- RipenWearDeferCount (R396). -/
def Obj.ripenWearDeferCount : Nat := 0x780010
/-- RipenMasterFaultCount (R396). -/
def Obj.ripenMasterFaultCount : Nat := 0x780011
/-- RipenPartCount (R396). -/
def Obj.ripenPartCount : Nat := 0x780012
/-- TrierInterval (R421). -/
def Obj.trierInterval : Nat := 0x7C0001
/-- TrierToleranceSigma (R421). -/
def Obj.trierToleranceSigma : Nat := 0x7C0002
/-- TrierVerdictSteps (R421). -/
def Obj.trierVerdictSteps : Nat := 0x7C0003
/-- TrierColumnLimit (R421). -/
def Obj.trierColumnLimit : Nat := 0x7C0004
/-- TrierArea (R421). -/
def Obj.trierArea : Nat := 0x7C0005
/-- CoreTestInterval (R421). -/
def Obj.coreTestInterval : Nat := 0x7C0006
/-- VatTestInterval (R421). -/
def Obj.vatTestInterval : Nat := 0x7C0007
/-- RouterTestInterval (R421). -/
def Obj.routerTestInterval : Nat := 0x7C0008
/-- ReplicaDigestInterval (R421). -/
def Obj.replicaDigestInterval : Nat := 0x7C0009
/-- ReplicaDigestExpected (R421). -/
def Obj.replicaDigestExpected : Nat := 0x7C000A
/-- SramScrubInterval (R421). -/
def Obj.sramScrubInterval : Nat := 0x7C000B
/-- DramScrubInterval (R421). -/
def Obj.dramScrubInterval : Nat := 0x7C000C
/-- TestPackLoadRequest (R421). -/
def Obj.testPackLoadRequest : Nat := 0x7C000D
/-- TestPackState (R421). -/
def Obj.testPackState : Nat := 0x7C000E
/-- TestKeyDigest (R421). -/
def Obj.testKeyDigest : Nat := 0x7C000F
/-- CoreTestState (R421). -/
def Obj.coreTestState : Nat := 0x7C0010
/-- TrierSampleCount (R421). -/
def Obj.trierSampleCount : Nat := 0x7C0020
/-- TrierSkipCount (R421). -/
def Obj.trierSkipCount : Nat := 0x7C0021
/-- TrierDisagreeCount (R421). -/
def Obj.trierDisagreeCount : Nat := 0x7C0022
/-- TrierCoreRetiredCount (R421). -/
def Obj.trierCoreRetiredCount : Nat := 0x7C0023
/-- TrierUnresolvedCount (R421). -/
def Obj.trierUnresolvedCount : Nat := 0x7C0024
/-- TrierFaultCount (R421). -/
def Obj.trierFaultCount : Nat := 0x7C0025
/-- TrierTransientCount (R421). -/
def Obj.trierTransientCount : Nat := 0x7C0026
/-- ColumnSuspectCount (R421). -/
def Obj.columnSuspectCount : Nat := 0x7C0027
/-- TrierAbandonedCount (R421). -/
def Obj.trierAbandonedCount : Nat := 0x7C0028
/-- CoreTestFailCount (R421). -/
def Obj.coreTestFailCount : Nat := 0x7C0029
/-- TestOverdueCount (R421). -/
def Obj.testOverdueCount : Nat := 0x7C002A
/-- TestBlockedCount (R421). -/
def Obj.testBlockedCount : Nat := 0x7C002B
/-- VatTestFailCount (R421). -/
def Obj.vatTestFailCount : Nat := 0x7C002C
/-- RouterTestFailCount (R421). -/
def Obj.routerTestFailCount : Nat := 0x7C002D
/-- ReplicaMismatchCount (R421). -/
def Obj.replicaMismatchCount : Nat := 0x7C002E
/-- TableDigestMismatchCount (R421). -/
def Obj.tableDigestMismatchCount : Nat := 0x7C002F
/-- TestPackRefusedCount (R421). -/
def Obj.testPackRefusedCount : Nat := 0x7C0030
/-- SramCorrectedCount (R421). -/
def Obj.sramCorrectedCount : Nat := 0x7C0031
/-- SramUncorrectableCount (R421). -/
def Obj.sramUncorrectableCount : Nat := 0x7C0032
/-- DramCorrectedCount (R421). -/
def Obj.dramCorrectedCount : Nat := 0x7C0033
/-- DramUncorrectableCount (R421). -/
def Obj.dramUncorrectableCount : Nat := 0x7C0034
/-- SramRowRetiredCount (R421). -/
def Obj.sramRowRetiredCount : Nat := 0x7C0035
/-- DramRowRetiredCount (R421). -/
def Obj.dramRowRetiredCount : Nat := 0x7C0036
/-- PowerCap (R441). -/
def Obj.powerCap : Nat := 0x220001
/-- CapMargin (R441). -/
def Obj.capMargin : Nat := 0x220002
/-- ModulePower (R441). -/
def Obj.modulePower : Nat := 0x220003
/-- InputPower (R441). -/
def Obj.inputPower : Nat := 0x220004
/-- RailPower (R441). -/
def Obj.railPower : Nat := 0x220005
/-- IdlePower (R441). -/
def Obj.idlePower : Nat := 0x220006
/-- AdmissionPower (R441). -/
def Obj.admissionPower : Nat := 0x220007
/-- EstimateScale (R441). -/
def Obj.estimateScale : Nat := 0x220008
/-- RunEnergy (R441). -/
def Obj.runEnergy : Nat := 0x220009
/-- LastRunEnergy (R441). -/
def Obj.lastRunEnergy : Nat := 0x22000A
/-- EnergyTotal (R441). -/
def Obj.energyTotal : Nat := 0x22000B
/-- JunctionTemp (R441). -/
def Obj.junctionTemp : Nat := 0x22000C
/-- SensorState (R441). -/
def Obj.sensorState : Nat := 0x22000D
/-- InletTemp (R441). -/
def Obj.inletTemp : Nat := 0x22000E
/-- ThrottleStage (R441). -/
def Obj.throttleStage : Nat := 0x22000F
/-- DieTripState (R441). -/
def Obj.dieTripState : Nat := 0x220010
/-- DiePowerCycle (R441). -/
def Obj.diePowerCycle : Nat := 0x220011
/-- SensorOverride (R441). -/
def Obj.sensorOverride : Nat := 0x220012
/-- VoltageTable (R441). -/
def Obj.voltageTable : Nat := 0x220013
/-- PowerMonitorFaultCount (R441). -/
def Obj.powerMonitorFaultCount : Nat := 0x220020
/-- PowerCapExceededCount (R441). -/
def Obj.powerCapExceededCount : Nat := 0x220021
/-- EstimateMismatchCount (R441). -/
def Obj.estimateMismatchCount : Nat := 0x220022
/-- DroopCount (R441). -/
def Obj.droopCount : Nat := 0x220023
/-- DroopFaultCount (R441). -/
def Obj.droopFaultCount : Nat := 0x220024
/-- SensorFaultCount (R441). -/
def Obj.sensorFaultCount : Nat := 0x220025
/-- ThermalThrottleCount (R441). -/
def Obj.thermalThrottleCount : Nat := 0x220026
/-- ThermalCriticalCount (R441). -/
def Obj.thermalCriticalCount : Nat := 0x220027
/-- DieTripCount (R441). -/
def Obj.dieTripCount : Nat := 0x220028
/-- ClockSource (R455). -/
def Obj.clockSource : Nat := 0x210001
/-- OscTrim (R455). -/
def Obj.oscTrim : Nat := 0x210002
/-- CrystalDeviation (R455). -/
def Obj.crystalDeviation : Nat := 0x210003
/-- PllCorrection (R455). -/
def Obj.pllCorrection : Nat := 0x210004
/-- TickMasterDie (R455). -/
def Obj.tickMasterDie : Nat := 0x210005
/-- HalfClockControl (R455). -/
def Obj.halfClockControl : Nat := 0x210006
/-- HalfClockState (R455). -/
def Obj.halfClockState : Nat := 0x210007
/-- ClockSourceFailCount (R455). -/
def Obj.clockSourceFailCount : Nat := 0x210010
/-- OscillatorFaultCount (R455). -/
def Obj.oscillatorFaultCount : Nat := 0x210011
/-- SeamTimeoutCount (R455). -/
def Obj.seamTimeoutCount : Nat := 0x210012
/-- CrossingTimeoutCount (R455). -/
def Obj.crossingTimeoutCount : Nat := 0x210013
/-- HalfService (R455). -/
def Obj.halfService : Nat := 0x200030
/-- VendorName (R478). -/
def Obj.vendorName : Nat := 0x100001
/-- PartNumber (R478). -/
def Obj.partNumber : Nat := 0x100002
/-- SerialNumber (R478). -/
def Obj.serialNumber : Nat := 0x100003
/-- HardwareRevision (R478). -/
def Obj.hardwareRevision : Nat := 0x100004
/-- FirmwareRelease (R478). -/
def Obj.firmwareRelease : Nat := 0x100005
/-- IdentityRecord (R478). -/
def Obj.identityRecord : Nat := 0x100006
/-- DiesInService (R478). -/
def Obj.diesInService : Nat := 0x100007
/-- CoordinatorDie (R478). -/
def Obj.coordinatorDie : Nat := 0x100008
/-- EventClear (R478). -/
def Obj.eventClear : Nat := 0x120001
/-- EventMask (R478). -/
def Obj.eventMask : Nat := 0x120002
/-- PendingEvents (R478). -/
def Obj.pendingEvents : Nat := 0x120003
/-- PendingEventCount (R478). -/
def Obj.pendingEventCount : Nat := 0x120004
/-- NonMaskablePending (R478). -/
def Obj.nonMaskablePending : Nat := 0x120005
/-- EventQueueOverflowCount (R478). -/
def Obj.eventQueueOverflowCount : Nat := 0x120006
/-- RwbDiscardCount (R478). -/
def Obj.rwbDiscardCount : Nat := 0x120007
/-- DictTransferAbortCount (R478). -/
def Obj.dictTransferAbortCount : Nat := 0x120008
/-- EventMaskList (R478). -/
def Obj.eventMaskList : Nat := 0x120009
/-- ConfigSave (R478). -/
def Obj.configSave : Nat := 0x200001
/-- ConfigRestoreDefaults (R478). -/
def Obj.configRestoreDefaults : Nat := 0x200002
/-- ConfigState (R478). -/
def Obj.configState : Nat := 0x200003
/-- FirmwareKeyDigest (R497). -/
def Obj.firmwareKeyDigest : Nat := 0x900001
/-- ImageState (R497). -/
def Obj.imageState : Nat := 0x900002
/-- PreferredImage (R497). -/
def Obj.preferredImage : Nat := 0x900003
/-- BootState (R497). -/
def Obj.bootState : Nat := 0x900004
/-- FirmwareLoadRequest (R497). -/
def Obj.firmwareLoadRequest : Nat := 0x900005
/-- FirmwareLoadState (R497). -/
def Obj.firmwareLoadState : Nat := 0x900006
/-- HandoverStep (R497). -/
def Obj.handoverStep : Nat := 0x900007
/-- HandoverState (R497). -/
def Obj.handoverState : Nat := 0x900008
/-- HandoverConfirmSteps (R497). -/
def Obj.handoverConfirmSteps : Nat := 0x900009
/-- JoinWait (R497). -/
def Obj.joinWait : Nat := 0x90000A
/-- DeputyDie (R497). -/
def Obj.deputyDie : Nat := 0x90000B
/-- BootLog (R497). -/
def Obj.bootLog : Nat := 0x90000C
/-- BootAttemptCount (R497). -/
def Obj.bootAttemptCount : Nat := 0x900010
/-- TestRecordFaultCount (R497). -/
def Obj.testRecordFaultCount : Nat := 0x900011
/-- HandoverFailCount (R497). -/
def Obj.handoverFailCount : Nat := 0x900012
/-- CoordinatorChangeCount (R497). -/
def Obj.coordinatorChangeCount : Nat := 0x900013
/-- DieRejoinCount (R497). -/
def Obj.dieRejoinCount : Nat := 0x900014
/-- InletHighCount (R517). -/
def Obj.inletHighCount : Nat := 0x220029

/-! ### The catalogue -/

/-- Part 1 of the catalogue. -/
def catalogue1 : List ObjInfo :=
  [⟨0x200010, .u8, .rwb, 12, 1, 33, 0, false⟩,
   ⟨0x200011, .u8, .rwb, 1, 1, 33, 0, false⟩,
   ⟨0x124001, .u32, .ro, 0, 0, 4294967295, 0, true⟩,
   ⟨0x124002, .u32, .ro, 0, 0, 4294967295, 0, true⟩,
   ⟨0x124003, .u32, .ro, 0, 0, 4294967295, 0, true⟩,
   ⟨0x124004, .u32, .ro, 0, 0, 4294967295, 0, true⟩,
   ⟨0x124005, .u32, .ro, 0, 0, 4294967295, 0, true⟩,
   ⟨0x124006, .u32, .ro, 0, 0, 4294967295, 0, true⟩,
   ⟨0x124007, .u32, .ro, 0, 0, 4294967295, 0, true⟩,
   ⟨0x300001, .u64, .ro, 0, 0, 18446744073709551615, 0, false⟩,
   ⟨0x300002, .u64, .ro, 0, 0, 18446744073709551615, 0, false⟩,
   ⟨0x300003, .u64, .ro, 0, 0, 18446744073709551615, 0, false⟩,
   ⟨0x300004, .u64, .ro, 0, 0, 18446744073709551615, 0, false⟩,
   ⟨0x300005, .u64, .ro, 0, 0, 18446744073709551615, 0, false⟩,
   ⟨0x300006, .u64, .ro, 0, 0, 18446744073709551615, 0, false⟩,
   ⟨0x300010, .u32, .ro, 0, 0, 4294967295, 0, true⟩,
   ⟨0x300011, .u32, .ro, 0, 0, 4294967295, 0, true⟩,
   ⟨0x300012, .u32, .ro, 0, 0, 4294967295, 0, true⟩,
   ⟨0x300013, .u32, .ro, 0, 0, 4294967295, 0, true⟩,
   ⟨0x300014, .u32, .ro, 0, 0, 4294967295, 0, false⟩,
   ⟨0x300020, .domain, .ro, 0, 0, 0, 0, false⟩,
   ⟨0x300021, .domain, .ro, 0, 0, 0, 0, false⟩,
   ⟨0x200012, .u8, .rwb, 0, 0, 1, 0, false⟩,
   ⟨0x200013, .u16, .rwb, 256, 0, 65535, 0, false⟩,
   ⟨0x200014, .u16, .rw, 16, 0, 65535, 0, false⟩,
   ⟨0x300030, .domain, .ro, 0, 0, 0, 0, false⟩,
   ⟨0x300031, .u32, .ro, 0, 0, 4294967295, 0, true⟩,
   ⟨0x300032, .u32, .ro, 0, 0, 4294967295, 0, true⟩,
   ⟨0x300033, .u32, .ro, 0, 0, 4294967295, 0, true⟩,
   ⟨0x300034, .u32, .ro, 0, 0, 4294967295, 0, true⟩,
   ⟨0x300035, .u32, .ro, 0, 0, 4294967295, 0, true⟩,
   ⟨0x300036, .domain, .ro, 0, 0, 0, 0, false⟩,
   ⟨0x300037, .domain, .ro, 0, 0, 0, 0, false⟩,
   ⟨0x300038, .domain, .const, 0, 0, 0, 0, false⟩,
   ⟨0x124008, .u32, .ro, 0, 0, 4294967295, 0, true⟩,
   ⟨0x124009, .u32, .ro, 0, 0, 4294967295, 0, true⟩,
   ⟨0x12400A, .u32, .ro, 0, 0, 4294967295, 0, true⟩,
   ⟨0x300040, .u64, .ro, 0, 0, 18446744073709551615, 0, false⟩,
   ⟨0x300041, .u64, .ro, 0, 0, 18446744073709551615, 0, false⟩,
   ⟨0x300042, .u64, .ro, 0, 0, 18446744073709551615, 0, false⟩]

/-- Part 2 of the catalogue. -/
def catalogue2 : List ObjInfo :=
  [⟨0x300043, .u64, .ro, 0, 0, 18446744073709551615, 0, false⟩,
   ⟨0x300044, .u64, .ro, 0, 0, 18446744073709551615, 0, false⟩,
   ⟨0x200020, .u32, .rw, 65536, 4096, 1048576, 0, false⟩,
   ⟨0x200021, .u8, .rw, 8, 2, 8, 0, false⟩,
   ⟨0x200022, .u8, .rwb, 6, 2, 6, 0, false⟩,
   ⟨0x200023, .u8, .rw, 3, 1, 8, 0, false⟩,
   ⟨0x200024, .u8, .rw, 0, 0, 1, 0, false⟩,
   ⟨0x200025, .u8, .rw, 6, 4, 15, 0, false⟩,
   ⟨0x200026, .u8, .rw, 3, 1, 15, 0, false⟩,
   ⟨0x200027, .u16, .rw, 4096, 256, 65535, 0, false⟩,
   ⟨0x200028, .u8, .rw, 16, 1, 64, 0, false⟩,
   ⟨0x200029, .u16, .rw, 100, 0, 65535, 0, false⟩,
   ⟨0x20002A, .u32, .rw, 26280, 8760, 61320, 0, false⟩,
   ⟨0x20002B, .u16, .rw, 9500, 0, 10000, 0, false⟩,
   ⟨0x20002C, .u32, .rw, 950000, 0, 1000000, 0, false⟩,
   ⟨0x20002D, .u8, .rw, 2, 1, 4, 0, false⟩,
   ⟨0x20002E, .u16, .rw, 6000, 0, 65535, 0, false⟩,
   ⟨0x20002F, .bool, .rw, 1, 0, 1, 0, false⟩,
   ⟨0x230001, .u8, .rw, 0, 0, 31, 0, false⟩,
   ⟨0x230002, .bool, .wo, 0, 0, 1, 0, false⟩,
   ⟨0x230003, .u32, .ro, 0, 0, 4294967295, 0, false⟩,
   ⟨0x230004, .bool, .rw, 0, 0, 1, 0, false⟩,
   ⟨0x230005, .u8, .rw, 0, 0, 60, 0, false⟩,
   ⟨0x230006, .u32, .ro, 0, 0, 4294967295, 0, true⟩,
   ⟨0x230007, .u16, .rw, 10, 1, 600, 0, false⟩,
   ⟨0x230008, .u8, .rw, 0, 0, 1, 0, false⟩,
   ⟨0x230009, .u8, .rw, 0, 0, 15, 0, false⟩,
   ⟨0x124010, .u32, .ro, 0, 0, 4294967295, 0, true⟩,
   ⟨0x124011, .u32, .ro, 0, 0, 4294967295, 0, true⟩,
   ⟨0x124012, .u32, .ro, 0, 0, 4294967295, 0, true⟩,
   ⟨0x124013, .u32, .ro, 0, 0, 4294967295, 0, true⟩,
   ⟨0x124014, .u32, .ro, 0, 0, 4294967295, 0, true⟩,
   ⟨0x124015, .u32, .ro, 0, 0, 4294967295, 0, true⟩,
   ⟨0x124016, .u32, .ro, 0, 0, 4294967295, 0, true⟩,
   ⟨0x124017, .u32, .ro, 0, 0, 4294967295, 0, true⟩,
   ⟨0x124018, .u32, .ro, 0, 0, 4294967295, 0, true⟩,
   ⟨0x124019, .u32, .ro, 0, 0, 4294967295, 0, true⟩,
   ⟨0x12401A, .u32, .ro, 0, 0, 4294967295, 0, true⟩,
   ⟨0x300050, .domain, .ro, 0, 0, 0, 0, false⟩,
   ⟨0x300051, .u16, .wo, 0, 0, 65535, 0, false⟩]

/-- Part 3 of the catalogue. -/
def catalogue3 : List ObjInfo :=
  [⟨0x300052, .u32, .ro, 0, 0, 4294967295, 0, false⟩,
   ⟨0x300053, .domain, .ro, 0, 0, 0, 0, false⟩,
   ⟨0x300054, .domain, .ro, 0, 0, 0, 0, false⟩,
   ⟨0x500001, .u32, .ro, 0, 0, 4294967295, 0, false⟩,
   ⟨0x500002, .u8, .ro, 0, 0, 255, 0, false⟩,
   ⟨0x500003, .u8, .ro, 255, 0, 255, 0, false⟩,
   ⟨0x500004, .u64, .ro, 0, 0, 18446744073709551615, 0, false⟩,
   ⟨0x500005, .u64, .rw, 0, 0, 18446744073709551615, 0, false⟩,
   ⟨0x500006, .u8, .wo, 0, 0, 8, 0, false⟩,
   ⟨0x500007, .u32, .ro, 0, 0, 4294967295, 0, false⟩,
   ⟨0x500008, .domain, .wo, 0, 0, 0, 0, false⟩,
   ⟨0x500009, .u32, .ro, 0, 0, 4294967295, 0, false⟩,
   ⟨0x50000A, .u32, .ro, 0, 0, 4294967295, 0, false⟩,
   ⟨0x50000B, .u32, .ro, 0, 0, 4294967295, 0, true⟩,
   ⟨0x50000C, .u16, .ro, 0, 0, 65535, 0, false⟩,
   ⟨0x50000D, .u16, .ro, 0, 0, 65535, 0, false⟩,
   ⟨0x50000E, .u16, .ro, 0, 0, 65535, 0, false⟩,
   ⟨0x50000F, .u32, .ro, 0, 0, 4294967295, 0, true⟩,
   ⟨0x500010, .u32, .ro, 0, 0, 4294967295, 0, true⟩,
   ⟨0x500011, .domain, .ro, 0, 0, 0, 0, false⟩,
   ⟨0x500012, .domain, .ro, 0, 0, 0, 0, false⟩,
   ⟨0x500013, .u32, .ro, 0, 0, 4294967295, 0, false⟩,
   ⟨0x480001, .u16, .rw, 64, 16, 1024, 0, false⟩,
   ⟨0x480002, .u32, .ro, 0, 0, 4294967295, 0, true⟩,
   ⟨0x480003, .u32, .ro, 0, 0, 4294967295, 0, true⟩,
   ⟨0x480004, .u32, .ro, 0, 0, 4294967295, 0, true⟩,
   ⟨0x480005, .u32, .ro, 0, 0, 4294967295, 0, true⟩,
   ⟨0x480006, .u32, .ro, 0, 0, 4294967295, 0, true⟩,
   ⟨0x480007, .u32, .ro, 0, 0, 4294967295, 0, true⟩,
   ⟨0x400001, .domain, .ro, 0, 0, 0, 0, false⟩,
   ⟨0x400002, .domain, .ro, 0, 0, 0, 0, false⟩,
   ⟨0x400003, .u16, .wo, 0, 0, 65535, 0, false⟩,
   ⟨0x400004, .u32, .ro, 0, 0, 4294967295, 0, false⟩,
   ⟨0x400005, .domain, .ro, 0, 0, 0, 0, false⟩,
   ⟨0x400006, .domain, .ro, 0, 0, 0, 0, false⟩,
   ⟨0x400007, .domain, .ro, 0, 0, 0, 0, false⟩,
   ⟨0x800001, .domain, .ro, 0, 0, 0, 0, false⟩,
   ⟨0x800002, .domain, .ro, 0, 0, 0, 0, false⟩,
   ⟨0x800003, .domain, .ro, 0, 0, 0, 0, false⟩,
   ⟨0x800004, .u16, .rw, 16, 1, 1024, 0, false⟩]

/-- Part 4 of the catalogue. -/
def catalogue4 : List ObjInfo :=
  [⟨0x800005, .u8, .rw, 255, 0, 255, 0, false⟩,
   ⟨0x800006, .i32, .ro, 0, 0, 4294967295, 0, false⟩,
   ⟨0x800007, .domain, .ro, 0, 0, 0, 0, false⟩,
   ⟨0x800008, .domain, .ro, 0, 0, 0, 0, false⟩,
   ⟨0x800010, .u32, .ro, 0, 0, 4294967295, 0, true⟩,
   ⟨0x800011, .u32, .ro, 0, 0, 4294967295, 0, true⟩,
   ⟨0x800012, .u32, .ro, 0, 0, 4294967295, 0, true⟩,
   ⟨0x800013, .u32, .ro, 0, 0, 4294967295, 0, true⟩,
   ⟨0x800014, .u32, .ro, 0, 0, 4294967295, 0, true⟩,
   ⟨0x800015, .u32, .ro, 0, 0, 4294967295, 0, true⟩,
   ⟨0x800016, .u32, .ro, 0, 0, 4294967295, 0, true⟩,
   ⟨0x800017, .u32, .ro, 0, 0, 4294967295, 0, true⟩,
   ⟨0x800018, .u32, .ro, 0, 0, 4294967295, 0, true⟩,
   ⟨0x800019, .u32, .ro, 0, 0, 4294967295, 0, true⟩,
   ⟨0x80001A, .u32, .ro, 0, 0, 4294967295, 0, true⟩,
   ⟨0x640001, .u32, .ro, 0, 0, 4294967295, 0, false⟩,
   ⟨0x640002, .u32, .rw, 131072, 16384, 262144, 0, false⟩,
   ⟨0x640003, .u32, .ro, 0, 0, 4294967295, 0, false⟩,
   ⟨0x640004, .u16, .ro, 0, 0, 65535, 0, false⟩,
   ⟨0x640005, .u8, .rw, 1, 1, 4, 0, false⟩,
   ⟨0x640006, .u32, .rw, 4096, 0, 65536, 0, false⟩,
   ⟨0x640007, .domain, .ro, 0, 0, 0, 0, false⟩,
   ⟨0x640008, .domain, .ro, 0, 0, 0, 0, false⟩,
   ⟨0x640009, .domain, .ro, 0, 0, 0, 0, true⟩,
   ⟨0x64000A, .u32, .ro, 0, 0, 4294967295, 0, true⟩,
   ⟨0x64000B, .domain, .ro, 0, 0, 0, 0, false⟩,
   ⟨0x64000C, .u32, .ro, 0, 0, 4294967295, 0, true⟩,
   ⟨0x64000D, .u32, .ro, 0, 0, 4294967295, 0, true⟩,
   ⟨0x64000E, .u32, .ro, 0, 0, 4294967295, 0, true⟩,
   ⟨0x64000F, .domain, .ro, 0, 0, 0, 0, false⟩,
   ⟨0x640010, .domain, .ro, 0, 0, 0, 0, false⟩,
   ⟨0x110001, .u8, .ro, 0, 0, 255, 0, false⟩,
   ⟨0x110002, .bool, .wo, 0, 0, 1, 0, false⟩,
   ⟨0x110003, .u8, .ro, 0, 0, 255, 0, false⟩,
   ⟨0x110004, .u32, .ro, 0, 0, 4294967295, 0, true⟩,
   ⟨0x110005, .u32, .ro, 0, 0, 4294967295, 0, true⟩,
   ⟨0x110006, .u32, .ro, 0, 0, 4294967295, 0, true⟩,
   ⟨0x110007, .u32, .ro, 0, 0, 4294967295, 0, false⟩,
   ⟨0x600001, .u16, .ro, 8192, 0, 65535, 0, false⟩,
   ⟨0x600002, .domain, .ro, 0, 0, 0, 0, false⟩]

/-- Part 5 of the catalogue. -/
def catalogue5 : List ObjInfo :=
  [⟨0x600003, .u16, .rw, 16, 4, 1024, 0, false⟩,
   ⟨0x600004, .u8, .rw, 16, 1, 64, 0, false⟩,
   ⟨0x600005, .u8, .rw, 4, 1, 64, 0, false⟩,
   ⟨0x600006, .u8, .rwb, 16, 0, 64, 0, false⟩,
   ⟨0x600007, .u16, .rw, 24, 1, 720, 0, false⟩,
   ⟨0x600008, .domain, .ro, 0, 0, 0, 0, true⟩,
   ⟨0x600009, .u32, .ro, 0, 0, 4294967295, 0, true⟩,
   ⟨0x60000A, .u32, .ro, 0, 0, 4294967295, 0, true⟩,
   ⟨0x60000B, .u32, .ro, 0, 0, 4294967295, 0, true⟩,
   ⟨0x60000C, .u64, .ro, 0, 0, 18446744073709551615, 0, false⟩,
   ⟨0x60000D, .u32, .ro, 0, 0, 4294967295, 0, true⟩,
   ⟨0x60000E, .u64, .ro, 0, 0, 18446744073709551615, 0, false⟩,
   ⟨0x60000F, .u32, .ro, 0, 0, 4294967295, 0, true⟩,
   ⟨0x680001, .u32, .rw, 2592000, 3600, 31536000, 0, false⟩,
   ⟨0x680002, .domain, .wo, 0, 0, 0, 12, false⟩,
   ⟨0x680003, .u8, .ro, 0, 0, 255, 0, false⟩,
   ⟨0x680004, .u32, .ro, 0, 0, 4294967295, 0, false⟩,
   ⟨0x680005, .u32, .rw, 128, 112, 1024, 0, false⟩,
   ⟨0x680006, .u8, .rwb, 75, 25, 90, 0, false⟩,
   ⟨0x680007, .u32, .ro, 0, 0, 4294967295, 0, false⟩,
   ⟨0x680008, .u32, .rw, 604800, 86400, 2592000, 0, false⟩,
   ⟨0x680009, .u32, .ro, 65536, 0, 4294967295, 0, false⟩,
   ⟨0x68000A, .u64, .ro, 0, 0, 18446744073709551615, 0, false⟩,
   ⟨0x68000B, .domain, .ro, 0, 0, 0, 0, false⟩,
   ⟨0x68000C, .u64, .ro, 0, 0, 18446744073709551615, 0, false⟩,
   ⟨0x680010, .u32, .ro, 0, 0, 4294967295, 0, true⟩,
   ⟨0x680011, .u32, .ro, 0, 0, 4294967295, 0, true⟩,
   ⟨0x680012, .u32, .ro, 0, 0, 4294967295, 0, true⟩,
   ⟨0x680013, .u32, .ro, 0, 0, 4294967295, 0, true⟩,
   ⟨0x680014, .u32, .ro, 0, 0, 4294967295, 0, true⟩,
   ⟨0x680015, .u32, .ro, 0, 0, 4294967295, 0, true⟩,
   ⟨0x680016, .u32, .ro, 0, 0, 4294967295, 0, true⟩,
   ⟨0x700001, .domain, .rw, 0, 0, 0, 1552, false⟩,
   ⟨0x700002, .domain, .wo, 0, 0, 0, 0, false⟩,
   ⟨0x700003, .domain, .wo, 0, 0, 0, 0, false⟩,
   ⟨0x700004, .domain, .rw, 0, 0, 0, 18, false⟩,
   ⟨0x700005, .u64, .wo, 0, 0, 18446744073709551615, 0, false⟩,
   ⟨0x700006, .domain, .ro, 0, 0, 0, 0, false⟩,
   ⟨0x700007, .u64, .wo, 0, 0, 18446744073709551615, 0, false⟩,
   ⟨0x700008, .u8, .rw, 4, 1, 6, 0, false⟩]

/-- Part 6 of the catalogue. -/
def catalogue6 : List ObjInfo :=
  [⟨0x700009, .u8, .rw, 1, 1, 4, 0, false⟩,
   ⟨0x70000A, .u64, .rw, 0, 0, 18446744073709551615, 0, false⟩,
   ⟨0x70000B, .domain, .ro, 0, 0, 0, 0, false⟩,
   ⟨0x70000C, .domain, .ro, 0, 0, 0, 0, false⟩,
   ⟨0x700010, .u32, .ro, 0, 0, 4294967295, 0, true⟩,
   ⟨0x700011, .u32, .ro, 0, 0, 4294967295, 0, true⟩,
   ⟨0x700012, .u32, .ro, 0, 0, 4294967295, 0, true⟩,
   ⟨0x700013, .u32, .ro, 0, 0, 4294967295, 0, true⟩,
   ⟨0x700020, .domain, .wo, 0, 0, 0, 44, false⟩,
   ⟨0x700021, .domain, .ro, 0, 0, 0, 0, false⟩,
   ⟨0x700022, .u32, .wo, 0, 0, 4294967295, 0, false⟩,
   ⟨0x700023, .u32, .ro, 0, 0, 4294967295, 0, true⟩,
   ⟨0x700024, .u32, .ro, 0, 0, 4294967295, 0, true⟩,
   ⟨0x700025, .u32, .ro, 0, 0, 4294967295, 0, true⟩,
   ⟨0x380001, .domain, .ro, 0, 0, 0, 0, false⟩,
   ⟨0x380002, .domain, .ro, 0, 0, 0, 0, false⟩,
   ⟨0x780001, .domain, .wo, 0, 0, 0, 64, false⟩,
   ⟨0x780002, .domain, .ro, 0, 0, 0, 0, false⟩,
   ⟨0x780003, .u8, .wo, 0, 1, 4, 0, false⟩,
   ⟨0x780004, .domain, .wo, 0, 0, 0, 12, false⟩,
   ⟨0x780005, .u16, .rw, 192, 64, 512, 0, false⟩,
   ⟨0x780006, .u32, .rw, 1000, 0, 50000, 0, false⟩,
   ⟨0x780007, .domain, .ro, 0, 0, 0, 0, false⟩,
   ⟨0x780010, .u32, .ro, 0, 0, 4294967295, 0, true⟩,
   ⟨0x780011, .u32, .ro, 0, 0, 4294967295, 0, true⟩,
   ⟨0x780012, .u32, .ro, 0, 0, 4294967295, 0, true⟩,
   ⟨0x7C0001, .u32, .rw, 16384, 288, 1048576, 0, false⟩,
   ⟨0x7C0002, .u8, .rw, 4, 4, 8, 0, false⟩,
   ⟨0x7C0003, .u16, .rw, 256, 16, 4096, 0, false⟩,
   ⟨0x7C0004, .u8, .rw, 16, 1, 64, 0, false⟩,
   ⟨0x7C0005, .domain, .ro, 0, 0, 0, 0, false⟩,
   ⟨0x7C0006, .u32, .rw, 16777216, 1048576, 268435456, 0, false⟩,
   ⟨0x7C0007, .u32, .rw, 4194304, 65536, 268435456, 0, false⟩,
   ⟨0x7C0008, .u32, .rw, 4194304, 65536, 268435456, 0, false⟩,
   ⟨0x7C0009, .u32, .rw, 86400, 3600, 2592000, 0, false⟩,
   ⟨0x7C000A, .domain, .rw, 0, 0, 0, 320, false⟩,
   ⟨0x7C000B, .u32, .rw, 3600, 600, 86400, 0, false⟩,
   ⟨0x7C000C, .u32, .rw, 86400, 3600, 604800, 0, false⟩,
   ⟨0x7C000D, .u64, .wo, 0, 0, 18446744073709551615, 0, false⟩,
   ⟨0x7C000E, .u64, .ro, 0, 0, 18446744073709551615, 0, false⟩]

/-- Part 7 of the catalogue. -/
def catalogue7 : List ObjInfo :=
  [⟨0x7C000F, .domain, .const, 0, 0, 0, 0, false⟩,
   ⟨0x7C0010, .domain, .ro, 0, 0, 0, 0, false⟩,
   ⟨0x7C0020, .u64, .ro, 0, 0, 18446744073709551615, 0, false⟩,
   ⟨0x7C0021, .u32, .ro, 0, 0, 4294967295, 0, true⟩,
   ⟨0x7C0022, .u32, .ro, 0, 0, 4294967295, 0, true⟩,
   ⟨0x7C0023, .u32, .ro, 0, 0, 4294967295, 0, true⟩,
   ⟨0x7C0024, .u32, .ro, 0, 0, 4294967295, 0, true⟩,
   ⟨0x7C0025, .u32, .ro, 0, 0, 4294967295, 0, true⟩,
   ⟨0x7C0026, .u32, .ro, 0, 0, 4294967295, 0, true⟩,
   ⟨0x7C0027, .u32, .ro, 0, 0, 4294967295, 0, true⟩,
   ⟨0x7C0028, .u32, .ro, 0, 0, 4294967295, 0, true⟩,
   ⟨0x7C0029, .u32, .ro, 0, 0, 4294967295, 0, true⟩,
   ⟨0x7C002A, .u32, .ro, 0, 0, 4294967295, 0, true⟩,
   ⟨0x7C002B, .u32, .ro, 0, 0, 4294967295, 0, true⟩,
   ⟨0x7C002C, .u32, .ro, 0, 0, 4294967295, 0, true⟩,
   ⟨0x7C002D, .u32, .ro, 0, 0, 4294967295, 0, true⟩,
   ⟨0x7C002E, .u32, .ro, 0, 0, 4294967295, 0, true⟩,
   ⟨0x7C002F, .u32, .ro, 0, 0, 4294967295, 0, true⟩,
   ⟨0x7C0030, .u32, .ro, 0, 0, 4294967295, 0, true⟩,
   ⟨0x7C0031, .u32, .ro, 0, 0, 4294967295, 0, true⟩,
   ⟨0x7C0032, .u32, .ro, 0, 0, 4294967295, 0, true⟩,
   ⟨0x7C0033, .u32, .ro, 0, 0, 4294967295, 0, true⟩,
   ⟨0x7C0034, .u32, .ro, 0, 0, 4294967295, 0, true⟩,
   ⟨0x7C0035, .u32, .ro, 0, 0, 4294967295, 0, true⟩,
   ⟨0x7C0036, .u32, .ro, 0, 0, 4294967295, 0, true⟩,
   ⟨0x220001, .u16, .rwb, 1900, 1000, 1900, 0, false⟩,
   ⟨0x220002, .u16, .rw, 50, 10, 200, 0, false⟩,
   ⟨0x220003, .u32, .ro, 0, 0, 4294967295, 0, false⟩,
   ⟨0x220004, .u32, .ro, 0, 0, 4294967295, 0, false⟩,
   ⟨0x220005, .domain, .ro, 0, 0, 0, 0, false⟩,
   ⟨0x220006, .u32, .ro, 520000, 0, 4294967295, 0, false⟩,
   ⟨0x220007, .u32, .ro, 0, 0, 4294967295, 0, false⟩,
   ⟨0x220008, .u32, .ro, 65536, 0, 4294967295, 0, false⟩,
   ⟨0x220009, .u64, .ro, 0, 0, 18446744073709551615, 0, false⟩,
   ⟨0x22000A, .u64, .ro, 0, 0, 18446744073709551615, 0, false⟩,
   ⟨0x22000B, .u64, .ro, 0, 0, 18446744073709551615, 0, false⟩,
   ⟨0x22000C, .domain, .ro, 0, 0, 0, 0, false⟩,
   ⟨0x22000D, .domain, .ro, 0, 0, 0, 0, false⟩,
   ⟨0x22000E, .i16, .ro, 0, 0, 65535, 0, false⟩,
   ⟨0x22000F, .domain, .ro, 0, 0, 0, 0, false⟩]

/-- Part 8 of the catalogue. -/
def catalogue8 : List ObjInfo :=
  [⟨0x220010, .u8, .ro, 0, 0, 255, 0, false⟩,
   ⟨0x220011, .u8, .wo, 0, 0, 7, 0, false⟩,
   ⟨0x220012, .domain, .wo, 0, 0, 0, 512, false⟩,
   ⟨0x220013, .domain, .const, 0, 0, 0, 0, false⟩,
   ⟨0x220020, .u32, .ro, 0, 0, 4294967295, 0, true⟩,
   ⟨0x220021, .u32, .ro, 0, 0, 4294967295, 0, true⟩,
   ⟨0x220022, .u32, .ro, 0, 0, 4294967295, 0, true⟩,
   ⟨0x220023, .u32, .ro, 0, 0, 4294967295, 0, true⟩,
   ⟨0x220024, .u32, .ro, 0, 0, 4294967295, 0, true⟩,
   ⟨0x220025, .u32, .ro, 0, 0, 4294967295, 0, true⟩,
   ⟨0x220026, .u32, .ro, 0, 0, 4294967295, 0, true⟩,
   ⟨0x220027, .u32, .ro, 0, 0, 4294967295, 0, true⟩,
   ⟨0x220028, .u32, .ro, 0, 0, 4294967295, 0, true⟩,
   ⟨0x210001, .domain, .ro, 0, 0, 0, 0, false⟩,
   ⟨0x210002, .domain, .ro, 0, 0, 0, 0, false⟩,
   ⟨0x210003, .i32, .ro, 0, 0, 4294967295, 0, false⟩,
   ⟨0x210004, .domain, .ro, 0, 0, 0, 0, false⟩,
   ⟨0x210005, .u8, .ro, 0, 0, 255, 0, false⟩,
   ⟨0x210006, .domain, .rw, 0, 0, 0, 16, false⟩,
   ⟨0x210007, .domain, .ro, 0, 0, 0, 0, false⟩,
   ⟨0x210010, .u32, .ro, 0, 0, 4294967295, 0, true⟩,
   ⟨0x210011, .u32, .ro, 0, 0, 4294967295, 0, true⟩,
   ⟨0x210012, .u32, .ro, 0, 0, 4294967295, 0, true⟩,
   ⟨0x210013, .u32, .ro, 0, 0, 4294967295, 0, true⟩,
   ⟨0x200030, .u16, .rwb, 65535, 0, 65535, 0, false⟩,
   ⟨0x100001, .str, .const, 0, 0, 0, 0, false⟩,
   ⟨0x100002, .str, .const, 0, 0, 0, 0, false⟩,
   ⟨0x100003, .u64, .const, 0, 0, 18446744073709551615, 0, false⟩,
   ⟨0x100004, .u16, .const, 0, 0, 65535, 0, false⟩,
   ⟨0x100005, .u32, .ro, 0, 0, 4294967295, 0, false⟩,
   ⟨0x100006, .domain, .const, 0, 0, 0, 0, false⟩,
   ⟨0x100007, .u8, .ro, 255, 0, 255, 0, false⟩,
   ⟨0x100008, .u8, .ro, 0, 0, 255, 0, false⟩,
   ⟨0x120001, .domain, .wo, 0, 0, 0, 12, false⟩,
   ⟨0x120002, .domain, .wo, 0, 0, 0, 12, false⟩,
   ⟨0x120003, .domain, .ro, 0, 0, 0, 0, false⟩,
   ⟨0x120004, .u16, .ro, 0, 0, 65535, 0, false⟩,
   ⟨0x120005, .bool, .ro, 0, 0, 1, 0, false⟩,
   ⟨0x120006, .u32, .ro, 0, 0, 4294967295, 0, true⟩,
   ⟨0x120007, .u32, .ro, 0, 0, 4294967295, 0, true⟩]

/-- Part 9 of the catalogue. -/
def catalogue9 : List ObjInfo :=
  [⟨0x120008, .u32, .ro, 0, 0, 4294967295, 0, true⟩,
   ⟨0x120009, .domain, .ro, 0, 0, 0, 0, false⟩,
   ⟨0x200001, .bool, .wo, 0, 0, 1, 0, false⟩,
   ⟨0x200002, .bool, .wo, 0, 0, 1, 0, false⟩,
   ⟨0x200003, .u8, .ro, 0, 0, 255, 0, false⟩,
   ⟨0x900001, .domain, .const, 0, 0, 0, 0, false⟩,
   ⟨0x900002, .domain, .ro, 0, 0, 0, 0, false⟩,
   ⟨0x900003, .domain, .ro, 0, 0, 0, 0, false⟩,
   ⟨0x900004, .domain, .ro, 0, 0, 0, 0, false⟩,
   ⟨0x900005, .u32, .wo, 0, 0, 4294967295, 0, false⟩,
   ⟨0x900006, .u32, .ro, 0, 0, 4294967295, 0, false⟩,
   ⟨0x900007, .u64, .rw, 0, 0, 18446744073709551615, 0, false⟩,
   ⟨0x900008, .u32, .ro, 0, 0, 4294967295, 0, false⟩,
   ⟨0x900009, .u32, .rw, 1048576, 65536, 16777216, 0, false⟩,
   ⟨0x90000A, .u16, .rw, 10, 1, 600, 0, false⟩,
   ⟨0x90000B, .u8, .ro, 0, 0, 255, 0, false⟩,
   ⟨0x90000C, .domain, .ro, 0, 0, 0, 0, false⟩,
   ⟨0x900010, .u32, .ro, 0, 0, 4294967295, 0, true⟩,
   ⟨0x900011, .u32, .ro, 0, 0, 4294967295, 0, true⟩,
   ⟨0x900012, .u32, .ro, 0, 0, 4294967295, 0, true⟩,
   ⟨0x900013, .u32, .ro, 0, 0, 4294967295, 0, true⟩,
   ⟨0x900014, .u32, .ro, 0, 0, 4294967295, 0, true⟩,
   ⟨0x220029, .u32, .ro, 0, 0, 4294967295, 0, true⟩]

/-- The catalogue (the object tables of R58 to R517). -/
def catalogue : List ObjInfo :=
  catalogue1 ++ catalogue2 ++ catalogue3 ++ catalogue4 ++ catalogue5 ++ catalogue6 ++ catalogue7 ++ catalogue8 ++ catalogue9

end Sys2Proof.Machine
end

