-- ==== Sys2Proof/WellFormed.lean ====
section
/-! DEFINITION. The operands that can arise on the hardware: a control frame is 256 bytes (R295), a flit 64 bytes (R251), a
pour answers one code for each pair of its vat (R59, R71) or each row of a reverse pour (R74). A command that is not
well-formed stands for no event, and every meaning refuses it. -/

namespace Sys2Proof

/-- The converter codes of a pour on a vat: one for each column pair (R59), or for each of 2,048 rows in a reverse pour. -/
def codesFit (v : Vat) (codes : List (BitVec 10)) : Bool :=
  match v with
  | .ct _ _ => codes.length = 2144 || codes.length = 2048
  | .culture _ _ => codes.length = 1072

/-- A calibration round's pours: 26 on a charge-trap vat, 20 on a culture vat (R152). -/
def roundFits (v : Vat) (r : List ProbeCodes) : Bool :=
  match v with
  | .ct _ _ => r.length = 26 && (r.take 20).all (fun c => c.length = 2144) && (r.drop 20).all (fun c => c.length = 4096)
  | .culture _ _ => r.length = 20 && r.all (fun c => c.length = 1072)

/-- Can the command's operands arise? -/
def WellFormed (i : Instr) : Bool :=
  match i with
  | .memoryAccess a => 1 ≤ a.len && a.len ≤ 4096 && (if a.write then a.data.length = a.len else a.data.length = 0)
  | .pourCodesReachRind v _ codes _ _ => codesFit v codes
  | .calibrationComplete v a b => roundFits v a && roundFits v b
  | .referenceCheck codes => codes.length = 51
  | .programmeVerifyDone _ off _ => off.all (fun e => e.1 < 2048 && e.2.1 < 2144)
  | .vatTest v _ codes recomputed =>
    codesFit v codes && codes.length ≠ 2048 && recomputed.length = codes.length
  | .routerTest _ _ _ expected got => expected.length = got.length
  | .powerMonitorCompare _ rails => rails.length = 51
  | .thermalSample _ _ readings => readings.length = 8
  | .powerUp recordValid starterCore => recordValid.length = 8 && starterCore.length = 8
  | .modResetRelease recordValid starterCore => recordValid.length = 8 && starterCore.length = 8
  | .carrierRailsRestored recordValid starterCore => recordValid.length = 8 && starterCore.length = 8
  | .barrierDoneRx f => f.raw.length = 64
  | .barrierReleaseRx f => f.raw.length = 64
  | .barrierIsolatedRx f => f.raw.length = 64
  | .bulkFlitRx f => f.raw.length = 64
  | .creditFlitRx f => f.raw.length = 64
  | .nakRx f => f.raw.length = 64
  | .laneNoticeRx f => f.raw.length = 64
  | .reductionTokenRx f => f.raw.length = 64
  | .tickFlitRx f _ => f.raw.length = 64
  | .shardDataFlit f => f.raw.length = 64
  | .shardRequestFlit f => f.raw.length = 64
  | .admitRequest f => f.raw.length = 256
  | .cancel f => f.raw.length = 256
  | .pause f => f.raw.length = 256
  | .resume f => f.raw.length = 256
  | .idleFrame f => f.raw.length = 256
  | .bulkPromptTokens f => f.raw.length = 256
  | .bulkMakeSheet f => f.raw.length = 256
  | .bulkWeightShard f => f.raw.length = 256
  | .bulkTestPack f => f.raw.length = 256
  | .bulkCulture f => f.raw.length = 256
  | .bulkFirmware f => f.raw.length = 256
  | .dictRead f => f.raw.length = 256
  | .dictWrite f => f.raw.length = 256
  | .segmentedWriteOpen f => f.raw.length = 256
  | .transferAbort f => f.raw.length = 256
  | .segmentData f => f.raw.length = 256
  | .segmentAbort f => f.raw.length = 256
  | .segmentResend f => f.raw.length = 256
  | _ => true

end Sys2Proof
end

