-- ==== Sys2Proof/Machine/Ops.lean ====
section
/-! DEFINITION. The shared operations: performing a command, object values and counters, raising an event, module addresses
and memory, and the loss of units. -/

namespace Sys2Proof.Machine

/-! ### Performing a command -/

/-- Perform a command: its effect on the module, the queue left as it is. A command that is not well-formed is refused. -/
def act (i : Instr) (s : State) (f : S8 → S8) : Host.Outcome State Fault Refusal :=
  if WellFormed i then .next { s with chip := f s.chip } else .refused .illFormed

/-- Perform a command that may meet a limit the manual relies on and does not check (R3). -/
def actOr (i : Instr) (s : State) (f : S8 → Except Fault S8) : Host.Outcome State Fault Refusal :=
  if WellFormed i then
    match f s.chip with
    | .ok c => .next { s with chip := c }
    | .error e => .fault e
  else .refused .illFormed

/-! ### Units by number -/

/-- 0 for W, 1 for E. -/
def halfBit (h : Half) : Nat :=
  match h with
  | .w => 0
  | .e => 1

/-- Half number 2·die + (1 for E). -/
def halfKey (d : Die) (h : Half) : Nat := 2 * d.val + halfBit h

/-- Core number 72·die + 36·half + number. -/
def coreKey (c : Core) : Nat := 72 * c.die.val + 36 * halfBit c.half + c.num.val

/-- The half a core lies in. -/
def coreHalfKey (c : Core) : Nat := halfKey c.die c.half

/-- Vat number 2592·die + number, culture vats from 2304. -/
def vatKey (v : Vat) : Nat :=
  match v with
  | .ct d n => 2592 * d.val + n.val
  | .culture d n => 2592 * d.val + 2304 + n.val

/-- Rind unit number 36·die + number. -/
def unitKey (u : RindUnit) : Nat := 36 * u.die.val + u.num.val

/-- The die of a vat number. -/
def vatDie (k : Nat) : Nat := k / 2592

/-- Is the vat number a culture vat's? -/
def isCulture (k : Nat) : Bool := 2304 ≤ k % 2592

/-- The half of a vat number: W holds charge-trap vats 0–1151 and culture vats 0–143 (R14). -/
def vatHalf (k : Nat) : Nat :=
  2 * vatDie k + (if isCulture k then (if 2304 + 144 ≤ k % 2592 then 1 else 0) else (if 1152 ≤ k % 2592 then 1 else 0))

/-- Is a logical vat a service number? (R19) -/
def isServiceVat (l : Nat) : Bool :=
  let n := l % 2592
  if isCulture l then (n - 2304) % 144 < 128 else n % 1152 < 1024

/-- The spare numbers of a half's charge-trap or culture vats (R19). -/
def spareNumbers (half : Nat) (culture : Bool) : List Nat :=
  if culture then (List.range 16).map (fun i => 2592 * (half / 2) + 2304 + 144 * (half % 2) + 128 + i)
  else (List.range 128).map (fun i => 2592 * (half / 2) + 1152 * (half % 2) + 1024 + i)

/-- The rind unit that serves a physical vat (R88). -/
def unitOfVat (k : Nat) : Nat :=
  36 * vatDie k + (if isCulture k then (k % 2592 - 2304) / 8 else k % 2592 / 64)

/-- The half of a rind unit (R14: 18 a half). -/
def unitHalf (u : Nat) : Nat := 2 * (u / 36) + (if 18 ≤ u % 36 then 1 else 0)

/-- The physical vat that backs a logical one (R21). -/
def Vats.physical (v : Vats) (logical : Nat) : Nat := SMap.getD v.map logical logical

/-- The logical vats that a physical vat backs. -/
def Vats.logicalOf (v : Vats) (physical : Nat) : List Nat :=
  let moved := (v.map.filter (fun e => e.2 = physical)).map (·.1)
  if (SMap.find v.map physical).isNone then physical :: moved else moved

/-- A vat in the layout of R203: [15] VatKind, [14:12] die, [11:0] number. -/
def vatOfWord (w : Nat) : Nat := 2592 * field w 12 3 + (if field w 15 1 = 1 then 2304 else 0) + field w 0 12

/-- A core reference as a core number. -/
def CoreRef.key (c : CoreRef) : Nat := 72 * c.die + 36 * c.half + c.num

/-- The physical core that backs a logical one (R21). -/
def Cores.physical (c : Cores) (logical : Nat) : Nat := logical / 36 * 36 + SMap.getD c.map logical (logical % 36)

/-! ### Objects -/

/-- The catalogue entry's number of an object: those of die n at 0x3n00 and 0x4n00 are listed for die 0. -/
def normObj (obj : Nat) : Nat :=
  let index := obj / 256
  if 0x3000 ≤ index ∧ index < 0x3800 ∧ index % 256 = 0 then 0x300000 + obj % 256
  else if 0x4000 ≤ index ∧ index < 0x4800 ∧ index % 256 = 0 then 0x400000 + obj % 256
  else obj

/-- The die an object at 0x3n00 or 0x4n00 is about. -/
def objDie (obj : Nat) : Nat := obj / 65536 % 8

/-- Die n's object of a catalogue number at 0x3n00 or 0x4n00. -/
def dieObj (obj die : Nat) : Nat := obj + 65536 * die

/-- The highest subindex in use at an object's index, 0 where the index holds none (R456). -/
def highestSub (obj : Nat) : Nat :=
  (catalogue.filter (fun i => i.obj / 256 = normObj obj / 256)).foldl (fun a i => max a (i.obj % 256)) 0

/-- The catalogue's entry for an object; subindex 0 of an index that holds objects is HighestSub (R456). -/
def objInfo (obj : Nat) : Option ObjInfo :=
  if obj % 256 = 0 then
    if highestSub obj = 0 then none
    else some { obj := obj, type := .u8, access := .const, default := highestSub obj, lo := 0, hi := 255, length := 0, counter := false }
  else catalogue.find? (fun i => i.obj = normObj obj)

/-- An object element's key. -/
def objKey (obj element : Nat) : Nat := obj * 2 ^ 32 + element

/-- An object's default (R461). -/
def objDefault (obj : Nat) : Nat := ((objInfo obj).map (·.default)).getD 0

/-- The value in effect of an RW or RWB object of fixed size. -/
def Dict.get (d : Dict) (obj : Nat) : Nat := SMap.getD d.settings (objKey obj 0) (objDefault obj)

/-- The value of an RW object of type DOMAIN, `dflt` where it was never written. -/
def Dict.blob (d : Dict) (obj : Nat) (dflt : Bytes) : Bytes := SMap.getD d.blobs (objKey obj 0) dflt

/-- A counter's value. -/
def Dict.count (d : Dict) (obj element : Nat) : Nat := SMap.getD d.counts (objKey obj element) 0

/-- The non-maskable events (R475). -/
def nonMaskable : List Nat :=
  [Obj.clockSourceFailCount, Obj.stepOverrunCount, Obj.barrierIsolatedCount, Obj.droopFaultCount, Obj.thermalCriticalCount,
   Obj.dieTripCount]

/-- Count an overflow of the event queue: the counter and its flag, and no frame (R474). -/
def Dict.overflow (d : Dict) (step : Nat) : Dict :=
  let key := objKey Obj.eventQueueOverflowCount 0
  { d with
    counts := SMap.put 0 d.counts key ((SMap.getD d.counts key 0 + 1) % 2 ^ 32)
    flags := SMap.insert d.flags key { step := step, unit := 0, value := 0 }
    logged := { obj := Obj.eventQueueOverflowCount, element := 0, counter := (SMap.getD d.counts key 0 + 1) % 2 ^ 32,
                nonMaskable := false, mark := { step := step, unit := 0, value := 0 } } :: d.logged
    dropped := true }

/-- Take the oldest maskable frame out of a queue. -/
def dropMaskable (q : List EventFrame) : List EventFrame :=
  match q with
  | [] => []
  | f :: rest => if f.nonMaskable then f :: dropMaskable rest else rest

/-- Queue an event frame under the limits of R474. -/
def Dict.enqueue (d : Dict) (f : EventFrame) : Dict :=
  let maskables := (d.queue.filter (fun g => !g.nonMaskable)).length
  if f.nonMaskable then
    if d.queue.length < 256 then { d with queue := d.queue ++ [f] }
    else if maskables = 0 then d.overflow f.mark.step
    else { d.overflow f.mark.step with queue := dropMaskable d.queue ++ [f] }
  else if d.queue.length < 256 ∧ maskables < 240 then { d with queue := d.queue ++ [f] }
  else d.overflow f.mark.step

/-- Raise an event: its counter advances modulo 2^32 and its flag is set in the same cycle, it goes to the Log, and a frame is
queued when the flag passes from clear to set and the event is not masked, and for every raise of a non-maskable event (R471,
R473, R477). An amount of 0 raises nothing. -/
def Dict.raise (d : Dict) (step obj element amount unit value : Nat) : Dict :=
  if amount = 0 then d
  else
    let key := objKey obj element
    let counter := (SMap.getD d.counts key 0 + amount) % 2 ^ 32
    let mark : Raise := { step := step, unit := unit, value := value }
    let strong := nonMaskable.contains obj
    let wanted := strong || ((SMap.find d.flags key).isNone && !(d.masked.contains key))
    let event : EventFrame := { obj := obj, element := element, counter := counter, nonMaskable := strong, mark := mark }
    let d1 : Dict := { d with
      counts := SMap.put 0 d.counts key counter
      flags := SMap.insert d.flags key mark
      logged := event :: d.logged }
    if wanted then d1.enqueue event else d1

/-- Add to a counter of type U64, which has no flag (R471). -/
def Dict.tally (d : Dict) (obj amount : Nat) : Dict :=
  if amount = 0 then d
  else { d with counts := SMap.put 0 d.counts (objKey obj 0) ((SMap.getD d.counts (objKey obj 0) 0 + amount) % 2 ^ 64) }

/-- The events that have no counter object, AddressFault, UnitUnbacked and ShardWanted: the model names them by subindexes of
index 0, which holds no object (log entry 13). -/
def eventAddressFault : Nat := 1
def eventUnitUnbacked : Nat := 2
def eventShardWanted : Nat := 3

/-- Those events. -/
def uncountedEvents : List Nat := [eventAddressFault, eventUnitUnbacked, eventShardWanted]

/-- Raise an event that the manual gives no counter object (R23, R27, R361): like any other event it has its flag, its place in
the Log and its frame (R473, R477; log entry 13). -/
def Dict.note (d : Dict) (step event unit value : Nat) : Dict := d.raise step event 0 1 unit value

/-- Raise an event now. -/
def S8.raise (s : S8) (obj element amount unit value : Nat) : S8 :=
  { s with dict := s.dict.raise s.run.step obj element amount unit value }

/-- The Unit field of an event frame: kind in [31:28], number in [27:0] (R473). R473 gives the number no form: the model's are
72·die + 36·half + number for a core, 2·die + half for a half, 36·die + number for a rind unit, 9·die + number for a lane,
4096·die + number for a vat (DESIGN CHOICE, log entry 55). -/
def unitField (kind number : Nat) : Nat := kind * 2 ^ 28 + number % 2 ^ 28

/-- Words upset in mesh flits are counted (R241). -/
def S8.meshWords (s : S8) (corrected uncorrectable unit : Nat) : S8 :=
  (s.raise Obj.fabricCorrectedCount 0 corrected unit 0).raise Obj.fabricUncorrectableCount 0 uncorrectable unit 0

/-- The Unit field naming a vat. -/
def unitOfVatKey (k : Nat) : Nat :=
  if isCulture k then unitField 5 (vatDie k * 4096 + (k % 2592 - 2304)) else unitField 4 (vatDie k * 4096 + k % 2592)

/-- The logical number that a physical vat backs, by which events and records name it (R8); a physical vat that backs none keeps
its own number. -/
def Vats.nameOf (v : Vats) (physical : Nat) : Nat := (v.logicalOf physical).headD physical

/-- The Unit field naming a physical vat by the logical number that it backs (R8, R473). -/
def S8.vatUnit (s : S8) (physical : Nat) : Nat := unitOfVatKey (s.vats.nameOf physical)

/-- The logical number that a physical core backs (R8). -/
def Cores.nameOf (c : Cores) (physical : Nat) : Nat :=
  ((List.range 36).map (fun i => physical / 36 * 36 + i)).find? (fun l => c.physical l = physical) |>.getD physical

/-- A logical vat number becomes unbacked: UnitUnbacked names it (R23). -/
def S8.unbackVat (s : S8) (k : Nat) : S8 :=
  if s.vats.unbacked.contains k then s
  else { s with
    vats := { s.vats with unbacked := insertNat k s.vats.unbacked }
    dict := s.dict.note s.run.step eventUnitUnbacked (unitOfVatKey k) 0 }

/-- A logical core number becomes unbacked: UnitUnbacked names it (R23). -/
def S8.unbackCore (s : S8) (k : Nat) : S8 :=
  if s.cores.unbacked.contains k then s
  else { s with
    cores := { s.cores with unbacked := insertNat k s.cores.unbacked }
    dict := s.dict.note s.run.step eventUnitUnbacked (unitField 3 k) 0 }

/-! ### Module addresses (R25 to R31) -/

/-- An address from its region, die and offset (R25). -/
def address (region die offset : Nat) : Nat := region * 2 ^ 40 + die * 2 ^ 34 + offset

/-- The scratchpad row of a logical core (R28). -/
def scratchRow (core row : Nat) : Nat := address 1 (core / 72) (0x80000 * (core % 72) + 512 * row)

/-- The base of a rind unit's region (R103). -/
def unitBase (u : Nat) : Nat := address 1 (u / 36) (0x02400000 + 0x550000 * (u % 36))

/-- The base of a physical vat's tables (R104). -/
def tableBase (k : Nat) : Nat :=
  if isCulture k then unitBase (unitOfVat k) + 0x240000 + 0x4000 * ((k % 2592 - 2304) % 8)
  else unitBase (unitOfVat k) + 0x9000 * (k % 2592 % 64)

/-- A row of a unit's pool (R104). -/
def poolRow (u row : Nat) : Nat := unitBase u + 0x480000 + 512 * row

/-- The base of a half's working area (R30). -/
def workBase (half : Nat) : Nat := address 0 (half / 2) (if half % 2 = 0 then 0x1C0000000 else 0x3C0000000)

/-- A hot-pool frame of a die, by frame index (R30). -/
def frameBase (die frame : Nat) : Nat :=
  address 0 die (if frame < 734003 then 10240 * frame else 0x200000000 + 10240 * (frame - 734003))

/-- The parts of memory, each with its own rule for a failing word (R398). -/
inductive Place where
  | scratchpad
  | rindStore
  | engineBuffer (half : Nat)
  | linkBuffer
  | hotPool
  | working (half : Nat)
  | mirror
  | none
  deriving DecidableEq, Repr

/-- The place of a module address (R26, R28, R30, R31). -/
def placeOf (a : Nat) : Place :=
  let region := field a 40 8
  let off := field a 0 34
  if field a 37 3 ≠ 0 ∨ 2 ^ 48 ≤ a then .none
  else if region = 0 then
    if off < 0x1BFFFF800 then .hotPool
    else if off < 0x1C0000000 then .none
    else if off < 0x200000000 then .working (2 * field a 34 3)
    else if off < 0x3BFFFF800 then .hotPool
    else if off < 0x3C0000000 then .none
    else .working (2 * field a 34 3 + 1)
  else if region = 1 then
    if off < 0x02400000 then .scratchpad
    else if off < 0x0E340000 then .rindStore
    else if off < 0x0E400000 then .rindStore
    else if off < 0x0F000000 then .engineBuffer (2 * field a 34 3)
    else if off < 0x0FC00000 then .engineBuffer (2 * field a 34 3 + 1)
    else if off < 0x10000000 then .linkBuffer
    else .none
  else if region = 3 ∧ off < 2 ^ 28 then .mirror
  else .none

/-! ### Memory -/

/-- What an unlisted byte reads as: 0 (R230, R480), but for the high byte of a calibration entry's Gain, whose reset is 0x8000 (R108). -/
def resetByte (a : Nat) : Byte :=
  if field a 40 8 = 1 ∧ 0x02400000 ≤ field a 0 34 ∧ field a 0 34 < 0x0E340000 ∧ a % 4 = 3 then
    let off := (field a 0 34 - 0x02400000) % 0x550000
    let t := if off < 0x240000 then off % 0x9000 else (off - 0x240000) % 0x4000
    if off < 0x240000 ∧ ((1024 ≤ t ∧ t < 9600) ∨ (26112 ≤ t ∧ t < 34304)) then 0x80
    else if 0x240000 ≤ off ∧ off < 0x260000 ∧ 1024 ≤ t ∧ t < 5312 then 0x80
    else 0
  else 0

/-- Write bytes from an address, keeping the canonical form. -/
def writeBytes (m : SMap Byte) (a : Nat) (b : Bytes) : SMap Byte :=
  match b with
  | [] => m
  | x :: rest => writeBytes (SMap.put (resetByte a) m a x) (a + 1) rest

/-- The byte at an address: its reset value where nothing is listed. -/
def Mem.byte (m : Mem) (a : Nat) : Byte := SMap.getD m.bytes a (resetByte a)

/-- Read bytes. -/
def Mem.read (m : Mem) (a n : Nat) : Bytes := (List.range n).map (fun i => m.byte (a + i))

/-- Write bytes; a word written whole decodes again (R399). -/
def Mem.write (m : Mem) (a : Nat) (b : Bytes) : Mem :=
  { m with
    bytes := writeBytes m.bytes a b
    bad := m.bad.filter (fun w => !(a ≤ 16 * w && 16 * w + 16 ≤ a + b.length)) }

/-- The canonical form of memory: addresses strictly rising, no byte listed that an unlisted one reads as. -/
def Mem.wf (m : Mem) : Bool := SMap.sorted m.bytes && m.bytes.all (fun e => e.2 ≠ resetByte e.1)

/-- Words of a range found corrected. -/
def correctedIn (upset : Upsets) (a n : Nat) : List Nat :=
  (upset.filter (fun e => e.2 = WordErr.corrected && a < 16 * e.1 + 16 && 16 * e.1 < a + n)).map (·.1)

/-- Words of a range that do not decode: found so now, or known bad. -/
def badIn (m : Mem) (upset : Upsets) (a n : Nat) : List Nat :=
  (((upset.filter (fun e => e.2 = WordErr.uncorrectable)).map (·.1) ++ m.bad).eraseDups).filter
    (fun w => a < 16 * w + 16 && 16 * w < a + n)

/-- A step number is kept among a row's hits; the row is to be retired when three different steps fall within 2^20
(R399, R400). -/
def hitSteps (hits : List Nat) (step : Nat) : List Nat :=
  ((if hits.head? = some step then hits else step :: hits).filter (fun t => step - t < 2 ^ 20)).take 3

/-- Record corrected and uncorrectable words met in the rows of a range (R399, R400): hits by 512-byte row of a scratchpad,
by frame of the hot pool and by 64 KiB block of a working area, and what is due for retirement. -/
def Mem.meet (m : Mem) (step a : Nat) (corrected bad : List Nat) : Mem :=
  if corrected = [] ∧ bad = [] then m
  else
    let grain : Nat := match placeOf a with | .scratchpad => 512 | .hotPool => 10240 | _ => 65536
    let rowOf (w : Nat) : Nat :=
      match placeOf a with
      | .hotPool => (16 * w - (16 * w / 2 ^ 33 * 2 ^ 33)) / grain + 16 * w / 2 ^ 33 * 2 ^ 20
      | _ => 16 * w / grain
    let hitRows := (corrected.map rowOf).eraseDups
    let hits := hitRows.foldl (fun h r => SMap.insert h r (hitSteps (SMap.getD h r []) step)) m.hits
    let due := ((bad.map rowOf).eraseDups ++ hitRows.filter (fun r => (SMap.getD hits r []).length = 3)).eraseDups
    let marked := (bad ++ m.bad).eraseDups
    match placeOf a with
    | .scratchpad => { m with hits := hits, bad := marked, rowsDue := (m.rowsDue ++ due).eraseDups }
    | .hotPool => { m with hits := hits, bad := marked, framesDue := (m.framesDue ++ due).eraseDups }
    | .working _ => { m with hits := hits, bad := marked, blocksDue := (m.blocksDue ++ due).eraseDups }
    | _ => { m with bad := marked }

/-- The counters a read's words advance, by place (R231, R289, R398). -/
def Dict.meet (d : Dict) (step a : Nat) (corrected bad : Nat) : Dict :=
  match placeOf a with
  | .scratchpad =>
    (d.raise step Obj.scratchpadCorrectedCount 0 corrected 0 a).raise step Obj.scratchpadUncorrectableCount 0 bad 0 a
  | .hotPool => (d.raise step Obj.dramCorrectedCount 0 corrected 0 a).raise step Obj.dramUncorrectableCount 0 bad 0 a
  | .working _ => (d.raise step Obj.dramCorrectedCount 0 corrected 0 a).raise step Obj.dramUncorrectableCount 0 bad 0 a
  | _ => (d.raise step Obj.sramCorrectedCount 0 corrected 0 a).raise step Obj.sramUncorrectableCount 0 bad 0 a

/-! ### Units lost -/

/-- Does the sheet name the rind unit, by a vat binding or a leaf? (R119) -/
def Sheet.namesUnit (sh : Sheet) (v : Vats) (u : Nat) : Bool :=
  sh.bindings.any (fun b => unitOfVat (v.physical (2592 * b.die + 2304 * b.kind + b.num)) = u) ||
  sh.trees.any (fun t => t.kind = 1 && 36 * t.die + 18 * t.half + t.position = u)

/-- Retire a rind unit (R119): its 72 vats are not backed, and when the running sheet names it the die is lost at the
next boundary (R213). -/
def S8.retireUnit (s : S8) (u : Nat) : S8 :=
  if s.vats.unitsRetired.contains u then s
  else
    let gone := (s.vats.map.filter (fun e => unitOfVat e.2 = u)).map (·.1) ++
      ((List.range 64).map (fun i => 2592 * (u / 36) + 64 * (u % 36) + i) ++
        (List.range 8).map (fun i => 2592 * (u / 36) + 2304 + 8 * (u % 36) + i)).filter
        (fun k => (SMap.find s.vats.map k).isNone)
    let named := match s.run.running with | none => false | some sh => sh.namesUnit s.vats u
    gone.foldl S8.unbackVat { s with
      vats := { s.vats with
        unitsRetired := insertNat u s.vats.unitsRetired
        unitsPoisoned := insertNat u s.vats.unitsPoisoned }
      dict := s.dict.note s.run.step eventUnitUnbacked (unitField 7 u) u
      run := if named then { s.run with losing := insertNat (u / 36) s.run.losing } else s.run }

/-- Retire each rind unit whose store holds one of the words (R398). -/
def S8.retireUnitsOf (s : S8) (a : Nat) (bad : List Nat) : S8 :=
  if bad = [] then s
  else
    match placeOf a with
    | .rindStore =>
      if field a 0 34 < 0x0E340000 then s.retireUnit (36 * field a 34 3 + (field a 0 34 - 0x02400000) / 0x550000) else s
    | _ => s

/-- Count, mark and act on the words of a range found upset as it is read (R397, R398). -/
def S8.meetWords (s : S8) (a n : Nat) (upset : Upsets) : S8 :=
  let corrected := correctedIn upset a n
  let bad := badIn s.mem upset a n
  { s with
    mem := s.mem.meet s.run.step a corrected bad
    dict := s.dict.meet s.run.step a corrected.length bad.length }.retireUnitsOf a bad

/-- Read bytes as a unit of the module does, with the words found upset (R397, R398): the bytes, the words that do not
decode, and the module after counting and marking them. -/
def S8.fetchBytes (s : S8) (a n : Nat) (upset : Upsets) : Bytes × List Nat × S8 :=
  (s.mem.read a n, badIn s.mem upset a n, s.meetWords a n upset)

/-- A little-endian field of n bytes of memory (R5). -/
def Mem.le (m : Mem) (a n : Nat) : Nat := leNat (m.read a n)

/-- A signed little-endian field of n bytes of memory (R5). -/
def Mem.leInt (m : Mem) (a n : Nat) : Int := toSigned (8 * n) (m.le a n)

/-- Lose a die at the next boundary (R213, R32). -/
def Run.lose (r : Run) (die : Nat) : Run := { r with losing := insertNat die r.losing }

/-- Is a die in service? (R32) -/
def S8.dieServes (s : S8) (die : Nat) : Bool := !(s.run.lostDies.contains die)

/-- Is a half in the schedule? HalfService's bit (R453) of a die in service. -/
def S8.halfServes (s : S8) (half : Nat) : Bool :=
  s.dieServes (half / 2) && field (s.dict.get Obj.halfService) half 1 = 1

/-- CoreState of a physical core: as the test record gives it until it changes (R236, R482). -/
def Cores.stateOf (c : Cores) (physical : Nat) : Nat := SMap.getD c.states physical (Config.coreStart physical)

/-- CoreState of a physical core (R236). -/
def S8.coreState (s : S8) (physical : Nat) : Nat := s.cores.stateOf physical

/-- The cores of a half in CoreState 1. -/
def S8.spareCores (s : S8) (half : Nat) : List Nat :=
  ((List.range 36).map (fun i => 36 * half + i)).filter (fun c => s.coreState c = 1)

/-- A fresh free value and the count after it. -/
def S8.fresh (s : S8) : Nat × S8 := (Config.freeValue s.free, { s with free := s.free + 1 })

/-- Some member of a non-empty list where the manual says "any" or does not say which: a free choice. -/
def S8.pick (s : S8) (l : List Nat) : Nat := l.getD (Config.freeValue s.free % l.length) 0

/-- The free value of a choice is used up. -/
def S8.picked (s : S8) : S8 := { s with free := s.free + 1 }

/-- The number of a vat within its die and kind, as R77 and R203 give it. -/
def vatNumber (k : Nat) : Nat := if isCulture k then k % 2592 - 2304 else k % 2592

/-- The binding of a logical vat in a sheet. -/
def Sheet.bindingOf (sh : Sheet) (vat : Nat) : Option Binding :=
  sh.binding (if isCulture vat then 1 else 0) (vatDie vat) (vatNumber vat)

/-- The place record a culture vat belongs to, and its role there (R372). -/
def Sheet.placeOfVat (sh : Sheet) (vat : Nat) : Option (PlaceRecord × Nat) :=
  sh.places.findSome? (fun p =>
    ((List.range p.roles).find? (fun r => vatOfWord (p.vats.getD r 0xFFFF) = vat)).map (fun r => (p, r)))

/-- The vat whose instructions a vat's slot list takes: role r of the template, the lowest-numbered place of the group,
for a culture vat of a place (R372, R373); otherwise itself. -/
def Sheet.templateOf (sh : Sheet) (vat : Nat) : Nat :=
  match sh.placeOfVat vat with
  | none => vat
  | some (p, r) =>
    let group := sh.places.filter (fun q => q.group = p.group)
    let least := group.foldl (fun a q => min a q.place) p.place
    match group.find? (fun q => q.place = least) with
    | none => vat
    | some t => vatOfWord (t.vats.getD r 0xFFFF)

/-- The instruction the sheet gives a slot of a vat, with an expert slot's patch in place (R78, R198, R203, R373). -/
def S8.sheetEntry (s : S8) (sh : Sheet) (vat slot : Nat) : Option PourInstr :=
  match sh.bindingOf (sh.templateOf vat) with
  | none => none
  | some b =>
    match (sh.bindingInstrs b).find? (fun p => p.slot = slot) with
    | none => none
    | some p =>
      let own := { p with vat := vatNumber vat }
      if b.expert then
        (SMap.find s.vats.patched (128 * vat + slot)).map (fun e => { own with lane := e.1, row := e.2 })
      else some own

/-- The sheet that gives a vat its slots: the running sheet, or, while a version switch is open, the replaced sheet for a
vat that only it binds (R369). -/
def Run.sheetOf (r : Run) (vat : Nat) : Option Sheet :=
  match r.running with
  | none => none
  | some sh =>
    if (sh.bindingOf vat).isSome then some sh
    else
      match r.oldSheet with
      | none => none
      | some (old, _) => if (old.bindingOf vat).isSome then some old else none

/-- Does a lane pour elsewhere in an open version switch: the old mapping for a lane stamped with the old version, the new
one for any other? (R369) -/
def Run.otherMapping (r : Run) (vat phase lane : Nat) : Bool :=
  match r.running, r.oldSheet with
  | some sh, some (old, _) =>
    let stamped := (SMap.getD r.stamps phase []).contains lane
    if (sh.bindingOf vat).isNone then !stamped
    else if (old.bindingOf vat).isNone then stamped
    else false
  | _, _ => false

/-- The instruction placed in an entry of a vat's slot list (R78): one written in service, else the sheet's. -/
def S8.ownEntry (s : S8) (vat slot : Nat) : Option PourInstr :=
  match SMap.find s.vats.granted (128 * vat + slot) with
  | some p => some p
  | none =>
    match SMap.find s.vats.posted (128 * vat + slot) with
    | some p => some p
    | none => (s.run.sheetOf vat).bind (fun sh => s.sheetEntry sh vat slot)

/-- A reverse pour placed in the entry before also fills this one (R67, R78). -/
def secondEntry (slot : Nat) (before : Option PourInstr) : Option PourInstr :=
  before.filter (fun p => p.direction = 1 && p.slot + 1 = slot)

/-- The instruction that an entry of a vat's slot list holds: its own, or that of a reverse pour that fills it with the one before
(R78). -/
def S8.slotEntry (s : S8) (vat slot : Nat) : Option PourInstr :=
  match s.ownEntry vat slot with
  | some p => some p
  | none => secondEntry slot (if slot = 0 then none else s.ownEntry vat (slot - 1))

/-- Is a token present on a lane at a phase: its LaneActive bit? (R195) -/
def Run.tokenPresent (r : Run) (phase lane : Nat) : Bool := (SMap.getD r.active phase []).contains lane

/-- Is a lane active at a phase: a token is present, or a backward pass on a companion lane? (R195, R386, R396) -/
def Run.laneActive (r : Run) (phase lane : Nat) : Bool :=
  r.tokenPresent phase lane || (SMap.getD r.ripenActive phase []).contains lane

/-- Lane-status bits (R129). -/
def statusRepaired : Nat := 1
def statusUnrepaired : Nat := 2
def statusClamped : Nat := 4
def statusEmpty : Nat := 8
def statusPoison : Nat := 16

end Sys2Proof.Machine
end

