-- ==== Sys2Proof/Machine/DictOps.lean ====
section
/-! DEFINITION. Control frames as they are received, and writing an object: the checks every dictionary write passes, its
answer and how a value takes effect (chapter 18; R295 to R300). -/

namespace Sys2Proof.Machine

/-! ### Ports -/

/-- The state of a port. -/
def Ports.get (p : Ports) (which : Port) : PortState :=
  match which with
  | .a => p.a
  | .b => p.b

/-- Change the state of a port. -/
def Ports.set (p : Ports) (which : Port) (st : PortState) : Ports :=
  match which with
  | .a => { p with a := st }
  | .b => { p with b := st }

/-- The other port. -/
def otherPort (p : Port) : Port :=
  match p with
  | .a => .b
  | .b => .a

/-- The half that carries a port: W of die 0, E of die 7 (R16). -/
def portHalf (p : Port) : Nat :=
  match p with
  | .a => 0
  | .b => 15

/-- Does any die's firmware run? (R486) -/
def Boot.anyFirmware (b : Boot) : Bool := b.state.any (fun e => e.2 = 3)

/-- Does a port answer? Its half is in service (R16), or, while no firmware runs, the starter of its die does (R486). -/
def S8.portAnswers (s : S8) (p : Port) : Bool :=
  if s.boot.anyFirmware then s.halfServes (portHalf p)
  else SMap.getD s.boot.state (portHalf p / 2) 0 ≠ 0

/-- Has the port received a good frame in the last 64 cycles? (R299, R304) -/
def Ports.live (p : Ports) (which : Port) : Bool :=
  match (p.get which).lastGood with
  | none => false
  | some c => p.cycle - c < 64

/-! ### Frames -/

/-- A received frame's fields (R297), payload bytes beyond Length read as zero (R296). -/
structure FrameView where
  type : Nat
  cycle : Nat
  handle : Nat
  length : Nat
  flags : Nat
  payload : Bytes
  deriving DecidableEq, Repr

/-- Read the 240 data bytes of a frame (R297). -/
def FrameView.ofData (d : Bytes) : FrameView :=
  let len := leAt d 9 2
  { type := leAt d 0 1, cycle := leAt d 1 3, handle := leAt d 5 4, length := len, flags := leAt d 11 2,
    payload := padTo 224 (bytesAt d 16 (min len 224)) }

/-- Is it a request frame type? (R298) -/
def isRequestType (t : Nat) : Bool := t = 1 || (4 ≤ t && t ≤ 6)

/-- The field of n payload bytes at offset i. -/
def FrameView.at (v : FrameView) (i n : Nat) : Nat := leAt v.payload i n

/-- Count a discarded frame (R300). -/
def S8.frameLost (s : S8) : S8 := s.raise Obj.controlFrameLostCount 0 1 0 0

/-- Mark a good frame on a port (R299). -/
def S8.goodFrame (s : S8) (p : Port) : S8 :=
  { s with ports := s.ports.set p { s.ports.get p with lastGood := some s.ports.cycle } }

/-- An answer record that only refuses (R307). -/
def refusalRecord (slot kind requestId handle reason : Nat) : AnswerRecord :=
  { downSlot := slot, kind := kind, refused := true, reason := reason, requestId := requestId, handle := handle, cls := 0,
    track := 0, residue := 0, admitStep := 0, firstTokenStep := 0, stride := 0, fill := 0, firstTokenTicks := 0,
    completionSeconds := 0 }

/-- Place an answer record for the cycle (R305). -/
def S8.placeRecord (s : S8) (p : Port) (r : AnswerRecord) : S8 :=
  { s with ports := s.ports.set p { s.ports.get p with records := (s.ports.get p).records ++ [r] } }

/-- Answer a request frame: its record, and RefusalCount by reason where it is refused (R305, R328). -/
def S8.answerRecord (s : S8) (p : Port) (r : AnswerRecord) : S8 :=
  (s.placeRecord p r).raise Obj.refusalCount r.reason (if r.refused then 1 else 0) 0 r.requestId

/-- Receive a frame (R300): a frame with an uncorrectable group or another cycle's number is discarded and counted, with
FRAME_ERROR where it lay in a request slot; a good frame of the expected type is handed on. A frame of another type is a
good frame and nothing else here; it is another command's. A port that does not answer receives nothing. -/
def S8.receive (s : S8) (f : Frame) (type : Nat) (k : S8 → FrameView → S8) : S8 :=
  if s.portAnswers f.port then
    match frameData f.raw with
    | none =>
      if f.slot.val < 8 ∧ isRequestType type then
        s.frameLost.answerRecord f.port (refusalRecord f.slot.val type 0 0 0x0A)
      else s.frameLost
    | some d =>
      let v := FrameView.ofData d
      if v.cycle ≠ s.ports.cycle % 2 ^ 24 then
        if f.slot.val < 8 ∧ isRequestType v.type then
          s.frameLost.answerRecord f.port (refusalRecord f.slot.val v.type (v.at 0 4) v.handle 0x0A)
        else s.frameLost
      else if v.type ≠ type then s.goodFrame f.port
      else k (s.goodFrame f.port) v
  else s

/-! ### Dictionary answers -/

/-- Status codes (R465). -/
def statusOk : Nat := 0
def statusNoObject : Nat := 1
def statusAccess : Nat := 2
def statusNotOwner : Nat := 3
def statusRange : Nat := 4
def statusLength : Nat := 5
def statusBusy : Nat := 6
def statusState : Nat := 7
def statusAborted : Nat := 8
def statusTimeout : Nat := 9
def statusStale : Nat := 10

/-- The Flags byte of an answer: event flag set, RWB value pending, segments follow (R464). -/
def Dict.answerFlags (d : Dict) (obj : Nat) (more : Bool) : Nat :=
  (if d.flags.any (fun e => e.1 / 2 ^ 32 = obj) then 1 else 0) +
  (if (SMap.find d.pending (objKey obj 0)).isSome then 2 else 0) + (if more then 4 else 0)

/-- An answer frame (R464): `type` 0x10 for a read, 0x11 for a write. -/
def dictAnswer (type requestId obj status typeCode flags transfer length : Nat) (value : Bytes) : UpFrame :=
  { type := type, handle := 0, flags := 0,
    payload := leBytes 4 requestId ++ leBytes 2 (obj / 256) ++ leBytes 1 (obj % 256) ++ leBytes 1 status ++ leBytes 1 typeCode ++
      leBytes 1 flags ++ leBytes 2 transfer ++ leBytes 4 length ++ value }

/-- The type code of an object, 0 where there is none (R464). -/
def typeCodeOf (obj : Nat) : Nat := ((objInfo obj).map (fun i => i.type.code)).getD 0

/-- Queue a dictionary answer on the port that carried the request (R464). -/
def S8.answer (s : S8) (p : Port) (u : UpFrame) : S8 :=
  { s with ports := s.ports.set p { s.ports.get p with answers := (s.ports.get p).answers ++ [u] } }

/-- Answer a write of a value of a length; `value` is what the answer carries (R464). -/
def S8.answerWrite (s : S8) (p : Port) (requestId obj status length : Nat) (value : Bytes) : S8 :=
  s.answer p (dictAnswer 0x11 requestId obj status (if status = statusNoObject then 0 else typeCodeOf obj)
    (s.dict.answerFlags obj false) 0 length value)

/-! ### Writing a value -/

/-- The value of the bytes of a fixed-size object. -/
def valueOf (value : Bytes) : Nat := leNat value

/-- Is a binary32 datum finite? (R457) -/
def f32Finite (w : Nat) : Bool := field w 23 8 ≠ 255

/-- The check of a write against its object's access, type and range (R457, R458, R460): OK, or the status that refuses
it. -/
def writeCheck (obj : Nat) (value : Bytes) : Nat :=
  match objInfo obj with
  | none => statusNoObject
  | some i =>
    match i.access with
    | .const => statusAccess
    | .ro => statusAccess
    | _ =>
      if i.type.size ≠ 0 ∧ value.length ≠ i.type.size then statusLength
      else if i.type = .domain ∧ i.length ≠ 0 ∧ value.length ≠ i.length then statusLength
      else if i.type.size ≠ 0 ∧ (valueOf value < i.lo ∨ i.hi < valueOf value) then statusRange
      else if i.type = .f32 ∧ !(f32Finite (valueOf value)) then statusRange
      else if normObj obj = Obj.tickParentLane ∧ 71 < valueOf value ∧ valueOf value ≠ 0xFF then statusRange
      else statusOk

/-- Store a value of a fixed-size object in effect. -/
def Dict.store (d : Dict) (obj value : Nat) : Dict :=
  { d with settings := SMap.insert d.settings (objKey obj 0) value }

/-- What writing an object does: a status and the module after it. -/
abbrev WriteEffect := S8 → Bytes → Nat × S8

/-- A written DOMAIN value with its reserved bytes and bits zero (R6): bytes 1 to 3 of each 40-byte entry of ReplicaDigestExpected,
bits 7:3 of the low byte of each entry of WheelSources (R382, R421). -/
def clearReserved (obj : Nat) (value : Bytes) : Bytes :=
  if obj = Obj.replicaDigestExpected then value.mapIdx (fun i b => if 1 ≤ i % 40 ∧ i % 40 ≤ 3 then 0 else b)
  else if obj = Obj.wheelSources then value.mapIdx (fun i b => if i % 2 = 0 then b &&& 0x07 else b)
  else value

/-- The effect of a write of an RW object that has no command of its own: the value is in effect (R458). -/
def storeEffect (obj : Nat) : WriteEffect := fun s value =>
  match (objInfo obj).map (·.type) with
  | some ObjType.domain => (statusOk, { s with dict := { s.dict with
      blobs := SMap.insert s.dict.blobs (objKey obj 0) (clearReserved obj value) } })
  | _ => (statusOk, { s with dict := s.dict.store obj (valueOf value) })

/-- The effect of a write of an RWB object: the value is held pending and replaces an earlier one (R459). -/
def pendEffect (obj : Nat) : WriteEffect := fun s value =>
  (statusOk, { s with dict := { s.dict with pending := SMap.insert s.dict.pending (objKey obj 0) (valueOf value) } })

/-- The value an answer to a write carries: EventClear's answer carries the counter it names (R464, R472). -/
def Dict.answerValue (d : Dict) (obj : Nat) (value : Bytes) : Bytes :=
  if normObj obj = Obj.eventClear then leBytes 4 (d.count (leAt value 0 2 * 256 + leAt value 2 1) (leAt value 4 4)) else []

/-- Requests a port holds that are not answered yet, at most 32 (R466). -/
def requestLimit : Nat := 32

/-- Write an object inline (R458 to R467, R486). The checks come in this order: a silent port receives nothing; the 32
requests of a port; a module without firmware; ownership; the object, its access, the value's size and range; then the
object's own effect, whose status is answered. -/
def S8.writeObject (s : S8) (port : Port) (requestId obj : Nat) (value : Bytes) (effect : WriteEffect) : S8 :=
  if !(s.portAnswers port) then s
  else if requestLimit ≤ (s.ports.get port).answers.length then s.answerWrite port requestId obj statusBusy value.length []
  else if !(s.boot.anyFirmware) && normObj obj ≠ Obj.firmwareLoadRequest then
    s.answerWrite port requestId obj statusState value.length []
  else if s.ports.owner ≠ port then s.answerWrite port requestId obj statusNotOwner value.length []
  else if writeCheck obj value ≠ statusOk then s.answerWrite port requestId obj (writeCheck obj value) value.length []
  else (effect s value).2.answerWrite port requestId obj (effect s value).1 value.length (s.dict.answerValue obj value)

/-- Perform a row of the table that is a write of one object. -/
def S8.performWrite (s : S8) (w : ObjWrite) (obj : Nat) (effect : WriteEffect) : S8 :=
  s.writeObject w.port w.requestId.toNat obj w.value effect

end Sys2Proof.Machine
end

