-- ==== Sys2Proof/Machine/Tables.lean ====
section
/-! DEFINITION. The tables of a vat in its rind store (R103 to R112), read as the rind units read them, and staging
(R114, R115). -/

namespace Sys2Proof.Machine

/-! ### The header and the vat constants (R106, R107, R112) -/

/-- The header State of a physical vat: 0 empty, 1 programming, 2 in service, 3 retired. -/
def Mem.vatState (m : Mem) (k : Nat) : Nat := m.le (tableBase k + 3) 1

/-- WheelId. -/
def Mem.vatWheel (m : Mem) (k : Nat) : Nat := m.le (tableBase k + 4) 1

/-- ContentVersion. -/
def Mem.vatContent (m : Mem) (k : Nat) : Nat := m.le (tableBase k + 8) 4

/-- TableGeneration. -/
def Mem.vatGeneration (m : Mem) (k : Nat) : Nat := m.le (tableBase k + 12) 4

/-- The lifted rows of a vat, at most 8 (R106). -/
def Mem.liftedRows (m : Mem) (k : Nat) : List Nat :=
  (List.range (min 8 (m.le (tableBase k + 5) 1))).map (fun i => m.le (tableBase k + 16 + 2 * i) 2)

/-- The pool address of the lifted golden weights (R111). -/
def Mem.liftedAddr (m : Mem) (k : Nat) : Nat := poolRow (unitOfVat k) (m.le (tableBase k + 32) 2)

/-- The pool address of the entries (R110). -/
def Mem.entryAddr (m : Mem) (k : Nat) : Nat := poolRow (unitOfVat k) (m.le (tableBase k + 34) 2)

/-- OutlierCount, ResidualCount and EntryRows. -/
def Mem.outlierCount (m : Mem) (k : Nat) : Nat := m.le (tableBase k + 36) 2
def Mem.residualCount (m : Mem) (k : Nat) : Nat := m.le (tableBase k + 38) 2
def Mem.entryRows (m : Mem) (k : Nat) : Nat := m.le (tableBase k + 40) 2

/-- The redundant assignments a vat can hold: 64, or 32 on a culture vat (R63, R86). -/
def mapSlots (k : Nat) : Nat := if isCulture k then 32 else 64

/-- The column map in force: (data pair, redundant pair) (R107). -/
def Mem.columnMap (m : Mem) (k : Nat) : List (Nat × Nat) :=
  ((List.range (mapSlots k)).map (fun i =>
    (m.le (tableBase k + 512 + 4 * i) 2, m.le (tableBase k + 514 + 4 * i) 2))).filter (fun e => e.1 ≠ 0xFFFF)

/-- The pair that holds data column c (R63). -/
def pairOf (map : List (Nat × Nat)) (c : Nat) : Nat := ((map.find? (fun e => e.1 = c)).map (·.2)).getD c

/-- Offsets within the constants row of ChecksumScale, HeldGain and HeldOffsetLevel (R107, R112). -/
def scaleOffset (k : Nat) : Nat := if isCulture k then 640 else 768
def heldGainOffset (k : Nat) : Nat := if isCulture k then 672 else 832
def heldLevelOffset (k : Nat) : Nat := if isCulture k then 688 else 864

/-- The checksum scale of group g: mantissa × 2^exponent (R107). -/
def Mem.checksumScale (m : Mem) (k g : Nat) : Nat × Int :=
  (m.le (tableBase k + scaleOffset k + 4 * g) 2, m.leInt (tableBase k + scaleOffset k + 4 * g + 2) 1)

/-- Held gain K_j and held offset level of the references, by j / 2 (R107). -/
def Mem.heldGain (m : Mem) (k i : Nat) : Nat := m.le (tableBase k + heldGainOffset k + 4 * i) 4
def Mem.heldLevel (m : Mem) (k i : Nat) : Int := m.leInt (tableBase k + heldLevelOffset k + 2 * i) 2

/-- K_row (R107). -/
def Mem.rowGain (m : Mem) (k : Nat) : Nat := m.le (tableBase k + 880) 4

/-! ### Calibration, columns, entries (R108 to R111) -/

/-- G_π and O_π of a pair (R108). -/
def Mem.pairGain (m : Mem) (k p : Nat) : Nat := m.le (tableBase k + 1026 + 4 * p) 2
def Mem.pairOffset (m : Mem) (k p : Nat) : Int := m.leInt (tableBase k + 1024 + 4 * p) 2

/-- The address of a data column's entry (R105, R112). -/
def columnAddr (k c : Nat) : Nat := tableBase k + (if isCulture k then 5632 else 9728) + 8 * c

/-- ColumnSum S_c, and the step's mantissa and exponent (R109). -/
def Mem.columnSum (m : Mem) (k c : Nat) : Int := m.leInt (columnAddr k c + 4) 4
def Mem.stepMantissa (m : Mem) (k c : Nat) : Nat := m.le (columnAddr k c) 2
def Mem.stepExponent (m : Mem) (k c : Nat) : Int := m.leInt (columnAddr k c + 2) 1

/-- Is a column's Suspect bit set? (R109) -/
def Mem.suspect (m : Mem) (k c : Nat) : Bool := field (m.le (columnAddr k c + 3) 1) 1 1 = 1

/-- G_r and O_r of a row (R105, R109). -/
def Mem.rowSideGain (m : Mem) (k r : Nat) : Nat := m.le (tableBase k + 26114 + 4 * r) 2
def Mem.rowSideOffset (m : Mem) (k r : Nat) : Int := m.leInt (tableBase k + 26112 + 4 * r) 2

/-- An entry of the pool (R110): residual or outlier, row, column, Δ. -/
structure Entry where
  residual : Bool
  row : Nat
  col : Nat
  delta : Int
  deriving DecidableEq, Repr

/-- Read an entry word (R110): an unused or reserved one is none. -/
def Entry.ofWord (w : Nat) : Option Entry :=
  if field w 62 2 = 1 ∨ field w 62 2 = 2 then
    some { residual := field w 62 2 = 2, row := field w 51 11, col := field w 40 11, delta := toSigned 24 (field w 0 24) }
  else none

/-- The word of an entry (R110). -/
def Entry.toWord (e : Entry) : Nat :=
  (if e.residual then 2 else 1) * 2 ^ 62 + e.row * 2 ^ 51 + e.col * 2 ^ 40 + ofSigned 24 e.delta

/-- The entries of a vat, outliers first (R110). -/
def Mem.entries (m : Mem) (k : Nat) : List Entry :=
  (List.range (m.outlierCount k + m.residualCount k)).filterMap (fun i => Entry.ofWord (m.le (m.entryAddr k + 8 * i) 8))

/-- The golden weight of lifted entry i in column c (R111). -/
def Mem.liftedWeight (m : Mem) (k i c : Nat) : Int := m.leInt (m.liftedAddr k + 2048 * i + c) 1

/-! ### Staging (R114, R115) -/

/-- The base of a unit's staging area (R104). -/
def stagingBase (u : Nat) : Nat := unitBase u + 0x470000

/-- Is Commit 1? (R114) -/
def Mem.committed (m : Mem) (u : Nat) : Bool := field (m.le (stagingBase u + 508) 1) 0 1 = 1

/-- The bits of a byte of a unit's region that are not reserved: those of the vat tables (R106 to R109, R112). -/
def tableMask (off : Nat) : Byte :=
  if off < 0x260000 then
    let culture := 0x240000 ≤ off
    let t := if culture then (off - 0x240000) % 0x4000 else off % 0x9000
    let i := t - 512
    let columnsAt := if culture then 5632 else 9728
    let columnsEnd := columnsAt + (if culture then 8 * 1024 else 8 * 2048)
    if t < 512 then (if t = 6 ∨ t = 7 ∨ (42 ≤ t ∧ t ≤ 47) ∨ 80 ≤ t then 0 else 0xFF)
    else if t < 1024 then
      let scales := if culture then 128 else 256
      let scalesEnd := if culture then 160 else 320
      let last := if culture then 184 else 372
      if last ≤ i ∨ (scales ≤ i ∧ i < scalesEnd ∧ i % 4 = 3) then 0 else 0xFF
    else if columnsAt ≤ t ∧ t < columnsEnd ∧ (t - columnsAt) % 8 = 3 then 0x03
    else if (if culture then columnsEnd ≤ t else 34304 ≤ t) then 0
    else 0xFF
  else 0xFF

/-- Bytes as a unit's region holds them from an offset on: reserved bits read as zero (R6). -/
def maskTable (off : Nat) (b : Bytes) : Bytes := b.mapIdx (fun i x => x &&& tableMask (off + i))

/-- Copy one staged row to its target (R114), reserved fields as zero (R6). -/
def Mem.copyStaged (m : Mem) (u n : Nat) : Mem :=
  let target := m.le (stagingBase u + 4 * n) 4
  if target = 0xFFFFFFFF then m
  else m.write (unitBase u + target) (maskTable target (m.read (stagingBase u + 512 * (n + 1)) 512))

/-- The boundary's staging copy of one unit: every staged row in ascending order, then every target empty and Commit 0
(R114). -/
def Mem.stagingCopy (m : Mem) (u : Nat) : Mem :=
  if m.committed u then
    ((List.range 127).foldl (fun a n => a.copyStaged u n) m).write (stagingBase u)
      (List.replicate 508 (0xFF : Byte) ++ [0])
  else m

/-- Memory with writes made in order. -/
def Mem.writeAll (m : Mem) (ws : List (Nat × Bytes)) : Mem := ws.foldl (fun a w => a.write w.1 w.2) m

/-- Memory as the next boundary will make it: what turning has staged is in place. A later staging of the same step builds on it, so
that all of them stand in one batch (R115, R159, R520). -/
def S8.seen (s : S8) : Mem := s.mem.writeAll s.turn.staged

/-- Writes of a vat's tables with the generation advanced (R106). -/
def S8.advancing (s : S8) (k : Nat) (writes : List (Nat × Bytes)) : List (Nat × Bytes) :=
  writes ++ [(tableBase k + 12, leBytes 4 (s.seen.vatGeneration k + 1))]

/-- Stage writes of a vat's tables for the next boundary (R106, R115). -/
def S8.stageWrites (s : S8) (k : Nat) (writes : List (Nat × Bytes)) : S8 :=
  { s with turn := { s.turn with staged := s.turn.staged ++ s.advancing k writes } }

/-- A vat's header State staged for the next boundary (R106, R115). -/
def S8.stageState (s : S8) (k state : Nat) : S8 := s.stageWrites k [(tableBase k + 3, [BitVec.ofNat 8 state])]

/-- Is an address in a physical vat's table? -/
def inTable (k a : Nat) : Bool := tableBase k ≤ a && a < tableBase k + (if isCulture k then 0x4000 else 0x9000)

/-- Write a vat's header State with the generation advanced, as the copy of a staged header does (R106, R115). -/
def Mem.changeState (m : Mem) (k state : Nat) : Mem :=
  (m.write (tableBase k + 3) [BitVec.ofNat 8 state]).write (tableBase k + 12) (leBytes 4 (m.vatGeneration k + 1))

/-- Write a vat's header State directly (R113: State 0, 1 or 3). -/
def Mem.setState (m : Mem) (k state : Nat) : Mem := m.write (tableBase k + 3) [BitVec.ofNat 8 state]

end Sys2Proof.Machine
end

