-- ==== Sys2Proof/Machine/Power.lean ====
section
/-! DEFINITION. Power, droop and heat (chapter 16) and the coolant inlet (R517): the cap loop, the monitors, the energy
estimate, droop, the thermal model, trips and power cycles. -/

namespace Sys2Proof.Machine

/-- The halves of the module. -/
def halves : List Nat := List.range 16

/-- A half's core clock in MHz: 2,000 by default (R217, R236), 1,700 from power-up on until the cap loop moves it (R426, R480). -/
def Power.clock (p : Power) (half : Nat) : Nat := SMap.getD p.clocks half 2000

/-- A half's throttle stage (R436). -/
def Power.stageOf (p : Power) (half : Nat) : Nat := SMap.getD p.stage half 0

/-- The permitted maximum core clock: 2,000 MHz, the floor from stage 1 on (R426, R436). -/
def Power.permitted (p : Power) (half : Nat) : Nat := if 1 ≤ p.stageOf half then 1700 else 2000

/-- The move of a half's clock at one cap loop (R426). Powers in mW. -/
def capMove (clock permitted average cap margin : Nat) : Int :=
  if permitted < clock then -25
  else if 1000 * cap < average ∧ 1700 < clock then -25
  else if average + 1000 * margin < 1000 * cap ∧ clock < permitted then 25
  else 0

/-- Is every half at the floor clock? (R427) -/
def Power.allAtFloor (p : Power) : Bool := halves.all (fun h => p.clock h ≤ 1700)

/-- One pass of the cap loop (R422, R426, R427): the clock of each half moves at the next boundary; the time spent above
the cap at the floor is counted, and at 64 ms PowerCapExceeded is raised and admission refused until the average falls to
PowerCap − CapMargin. -/
def S8.capLoop (s : S8) (average : Nat) : S8 :=
  let cap := s.dict.get Obj.powerCap
  let margin := s.dict.get Obj.capMargin
  let stuck := 1000 * cap < average && s.power.allAtFloor
  let time := if stuck then s.power.floorTime + 1 else 0
  let idle := s.run.active.all (fun e => e.2 = [])
  let idleMs := if idle then s.power.idleMs + 1 else 0
  let idleSum := if idle then s.power.idleSum + average else 0
  { s with
    power := { s.power with
      module := average
      step := s.power.step + average
      clockMoves := halves.map (fun h => (h, capMove (s.power.clock h) (s.power.permitted h) average cap margin))
      floorTime := time
      capRefusal := if time = 64 then true
        else if average + 1000 * margin ≤ 1000 * cap then false else s.power.capRefusal
      idle := if idleMs = 1000 then idleSum / 1000 else s.power.idle
      idleMs := if idleMs = 1000 then 0 else idleMs
      idleSum := if idleMs = 1000 then 0 else idleSum
      uptime := s.power.uptime + 1 }
    dict := s.dict.raise s.run.step Obj.powerCapExceededCount 0 (if time = 64 then 1 else 0) 0 average }

/-- CAP_LOOP (R426, R427). -/
def execCapLoop (average : Nat) (s : State) : Host.Outcome State Fault Refusal :=
  act (.capLoop average) s (fun c => c.capLoop average)

/-- Do the input monitor and the rail sum differ by more than 10 % of the larger? (R424) -/
def monitorsDiffer (input rails : Nat) : Bool := max input rails < 10 * (max input rails - min input rails)

/-- The sum of the rail monitors over the conversion efficiency at that load (R424), rounded down to 1 mW. -/
def railFigure (rails : List Nat) : Nat :=
  let load := rails.foldl (· + ·) 0
  load * 65536 / Config.railEfficiency load

/-- A comparison of the monitors (R424): the fault is raised when it begins and clears after 100 comparisons in a row
that agree; the higher figure is in use while it stands, the input monitor's otherwise. -/
def S8.compareMonitors (s : S8) (input : Nat) (readings : List Nat) : S8 :=
  let rails := railFigure readings
  let differ := monitorsDiffer input rails
  let agreeing := if differ then 0 else s.power.agreeing + 1
  let standing := differ || (s.power.monitorFault && agreeing < 100)
  { s with
    power := { s.power with
      input := input
      rails := readings
      module := if standing then max input rails else input
      agreeing := agreeing
      monitorFault := standing }
    dict := s.dict.raise s.run.step Obj.powerMonitorFaultCount 0 (if differ && !s.power.monitorFault then 1 else 0) 0 input }

/-- POWER_MONITOR_COMPARE (R424). -/
def execPowerMonitorCompare (input : Nat) (rails : List Nat) (s : State) : Host.Outcome State Fault Refusal :=
  act (.powerMonitorCompare input rails) s (fun c => c.compareMonitors input rails)

/-- M_w / E_w in units of 1/65,536, rounded down (R430, R441). -/
def energyRatio (measured estimate : Nat) : Nat := if estimate = 0 then 65536 else measured * 65536 / estimate

/-- Does the window mismatch: |M_w − E_w| > 0.25 × E_w? (R430) -/
def windowMismatch (measured estimate : Nat) : Bool := estimate < 4 * (max measured estimate - min measured estimate)

/-- The end of an energy window (R430). -/
def S8.endWindow (s : S8) (measured : Nat) : S8 :=
  let e := s.run.windowEnergy
  let ratio := energyRatio measured e
  let settled := 8 ≤ s.run.mismatches.length
  let list := if settled then s.run.mismatches
    else if windowMismatch measured e then ratio :: s.run.mismatches else []
  let raised := !settled && list.length = 8
  { s with
    run := { s.run with windowSteps := 0, windowEnergy := 0, mismatches := list }
    power := { s.power with
      scale := if raised then list.foldl max 65536
        else if settled then max s.power.scale ratio else s.power.scale }
    dict := s.dict.raise s.run.step Obj.estimateMismatchCount 0 (if raised then 1 else 0) 0 ratio }

/-- The steps of a window (R430). -/
def windowLength : Nat := 1024

/-- ESTIMATE_WINDOW (R430): a window of 1,024 steps is compared; before its end there is nothing to compare. -/
def execEstimateWindow (measured : Nat) (s : State) : Host.Outcome State Fault Refusal :=
  act (.estimateWindow measured) s (fun c => if c.run.windowSteps = windowLength then c.endWindow measured else c)

/-- The floor period, 588.2 ps, in 0.1 ps (R431). -/
def floorPeriod : Nat := 5882

/-- DROOP_TRIP (R431): the half's clock period is stretched, never beyond the floor period, and the trip counts. -/
def execDroopTrip (die : Die) (half : Half) (period : Nat) (s : State) : Host.Outcome State Fault Refusal :=
  act (.droopTrip die half period) s (fun c =>
    { c with
      power := { c.power with droop := SMap.insert c.power.droop (halfKey die half) (min period floorPeriod) }
      dict := c.dict.raise c.run.step Obj.droopCount 0 1 (unitField 2 (halfKey die half)) 0 })

/-- DROOP_RECOVER (R431): the period returns to that of the set clock. -/
def execDroopRecover (die : Die) (half : Half) (s : State) : Host.Outcome State Fault Refusal :=
  act (.droopRecover die half) s (fun c =>
    { c with power := { c.power with droop := SMap.erase c.power.droop (halfKey die half) } })

/-- DROOP_FAULT (R432): a non-maskable event, and the die is lost at the next boundary. -/
def execDroopFault (die : Die) (half : Half) (s : State) : Host.Outcome State Fault Refusal :=
  act (.droopFault die half) s (fun c =>
    { c with
      dict := c.dict.raise c.run.step Obj.droopFaultCount 0 1 (unitField 2 (halfKey die half)) 0
      run := c.run.lose die.val })

/-- A sensor's number: die, half, sensor in order (R441). -/
def sensorKey (half sensor : Nat) : Nat := 8 * half + sensor

/-- Store eight readings of a half from sensor `i` on. -/
def storeReadings (m : SMap Int) (half i : Nat) (r : List Int) : SMap Int :=
  match r with
  | [] => m
  | x :: rest => storeReadings (SMap.put 0 m (sensorKey half i) x) half (i + 1) rest

/-- THERMAL_SAMPLE (R433): the half's eight sensors are read. -/
def execThermalSample (die : Die) (half : Half) (readings : List Int) (s : State) : Host.Outcome State Fault Refusal :=
  act (.thermalSample die half readings) s (fun c =>
    { c with power := { c.power with temps := storeReadings c.power.temps (halfKey die half) 0 readings } })

/-- A sensor's last reading, 0.1 °C. -/
def Power.temp (p : Power) (half sensor : Nat) : Int := SMap.getD p.temps (sensorKey half sensor) 0

/-- Is a reading within −40 to +150 °C? (R433) -/
def inSensorRange (t : Int) : Bool := -400 ≤ t && t ≤ 1500

/-- SensorState: 0 valid, 1 broken, 2 overridden (R441). -/
def Power.sensorState (p : Power) (half sensor : Nat) : Nat := SMap.getD p.sensors (sensorKey half sensor) 0

/-- One millisecond of a sensor's thermal model (R434): broken after 100 ms off the model, or at once out of range; sound
again after 60 s in range and within 4 °C. -/
def S8.judgeSensor (s : S8) (half sensor : Nat) (predicted : Int) : S8 :=
  let k := sensorKey half sensor
  let t := s.power.temp half sensor
  let off := 80 < (t - predicted).natAbs
  let offMs := if off then SMap.getD s.power.offModel k 0 + 1 else 0
  let backMs := if inSensorRange t && (t - predicted).natAbs ≤ 40 then SMap.getD s.power.backIn k 0 + 1 else 0
  let was := s.power.sensorState half sensor ≠ 0
  let breaks := !(inSensorRange t) || 100 ≤ offMs
  let sound := was && !breaks && 60000 ≤ backMs
  let state := if breaks && !was then 1 else if sound then 0 else s.power.sensorState half sensor
  { s with
    power := { s.power with
      model := SMap.put 0 s.power.model k predicted
      offModel := SMap.put 0 s.power.offModel k offMs
      backIn := SMap.put 0 s.power.backIn k backMs
      sensors := SMap.put 0 s.power.sensors k state
      overrides := if sound then SMap.erase s.power.overrides k else s.power.overrides }
    dict := s.dict.raise s.run.step Obj.sensorFaultCount 0 (if breaks && !was then 1 else 0) (unitField 2 half) sensor }

/-- THERMAL_MODEL (R434). -/
def execThermalModel (die : Die) (half : Half) (sensor : Fin 8) (predicted : Int) (s : State) :
    Host.Outcome State Fault Refusal :=
  act (.thermalModel die half sensor predicted) s (fun c => c.judgeSensor (halfKey die half) sensor.val predicted)

/-- SensorState as an object shows it: an override that has expired leaves its sensor broken (R435, R441). -/
def S8.sensorShown (s : S8) (k : Nat) : Nat :=
  let st := SMap.getD s.power.sensors k 0
  if st = 2 ∧ SMap.getD s.power.overrides k 0 ≤ s.cellar.seconds then 1 else st

/-- What a sensor is taken to read: its reading; broken, 95 °C; overridden, its model plus 3 °C (R434, R435). -/
def S8.taken (s : S8) (half sensor : Nat) : Int :=
  match s.power.sensorState half sensor with
  | 0 => s.power.temp half sensor
  | 2 => if s.cellar.seconds < SMap.getD s.power.overrides (sensorKey half sensor) 0
      then SMap.getD s.power.model (sensorKey half sensor) 0 + 30 else 950
  | _ => 950

/-- The hottest reading of a half (R436). -/
def S8.hottest (s : S8) (half : Nat) : Int := (List.range 8).foldl (fun a i => max a (s.taken half i)) (-400)

/-- The mean junction temperature of a half in 0.1 °C, rounded down (R158, R406). -/
def S8.meanTemp (s : S8) (half : Nat) : Int := (List.range 8).foldl (fun a i => a + s.taken half i) 0 / 8

/-- A sensor override record (R435). The manual names its fields and not their places; the model puts them: serial number
in bytes 0–7, die, half and sensor in bytes 8–10, expiry in bytes 12–15, signature in the last 384 bytes. -/
def overrideEffect : WriteEffect := fun s value =>
  let half := 2 * leAt value 8 1 + leAt value 9 1
  let sensor := leAt value 10 1
  let expiry := leAt value 12 4
  if signedBy Config.serviceKey value ∧ leAt value 0 8 = Config.serialNumber ∧ s.cellar.seconds < expiry ∧ half < 16 ∧
      sensor < 8 then
    (statusOk,
      if s.power.sensorState half sensor = 0 then s
      else { s with power := { s.power with
        sensors := SMap.insert s.power.sensors (sensorKey half sensor) 2
        overrides := SMap.insert s.power.overrides (sensorKey half sensor) expiry } })
  else (statusState, s)

/-- SENSOR_OVERRIDE (R435). -/
def execSensorOverride (w : ObjWrite) (s : State) : Host.Outcome State Fault Refusal :=
  act (.sensorOverride w) s (fun c => c.performWrite w Obj.sensorOverride overrideEffect)

/-- Does the hardware comparator of a die trip on its sensors' readings? (R437) -/
def Power.tripCondition (p : Power) (die : Nat) : Bool :=
  [2 * die, 2 * die + 1].any (fun h =>
    (List.range 8).any (fun i =>
      inSensorRange (p.temp h i) &&
        (1200 ≤ p.temp h i ||
          (1100 ≤ p.temp h i &&
            (List.range 8).any (fun j => j ≠ i && inSensorRange (p.temp h j) && 950 ≤ p.temp h j)))))

/-- Lose a die now: its addresses are unmapped (R32), and its tracks close at the next boundary (R214). -/
def Run.loseNow (r : Run) (die : Nat) : Run :=
  { r with lostDies := insertNat die r.lostDies, losing := insertNat die r.losing }

/-- A write of DiePowerCycle (R438): refused for a die that has not tripped and is not lost, within 10 s of the trip, and
while the inlet reads above 40 °C; otherwise the die loses power and the trip's latch clears. -/
def diePowerCycleEffect : WriteEffect := fun s value =>
  let die := valueOf value
  let tooSoon := match SMap.find s.power.tripped die with | none => false | some t => s.power.uptime - t < 10000
  if !(s.run.lostDies.contains die) || tooSoon || 400 < s.power.inlet then (statusState, s)
  else (statusOk, { s with
    power := { s.power with tripped := SMap.erase s.power.tripped die, cycling := insertNat die s.power.cycling }
    boot := { s.boot with state := SMap.erase s.boot.state die } })

/-- DIE_POWER_CYCLE (R438). -/
def execDiePowerCycle (w : ObjWrite) (s : State) : Host.Outcome State Fault Refusal :=
  act (.diePowerCycle w) s (fun c => c.performWrite w Obj.diePowerCycle diePowerCycleEffect)

/-- The memory of one die cleared: its DRAM tier and SRAM are written to zero at power-up (R480, R481). -/
def Mem.clearDie (m : Mem) (die : Nat) : Mem :=
  { m with
    bytes := SMap.keep (fun a _ => field a 34 3 ≠ die) m.bytes
    bad := m.bad.filter (fun w => field (16 * w) 34 3 ≠ die) }

/-- The starter's first state of a die: running, or stopped by its test record (R483) or for want of a core (R484). -/
def Boot.startState (b : Boot) (die : Nat) : Nat :=
  if b.badRecords.contains die then 4 else if b.noStarter.contains die then 5 else 1

/-- The column maps that the Catalogue holds (R490): those in force of every vat that holds content and has its tables, and those kept of
the others. -/
def S8.catalogueMaps (s : S8) : SMap (List (Nat × Nat)) :=
  s.wheels.content.foldl (fun m e => if s.mem.vatState e.1 = 0 then m else SMap.insert m e.1 (s.mem.columnMap e.1)) s.turn.columnMaps

/-- The registers and the work of the cores of a die that loses power are cleared (R481). -/
def Cores.clearDie (c : Cores) (die : Nat) : Cores :=
  { c with
    x := SMap.keep (fun k _ => k / 32 / 72 ≠ die) c.x
    v := SMap.keep (fun k _ => k / 32 / 72 ≠ die) c.v
    f := SMap.keep (fun k _ => k / 32 / 72 ≠ die) c.f
    csr := SMap.keep (fun k _ => k / 4096 / 72 ≠ die) c.csr
    traps := SMap.keep (fun k _ => k / 72 ≠ die) c.traps
    waiting := SMap.keep (fun k _ => k / 72 ≠ die) c.waiting
    tagStalls := SMap.keep (fun k _ => k / 72 ≠ die) c.tagStalls
    xferStalls := SMap.keep (fun k _ => k / 72 ≠ die) c.xferStalls
    transfers := SMap.keep (fun k _ => k / 16 / 72 ≠ die) c.transfers
    taskStatus := SMap.keep (fun k _ => k / 72 ≠ die) c.taskStatus }

/-- The die of a crossing by the number under which its isolation is kept (R452); a bridge has none of its own. -/
def crossingDie (key : Nat) : Nat :=
  if key < 64 then key / 8
  else if key < 128 then 8
  else if key < 1024 then (key - 128) / 72
  else if key < 2048 then (key - 1024) / 36
  else (key - 2048) / 2

/-- A die's clocks after a power-up of its own: the crystal, the oscillator's trim as the test record has it, no fault latched, and its
crossings out of a common reset (R442, R446, R452, R481). -/
def Clocks.clearDie (c : Clocks) (die : Nat) : Clocks :=
  { c with
    source := SMap.erase c.source die
    switchedAt := SMap.erase c.switchedAt die
    oscMoves := SMap.erase c.oscMoves die
    correction := SMap.erase c.correction die
    frozen := eraseNat die c.frozen
    flagged := eraseNat die c.flagged
    flagsSeen := c.flagsSeen.filter (fun k => k / 8 ≠ die)
    oscFault := eraseNat die c.oscFault
    isolated := c.isolated.filter (fun k => crossingDie k ≠ die) }

/-- DIE_POWER_RESTORE (R438, R480, R481, R483): a die whose power is being cycled runs phases 3 to 7 by itself, both halves' clocks at
1,700 MHz; its starter runs unless its test record fails again. -/
def execDiePowerRestore (die : Die) (s : State) : Host.Outcome State Fault Refusal :=
  act (.diePowerRestore die) s (fun c =>
    if c.power.cycling.contains die.val then
      { c with
        power := { c.power with
          cycling := eraseNat die.val c.power.cycling
          clocks := SMap.insert (SMap.insert c.power.clocks (2 * die.val) 1700) (2 * die.val + 1) 1700
          droop := SMap.erase (SMap.erase c.power.droop (2 * die.val)) (2 * die.val + 1) }
        mem := c.mem.clearDie die.val
        turn := { c.turn with columnMaps := c.catalogueMaps }
        cores := c.cores.clearDie die.val
        boot := { c.boot with
          state := SMap.put 0 c.boot.state die.val (c.boot.startState die.val)
          attempts := SMap.put 0 c.boot.attempts die.val 0
          failures := SMap.put 0 c.boot.failures die.val 0
          rejoining := insertNat die.val c.boot.rejoining }
        clock := c.clock.clearDie die.val
        dict := c.dict.raise c.run.step Obj.testRecordFaultCount 0
          (if c.boot.badRecords.contains die.val then 1 else 0) (unitField 1 die.val) 0 }
    else c)

/-- ENERGY_SAVE (R440): EnergyTotal is saved to the cellar Log every 60 s. -/
def execEnergySave (s : State) : Host.Outcome State Fault Refusal :=
  act .energySave s (fun c =>
    { c with
      power := { c.power with saved := c.power.total } })

/-- INLET_HIGH (R517): InletTemp has read above 40 °C for 1 s. The event is raised once a spell. -/
def execInletHigh (temp : Int) (s : State) : Host.Outcome State Fault Refusal :=
  act (.inletHigh temp) s (fun c =>
    { c with
      power := { c.power with inlet := temp, inletHigh := c.power.inletHigh || 400 < temp }
      dict := c.dict.raise c.run.step Obj.inletHighCount 0 (if 400 < temp ∧ c.power.inletHigh = false then 1 else 0) 0
        temp.toNat })

/-- INLET_NORMAL (R517): InletTemp has read at or below 40 °C for 1 s, and the spell ends. -/
def execInletNormal (temp : Int) (s : State) : Host.Outcome State Fault Refusal :=
  act (.inletNormal temp) s (fun c =>
    { c with power := { c.power with inlet := temp, inletHigh := c.power.inletHigh && 400 < temp } })

/-! ### At a step boundary -/

/-- The entry temperature of a throttle stage, 0.1 °C (R436). -/
def stageEntry (stage : Nat) : Int :=
  match stage with
  | 1 => 950
  | 2 => 1000
  | _ => 1050

/-- A stage left when the reading lies 3 °C below its entry: the stage below (R436). -/
def stageLeft (hottest : Int) (stage : Nat) : Nat :=
  if stage = 0 then 0 else if hottest ≤ stageEntry stage - 30 then stage - 1 else stage

/-- The stage a hottest reading gives a half that was in `stage` (R436). -/
def nextStage (hottest : Int) (stage : Nat) : Nat :=
  let reached := if 1050 ≤ hottest then 3 else if 1000 ≤ hottest then 2 else if 950 ≤ hottest then 1 else 0
  if stage < reached then reached else stageLeft hottest (stageLeft hottest (stageLeft hottest stage))

/-- Change one half's stage, with the events of R436. -/
def S8.stageHalf (s : S8) (half : Nat) : S8 :=
  let old := s.power.stageOf half
  let new := nextStage (s.hottest half) old
  { s with
    power := { s.power with stage := SMap.put 0 s.power.stage half new }
    dict := (s.dict.raise s.run.step Obj.thermalThrottleCount 0 (if old = 0 ∧ 1 ≤ new then 1 else 0) (unitField 2 half) 0).raise
      s.run.step Obj.thermalCriticalCount 0 (if old < 3 ∧ new = 3 then 1 else 0) (unitField 2 half) (s.hottest half).toNat }

/-- Apply the clock moves of the cap loop (R426). -/
def applyMoves (clocks : SMap Nat) (moves : SMap Int) : SMap Nat :=
  match moves with
  | [] => clocks
  | (h, m) :: rest =>
    applyMoves (if m = 0 then clocks
      else SMap.insert clocks h (clampInt 1700 2000 ((SMap.getD clocks h 2000 : Nat) + m)).toNat) rest

/-- The part of the estimate a step adds to E_w (R430): Σ_d Static + a_t × Σ_d (Step − Static), rounded down to 1 µJ. -/
def Run.stepEstimate (r : Run) : Nat :=
  match r.running with
  | none => 0
  | some sh =>
    let static := (sh.estimates.map (·.static)).foldl (· + ·) 0
    let total := (sh.estimates.map (·.step)).foldl (· + ·) 0
    let pairs := (r.active.map (fun e => e.2.length)).foldl (· + ·) 0
    let cells := sh.header.lanes * (sh.header.lastPhase - sh.header.firstPhase + 1)
    static + (if cells = 0 then 0 else pairs * (total - static) / cells)

/-- What a boundary does to power: clocks move (R426), stages change (R436), and the step's energy counts (R440). -/
def S8.powerBoundary (s : S8) : S8 :=
  let s1 := { s with
    power := { s.power with
      clocks := applyMoves s.power.clocks s.power.clockMoves
      clockMoves := []
      run := if s.run.running.isSome then s.power.run + s.power.step else s.power.run
      total := s.power.total + s.power.step
      step := 0 }
    run := if s.run.running.isNone then s.run
      else if s.run.windowSteps = windowLength then { s.run with windowSteps := 1, windowEnergy := s.run.stepEstimate }
      else { s.run with windowSteps := s.run.windowSteps + 1, windowEnergy := s.run.windowEnergy + s.run.stepEstimate } }
  halves.foldl S8.stageHalf s1

end Sys2Proof.Machine
end

