-- ==== Sys2Proof/Machine/Clocks.lean ====
section
/-! DEFINITION. Clocks and crossings (chapter 17): the clock monitors, holdover, the half clocks and the seam. -/

namespace Sys2Proof.Machine

/-- A crystal count is flagged when it differs from 1,000 by more than 20 (R443). -/
def windowFlagged (count : Nat) : Bool := 20 < max count 1000 - min count 1000

/-- ClockSource of a die (R455). -/
def Clocks.sourceOf (c : Clocks) (die : Nat) : Nat := SMap.getD c.source die 0

/-- Switch a die's root PLL to its oscillator (R444); a die whose OscillatorFault stands cannot hold over and is lost at
the next boundary (R445). -/
def S8.switchReference (s : S8) (die : Nat) : S8 :=
  if s.clock.sourceOf die ≠ 0 then s
  else if s.clock.oscFault.contains die then
    { s with clock := { s.clock with source := SMap.insert s.clock.source die 4 }, run := s.run.lose die }
  else
    { s with
      clock := { s.clock with
        source := SMap.insert s.clock.source die 1
        switchedAt := SMap.insert s.clock.switchedAt die s.power.uptime
        frozen := eraseNat die s.clock.frozen }
      dict := s.dict.raise s.run.step Obj.clockSourceFailCount 0 1 (unitField 1 die) 0 }

/-- The end of a 10 µs window of a die's clock monitor (R443 to R445). A window of zero edges, or one flagged on this die
and on another, switches the reference. The window before, flagged on this die alone, is now known to be so: it raises
OscillatorFault, and a loop frozen in it has resumed on the crystal. -/
def S8.clockWindow (s : S8) (die count : Nat) : S8 :=
  let flagged := windowFlagged count
  let others := s.clock.flagsSeen.any (fun k => k / 8 = die)
  let lone := s.clock.flagged.contains die && s.clock.sourceOf die = 0
  let alone := lone && !(s.clock.oscFault.contains die)
  let s1 := { s with
    clock := { s.clock with
      flagged := if flagged then insertNat die s.clock.flagged else eraseNat die s.clock.flagged
      flagsSeen := s.clock.flagsSeen.filter (fun k => k / 8 ≠ die)
      frozen := if flagged && !lone then s.clock.frozen else eraseNat die s.clock.frozen
      oscFault := if alone then insertNat die s.clock.oscFault else s.clock.oscFault }
    dict := s.dict.raise s.run.step Obj.oscillatorFaultCount 0 (if alone then 1 else 0) (unitField 1 die) 0 }
  if count = 0 ∨ (flagged ∧ others) then s1.switchReference die else s1

/-- CLOCK_MONITOR_WINDOW (R443, R444, R445). -/
def execClockMonitorWindow (die : Die) (count : Nat) (s : State) : Host.Outcome State Fault Refusal :=
  act (.clockMonitorWindow die count) s (fun c => c.clockWindow die.val count)

/-- WINDOW_FLAG_RX (R444): another die's flag reaches a die. -/
def execWindowFlagRx (die reporter : Die) (s : State) : Host.Outcome State Fault Refusal :=
  act (.windowFlagRx die reporter) s (fun c =>
    if die = reporter then c
    else if c.clock.flagged.contains die.val then
      { c with clock := { c.clock with flagged := eraseNat die.val c.clock.flagged } }.switchReference die.val
    else { c with clock := { c.clock with flagsSeen := insertNat (8 * die.val + reporter.val) c.clock.flagsSeen } })

/-- MISSING_EDGE (R443): no crystal edge for 20 ns freezes the root PLL's loop. -/
def execMissingEdge (die : Die) (s : State) : Host.Outcome State Fault Refusal :=
  act (.missingEdge die) s (fun c =>
    { c with clock := { c.clock with
      frozen := if c.clock.sourceOf die.val = 0 then insertNat die.val c.clock.frozen else c.clock.frozen } })

/-- −1, 0 or 1. -/
def signOf (v : Int) : Int := if v < 0 then -1 else if 0 < v then 1 else 0

/-- OSC_DISCIPLINE (R442, R445): once a second the trim moves one 0.05 ppm step towards the crystal, while the die is on
the crystal and no OscillatorFault stands. A deviation within half a step moves nothing. -/
def execOscDiscipline (die : Die) (deviation : Int) (s : State) : Host.Outcome State Fault Refusal :=
  act (.oscDiscipline die deviation) s (fun c =>
    let held := c.clock.sourceOf die.val ≠ 0 || c.clock.oscFault.contains die.val
    { c with clock := { c.clock with
      oscMoves := if held || deviation.natAbs ≤ 25 then c.clock.oscMoves
        else SMap.put 0 c.clock.oscMoves die.val (SMap.getD c.clock.oscMoves die.val 0 - signOf deviation)
      deviation := if die.val = 0 then -deviation else c.clock.deviation } })

/-- Does the module take its tick from a parent? (R263) -/
def S8.hasTickParent (s : S8) : Bool := s.dict.get Obj.tickParentLane ≠ 0xFF

/-- HOLDOVER_STEER (R446): from 10 s after the switch, a module with a tick parent steers the trim so that the PLL
correction tends to zero; a time root's oscillator runs free with its trim frozen. -/
def execHoldoverSteer (die : Die) (s : State) : Host.Outcome State Fault Refusal :=
  act (.holdoverSteer die) s (fun c =>
    let held := c.clock.sourceOf die.val = 1 || c.clock.sourceOf die.val = 2 || c.clock.sourceOf die.val = 3
    if held && 10000 ≤ c.power.uptime - SMap.getD c.clock.switchedAt die.val c.power.uptime then
      if c.hasTickParent then
        { c with clock := { c.clock with
          source := SMap.insert c.clock.source die.val 2
          oscMoves := SMap.put 0 c.clock.oscMoves die.val
            (SMap.getD c.clock.oscMoves die.val 0 + signOf (SMap.getD c.clock.correction die.val 0)) } }
      else { c with clock := { c.clock with source := SMap.insert c.clock.source die.val 3 } }
    else c)

/-! ### Half clocks -/

/-- HalfClockControl's default: every half at divider 1 (R455). -/
def halfControlDefault : Bytes := List.replicate 16 1

/-- HalfClockControl in effect. -/
def Dict.halfControl (d : Dict) : Bytes := d.blob Obj.halfClockControl halfControlDefault

/-- The divider of a half's control byte (R449). -/
def controlDivider (b : Byte) : Nat := field b.toNat 0 5

/-- The stop bit of a half's control byte (R449). -/
def controlStop (b : Byte) : Bool := field b.toNat 7 1 = 1

/-- A half's HalfClockState after its control byte (R449, R454): a stopped half that is to run locks first. -/
def halfStateAfter (was : Nat) (b : Byte) : Nat :=
  if controlStop b then 2
  else if was = 2 ∨ was = 3 then 3
  else if controlDivider b = 1 then 0 else 1

/-- A write of HalfClockControl (R449, R454, R460): every divider in 1–16; a divider above 1 or a stop only on a half that
is retired from the schedule. A half that starts again has its seam crossings reset with both sides. -/
def halfClockEffect : WriteEffect := fun s value =>
  let bad := value.any (fun b => controlDivider b = 0 || 16 < controlDivider b)
  let barred := halves.any (fun h =>
    let b := byteAt value h
    (controlStop b || controlDivider b ≠ 1) && field (s.dict.get Obj.halfService) h 1 = 1)
  if bad then (statusRange, s)
  else if barred then (statusState, s)
  else
    let starting := halves.filter (fun h => SMap.getD s.clock.halfState h 0 = 2 && !(controlStop (byteAt value h)))
    (statusOk, { s with
      dict := { s.dict with
        blobs := SMap.insert s.dict.blobs (objKey Obj.halfClockControl 0) ((padTo 16 value).map (fun b => b &&& 0x9F)) }
      clock := { s.clock with
        halfState := halves.foldl (fun m h =>
          SMap.put 0 m h (halfStateAfter (SMap.getD s.clock.halfState h 0) (byteAt value h))) s.clock.halfState
        isolated := s.clock.isolated.filter (fun k => !(starting.any (fun h => k < 64 && k / 8 = h / 2))) } })

/-- Does a HalfClockControl value break the ratios of R450: a divider above 4 while the other half of the die runs, or
above 6 at all? -/
def breaksRatio (value : Bytes) : Bool :=
  halves.any (fun h =>
    let b := byteAt value h
    let other := byteAt value (if h % 2 = 0 then h + 1 else h - 1)
    !(controlStop b) && ((4 < controlDivider b && !(controlStop other)) || 6 < controlDivider b))

/-- The rule a write breaks that the S8 relies on and does not check (R3): the clock ratios of R450, and the lead of a
run's start (R210), of a drain (R371) and of a publication (R392). -/
def S8.brokenMust (s : S8) (port : Port) (obj : Nat) (value : Bytes) : Option Nat :=
  if s.portAnswers port && (s.ports.get port).answers.length < requestLimit && s.boot.anyFirmware &&
      s.ports.owner = port && writeCheck obj value = statusOk then
    if obj = Obj.halfClockControl ∧ (halfClockEffect s value).1 = statusOk ∧ breaksRatio value then some 450
    else if obj = Obj.runStartStep ∧ valueOf value < s.run.step + 64 then some 210
    else if obj = Obj.ripenPublishStep ∧ s.run.step < leAt value 4 8 ∧ leAt value 4 8 < s.run.step + 64 ∧
        ((SMap.find s.ripen.jobs (leAt value 0 1)).map (fun (j : Job) => decide (j.state = 4 ∧ j.part = leAt value 2 2))).getD false then
      some 392
    else if obj = Obj.wheelDrainStep ∧ valueOf value ≠ 0 ∧ valueOf value < s.run.step + 64 then some 371
    else none
  else none

/-- A write row that can break such a rule. -/
def S8.performWriteOr (s : S8) (w : ObjWrite) (obj : Nat) (effect : WriteEffect) : Except Fault S8 :=
  match s.brokenMust w.port obj w.value with
  | some r => .error (.undefinedByR3 r)
  | none => .ok (s.performWrite w obj effect)

/-- HALF_CLOCK_CONTROL (R12, R449, R453, R454). -/
def execHalfClockControl (w : ObjWrite) (s : State) : Host.Outcome State Fault Refusal :=
  actOr (.halfClockControl w) s (fun c => c.performWriteOr w Obj.halfClockControl halfClockEffect)

/-- HALF_PLL_LOCKED (R449, R454): a locking half runs, divided as its control byte says. -/
def execHalfPllLocked (die : Die) (half : Half) (s : State) : Host.Outcome State Fault Refusal :=
  act (.halfPllLocked die half) s (fun c =>
    if SMap.getD c.clock.halfState (halfKey die half) 0 = 3 then
      { c with clock := { c.clock with
        halfState := SMap.put 0 c.clock.halfState (halfKey die half)
          (if controlDivider (byteAt c.dict.halfControl (halfKey die half)) = 1 then 0 else 1) } }
    else c)

/-! ### Leaving the schedule -/

/-- The half a core reference lies in. -/
def CoreRef.halfKey (c : CoreRef) : Nat := 2 * c.die + c.half

/-- Does a sheet place a unit of the half? (R453) -/
def Sheet.namesHalf (sh : Sheet) (half : Nat) : Bool :=
  sh.bindings.any (fun b => vatHalf (2592 * b.die + 2304 * b.kind + b.num) = half) ||
  sh.tasks.any (fun t => t.core.halfKey = half) ||
  sh.transfers.any (fun t => t.source.halfKey = half || t.dest.halfKey = half) ||
  sh.reductions.any (fun r => r.outCore.halfKey = half) ||
  sh.trees.any (fun t => t.kind ≠ 0 && 2 * t.die + t.half = half) ||
  sh.groups.any (fun g => g.core.halfKey = half) ||
  sh.attention.any (fun a => a.queryCore.halfKey = half || a.outCore.halfKey = half ||
    a.nodes.any (fun n => n.halfKey = half))

/-- Does the running sheet bar a HalfService value, by naming a unit of a half whose bit it clears? (R453) -/
def Run.barsService (r : Run) (value : Nat) : Bool :=
  match r.running with
  | none => false
  | some sh => halves.any (fun h => field value h 1 = 0 && sh.namesHalf h)

/-- A write of HalfService (R453, R459): refused with STATE when the running sheet names a unit of a half it retires. -/
def halfServiceEffect : WriteEffect := fun s value =>
  if s.run.barsService (valueOf value) then (statusState, s) else pendEffect Obj.halfService s value

/-- HALF_SERVICE (R453). -/
def execHalfService (w : ObjWrite) (s : State) : Host.Outcome State Fault Refusal :=
  act (.halfService w) s (fun c => c.performWrite w Obj.halfService halfServiceEffect)

/-- Is a router retired, by the test record or since? (R239) -/
def S8.routerRetired (s : S8) (r : Nat) : Bool := Config.routerBad r || s.fab.routers.contains r

/-! ### The grid of a die, and bridges -/

/-- A router's place on its die's grid: row and column (R237). -/
def gridOf (half position : Nat) : Nat × Nat :=
  (position / 5, if half = 0 then 4 - position % 5 else 5 + position % 5)

/-- The router position of a grid place: half and position (R237). -/
def positionOf (g : Nat × Nat) : Nat × Nat := if g.2 < 5 then (0, 5 * g.1 + (4 - g.2)) else (1, 5 * g.1 + (g.2 - 5))

/-- The number of the router of a grid place: 80·die + 40·half + position. -/
def routerKey (die : Nat) (g : Nat × Nat) : Nat := 80 * die + 40 * (positionOf g).1 + (positionOf g).2

/-- The higher-numbered die that a bridge joins (R243, R246). -/
def bridgeHighDie (n : Nat) : Nat :=
  match n with
  | 0 => 1
  | 1 => 2
  | 2 => 3
  | 3 => 5
  | 4 => 6
  | 5 => 7
  | 6 => 4
  | 7 => 5
  | 8 => 6
  | _ => 7

/-- The lower-numbered die that a bridge joins (R243). -/
def bridgeLowDie (n : Nat) : Nat := if n < 6 then n / 3 * 4 + n % 3 else n - 6

/-- The die at the other end of a bridge (R243). -/
def bridgeAcross (n die : Nat) : Nat := if bridgeLowDie n = die then bridgeHighDie n else bridgeLowDie n

/-- The router place at which a transfer leaves or enters a die (R237, R243). Of a column bridge's two sub-links, at position 38 of
each half, it takes the one of the half it comes from or goes to (DESIGN CHOICE, log entry 33). -/
def attachGrid (bridge : Bool) (path die half : Nat) : Nat × Nat :=
  if bridge then
    if path < 6 then (if bridgeLowDie path = die then gridOf 1 39 else gridOf 0 39) else gridOf half 38
  else gridOf (if path % 9 < 4 then 0 else 1) 37

/-- The bridges between two dies in the order in which a transfer crosses them: along the row of the source die to the destination's
column, then the column bridge (R243, R245). -/
def bridgesBetween (source dest : Nat) : List Nat :=
  let row := 3 * (source / 4)
  let a := source % 4
  let b := dest % 4
  (if a ≤ b then (List.range (b - a)).map (fun i => row + a + i) else (List.range (a - b)).map (fun i => row + a - 1 - i)) ++
    (if source / 4 = dest / 4 then [] else [6 + b])

/-- The bridges of a transfer: the one its Path names, and those of its route (R206, R245). -/
def Transfer.bridges (t : Transfer) : List Nat :=
  if t.bridge then (t.path :: bridgesBetween t.source.die t.dest.die).eraseDups else []

/-- Does a sheet name a bridge, by the route of a transfer or a tree edge? (R245, R246) -/
def Sheet.namesBridge (sh : Sheet) (n : Nat) : Bool :=
  sh.transfers.any (fun t => t.bridges.contains n) ||
  sh.trees.any (fun t => (t.kind = 4 || t.kind = 5) && t.path = 0x8000 + n)

/-- Does a sheet name a Helca lane, by a transfer, a tree edge or its barrier record? (R213) -/
def Sheet.namesLane (sh : Sheet) (n : Nat) : Bool :=
  sh.transfers.any (fun t => !t.bridge && t.path = n) ||
  sh.trees.any (fun t => (t.kind = 4 || t.kind = 5) && t.path = n) ||
  sh.barrier.any (fun b => (b.parent ≠ 0xFFFF && b.parentLane = n) || (b.childLane.take b.children).contains n)

/-- Lose the die a bridge belongs to when the running sheet names the bridge (R213, R246). -/
def S8.bridgeLoss (s : S8) (n : Nat) : Run :=
  match s.run.running with
  | none => s.run
  | some sh => if sh.namesBridge n then s.run.lose (bridgeHighDie n) else s.run

end Sys2Proof.Machine
end

