-- ==== Sys2Proof/Machine/Flits.lean ====
section
/-! DEFINITION. Helca flits (R251 to R257): their header and payloads, the state of a lane, and putting flits on the line. -/

namespace Sys2Proof.Machine

/-- A lane that has exchanged nothing (R250): training, its peer unknown. -/
def LinkLaneState.fresh : LinkLaneState :=
  { state := 4, replaces := 0, peerModule := 0xFFFF, peerDie := 0xFF, latency := 0, nextSeq := 0, unacked := [], sent := 0,
    credits := 0, queue := [], background := [], control := [], slot := 0, line := [], expected := 0, discarding := false, freed := 0, errors := [],
    received := 0, replays := 0, missed := false, echoSend := 0, echoReceive := 0 }

/-- A lane's state. -/
def Fabric.lane (f : Fabric) (n : Nat) : LinkLaneState := SMap.getD f.lanes n LinkLaneState.fresh

/-- Change a lane's state. -/
def Fabric.setLane (f : Fabric) (n : Nat) (l : LinkLaneState) : Fabric := { f with lanes := SMap.insert f.lanes n l }

/-- A flit's header and payload (R251). -/
structure FlitView where
  kind : Nat
  seq : Nat
  transfer : Nat
  flit : Nat
  last : Bool
  replay : Bool
  payload : Bytes
  deriving DecidableEq, Repr

/-- Read the 56 data bytes of a flit (R251). -/
def FlitView.ofData (d : Bytes) : FlitView :=
  let h := leAt d 0 8
  { kind := field h 60 4, seq := field h 44 12, transfer := field h 28 16, flit := field h 12 16, last := field h 11 1 = 1,
    replay := field h 10 1 = 1, payload := bytesAt d 8 48 }

/-- The 56 data bytes of a flit (R251): reserved bits zero. -/
def FlitView.toData (v : FlitView) : Bytes :=
  leBytes 8 (v.kind * 2 ^ 60 + v.seq % 4096 * 2 ^ 44 + v.transfer % 65536 * 2 ^ 28 + v.flit % 65536 * 2 ^ 12 +
    (if v.last then 2 ^ 11 else 0) + (if v.replay then 2 ^ 10 else 0)) ++ padTo 48 v.payload

/-- A flit's 64 bytes. -/
def FlitView.raw (v : FlitView) : Bytes := encodeFlit v.toData

/-- The data of a control flit (R252, R254). -/
def controlData (kind : Nat) (payload : Bytes) : Bytes :=
  { kind := kind, seq := 0, transfer := 0, flit := 0, last := false, replay := false, payload := payload : FlitView }.toData

/-- A control flit (R252, R254). -/
def controlFlit (kind : Nat) (payload : Bytes) : Bytes := encodeFlit (controlData kind payload)

/-- Kinds of flit (R251). -/
def kindBulk : Nat := 1
def kindBarrier : Nat := 9
def kindTick : Nat := 10
def kindCredit : Nat := 11
def kindToken : Nat := 12

/-- Is a lane able to carry flits: in service, spare, or replacing? (R267) -/
def LinkLaneState.lit (l : LinkLaneState) : Bool := l.state ≤ 2

/-- The lanes of the trunk of die d. -/
def trunkLanes (d : Nat) : List Nat := (List.range 9).map (fun n => 9 * d + n)

/-- The lane that carries a lane's control traffic: itself, or the lowest-numbered lane of the trunk still in service when
it has failed (R260, R266). -/
def Fabric.controlLane (f : Fabric) (n : Nat) : Option Nat :=
  if (f.lane n).state ≠ 3 then some n
  else (trunkLanes (n / 9)).find? (fun m => (f.lane m).lit)


/-- May the lane send a bulk flit: fewer than 512 beyond the credits and fewer than 512 unacknowledged? (R255) -/
def LinkLaneState.maySend (l : LinkLaneState) : Bool := l.sent - l.credits < 512 && l.unacked.length < 512

/-- Number a bulk flit and put it on the line and into the replay buffer (R251, R257). -/
def LinkLaneState.sendOne (l : LinkLaneState) (v : FlitView) : LinkLaneState :=
  let raw := { v with seq := l.nextSeq }.raw
  { l with
    nextSeq := (l.nextSeq + 1) % 4096
    unacked := l.unacked ++ [raw]
    sent := l.sent + 1
    line := l.line ++ [(l.slot, raw)]
    slot := l.slot + 1 }

/-- The data of a credit flit (R254): what is freed and acknowledged now, its flags and the lane of a notice. -/
def LinkLaneState.creditData (l : LinkLaneState) (flags notice : Nat) : Bytes :=
  controlData kindCredit (leBytes 4 l.freed ++ leBytes 2 ((l.expected + 4095) % 4096) ++ leBytes 1 flags ++ leBytes 1 notice)

/-- Put the data of a flit on the line in the next slot. -/
def LinkLaneState.emit (l : LinkLaneState) (d : Bytes) : LinkLaneState :=
  { l with line := l.line ++ [(l.slot, encodeFlit d)], slot := l.slot + 1 }

/-- The pending control flit that a control slot takes: by class barrier, reduction token, tick, credit, the oldest of its class
(R252). -/
def LinkLaneState.nextControl (l : LinkLaneState) : Option Bytes :=
  [kindBarrier, kindToken, kindTick, kindCredit].findSome? (fun k => l.control.find? (fun d => (FlitView.ofData d).kind = k))

/-- A control slot passes (R252): a pending control flit, or a credit flit where none is pending. -/
def LinkLaneState.controlSlot (l : LinkLaneState) : LinkLaneState :=
  match l.nextControl with
  | some d => { l with control := l.control.erase d }.emit d
  | none => l.emit (l.creditData 0 0)

/-- May the data at the head of the queue leave in a bulk slot: a token, which only turns to the control slots, a replay, or a new
bulk flit within the limits of R255? -/
def LinkLaneState.ready (l : LinkLaneState) : Bool :=
  match l.queue with
  | [] => false
  | d :: _ => (FlitView.ofData d).kind = kindToken || (FlitView.ofData d).replay || l.maySend

/-- A bulk slot's worth of work (R252, R255, R256, R257): a token at the head of the queue becomes a pending control flit; a replay
leaves as it is and a new flit with its number; with neither, the slots up to the next control slot carry idle bulk. -/
def LinkLaneState.bulkSlot (l : LinkLaneState) : LinkLaneState :=
  match l.queue with
  | [] => { l with slot := roundUp 32 l.slot }
  | d :: rest =>
    if (FlitView.ofData d).kind = kindToken then { l with queue := rest, control := l.control ++ [d] }
    else if (FlitView.ofData d).replay then { l with queue := rest }.emit d
    else if l.maySend then { l with queue := rest }.sendOne (FlitView.ofData d)
    else { l with slot := roundUp 32 l.slot }

/-- A lane with something to send uses its slots until all of it has left, or waits for credits (R252, R255). -/
def LinkLaneState.pumpAll (l : LinkLaneState) : LinkLaneState :=
  (List.range (3 * (l.queue.length + l.control.length) + 2)).foldl (fun (a : LinkLaneState) _ =>
    if a.control = [] ∧ a.ready = false then a
    else if a.slot % 32 = 0 then a.controlSlot else a.bulkSlot) l

/-- Shard flits go before the lane when no placed transfer needs its slots, as many as the limits of R255 let leave (R360). -/
def LinkLaneState.idleSlots (l : LinkLaneState) : LinkLaneState :=
  let room := min (512 - (l.sent - l.credits)) (512 - l.unacked.length)
  if l.queue = [] then { l with queue := l.background.take room, background := l.background.drop room } else l

/-- A slot passes while a flit arrives on the lane's other fibre: a control slot returns credits and acknowledgements (R252, R255,
R257). -/
def LinkLaneState.passSlot (l : LinkLaneState) : LinkLaneState :=
  if l.slot % 32 = 0 then l.controlSlot else { l with slot := l.slot + 1 }

/-- Control flits become pending on the lane that carries a lane's control traffic, and leave in its control slots. -/
def Fabric.sendControl (f : Fabric) (n : Nat) (data : List Bytes) : Fabric :=
  match f.controlLane n with
  | none => f
  | some m => f.setLane m { f.lane m with control := (f.lane m).control ++ data }.pumpAll

/-- A barrier flit's payload (R254). -/
structure BarrierFlit where
  direction : Nat
  overrun : Bool
  lostChild : Bool
  step : Nat
  tick : Nat
  lostChildren : Nat
  closed : List Nat
  sender : Nat
  announce : List (Nat × Nat)
  deriving DecidableEq, Repr

/-- Read a barrier flit's payload (R254). -/
def BarrierFlit.ofPayload (p : Bytes) : BarrierFlit :=
  { direction := leAt p 0 1, overrun := field (leAt p 1 1) 0 1 = 1, lostChild := field (leAt p 1 1) 1 1 = 1,
    step := leAt p 4 8, tick := leAt p 12 4, lostChildren := leAt p 16 1, closed := bitsOf 96 (leAt p 17 12),
    sender := leAt p 29 2,
    announce := ((List.range 4).map (fun i => (leAt p (31 + 4 * i) 2, leAt p (33 + 4 * i) 1))).filter (fun a => a.1 ≠ 0xFFFF) }

/-- Write a barrier flit's payload (R254). -/
def BarrierFlit.payload (b : BarrierFlit) : Bytes :=
  leBytes 1 b.direction ++ leBytes 1 ((if b.overrun then 1 else 0) + (if b.lostChild then 2 else 0)) ++ zeros 2 ++
    leBytes 8 b.step ++ leBytes 4 b.tick ++ leBytes 1 b.lostChildren ++ leBytes 12 (ofBits b.closed) ++ leBytes 2 b.sender ++
    (List.range 4).flatMap (fun i => match b.announce[i]? with
      | some a => leBytes 2 a.1 ++ leBytes 1 a.2 ++ [0]
      | none => List.replicate 4 (0xFF : Byte)) ++ zeros 1

/-- Send a barrier flit on a lane: twice, in consecutive control slots (R257). -/
def Fabric.sendBarrier (f : Fabric) (lane : Nat) (b : BarrierFlit) : Fabric :=
  f.sendControl lane [controlData kindBarrier b.payload, controlData kindBarrier b.payload]

/-- The logical lane whose traffic a physical lane carries: a spare's is that of the lane it replaces, or is to replace from the next
boundary, or of the trunk's failed lane (R8, R266). -/
def Fabric.logicalLane (f : Fabric) (n : Nat) : Nat :=
  if n % 9 ≠ 8 then n
  else if (f.lane n).replaces ≠ 0 then (f.lane n).replaces - 1
  else match f.laneChanges.find? (fun e => e.2 = n) with
    | some e => e.1
    | none => ((trunkLanes (n / 9)).find? (fun m => (f.lane m).state = 3)).getD n

end Sys2Proof.Machine
end

