-- ==== Sys2Proof/Machine/Done.lean ====
section
/-! DEFINITION. The end of a step (R182, R183, R260): when a half is done, when the module is, and what the barrier collector
sends. -/

namespace Sys2Proof.Machine

/-- A module's index in the run; 0 while no sheet has fixed it. -/
def Run.own (r : Run) : Nat := r.moduleIndex.getD 0

/-- Is a transfer record sent by this module: it names a bridge, or another module as its destination? (R206) -/
def Run.sends (r : Run) (t : Transfer) : Bool := t.bridge || t.destModule ≠ r.own

/-- Is a transfer record received by this module? (R206) -/
def Run.receives (r : Run) (t : Transfer) : Bool := t.destModule = r.own

/-- Are the shards that a die's degraded sheet places on re-home targets READY? (R214, R367) -/
def S8.rehomed (s : S8) (die : Nat) : Bool :=
  match s.run.running with
  | none => true
  | some sh =>
    s.wheels.table.all (fun w =>
      w.wheelId ≠ sh.header.wheelId || w.version ≠ sh.header.wheelVersion ||
        w.placement.zipIdx.all (fun e => e.1.lostDie ≠ die || w.ready.contains e.2))

/-- Does a loaded run start at a step? (R210) -/
def S8.startsAt (s : S8) (step : Nat) : Option Sheet :=
  match SMap.find s.run.buffers 0 with
  | some b => if b.state = 3 ∧ s.dict.get Obj.runStartStep = step ∧ 0 < step then b.sheet else none
  | none => none

/-- The sheet that runs in the next step: that of a run that starts (R210), a degraded sheet or the base sheet that is due
(R214, R495), or the running sheet. -/
def S8.sheetNext (s : S8) : Option Sheet :=
  match s.startsAt (s.run.step + 1) with
  | some sh => some sh
  | none =>
    match s.run.switchTo with
    | none => s.run.running
    | some (which, due) =>
      if s.run.step + 1 < due ∨ !(s.rehomed which) then s.run.running
      else if which = 0xFF then s.run.base
      else SMap.find s.run.degraded which

/-- Is a slot that an instruction fills, one or the two of a reverse pour, still to be performed? (R67, R182) -/
def Vats.entryOpen (v : Vats) (key : Nat) (p : PourInstr) : Bool :=
  !(v.slotsDone.contains key) || (p.direction = 1 && !(v.slotsDone.contains (key + 1)))

/-- A vat's pours of the step: the sheet's lane slots whose lane is active, granted reserve slots and posted entries. -/
def S8.slotsOutstanding (s : S8) (half : Nat) : Bool :=
  s.vats.flights.any (fun e => vatHalf (e.1 / 128) = half) ||
  (s.vats.granted.any (fun e => vatHalf (e.1 / 128) = half && !(s.vats.slotsDone.contains e.1))) ||
  (s.vats.posted.any (fun e => vatHalf (e.1 / 128) = half && s.vats.entryOpen e.1 e.2)) ||
  (match s.run.running with
   | none => false
   | some sh => (sh.bindings ++ ((s.run.oldSheet.map (fun e => e.1.bindings)).getD []).filter (fun b =>
        (sh.bindingOf (2592 * b.die + 2304 * b.kind + b.num)).isNone)).any (fun b =>
      let vat := 2592 * b.die + 2304 * b.kind + b.num
      vatHalf vat = half && ((((s.run.sheetOf vat).map (fun x => x.bindingInstrs b)).getD [])).any (fun p =>
        (match (sh.reduction p.reduction) with
         | none => false
         | some r => s.run.laneActive r.phase p.lane && !(s.run.otherMapping vat r.phase p.lane)) &&
        (!b.expert || (SMap.find s.vats.patched (128 * vat + p.slot)).isSome) &&
        (b.kind = 0 || (SMap.find s.run.lanePlace (128 * ((sh.reduction p.reduction).map (·.phase)).getD 0 + p.lane)).isSome) &&
        s.vats.entryOpen (128 * vat + p.slot) p)))

/-- Rind work of a half outstanding: held or waiting results, saves not made, leaf reads not served, roots not delivered (R182). -/
def S8.rindOutstanding (s : S8) (half : Nat) : Bool :=
  s.vats.holds.any (fun h => vatHalf h.vat = half) ||
  s.vats.waiting.any (fun e => vatHalf e.1 = half && e.2 ≠ []) ||
  (match s.run.running with
   | none => false
   | some sh => sh.reductions.any (fun r =>
      (sh.treeOf r).any (fun e => 2 * e.2.die + e.2.half = half &&
        (List.range 96).any (fun lane => s.run.laneActive r.phase lane &&
          (if r.carry then
             e.2.kind = 1 &&
               !(s.vats.savedNow.contains (((36 * e.2.die + 18 * e.2.half + e.2.position) * 4096 + r.number) * 128 + lane))
           else (e.2.kind = 1 && !(s.vats.readsServed.contains r.number)) ||
             (e.2.kind = 3 && !(s.vats.delivered.contains (r.number * 128 + lane))))))))

/-- Core tasks of a half that have not ended; one whose Atomic span reaches beyond the step does not hold it up (R182,
R225). -/
def S8.tasksOutstanding (s : S8) (half : Nat) : Bool :=
  match s.run.running with
  | none => false
  | some sh => sh.tasks.zipIdx.any (fun e =>
      e.1.core.halfKey = half && !(s.run.tasksEnded.contains e.2) &&
        SMap.getD s.run.atomicUntil e.2 (s.run.step + (max 1 e.1.atomic - 1)) ≤ s.run.step)

/-- Transfers a half sends or receives that are outstanding (R182). -/
def S8.transfersOutstanding (s : S8) (half : Nat) : Bool :=
  match s.run.running with
  | none => false
  | some sh => sh.transfers.zipIdx.any (fun e =>
      (s.run.sends e.1 && e.1.source.halfKey = half && !(s.run.transfersSent.contains e.2)) ||
      (s.run.receives e.1 && e.1.dest.halfKey = half && !(s.run.transfersArrived.contains e.2)))

/-- Is a half done? (R182) -/
def S8.halfIsDone (s : S8) (half : Nat) : Bool :=
  s.run.running.isSome && !(s.slotsOutstanding half) && !(s.rindOutstanding half) && !(s.tasksOutstanding half) &&
    !(s.transfersOutstanding half)

/-- The barrier record of the running sheet. -/
def Run.barrier (r : Run) : Option BarrierRecord := r.running.bind (fun sh => sh.barrier.head?)

/-- Is this module the barrier's root? -/
def Run.isRoot (r : Run) : Bool :=
  match r.barrier with
  | none => true
  | some b => b.parent = 0xFFFF

/-- The child lanes of the barrier record. -/
def BarrierRecord.lanes (b : BarrierRecord) : List Nat := b.childLane.take b.children

/-- The release tick: the smallest multiple of 16 that is at least D + BarrierLead, and never beyond 65,536 (R183, R185). -/
def releaseTick (d lead : Nat) : Nat := min 65536 (roundUp 16 (d + lead))

/-- Tracks of the running sheet that a die about to be lost closes (R214). -/
def S8.losingTracks (s : S8) : List Nat :=
  match s.run.running with
  | none => []
  | some sh => (sh.tracks.filter (fun t => s.run.losing.any (fun d => field t.dieMask d 1 = 1))).map (·.number)

/-- The tracks that losses of this module's dies close, and those that other modules report (R214). -/
def S8.closingTracks (s : S8) : List Nat :=
  (s.run.closing ++ s.losingTracks ++ s.run.ownClosed).foldl (fun l t => insertNat t l) []

/-- What this module's barrier flits report besides a tick. A done flit carries the closed tracks of its subtree to the root, as the
release carries them back (R214, R260). -/
def S8.barrierFlit (s : S8) (direction tick : Nat) : BarrierFlit :=
  { direction := direction, overrun := s.run.overrun ≠ [] || s.run.belowOverrun, lostChild := s.run.lostChildren ≠ [], step := s.run.step,
    tick := tick, lostChildren := ofBits s.run.lostChildren, closed := if direction ≤ 1 then s.closingTracks else [],
    sender := s.run.own, announce := (s.run.losing.map (fun d => (s.run.own, d)) ++ s.run.announced).eraseDups.take 4 }

/-- Have all done signals that the collector waits for arrived? (R260, R262) -/
def Run.collected (r : Run) : Bool :=
  (SMap.find r.dones 8).isSome &&
    (match r.barrier with
     | none => true
     | some b => b.lanes.all (fun l => (SMap.find r.dones (l / 9)).isSome || r.lostChildren.contains (l / 9)))

/-- The latest done tick collected. -/
def Run.latestDone (r : Run) : Nat := r.dones.foldl (fun a e => max a e.2) 0

/-- The collector acts once, when every done has arrived: the root names the release and sends it to every child, any other
module sends its one done flit to its parent (R183, R260). -/
def S8.collect (s : S8) : S8 :=
  if !s.run.collected || s.run.release.isSome || s.run.sentDone then s
  else
    let lead := (s.run.running.map (fun sh => sh.header.barrierLead)).getD 0
    match s.run.barrier with
    | none => { s with run := { s.run with release := some (releaseTick s.run.latestDone lead) } }
    | some b =>
      if s.run.isRoot then
        let tick := releaseTick s.run.latestDone lead
        { s with
          run := { s.run with release := some tick }
          fab := b.lanes.foldl (fun f l => f.sendBarrier l (s.barrierFlit 1 tick)) s.fab }
      else
        { s with
          run := { s.run with sentDone := true }
          fab := s.fab.sendBarrier b.parentLane (s.barrierFlit 0 s.run.latestDone) }

/-- The module is done when every in-service half is done or marked overrun; its done tick is that of the last (R182,
R185). -/
def S8.moduleDone (s : S8) : S8 :=
  let serving := halves.filter s.halfServes
  let done := serving.all (fun h => (SMap.find s.run.halfDone h).isSome || s.run.overrun.contains h)
  if done ∧ s.run.running.isSome ∧ (SMap.find s.run.dones 8).isNone then
    let lead := (s.run.running.map (fun sh => sh.header.barrierLead)).getD 0
    let ticks := serving.map (fun h => SMap.getD s.run.halfDone h (if s.run.overrun.contains h then 65536 - lead else 0))
    { s with run := { s.run with dones := SMap.insert s.run.dones 8 (ticks.foldl max 0) } }.collect
  else s

/-- The tick at which the last slot of a half's vats is over: its last conversion ends 480 ticks after it starts, poured or idle
(R66, R182, R184). -/
def S8.slotsEnd (s : S8) (half : Nat) : Nat :=
  match s.run.running with
  | none => 0
  | some sh => (sh.bindings.filter (fun b => vatHalf (2592 * b.die + 2304 * b.kind + b.num) = half)).foldl
      (fun a b => max a (sh.slotStart b 127 + 480)) 0

/-- Halves that have become done are recorded with the tick at which their last work ended (R182). -/
def S8.judge (s : S8) : S8 :=
  let newly := halves.filter (fun h => s.halfServes h && (SMap.find s.run.halfDone h).isNone && s.halfIsDone h)
  S8.moduleDone { s with run := { s.run with
    halfDone := newly.foldl (fun m h => SMap.insert m h (max (SMap.getD s.run.workTick h 0) (s.slotsEnd h))) s.run.halfDone } }

/-- DIE_TRIP (R437): the comparator switches off the die's supplies and latches. The die's units are no longer waited for, so the step
can end without them (R32, R34, R182). -/
def execDieTrip (die : Die) (s : State) : Host.Outcome State Fault Refusal :=
  act (.dieTrip die) s (fun c =>
    if c.power.tripCondition die.val && (SMap.find c.power.tripped die.val).isNone then
      S8.judge { c with
        power := { c.power with tripped := SMap.insert c.power.tripped die.val c.power.uptime }
        boot := { c.boot with state := SMap.put 0 c.boot.state die.val 6 }
        run := c.run.loseNow die.val
        dict := c.dict.raise c.run.step Obj.dieTripCount 0 1 (unitField 1 die.val) 0 }
    else c)

end Sys2Proof.Machine
end

