-- ==== Sys2Proof/Machine/Rind.lean ====
section
/-! DEFINITION. The rind's arithmetic (R91 to R102, R120): from converter codes to a corrected column result, exact but for
the roundings of stages 3 and 7. Nothing here changes the state. -/

namespace Sys2Proof.Machine

/-- Signed 48-bit working values take the nearer limit (R95). -/
def clamp48 (y : Int) : Int := clampInt (-(2 ^ 47)) (2 ^ 47 - 1) y

/-- A code of 0 or 1023 (R72). -/
def saturated (code : Nat) : Bool := code = 0 || code = 1023

/-- Data columns of a vat (R59). -/
def dataColumns (k : Nat) : Nat := if isCulture k then 1024 else 2048

/-- Data and redundant pairs (R62, R86). -/
def workPairs (k : Nat) : Nat := if isCulture k then 1056 else 2112

/-- The first reference pair (R62, R86). -/
def firstReference (k : Nat) : Nat := if isCulture k then 1056 else 2112

/-- The first checksum pair and the number of checksum groups (R62, R86). -/
def firstChecksum (k : Nat) : Nat := if isCulture k then 1064 else 2128
def checksumGroups (k : Nat) : Nat := if isCulture k then 8 else 16

/-- The pour vector's rows: 5, or 3 for a culture vat (R68, R87). -/
def vectorRows (k : Nat) : Nat := if isCulture k then 3 else 5

/-- The sub-conversion whose references a pair takes (R71, R92): on a culture vat at most 7. -/
def referenceStep (k p : Nat) : Nat := if isCulture k then min (p % 16) 7 else p % 16

/-- The offset reference a pair takes (R92). -/
def offsetReference (k p : Nat) : Nat := firstReference k + referenceStep k p / 2 * 2 + 1

/-- The gain reference a pair takes (R92). -/
def gainReference (k p : Nat) : Nat := firstReference k + referenceStep k p / 2 * 2

/-- What a pour hands to the arithmetic: its tables, the unit, codes, drive and mode. -/
structure PourInput where
  mem : Mem
  vat : Nat
  codes : List Nat
  /-- H_r of a high pour, L_r of a low pour (R69). -/
  drives : List Int
  low : Bool
  exponent : Nat
  rindOff : Bool
  /-- RefMinDrive (R94). -/
  minDrive : Nat
  /-- The IntegratorNominalGain entry of the vat's gain step (R120). -/
  nominal : Nat

/-- The code of a pair. -/
def PourInput.code (i : PourInput) (p : Nat) : Nat := i.codes.getD p 512

/-- D, the signed drive of the pour. -/
def PourInput.drive (i : PourInput) : Int := i.drives.foldl (· + ·) 0

/-- Stages 1 and 2 (R93, R120): δ in 1/16 LSB. -/
def PourInput.delta (i : PourInput) (p : Nat) : Int :=
  let d : Int := 16 * ((i.code p : Int) - 512)
  if i.rindOff then d
  else
    let o := offsetReference i.vat p
    let level : Int := if saturated (i.code o) then i.mem.heldLevel i.vat (referenceStep i.vat p / 2)
      else 16 * ((i.code o : Int) - 512)
    d - level - i.mem.pairOffset i.vat p

/-- The reference response γ (R94). -/
def PourInput.gamma (i : PourInput) (p : Nat) : Int :=
  16 * ((i.code (gainReference i.vat p) : Int) - i.code (offsetReference i.vat p)) - i.mem.pairOffset i.vat (gainReference i.vat p)

/-- Does either of a pair's references saturate? (R72) -/
def PourInput.refSaturated (i : PourInput) (p : Nat) : Bool :=
  saturated (i.code (offsetReference i.vat p)) || saturated (i.code (gainReference i.vat p))

/-- Is the held gain used for low drive or sign? (R94) -/
def PourInput.lowDrive (i : PourInput) (p : Nat) : Bool :=
  i.drive.natAbs < i.minDrive || i.gamma p * i.drive ≤ 0

/-- rne(n / d) for a signed non-zero d. -/
def rneSigned (n d : Int) : Int := if d < 0 then rneDiv (-n) d.natAbs else rneDiv n d.natAbs

/-- Stage 3 (R94, R120): steps × pulse units. -/
def PourInput.stage3 (i : PourInput) (p : Nat) : Int :=
  if i.rindOff then rneDiv (i.delta p * i.nominal * 0x8000) (2 ^ 31)
  else if i.refSaturated p || i.lowDrive p then
    rneDiv (i.delta p * i.mem.heldGain i.vat (referenceStep i.vat p / 2) * i.mem.pairGain i.vat p) (2 ^ 31)
  else rneSigned (i.delta p * 64 * i.drive * i.mem.pairGain i.vat p) (i.gamma p * 2 ^ 15)

/-- Stage 4 (R95), and zero when P is 0x00 (R46). -/
def PourInput.stage4 (i : PourInput) (p : Nat) : Int :=
  if i.exponent = 0 then 0 else if i.low then clamp48 (i.stage3 p) else clamp48 (16 * i.stage3 p)

/-- Stage 4 of every data column, read through the column map (R63). -/
def PourInput.columns (i : PourInput) : List Int :=
  let map := i.mem.columnMap i.vat
  (List.range (dataColumns i.vat)).map (fun c => i.stage4 (pairOf map c))

/-- Does any column use the held gain for a reason other than saturation? (R94) -/
def PourInput.usesHeldGain (i : PourInput) : Bool :=
  let map := i.mem.columnMap i.vat
  !i.rindOff && i.exponent ≠ 0 &&
    (List.range (dataColumns i.vat)).any (fun c => !(i.refSaturated (pairOf map c)) && i.lowDrive (pairOf map c))

/-- Data and redundant codes of 0 or 1023 (R72). -/
def PourInput.saturations (i : PourInput) : Nat := ((i.codes.take (workPairs i.vat)).filter saturated).length

/-- Does a reference code saturate? (R72) -/
def PourInput.anyRefSaturated (i : PourInput) : Bool :=
  (List.range (if isCulture i.vat then 8 else 16)).any (fun j => saturated (i.code (firstReference i.vat + j)))

/-- Σ Δ_e × in_r of the entries of each column (R95 stage 6, R98, R120). `input r` is what the entry's row takes. -/
def entrySums (m : Mem) (k : Nat) (rindOff : Bool) (input : Nat → Int) : List Int :=
  let es := (m.entries k).filter (fun e => !(rindOff && e.residual) && !(isCulture k && !e.residual))
  (List.range (dataColumns k)).map (fun c =>
    (es.filter (fun e => e.col = c)).foldl (fun a e => a + e.delta * input e.row) 0)

/-- Λ_c, stage 7 (R95, R96): the lifted products at exponent P, or at 0x01 when P is 0x00. -/
def liftedSum (m : Mem) (k : Nat) (v : PourVector) (c : Nat) : Int :=
  let p := max 1 v.exponent
  let sum := v.lifted.zipIdx.foldl (fun (a : Dyadic) e =>
    if e.1.1 = 0 ∨ e.1.1 = 0xFF then a
    else a.add { m := e.1.2 * m.liftedWeight k e.2 c, e := (e.1.1 : Int) - p }) { m := 0, e := 0 }
  if isCulture k then 0 else sum.rne 0

/-- H_r of every row (R69). -/
def highDrives (v : PourVector) : List Int := v.codes.map highNibble

/-- L_r of every row (R69). -/
def lowDrives (v : PourVector) : List Int := v.codes.map lowNibble

/-- Stages 5 to 7 of a high pour (R95, R96): `held` for a fallback-flagged vector that is held, whose stage 6 takes a_r and
which takes no stage 5. -/
def highResult (m : Mem) (k : Nat) (v : PourVector) (rindOff held : Bool) (x : List Int) : List Int :=
  let digital : List Int :=
    if v.exponent = 0 then List.replicate (dataColumns k) 0
    else entrySums m k rindOff (fun r => if held then v.codes.getD r 0 else 16 * highNibble (v.codes.getD r 0) + 8)
  (List.range (dataColumns k)).map (fun c =>
    let comp := if held ∨ v.exponent = 0 then 0 else 8 * m.columnSum k c
    clamp48 (clamp48 (clamp48 (x.getD c 0 + comp) + digital.getD c 0) + liftedSum m k v c))

/-- What the release of a held result adds to each column (R98): 8 × S_c + Σ Δ_e × (8 − L_r); nothing when P is 0x00 (R46). -/
def releaseTerms (m : Mem) (k : Nat) (v : PourVector) (rindOff : Bool) : List Int :=
  if v.exponent = 0 then List.replicate (dataColumns k) 0
  else
    let sums := entrySums m k rindOff (fun r => 8 - lowNibble (v.codes.getD r 0))
    (List.range (dataColumns k)).map (fun c => 8 * m.columnSum k c + sums.getD c 0)

/-- One slot of a reverse pour before weighting, row by row (R99 steps 1 and 2, R120). -/
def reverseSlot (m : Mem) (k : Nat) (codes : List Nat) (rindOff : Bool) (nominal : Nat) : List Int :=
  (List.range 2048).map (fun r =>
    let d : Int := 16 * ((codes.getD r 512 : Int) - 512)
    if rindOff then rneDiv (d * nominal * 0x8000) (2 ^ 31)
    else rneDiv ((d - m.rowSideOffset k r) * m.rowGain k * m.rowSideGain k r) (2 ^ 31))

/-- A reverse pour's result row by row (R74, R96, R99): the slots combined, entries transposed, lifted rows from their
golden weights. -/
def reverseResult (m : Mem) (k : Nat) (v : PourVector) (rindOff : Bool) (first second : List Int) : List Int :=
  let lifted := m.liftedRows k
  let es := (m.entries k).filter (fun e => !(rindOff && e.residual))
  (List.range 2048).map (fun r =>
    if v.exponent = 0 then 0
    else
      match lifted.findIdx? (fun l => l = r) with
      | some i => clamp48 ((List.range 2048).foldl (fun a c => a + m.liftedWeight k i c * v.codes.getD c 0) 0)
      | none =>
        clamp48 (clamp48 (16 * first.getD r 0 + second.getD r 0) +
          (es.filter (fun e => e.row = r)).foldl (fun a e => a + e.delta * v.codes.getD e.col 0) 0))

/-- e_k of a checksum group (R101, R164). -/
def PourInput.checksumError (i : PourInput) (g : Nat) : Int :=
  let scale := i.mem.checksumScale i.vat g
  let map := i.mem.columnMap i.vat
  rneScale ((scale.1 : Int) * i.stage4 (firstChecksum i.vat + g)) scale.2 -
    (List.range 128).foldl (fun a c => a + i.stage4 (pairOf map (128 * g + c))) 0

end Sys2Proof.Machine
end

