-- ==== Sys2Proof/Machine/Pours.lean ====
section
/-! DEFINITION. Pours (chapters 03 and 05): the fetch window, the examination and performance of a pour, its codes at the
rind, accumulator sets, and the fallback logic. -/

namespace Sys2Proof.Machine

/-- The key of a slot of a vat. -/
def slotKey (vat slot : Nat) : Nat := 128 * vat + slot

/-- The key of the accumulator set of a unit, reduction and lane (R80). -/
def setKey (unit reduction lane : Nat) : Nat := (unit * 4096 + reduction) * 128 + lane

/-! ### The slot and its lane -/

/-- The kind of a slot: the plan's, or maintenance on a vat that the running sheet does not name (R66). -/
def S8.kindOfSlot (s : S8) (vat slot : Nat) : Nat :=
  match s.run.sheetOf vat with
  | none => 2
  | some sh =>
    match sh.bindingOf vat with
    | none => 2
    | some b => sh.slotKind b slot

/-- The kind of the slot after one, none after the last. -/
def S8.kindAfter (s : S8) (vat slot : Nat) : Option Nat := if slot < 127 then some (s.kindOfSlot vat (slot + 1)) else none

/-- The reserve slots of a vat (R124). -/
def S8.reserveSlots (s : S8) (vat : Nat) : List Nat := (List.range 128).filter (fun i => s.kindOfSlot vat i = 1)

/-- The phase a vat serves: that of its sheet instructions' reductions, else of the instruction's own (R195). -/
def S8.vatPhase (s : S8) (vat : Nat) (p : PourInstr) : Option Nat :=
  match s.run.sheetOf vat with
  | none => none
  | some sh =>
    let own := ((sh.bindingOf (sh.templateOf vat)).map sh.bindingInstrs).getD []
    match (own.findSome? (fun q => (sh.reduction q.reduction).map (·.phase))) with
    | some k => some k
    | none => (sh.reduction p.reduction).map (·.phase)

/-- Is a lane slot idle because its lane is inactive at the vat's phase (R195), its culture place is not this vat's (R373), or
it pours by the other mapping of a version switch (R369)? -/
def S8.laneIdle (s : S8) (vat : Nat) (p : PourInstr) : Bool :=
  match s.vatPhase vat p with
  | none => false
  | some k =>
    !(s.run.laneActive k p.lane) || s.run.otherMapping vat k p.lane ||
      (match s.run.running.bind (fun sh => sh.placeOfVat vat) with
       | none => false
       | some (r, _) => SMap.find s.run.lanePlace (128 * k + p.lane) ≠ some r.place)

/-! ### Malformed instructions (R79) -/

/-- Reserved encodings of an instruction's fields (R77, R79). Reserved bits are ignored (R6). -/
def PourInstr.reservedField (p : PourInstr) : Bool :=
  1 < p.direction || p.phase = 3 || p.slotKind = 3 || p.average = 3 || 35 < p.coreNum

/-- The combinations of direction, phase, kind and averaging that R79 excludes. -/
def PourInstr.badCombination (p : PourInstr) : Bool :=
  (p.phase = 2 && p.direction = 0) || ((p.phase = 0 || p.phase = 1) && p.direction = 1) ||
    (p.direction = 1 && p.vatKind = 1) ||
    (p.average ≠ 0 && (p.phase = 1 || p.direction = 1 || p.vatKind = 1))

/-- Is the pour's kind barred from the slot kind by R67? -/
def PourInstr.barredKind (p : PourInstr) : Bool :=
  if p.direction = 1 then p.slotKind = 1
  else if p.phase = 1 then p.slotKind = 0
  else if p.average ≠ 0 then p.slotKind ≠ 0
  else p.slotKind = 1

/-- The vat an instruction names on a die. -/
def PourInstr.target (p : PourInstr) (die : Nat) : Nat := 2592 * die + 2304 * p.vatKind + p.vat

/-- Is the instruction malformed apart from the unit that backs its vat and its header State? `kind` is the kind of the
slot, `next` that of the slot after it, which a reverse pour takes too (R67), `entry` the slot whose entry holds it, `sheet` whether it
stands in the make sheet. -/
def PourInstr.malformedForm (p : PourInstr) (sh : Option Sheet) (die kind : Nat) (next : Option Nat) (entry : Nat) (sheet : Bool) :
    Bool :=
  p.opcode ≠ 0x50 || p.reservedField || p.badCombination || p.slotKind ≠ kind || p.barredKind ||
    (p.direction = 1 && next ≠ some p.slotKind) ||
    (sheet && p.slotKind ≠ 0) || p.slot ≠ entry || 95 < p.lane ||
    (if p.vatKind = 1 then 287 < p.vat else 2303 < p.vat) || vatHalf (p.target die) ≠ 2 * die + p.coreHalf ||
    (if p.reduction = 0xFFF then p.slotKind ≠ 2
     else ((sh.bind (fun x => x.reduction p.reduction)).isNone)) ||
    1024 < p.row + (if p.vatKind = 1 then 3 else 5)

/-- Does the header State of the physical vat permit the pour? (R79) -/
def S8.statePermits (s : S8) (k : Nat) (p : PourInstr) : Bool :=
  if p.slotKind = 2 then s.mem.vatState k ≤ 2 && !(s.turn.programming.contains k) else s.mem.vatState k = 2

/-- Is the instruction in a slot malformed when it is examined? (R79) -/
def S8.malformedNow (s : S8) (vat slot : Nat) (p : PourInstr) : Bool :=
  let inSheet := (SMap.find s.vats.granted (slotKey vat slot)).isNone && (SMap.find s.vats.posted (slotKey vat slot)).isNone
  p.malformedForm s.run.running (vatDie vat) (s.kindOfSlot vat slot) (s.kindAfter vat slot) slot inSheet ||
    s.vats.unbacked.contains (p.target (vatDie vat)) ||
    !(s.statePermits (s.vats.physical (p.target (vatDie vat))) p)

/-- Raise PourFault with an instruction's tag (R79, R90). -/
def S8.pourFault (s : S8) (die : Nat) (p : PourInstr) : S8 :=
  { s with
    dict := s.dict.raise s.run.step (dieObj Obj.pourFaultCount die) 0 1 (unitOfVatKey (p.target die)) p.tag
    vats := { s.vats with faultTag := SMap.put 0 s.vats.faultTag die p.tag } }

/-! ### Accumulator sets (R80) -/

/-- The empty accumulators of a set. -/
def emptyCols (width : Nat) : List Acc := List.replicate width { value := 0, poison := false, saturated := false }

/-- The set of a key, closed when unlisted. -/
def Vats.set (v : Vats) (key : Nat) : AccSet :=
  SMap.getD v.sets key { opened := false, restored := false, cols := [], status := 0 }

/-- Or bits into a status. -/
def orStatus (a b : Nat) : Nat := a ||| b

/-- What a pour brings to its set. -/
structure Contribution where
  /-- The physical vat whose steps scale it; a reverse pour has step 1 (R99). -/
  vat : Nat
  reverse : Bool
  reduction : Reduction
  lane : Nat
  exponent : Nat
  halved : Bool
  poison : Bool
  status : Nat
  p : List Int

/-- Open a set for a pour with Accumulate 0, or leave it for an add (R80): the set and whether the order is at fault. What a set that
is not open has of lane status, the Poison of pours that were not performed (R79), stays. -/
def openSet (a : AccSet) (width accumulate : Nat) : AccSet × Bool :=
  if accumulate = 0 then
    ({ opened := true, restored := false, cols := emptyCols width, status := if a.opened then 0 else a.status }, a.opened)
  else (a, false)

/-- The rounded and limited contribution of a column (R53, R132): k, and whether it was limited. -/
def Contribution.column (m : Mem) (c : Contribution) (i : Nat) : Int × Bool :=
  let step : Nat × Int := if c.reverse then (1, 0) else (m.stepMantissa c.vat i, m.stepExponent c.vat i)
  limitContribution
    (contribution (c.p.getD i 0) step.1 c.exponent step.2 c.reduction.grid c.halved) c.reduction.limit

/-- Add a contribution to its unit's set (R53, R54, R80, R85, R132). -/
def S8.addContribution (s : S8) (c : Contribution) : S8 :=
  let unit := unitOfVat c.vat
  let key := setKey unit c.reduction.number c.lane
  let was := s.vats.set key
  let base := if was.opened then was.cols else emptyCols c.reduction.width
  let count := min c.reduction.width c.p.length
  let ks := (List.range count).map (fun i => c.column s.mem i)
  let adds : List Acc := ks.map (fun k =>
    { value := k.1 * 2 ^ (c.reduction.grid + 48).toNat, poison := c.poison, saturated := false })
  let limited := (ks.filter (·.2)).length
  let sat := ((base.zip adds).filter (fun e => e.1.saturates e.2)).length
  let cols := base.zipIdx.map (fun e => match adds[e.2]? with | some a => e.1.add a | none => e.1)
  let status := (if c.poison then statusPoison else 0) + (if limited ≠ 0 ∨ sat ≠ 0 then statusClamped else 0)
  { s with
    vats := { s.vats with
      sets := SMap.insert s.vats.sets key
        { opened := true, restored := was.restored, cols := cols, status := orStatus (orStatus was.status c.status) status } }
    dict := ((s.dict.raise s.run.step Obj.contributionLimitCount 0 limited (s.vatUnit c.vat) c.lane).raise
      s.run.step Obj.accSatCount 0 sat (s.vatUnit c.vat) c.lane).raise
      s.run.step (dieObj Obj.accumulateOrderFaultCount (vatDie c.vat)) 0 (if was.opened then 0 else 1) (s.vatUnit c.vat)
        c.lane }

/-- Limit a result to pour units, or to twice that in half units (R51, R76): the values and how many were limited. -/
def limitResult (halved : Bool) (p : List Int) : List Int × Nat :=
  let f : Int := if halved then 2 else 1
  (p.map (clampInt (-(f * pourUnitMax)) (f * pourUnitMax)),
    (p.filter (fun y => y < -(f * pourUnitMax) ∨ f * pourUnitMax < y)).length)

/-- The latest tick at which work of a half ended in the step (R182). -/
def Run.worked (r : Run) (half tick : Nat) : Run :=
  { r with workTick := SMap.modify r.workTick half 0 (fun t => max t tick) }

/-- What the rind unit keeps of a lane's pour for a trier sample (R404). -/
def S8.retain (s : S8) (vat : Nat) (fl : Flight) (form status : Nat) (halved : Bool) (p : List Int) : S8 :=
  let record : TrierRecord :=
    { step := s.run.step, vat := vat, physical := fl.physical, lane := fl.instr.lane, form := form, status := status,
      content := s.mem.vatContent fl.physical, generation := s.mem.vatGeneration fl.physical, rows := fl.fetched.rows,
      results := if halved then p.map (fun y => rneDiv y 2) else p, tolerance := 0, cores := [], computed := [],
      probes := [], reference := [], verdict := 0 }
  if fl.instr.slotKind = 2 ∨ fl.instr.direction = 1 then s
  else { s with trier := { s.trier with results := SMap.insert s.trier.results (slotKey vat fl.instr.lane) record } }

/-- Deliver a finished result of a forward or reverse pour: limit it (R51), keep it for the trier, and add it to its set
(R82 stage 9). -/
def S8.deliver (s : S8) (vat : Nat) (fl : Flight) (form status : Nat) (halved : Bool) (p : List Int) : S8 :=
  let lim := limitResult halved p
  let poison := fl.fetched.vector.poison || fl.fetched.poisoned
  let st := orStatus status (if fl.fetched.vector.anyClamp ∨ lim.2 ≠ 0 then statusClamped else 0)
  let s1 := { s with
    dict := s.dict.raise s.run.step Obj.pourUnitSatCount 0 lim.2 (unitOfVatKey vat) fl.instr.lane }.retain vat fl form st halved lim.1
  match s.run.running.bind (fun sh => sh.reduction fl.instr.reduction) with
  | none => s1
  | some r => s1.addContribution
      { vat := fl.physical, reverse := fl.instr.direction = 1, reduction := r, lane := fl.instr.lane,
        exponent := max 1 fl.fetched.vector.exponent, halved := halved, poison := poison, status := st, p := lim.1 }

/-- Clear and open the set of a pour with Accumulate 0 as its codes reach the rind (R80). -/
def S8.openFor (s : S8) (fl : Flight) : S8 :=
  match s.run.running.bind (fun sh => sh.reduction fl.instr.reduction) with
  | none => s
  | some r =>
    let key := setKey (unitOfVat fl.physical) r.number fl.instr.lane
    let o := openSet (s.vats.set key) r.width fl.instr.accumulate
    if fl.instr.accumulate = 0 then
      { s with
        vats := { s.vats with sets := SMap.insert s.vats.sets key o.1 }
        dict := s.dict.raise s.run.step (dieObj Obj.accumulateOrderFaultCount (vatDie fl.physical)) 0 (if o.2 then 1 else 0)
          (s.vatUnit fl.physical) fl.instr.lane }
    else s

/-! ### The fetch window (R68, R122) -/

/-- The scratchpad address of an instruction's pour vector (R77). -/
def PourInstr.vectorAddr (p : PourInstr) (die : Nat) : Nat := scratchRow (72 * die + 36 * p.coreHalf + p.coreNum) p.row

/-- Put a lane into a vat's waiting lanes, ascending. -/
def waitLane (l : List (Nat × Nat)) (lane slot : Nat) : List (Nat × Nat) :=
  match l with
  | [] => [(lane, slot)]
  | e :: rest => if lane < e.1 then (lane, slot) :: e :: rest else e :: waitLane rest lane slot

/-- A lane trips on a vat: it waits for a reserve slot, or is released at once after the last one's decision (R122,
R124). -/
def S8.trip (s : S8) (vat lane slot : Nat) : S8 :=
  let past := (s.reserveSlots vat).all (fun r => s.vats.decided.contains (slotKey vat r))
  { s with
    vats := { s.vats with
      waiting := if past then s.vats.waiting
        else SMap.modify s.vats.waiting vat [] (fun l => waitLane l lane slot)
      releasing := if past then insertNat (slotKey vat lane) s.vats.releasing else s.vats.releasing }
    dict := s.dict.tally (dieObj Obj.fallbackTripCount (vatDie vat)) 1 }

/-- Does a fetched vector trip its lane: a forward high pour in a lane slot, flagged and not poisoned, and not the first
of a double pour? (R122, R128) -/
def trips (p : PourInstr) (f : Fetched) : Bool :=
  p.direction = 0 && p.phase = 0 && p.slotKind = 0 && p.average ≠ 1 && f.vector.fallback && !f.vector.poison && !f.poisoned

/-- Read an instruction's vector rows into the fetch register (R68, R231). -/
def S8.fetchVector (s : S8) (vat slot : Nat) (p : PourInstr) (upset : Upsets) (mesh : MeshErr) : Fetched × S8 :=
  let k := s.vats.physical vat
  let rows := vectorRows k
  let a := p.vectorAddr (vatDie vat)
  let bytes := s.mem.read a (512 * rows)
  let f : Fetched :=
    { vector := PourVector.ofBytes bytes (dataColumns k), poisoned := badIn s.mem upset a (512 * rows) ≠ [] || mesh.flits ≠ []
      rows := bytes }
  let s1 := (s.meetWords a (512 * rows) upset).meshWords mesh.corrected mesh.flits.length (unitField 1 (vatDie vat))
  (f, { s1 with vats := { s1.vats with fetched := SMap.insert s1.vats.fetched (slotKey vat slot) f } })

/-- Does a slot's fetch window fall in the step before the slot's own: it starts before tick 192 of the next step? (R68) -/
def S8.aheadSlot (s : S8) (vat slot : Nat) : Bool :=
  match s.sheetNext with
  | none => false
  | some sh =>
    match sh.bindingOf vat with
    | none => false
    | some b => sh.slotStart b slot < 192

/-- The instruction placed in an entry of the next step's slot list (R78, R223). -/
def S8.nextEntry (s : S8) (vat slot : Nat) : Option PourInstr :=
  match SMap.find s.vats.postedNext (slotKey vat slot) with
  | some p => some p
  | none => s.sheetNext.bind (fun sh => s.sheetEntry sh vat slot)

/-- The fetch window of a slot of the next step: its vector is read by the sheet of that step; whether its lane trips is
settled once the step's active lanes are known (R68, R122). -/
def S8.fetchAhead (s : S8) (vat slot : Nat) (upset : Upsets) (mesh : MeshErr) : S8 :=
  let s1 := { s with vats := { s.vats with ahead := insertNat (slotKey vat slot) s.vats.ahead } }
  match (s.nextEntry vat slot).or (secondEntry slot (if slot = 0 then none else s.nextEntry vat (slot - 1))) with
  | some p => (s1.fetchVector vat slot p upset mesh).2
  | none => s1

/-- A slot's fetch window begins (R68): a slot without an instruction, and a lane slot whose lane is idle, fetches
nothing. -/
def S8.fetchWindow (s : S8) (vat slot : Nat) (upset : Upsets) (mesh : MeshErr) : S8 :=
  if s.aheadSlot vat slot then s.fetchAhead vat slot upset mesh
  else
    let s1 := { s with vats := { s.vats with windows := insertNat (slotKey vat slot) s.vats.windows } }
    match s.slotEntry vat slot with
    | none => s1
    | some p =>
      if p.slotKind = 0 ∧ s.laneIdle vat p then s1
      else
        let f := s1.fetchVector vat slot p upset mesh
        if trips p f.1 then f.2.trip vat p.lane slot else f.2

/-- A fetch window of the step before, taken over at the boundary: its lane may trip now (R68, R122). -/
def S8.takeAhead (s : S8) (key : Nat) : S8 :=
  match s.slotEntry (key / 128) (key % 128), SMap.find s.vats.fetched key with
  | some p, some f =>
    if (p.slotKind = 0 && s.laneIdle (key / 128) p) || !(trips p f) then s else s.trip (key / 128) p.lane (key % 128)
  | _, _ => s

/-- What a boundary does to the fetch windows: those begun for this step are its windows, the others are over (R68). -/
def S8.fetchBoundary (s : S8) : S8 :=
  let ahead := s.vats.ahead
  ahead.foldl (fun a key => a.takeAhead key)
    { s with vats := { s.vats with
      windows := ahead
      ahead := []
      fetched := SMap.keep (fun k _ => ahead.contains k) s.vats.fetched } }

/-- FETCH_WINDOW (R68, R122, R128, R231, R241). -/
def execFetchWindow (vat : Vat) (slot : PourSlot) (upset : FetchUpsets) (s : State) : Host.Outcome State Fault Refusal :=
  act (.fetchWindow vat slot upset) s (fun c => c.fetchWindow (vatKey vat) slot.val upset.words upset.mesh)

/-! ### Performing a pour (R67, R69, R79) -/

/-- The four kinds of pour a slot starts (R67). -/
inductive PourKind where
  | high
  | low
  | double
  | reverse
  deriving DecidableEq, Repr

/-- The kind of pour an instruction asks for. -/
def PourInstr.kind (p : PourInstr) : PourKind :=
  if p.direction ≠ 0 then .reverse
  else if p.phase = 1 then .low
  else if p.average ≠ 0 then .double
  else .high

/-- The instruction a slot performs: its own entry, or, in the second slot of a reverse pour, that of the slot before
(R74). -/
def S8.performed (s : S8) (vat slot : Nat) : Option PourInstr :=
  let running (n : Nat) : Option PourInstr :=
    match SMap.find s.vats.flights (slotKey vat n) with
    | some fl => some fl.instr
    | none => (SMap.find s.vats.firsts (slotKey vat n)).map (fun e => e.2.instr)
  match (if slot = 0 then none else running (slot - 1)) with
  | some p => if p.direction = 1 ∧ p.slot + 1 = slot then some p else s.slotEntry vat slot
  | none => s.slotEntry vat slot

/-- Mark a slot performed or idle (R182). -/
def Vats.slotDone (v : Vats) (vat slot : Nat) : Vats := { v with slotsDone := insertNat (slotKey vat slot) v.slotsDone }

/-- Count a pour that starts (R90). A reverse pour counts once, in its first slot. -/
def Dict.countPour (d : Dict) (die : Nat) (p : PourInstr) (kind : PourKind) (first culture : Bool) : Dict :=
  let d1 := match kind with
    | .low => d.tally (dieObj Obj.lowPourCount die) 1
    | .reverse => d.tally (dieObj Obj.reversePourCount die) (if first then 1 else 0)
    | .high => d.tally (dieObj Obj.highPourCount die) 1
    | .double => d.tally (dieObj Obj.highPourCount die) 1
  (d1.tally (dieObj Obj.maintenancePourCount die) (if p.slotKind = 2 ∧ first then 1 else 0)).tally
    (dieObj Obj.culturePourCount die) (if culture then 1 else 0)

/-- The rows a pour uses: those in its fetch register (R68). A pour whose window the model was not told of reads them as
they stand. -/
def S8.fetchedOf (s : S8) (vat slot : Nat) (p : PourInstr) : Fetched :=
  match SMap.find s.vats.fetched (slotKey vat slot) with
  | some f => f
  | none =>
    let bytes := s.mem.read (p.vectorAddr (vatDie vat)) (512 * vectorRows (s.vats.physical vat))
    { vector := PourVector.ofBytes bytes (dataColumns (s.vats.physical vat)), rows := bytes,
      poisoned := badIn s.mem [] (p.vectorAddr (vatDie vat)) (512 * vectorRows (s.vats.physical vat)) ≠ [] }

/-- The pours of a vat that a sheet names and that became unbacked are not performed, and their lanes carry Poison (R79). The set is
not opened by it. A result that is held for such a pour stays held and ends with the step (DESIGN CHOICE, log entry 24). -/
def S8.unbackedSlot (s : S8) (vat slot : Nat) (p : PourInstr) : S8 :=
  let v := s.vats.slotDone vat slot
  match s.run.running.bind (fun sh => sh.reduction p.reduction) with
  | none => { s with vats := v }
  | some r =>
    let key := setKey (unitOfVat (s.vats.physical vat)) r.number p.lane
    let was := s.vats.set key
    { s with vats := { v with
      sets := SMap.insert s.vats.sets key
        { was with
          cols := if was.opened then was.cols else emptyCols r.width
          status := orStatus was.status statusPoison } } }

/-- A slot starts its pour (R67, R79): nothing when the slot's instruction is of another kind. -/
def S8.startPour (s : S8) (vat slot : Nat) (kind : PourKind) : S8 :=
  match s.performed vat slot with
  | none => { s with vats := s.vats.slotDone vat slot }
  | some p =>
    if p.kind ≠ kind then s
    else if p.slotKind = 0 ∧ s.laneIdle vat p then { s with vats := s.vats.slotDone vat slot }
    else if s.vats.unbacked.contains vat && ((s.run.running.bind (fun sh => sh.bindingOf vat)).isSome) then
      s.unbackedSlot vat slot p
    else if s.malformedNow vat p.slot p then
      let s1 := if p.slot = slot then s.pourFault (vatDie vat) p else s
      { s1 with vats := s1.vats.slotDone vat slot }
    else
      { s with
        vats := { s.vats with
          flights := SMap.insert s.vats.flights (slotKey vat slot)
            { instr := p, fetched := s.fetchedOf vat slot p, physical := s.vats.physical vat } }
        dict := s.dict.countPour (vatDie vat) p kind (p.slot = slot) (isCulture vat) }

/-- HIGH_POUR (R67, R69, R70, R79, R195, R373). -/
def execHighPour (vat : Vat) (slot : PourSlot) (s : State) : Host.Outcome State Fault Refusal :=
  act (.highPour vat slot) s (fun c => (c.startPour (vatKey vat) slot.val .high).judge)

/-- LOW_POUR (R67, R69, R79). -/
def execLowPour (vat : Vat) (slot : PourSlot) (s : State) : Host.Outcome State Fault Refusal :=
  act (.lowPour vat slot) s (fun c => (c.startPour (vatKey vat) slot.val .low).judge)

/-- DOUBLE_POUR (R67, R76, R79): one half of a double pour. -/
def execDoublePour (vat : Vat) (slot : PourSlot) (s : State) : Host.Outcome State Fault Refusal :=
  act (.doublePour vat slot) s (fun c => (c.startPour (vatKey vat) slot.val .double).judge)

/-- REVERSE_POUR (R67, R74, R79): one slot of a reverse pour. -/
def execReversePour (vat : Vat) (slot : PourSlot) (s : State) : Host.Outcome State Fault Refusal :=
  act (.reversePour vat slot) s (fun c => (c.startPour (vatKey vat) slot.val .reverse).judge)

/-! ### Codes at the rind (R82) -/

/-- The inputs of the arithmetic for a pour. -/
def S8.pourInput (s : S8) (fl : Flight) (codes : List Nat) : PourInput :=
  let v := fl.fetched.vector
  { mem := s.mem, vat := fl.physical, codes := codes,
    drives := if fl.instr.phase = 1 then lowDrives v else highDrives v,
    low := fl.instr.phase = 1, exponent := v.exponent, rindOff := s.dict.get Obj.rindMode = 1,
    minDrive := s.dict.get Obj.refMinDrive,
    nominal := Config.nominalGain (vatDie fl.physical) (SMap.getD s.vats.gainStep fl.physical 0) }

/-- Count what the codes of a pour bring: saturated codes and references, and the held gain's use (R72, R94). -/
def S8.countCodes (s : S8) (die : Nat) (sat : Nat) (refSat held : Bool) (unit : Nat) : S8 :=
  { s with
    dict := ((s.dict.raise s.run.step (dieObj Obj.converterSatCount die) 0 sat unit 0).raise
      s.run.step (dieObj Obj.refSatCount die) 0 (if refSat then 1 else 0) unit 0).raise
      s.run.step (dieObj Obj.heldGainUseCount die) 0 (if held then 1 else 0) unit 0 }

/-- The state of a localisation that begins (R165): the column stage of a group. -/
def Localisation.begin (group : Nat) : Localisation := { stage := 1, group := group, columns := [], blocks := [], waiting := [] }

/-- A flagged group is to be localised: at once, or when the localisation under way on the vat has ended; while the vat is being
rewritten, not at all (R165, R166). -/
def Turning.flagGroup (t : Turning) (k g : Nat) : Turning :=
  if (SMap.find t.rewrites k).isSome then t
  else
    let now : Localisation := match SMap.find t.localisations k with
      | none => Localisation.begin g
      | some l => { l with waiting := if l.group = g then l.waiting else insertNat g l.waiting }
    { t with localisations := SMap.insert t.localisations k now }

/-- The limit of a group: ChecksumThresholdSigma × σ, σ at least 2 units, to the nearest; none before the vat's first calibration
(R164). -/
def S8.sumLimit (s : S8) (k g : Nat) : Option Nat :=
  (SMap.find s.vats.sumSquares (16 * k + g)).map (fun squares =>
    let sigmas := s.dict.get Obj.checksumThresholdSigma
    min 65535 (max (2 * sigmas) ((Nat.sqrt (4 * sigmas ^ 2 * squares / 16) + 1) / 2)))

/-- The hits of a group within the current window of the vat's pours (R163, R164). -/
def S8.windowHits (s : S8) (k g : Nat) : List Nat :=
  (SMap.getD s.vats.sumHits (16 * k + g) []).filter (fun n =>
    SMap.getD s.vats.sumPours k 0 - n < s.dict.get Obj.checksumWindow)

/-- Check one group of a pour against its limit (R164, R166). -/
def S8.checkGroup (s : S8) (fl : Flight) (vat : Nat) (input : PourInput) (g : Nat) : S8 :=
  let k := fl.physical
  let masked := match SMap.find s.turn.quality k with | none => false | some q => q.maskedGroups.contains g
  let passes := match s.sumLimit k g with
    | none => true
    | some limit => decide ((input.checksumError g).natAbs ≤ limit)
  if masked || passes then s
  else
    let hits := (SMap.getD s.vats.sumPours k 0 :: s.windowHits k g).take 255
    let flagged := s.dict.get Obj.checksumHitLimit ≤ hits.length
    { s with
      vats := { s.vats with sumHits := SMap.insert s.vats.sumHits (16 * k + g) hits }
      dict := s.dict.raise s.run.step Obj.checksumMismatchCount 0 (if flagged then 1 else 0) (unitOfVatKey vat) g
      turn := if flagged then s.turn.flagGroup k g else s.turn }

/-- Check every group of a forward pour in service (R164). A pour with P 0x00 is one of the vat's pours and has no hit. -/
def S8.checkSums (s : S8) (fl : Flight) (vat : Nat) (input : PourInput) : S8 :=
  if fl.instr.slotKind = 2 then s
  else
    let pour := SMap.getD s.vats.sumPours fl.physical 0 + 1
    let s1 : S8 := { s with vats := { s.vats with sumPours := SMap.insert s.vats.sumPours fl.physical pour } }
    if input.exponent = 0 then s1
    else (List.range (checksumGroups fl.physical)).foldl (fun a g => a.checkGroup fl vat input g) s1

/-- The bytes of a probe record (R104): raw code and stage-4 value of each pair. -/
def probeBytes (codes : List Nat) (stage4 : Nat → Int) : Bytes :=
  (List.range 2144).flatMap (fun p =>
    if p < codes.length then leBytes 6 (ofSigned 48 (stage4 p)) ++ leBytes 2 (codes.getD p 0) else zeros 8)

/-- A probe of a vat is lost: the measurement round under way on it is measured again (R146). -/
def Turning.spoil (t : Turning) (k : Nat) : Turning :=
  match SMap.find t.calibrations k with
  | none => t
  | some c => { t with calibrations := SMap.insert t.calibrations k { c with spoilt := true } }

/-- Write the next probe record of a unit's ring with a vat's probe (R104); one that overwrites an unread record discards that
(R146). -/
def S8.probe (s : S8) (unit k : Nat) (bytes : Bytes) : S8 :=
  let n := SMap.getD s.vats.probeNext unit 0
  let unread := SMap.getD s.vats.probeUnread unit 0
  { s with
    mem := s.mem.write (unitBase unit + 0x460000 + 0x4400 * n) bytes
    vats := { s.vats with
      probeNext := SMap.put 0 s.vats.probeNext unit ((n + 1) % 3)
      probeUnread := SMap.put 0 s.vats.probeUnread unit (min 3 (unread + 1))
      probeVats := SMap.insert s.vats.probeVats (3 * unit + n) k }
    turn := if unread = 3 then s.turn.spoil (SMap.getD s.vats.probeVats (3 * unit + n) 0) else s.turn
    dict := s.dict.raise s.run.step (dieObj Obj.probeOverrunCount (unit / 36)) 0 (if unread = 3 then 1 else 0)
      (unitField 7 unit) n }

/-- Does the next slot hold the matching second of a double pour? (R76) -/
def S8.secondMatches (s : S8) (vat : Nat) (p : PourInstr) : Bool :=
  match s.slotEntry vat (p.slot + 1) with
  | none => false
  | some q =>
    q.average = 2 && q.lane = p.lane && q.vat = p.vat && q.coreHalf = p.coreHalf && q.coreNum = p.coreNum &&
      q.row = p.row && !(s.malformedNow vat (p.slot + 1) q)

/-- Is a high result to be held: a lane slot's forward vector, flagged and not poisoned? (R83, R122) -/
def toBeHeld (p : PourInstr) (f : Fetched) : Bool :=
  p.direction = 0 && p.phase = 0 && p.slotKind = 0 && f.vector.fallback && !f.vector.poison && !f.poisoned

/-- The held form of a value: an I32 (R104); in half units for an averaged result. -/
def heldValue (halved : Bool) (y : Int) : Int :=
  if halved then clampInt (-(2 ^ 32)) (2 ^ 32 - 2) y else clampInt (-(2 ^ 31)) (2 ^ 31 - 1) y

/-- A lane's whole high result: held, or delivered at once (R82, R83). -/
def S8.highDone (s : S8) (vat : Nat) (fl : Flight) (status : Nat) (halved : Bool) (y : List Int) : S8 :=
  if toBeHeld fl.instr fl.fetched then
    let h : Hold := { vat := vat, physical := fl.physical, instr := fl.instr, fetched := fl.fetched,
                      values := y.map (heldValue halved), halved := halved, status := status }
    { s with vats := { s.vats with holds := s.vats.holds ++ [h] } }
  else s.deliver vat fl (if halved then 3 else 0) status halved y

/-- A high pour's codes (R82, R76). -/
def S8.highCodes (s : S8) (vat slot : Nat) (fl : Flight) (status : Nat) (input : PourInput) : S8 :=
  let held := toBeHeld fl.instr fl.fetched
  let y := highResult s.mem fl.physical fl.fetched.vector input.rindOff held input.columns
  let p := fl.instr
  if p.average = 0 then (s.openFor fl).highDone vat fl status false y
  else
    let lim := limitResult false y
    let clamped := orStatus status (if lim.2 ≠ 0 then statusClamped else 0)
    if p.average = 1 then
      if s.secondMatches vat p then
        let s1 := s.openFor fl
        { s1 with
          vats := { s1.vats with firsts := SMap.insert s1.vats.firsts (slotKey vat slot) (lim.1, { fl with status := clamped }) }
          dict := s1.dict.raise s1.run.step Obj.pourUnitSatCount 0 lim.2 (unitOfVatKey vat) p.lane }
      else
        let s1 := ((s.openFor fl).pourFault (vatDie vat) p).highDone vat fl status false y
        if held then s1.trip vat p.lane slot else s1
    else
      match (if slot = 0 then none else SMap.find s.vats.firsts (slotKey vat (slot - 1))) with
      | some (first, f1) =>
        let s1 := { s with
          vats := { s.vats with firsts := SMap.erase s.vats.firsts (slotKey vat (slot - 1)) }
          dict := (s.dict.raise s.run.step Obj.pourUnitSatCount 0 lim.2 (unitOfVatKey vat) p.lane).tally
            (dieObj Obj.doublePourCount (vatDie vat)) 1 }
        s1.highDone vat fl (orStatus clamped f1.status) true (List.zipWith (· + ·) first lim.1)
      | none => ((s.openFor fl).pourFault (vatDie vat) p).highDone vat fl status false y

/-- A low pour's codes (R82, R97, R126). One in a reserve slot combines with the held high result of its lane; poison that its own fetch
met goes with it (R231). One in a maintenance slot is a result of its own, with the entries and lifted rows of an input a (R82). -/
def S8.lowCodes (s : S8) (vat : Nat) (fl : Flight) (status : Nat) (input : PourInput) : S8 :=
  if fl.instr.slotKind = 2 then
    (s.openFor fl).deliver vat fl 0 status false (highResult s.mem fl.physical fl.fetched.vector input.rindOff true input.columns)
  else
  match s.vats.holds.find? (fun h => h.vat = vat ∧ h.instr.lane = fl.instr.lane ∧ h.instr.slotKind = 0) with
  | none => s
  | some h =>
    let low := input.columns
    let sum := h.values.zipIdx.map (fun e => e.1 + (if h.halved then 2 else 1) * low.getD e.2 0)
    let s1 := { s with vats := { s.vats with holds := s.vats.holds.filter (fun g => g ≠ h) } }
    let poisoned := h.fetched.poisoned || fl.fetched.poisoned || fl.fetched.vector.poison
    s1.deliver vat { instr := h.instr, fetched := { h.fetched with poisoned := poisoned }, physical := h.physical, status := 0 }
      (if h.halved then 4 else 1) (orStatus (orStatus h.status status) statusRepaired) h.halved sum

/-! ### Trier probes (R407 step 4) -/

/-- A result completed from stage-4 values in the form a sample took (R405, R407). -/
def completeForm (m : Mem) (k : Nat) (v : PourVector) (rindOff : Bool) (form : Nat) (high low : List Int) : List Int :=
  let combined := form = 1 ∨ form = 4
  let y := highResult m k v rindOff combined high
  (limitResult false (if combined then y.zipIdx.map (fun e => e.1 + low.getD e.2 0) else y)).1

/-- The columns on which a result lies beyond a tolerance of a reference (R406). -/
def disagreements (tol : Nat) (p reference : List Int) : List Nat :=
  (List.range reference.length).filter (fun c => tol < (p.getD c 0 - reference.getD c 0).natAbs)

/-- Hand a maintenance pour's values to the trier record that waits for a probe of this vector (R407 step 4): the two
probes fall in different steps; one of a combined form is a high and a low pour in one step. The slot counts as one of the trier's
(R145). -/
def S8.trierProbe (s : S8) (vat slot : Nat) (fl : Flight) (input : PourInput) : S8 :=
  match s.trier.records.find? (fun e => e.2.vat = vat && e.2.verdict = 0 && e.2.reference ≠ [] &&
      e.2.probes.length < 2 && e.2.rows = fl.fetched.rows) with
  | none => s
  | some (key, r) =>
    let s := { s with turn := { s.turn with trierSlots := SMap.modify s.turn.trierSlots fl.physical 0 (· + 1) } }
    let combined := r.form = 1 ∨ r.form = 4
    let note (high low : List Int) : S8 :=
      let p := completeForm s.mem fl.physical fl.fetched.vector input.rindOff r.form high low
      let found := { r with
        probes := r.probes ++ [disagreements r.tolerance p r.reference]
        probeStep := some s.run.step }
      { s with trier := { s.trier with records := SMap.insert s.trier.records key found } }
    if r.probeStep = some s.run.step then s
    else if !combined then (if input.low then s else note input.columns [])
    else if !input.low then
      { s with vats := { s.vats with firsts := SMap.insert s.vats.firsts (slotKey vat slot) (input.columns, fl) } }
    else
      match s.vats.firsts.find? (fun e => e.1 / 128 = vat && e.2.2.instr.slotKind = 2 && e.2.2.fetched.rows = r.rows) with
      | none => s
      | some (_, high, _) => note high input.columns

/-! ### POUR_CODES_REACH_RIND -/

/-- A forward pour's codes reach the rind. -/
def S8.forwardCodes (s : S8) (vat slot : Nat) (fl : Flight) (codes : List Nat) : S8 :=
  let input := s.pourInput fl codes
  let s1 := s.countCodes (vatDie fl.physical) input.saturations input.anyRefSaturated input.usesHeldGain (unitOfVatKey vat)
  let status := if input.saturations = 0 then 0 else statusUnrepaired
  if fl.instr.reduction = 0xFFF then
    (s1.probe (unitOfVat fl.physical) fl.physical (probeBytes codes input.stage4)).trierProbe vat slot fl input
  else
    let s2 := s1.checkSums fl vat input
    if input.low then s2.lowCodes vat fl status input else s2.highCodes vat slot fl status input

/-- A reverse pour's codes reach the rind (R74, R75, R99): the first slot's values wait for the second's. A probe record of a reverse
pour holds one slot's codes, with the values of R99 step 2 before weighting as its stage-4 field (DESIGN CHOICE, log entry 24). -/
def S8.reverseCodes (s : S8) (vat slot : Nat) (fl : Flight) (codes : List Nat) : S8 :=
  let off := s.dict.get Obj.rindMode = 1
  let nominal := Config.nominalGain (vatDie fl.physical) (SMap.getD s.vats.gainStep fl.physical 0)
  let x := if fl.fetched.vector.exponent = 0 then List.replicate 2048 0
    else reverseSlot s.mem fl.physical codes off nominal
  let sat := (codes.filter saturated).length
  let status := if sat = 0 then 0 else statusUnrepaired
  let s1 := s.countCodes (vatDie fl.physical) sat false false (unitOfVatKey vat)
  if fl.instr.reduction = 0xFFF then s1.probe (unitOfVat fl.physical) fl.physical (probeBytes codes (fun r => x.getD r 0))
  else if fl.instr.slot = slot then
    let s2 := s1.openFor fl
    { s2 with vats := { s2.vats with firsts := SMap.insert s2.vats.firsts (slotKey vat slot) (x, { fl with status := status }) } }
  else
    match SMap.find s1.vats.firsts (slotKey vat (slot - 1)) with
    | none => s1
    | some (first, f1) =>
      let s2 := { s1 with vats := { s1.vats with firsts := SMap.erase s1.vats.firsts (slotKey vat (slot - 1)) } }
      s2.deliver vat { fl with fetched := { fl.fetched with poisoned := fl.fetched.poisoned || f1.fetched.poisoned } } 0
        (orStatus status f1.status) false
        (reverseResult s2.mem fl.physical fl.fetched.vector off first x)

/-- The codes of a pour in flight reach its rind unit (R70, R82). Words of the unit's region found upset are met as the
tables are read (R119, R398). -/
def S8.codesReach (s : S8) (vat slot : Nat) (codes : List Nat) (tick : Nat) (upset : Upsets) : S8 :=
  match SMap.find s.vats.flights (slotKey vat slot) with
  | none => s
  | some fl =>
    let s0 := s.meetWords (unitBase (unitOfVat fl.physical)) 0x550000 upset
    let s1 := { s0 with
      vats := { s0.vats with flights := SMap.erase s0.vats.flights (slotKey vat slot) }.slotDone vat slot
      run := s0.run.worked (vatHalf vat) tick }
    let tripped := if fl.instr.slotKind = 2 then { fl with instr := { fl.instr with lane := 0 } } else fl
    if fl.instr.direction = 1 then s1.reverseCodes vat slot tripped codes else s1.forwardCodes vat slot tripped codes

/-- POUR_CODES_REACH_RIND (R70 to R102). -/
def execPourCodesReachRind (vat : Vat) (slot : PourSlot) (codes : List (BitVec 10)) (tick : Nat) (upset : Upsets)
    (s : State) : Host.Outcome State Fault Refusal :=
  act (.pourCodesReachRind vat slot codes tick upset) s
    (fun c => (c.codesReach (vatKey vat) slot.val (codes.map BitVec.toNat) tick upset).judge)

/-! ### The fallback logic (R124, R125, R436) -/

/-- The low-pour entry a grant writes into a reserve slot (R78). -/
def grantEntry (high : PourInstr) (slot : Nat) : PourInstr :=
  { high with phase := 1, slotKind := 1, average := 0, direction := 0, slot := slot }

/-- A reserve slot's decision tick (R124): grant the lowest waiting lane, and release those beyond the slots left. At
throttle stage 2 or 3 the slot stays idle and every waiting lane is released (R436). -/
def S8.reserveDecided (s : S8) (vat slot : Nat) : S8 :=
  if s.kindOfSlot vat slot ≠ 1 ∨ s.vats.decided.contains (slotKey vat slot) then s
  else
    let all := SMap.getD s.vats.waiting vat []
    let waiting := all.filter (fun e => e.2 < slot)
    let later := all.filter (fun e => !(e.2 < slot))
    let hot := 2 ≤ s.power.stageOf (vatHalf vat)
    let idle := hot || waiting = []
    let after := if hot then [] else waiting.drop 1
    let left := ((s.reserveSlots vat).filter (fun r => slot < r)).length
    let released := if hot then waiting else after.drop left
    let high := (waiting.head?.bind (fun e => s.slotEntry vat e.2))
    { s with
      vats := { s.vats with
        decided := insertNat (slotKey vat slot) s.vats.decided
        waiting := SMap.put [] s.vats.waiting vat (after.take left ++ later)
        releasing := released.foldl (fun l e => insertNat (slotKey vat e.1) l) s.vats.releasing
        granted := match (if idle then none else high) with
          | none => s.vats.granted
          | some p => SMap.insert s.vats.granted (slotKey vat slot) (grantEntry p slot) }
      dict := (s.dict.tally (dieObj Obj.reserveIdleCount (vatDie vat)) (if idle then 1 else 0)).tally
        (dieObj Obj.lowPourGrantCount (vatDie vat)) (if idle then 0 else 1) }

/-- RESERVE_DECISION (R78, R124, R436). -/
def execReserveDecision (vat : Vat) (slot : PourSlot) (s : State) : Host.Outcome State Fault Refusal :=
  act (.reserveDecision vat slot) s (fun c => c.reserveDecided (vatKey vat) slot.val)

/-- Release a held result without a low pour (R46, R98, R125): the vector's rows are read again. -/
def S8.release (s : S8) (vat lane tick : Nat) (upset : Upsets) : S8 :=
  if s.vats.releasing.contains (slotKey vat lane) then
    match s.vats.holds.find? (fun h => h.vat = vat ∧ h.instr.lane = lane) with
    | none => s
    | some h =>
      let a := h.instr.vectorAddr (vatDie vat)
      let n := 512 * vectorRows h.physical
      let bytes := s.mem.read a n
      let bad := badIn s.mem upset a n ≠ []
      let v := PourVector.ofBytes bytes (dataColumns h.physical)
      let terms := releaseTerms s.mem h.physical v (s.dict.get Obj.rindMode = 1)
      let sum := h.values.zipIdx.map (fun e => clamp48 (e.1 + (if h.halved then 2 else 1) * terms.getD e.2 0))
      let s1 := s.meetWords a n upset
      let s2 := { s1 with
        vats := { s1.vats with
          holds := s1.vats.holds.filter (fun g => g ≠ h)
          releasing := eraseNat (slotKey vat lane) s1.vats.releasing }
        run := s1.run.worked (vatHalf vat) tick
        dict := s1.dict.raise s1.run.step Obj.unrepairedCount 0 1 (unitOfVatKey vat) lane }
      s2.deliver vat { instr := h.instr, fetched := h.fetched, physical := h.physical, status := 0 }
        (if h.halved then 3 else 2)
        (orStatus (orStatus h.status statusUnrepaired) (if bad then statusPoison else 0)) h.halved sum
  else s

/-- UNREPAIRED_RELEASE (R98, R125, R231). -/
def execUnrepairedRelease (vat : Vat) (lane : Lane) (tick : Nat) (upset : Upsets) (s : State) :
    Host.Outcome State Fault Refusal :=
  act (.unrepairedRelease vat lane tick upset) s (fun c => (c.release (vatKey vat) lane.val tick upset).judge)

end Sys2Proof.Machine
end

