-- ==== Sys2Proof/Machine/Access.lean ====
section
/-! DEFINITION. Who may reach which module address (R25 to R32, R113, R114, R227, R235), and direct reads and writes of
memory by cores, row transfer engines and attention engines. The dictionary mirror's content stands in
Machine/Memory.lean. -/

namespace Sys2Proof.Machine

/-- Who reaches memory, and how. -/
structure Reach where
  /-- The half it lies in. -/
  half : Nat
  /-- Its unit of the half: a core's number, or 36 for the attention engine, which stands at that router position (R237). -/
  unit : Nat
  /-- Does it issue in machine mode? -/
  machine : Bool
  /-- Is it a core's whole-row vector access? -/
  row : Bool
  /-- Is it a row transfer engine? -/
  engine : Bool
  /-- Is it an attention engine? -/
  attention : Bool
  deriving DecidableEq, Repr

/-- The half whose memory an address names (R26, R28, R30). -/
def halfOfAddress (a : Nat) : Nat :=
  2 * field a 34 3 +
    (if field a 40 8 = 0 then field a 33 1
     else if field a 0 34 < 0x02400000 then field a 0 34 / 0x80000 / 36
     else 0)

/-- The offset of a rind store address within its unit's region, and the unit (R103). -/
def storeUnit (a : Nat) : Nat := 36 * field a 34 3 + (field a 0 34 - 0x02400000) / 0x550000
def storeOffset (a : Nat) : Nat := (field a 0 34 - 0x02400000) % 0x550000

/-- The physical vats of a rind unit: 64 charge-trap vats and 8 culture vats (R88). -/
def vatsOfUnit (u : Nat) : List Nat :=
  (List.range 64).map (fun i => 2592 * (u / 36) + 64 * (u % 36) + i) ++
    (List.range 8).map (fun i => 2592 * (u / 36) + 2304 + 8 * (u % 36) + i)

/-- The pool rows that a vat's header names: its lifted weights and its entries (R106, R110, R111). -/
def Mem.poolRowsOf (m : Mem) (k : Nat) : List Nat :=
  let lifted := m.le (tableBase k + 32) 2
  let entries := m.le (tableBase k + 34) 2
  (List.range (4 * (m.liftedRows k).length)).map (lifted + ·) ++ (List.range (m.entryRows k)).map (entries + ·)

/-- May a range of the rind store be written directly? Not the tables of an in-service vat nor the pool rows its header
names (R113), nor staging rows 1–127 while Commit is 1 (R114), nor the reserved end (R103). -/
def Mem.storeWritable (m : Mem) (a len : Nat) : Bool :=
  let u := storeUnit a
  let lo := storeOffset a
  let hi := lo + len
  field a 0 34 + len ≤ 0x0E340000 && hi ≤ 0x550000 &&
    !((vatsOfUnit u).any (fun k => m.vatState k = 2 &&
      ((let t := tableBase k - unitBase u
        let size := if isCulture k then 0x4000 else 0x9000
        t < hi && lo < t + size) ||
       (0x480000 < hi && (m.poolRowsOf k).any (fun r => 0x480000 + 512 * r < hi && lo < 0x480000 + 512 * r + 512))))) &&
    !(m.committed u && 0x470200 < hi && lo < 0x480000)

/-- Is a range within staging rows 1–127 of a unit whose Commit is 1? Such a write counts in StagingRejectCount (R114). -/
def Mem.stagingRejects (m : Mem) (a len : Nat) : Bool :=
  placeOf a = .rindStore && field a 0 34 < 0x0E340000 && m.committed (storeUnit a) &&
    (0x470200 < storeOffset a + len && storeOffset a < 0x480000)

/-- Does the place permit the access? (R26 to R31, R227, R235) In user mode a store reaches the working areas that the runtime owns. A
user-mode load is held to the same ranges as a store, the rind store apart, of which R235 states only the stores (DESIGN CHOICE,
log entry 13). -/
def S8.placePermits (s : S8) (r : Reach) (write : Bool) (a len : Nat) : Bool :=
  match placeOf a with
  | .scratchpad =>
    a % 512 = 0 && len = 512 && (r.engine || (r.row && halfOfAddress a = r.half)) && !r.attention
  | .rindStore =>
    !r.attention && (if write then r.machine && s.mem.storeWritable a len else true)
  | .engineBuffer _ => r.machine && !write && !r.attention
  | .linkBuffer => false
  | .hotPool => if r.attention then halfOfAddress a = r.half else r.machine
  | .working _ =>
    if r.attention then halfOfAddress a = r.half else r.machine || (Config.runtimeOwns a && Config.runtimeOwns (a + len - 1))
  | .mirror => r.machine && !write
  | .none => false

/-- The seam crossing of a die, by its number in `crossingKey`, on the way between two places of the die's grid: none within one half.
Accesses are unplaced traffic: they run along their row first, or along the column first where the turn would fall at a retired router
(R237, R239). -/
def S8.seamOnWay (s : S8) (die : Nat) (a b : Nat × Nat) : List Nat :=
  if (a.2 < 5) = (b.2 < 5) then []
  else [8 * die + (if s.routerRetired (routerKey die (a.1, b.2)) then b.1 else a.1)]

/-- The seams and bridges, by their numbers in `crossingKey`, on the way from a place over bridges to a place of the last die (R239,
R245). -/
def S8.crossingsOnWay (s : S8) (bridges : List Nat) (die half : Nat) (place goal : Nat × Nat) : List Nat :=
  match bridges with
  | [] => s.seamOnWay die place goal
  | b :: rest =>
    let gate := attachGrid true b die half
    let across := bridgeAcross b die
    let exit := attachGrid true b across half
    s.seamOnWay die place gate ++ (64 + b) :: s.crossingsOnWay rest across (if exit.2 < 5 then 0 else 1) exit goal

/-- Where the memory of an address is attached: its half, its router position there, and the crossing between the unit that holds it and
the fabric, by its number in `crossingKey` (R237, R451). The DRAM tier of a half is reached at the position of its attention engine
(DESIGN CHOICE, log entry 13). -/
def S8.attachedAt (s : S8) (a : Nat) : Option (Nat × Nat × List Nat) :=
  match placeOf a with
  | .scratchpad =>
    let core := s.cores.physical (72 * field a 34 3 + field a 0 34 / 0x80000)
    some (core / 36, core % 36, [128 + core])
  | .rindStore => some (storeUnit a / 18, 2 * (storeUnit a % 18), [1024 + storeUnit a])
  | .engineBuffer h => some (h, 36, [2048 + h])
  | .working h => some (h, 36, [])
  | .hotPool => some (halfOfAddress a, 36, [])
  | _ => none

/-- The asynchronous crossings that an access passes from a unit of a half to an address (R451, R452). -/
def S8.crossingsTo (s : S8) (half unit a : Nat) : List Nat :=
  match s.attachedAt a with
  | none => []
  | some (goal, position, own) =>
    let place := if unit = 36 then 36 else s.cores.physical (36 * half + unit) % 36
    own ++ s.crossingsOnWay (bridgesBetween (half / 2) (goal / 2)) (half / 2) (half % 2) (gridOf (half % 2) place)
      (gridOf (goal % 2) position)

/-- Is an access permitted: its first and last byte in one place of a die in service, the place permits it, and no crossing on its way
has isolated itself? (R27, R32, R452) The mirror has no die. An access that reaches into two places or two dies is refused whole
(DESIGN CHOICE, log entry 13). -/
def S8.permits (s : S8) (r : Reach) (write : Bool) (a len : Nat) : Bool :=
  placeOf a = placeOf (a + len - 1) && (placeOf a = .mirror || (field a 34 3 = field (a + len - 1) 34 3 && s.dieServes (field a 34 3))) &&
    s.placePermits r write a len && (s.crossingsTo r.half r.unit a).all (fun k => !(s.clock.isolated.contains k))

/-- A refused access: AddressFault with the faulting address (R27), and the staging count (R114). -/
def S8.addressFault (s : S8) (write : Bool) (a len : Nat) : S8 :=
  { s with
    dict := (s.dict.note s.run.step eventAddressFault 0 a).raise s.run.step
      (dieObj Obj.stagingRejectCount (field a 34 3)) 0 (if write && s.mem.stagingRejects a len then 1 else 0) 0 a }

/-- The offset in a unit's region of the last byte of its oldest unread probe record, none when every record is read (R104). -/
def Vats.probeEnd (v : Vats) (u : Nat) : Option Nat :=
  let unread := SMap.getD v.probeUnread u 0
  if unread = 0 then none else some (0x460000 + 0x4400 * ((SMap.getD v.probeNext u 0 + 3 - unread) % 3) + 2144 * 8 - 1)

/-- A read that takes the last byte of the oldest unread probe record of a unit ends the reading of that record (R104; DESIGN CHOICE,
log entry 24: a record is read in ascending order). -/
def S8.probeRead (s : S8) (a len : Nat) : S8 :=
  if placeOf a = .rindStore ∧ field a 0 34 < 0x0E340000 then
    let u := storeUnit a
    match s.vats.probeEnd u with
    | none => s
    | some e =>
      if storeOffset a ≤ e ∧ e < storeOffset a + len then
        { s with vats := { s.vats with probeUnread := SMap.put 0 s.vats.probeUnread u (SMap.getD s.vats.probeUnread u 0 - 1) } }
      else s
  else s

/-! ### Reading what units hold (R104, R232) -/

/-- The accumulators of a unit's sets, in the order of reduction and lane (DESIGN CHOICE, log entry 24). -/
def Vats.accumulators (v : Vats) (u : Nat) : List Acc :=
  (v.sets.filter (fun e => e.1 / 128 / 4096 = u && e.2.opened)).flatMap (fun e => e.2.cols)

/-- Byte `off` of a unit's region where it is a unit's own register file: the containers of its accumulators (R52), and the held values
of its hold records, in the order they were taken (R104). -/
def Vats.unitByte (v : Vats) (u off : Nat) : Option Byte :=
  if 0x260000 ≤ off ∧ off < 0x3E0000 then
    (v.accumulators u)[(off - 0x260000) / 16]?.map (fun x => byteAt x.toBytes (off % 16))
  else if 0x3E0000 ≤ off ∧ off < 0x460000 then
    (v.holds.filter (fun h => unitOfVat h.physical = u))[(off - 0x3E0000) / 8192]?.map (fun h =>
      byteAt (leBytes 4 (ofSigned 32 ((h.values.getD (off % 8192 / 4) 0) / (if h.halved then 2 else 1)))) (off % 4))
  else none

/-- The address that a read of the spare number of a move takes its row from: rows already copied are kept equal to the moving core's
by mirroring (R232). -/
def Cores.mirrorOf (c : Cores) (a : Nat) : Nat :=
  let core := 72 * field a 34 3 + field a 0 34 / 0x80000
  match SMap.find c.moves (core / 36) with
  | none => a
  | some m =>
    if m.state < 3 ∧ core % 36 = m.spareNumber ∧ field a 0 34 % 0x80000 / 512 < m.copied then
      scratchRow (36 * m.half + m.logical) 0 + field a 0 34 % 0x80000
    else a

/-- Does an offset of a unit's region lie in the reserved bits [39:24] of an entry, in a pool row that a header in State 1 or 2 allots to
entries? (R110) -/
def Mem.entryReserved (m : Mem) (u off : Nat) : Bool :=
  0x480000 ≤ off && (off % 8 = 3 || off % 8 = 4) && (vatsOfUnit u).any (fun k => (m.vatState k = 1 || m.vatState k = 2) &&
    m.le (tableBase k + 34) 2 ≤ (off - 0x480000) / 512 && (off - 0x480000) / 512 < m.le (tableBase k + 34) 2 + m.entryRows k)

/-- A partial as rows (R284): row 0 with the record count, the lane status and H; then for each head a row with m and l, and the eight
rows of its v. -/
def LanePartial.rows (p : LanePartial) : Bytes :=
  let count := ((p.heads.head?).map (fun h => h.count)).getD 0
  padTo 512 (leBytes 4 count ++ leBytes 2 p.status ++ leBytes 1 p.heads.length) ++ p.heads.flatMap (fun h =>
    padTo 512 (leBytes 4 h.m ++ leBytes 4 h.l.1 ++ leBytes 4 h.l.2) ++
      padTo 4096 (h.v.flatMap (fun w => leBytes 4 w.1 ++ leBytes 4 w.2)))

/-- The byte at an offset of parts laid one after another; none beyond them. -/
def byteOfParts (parts : List Bytes) (off : Nat) : Option Byte :=
  match parts with
  | [] => none
  | p :: rest => if off < p.length then p[off]? else byteOfParts rest (off - p.length)

/-- A byte of the attention engine buffer of a half: the open partials of its engine, one after another in the order of layer and lane
(R284; their places are the model's, DESIGN CHOICE, log entry 41). -/
def Attention.bufferByte (t : Attention) (half off : Nat) : Option Byte :=
  byteOfParts ((t.partials.filter (fun e => e.1 % 32 = half)).map (fun e => e.2.rows)) off

/-- A byte of a working area in which a half holds its copy of a loaded sheet (R210, R401). -/
def Run.sheetByte (r : Run) (half a : Nat) : Option Byte :=
  (r.buffers.filter (fun e => e.2.state = 3)).findSome? (fun e =>
    let base := workBase half + Config.sheetArea half e.1
    if base ≤ a ∧ a < base + e.2.bytes.length then e.2.bytes[a - base]? else none)

/-- The byte that a read finds at an address: memory's own, or what a unit keeps there; reserved bits of an entry read as zero (R6). -/
def S8.foundByte (s : S8) (a : Nat) : Byte :=
  match placeOf a with
  | .rindStore =>
    if field a 0 34 < 0x0E340000 then
      (if s.mem.entryReserved (storeUnit a) (storeOffset a) then 0
       else (s.vats.unitByte (storeUnit a) (storeOffset a)).getD (s.mem.byte a))
    else 0
  | .scratchpad => s.mem.byte (s.cores.mirrorOf a)
  | .engineBuffer h => (s.attn.bufferByte h (field a 0 34 - (if h % 2 = 0 then 0x0E400000 else 0x0F000000))).getD (s.mem.byte a)
  | .working h => (s.run.sheetByte h a).getD (s.mem.byte a)
  | _ => s.mem.byte a

/-- Read bytes as a core or a row transfer finds them. -/
def S8.readBytes (s : S8) (a n : Nat) : Bytes := (List.range n).map (fun i => s.foundByte (a + i))

/-! ### Reserved fields (R6) -/


/-- The bytes of a store as a rind unit's tables hold them: reserved bits read as zero (R6). -/
def tableBits (a : Nat) (b : Bytes) : Bytes :=
  if placeOf a = .rindStore ∧ field a 0 34 < 0x0E340000 then maskTable (storeOffset a) b else b

/-! ### Stores to the root table (R273, R275) -/

/-- The root entries of a half's copy that a write of n bytes touches: (layer, slot), by layer·8192 + slot, with the entry's
address. -/
def S8.rootsTouched (s : S8) (a n : Nat) : List (Nat × Nat) :=
  match placeOf a, s.run.running with
  | .working h, some sh =>
    let layers := sh.attention.length
    let base := workBase h + Config.rootTableBase
    let first := (a - base) / 32
    if a + n ≤ base ∨ layers = 0 then []
    else
      ((List.range ((a + n - base + 31) / 32 - first)).map (first + ·)).filterMap (fun i =>
        if i < 8192 * layers then some (8192 * (i % layers) + i / layers, base + 32 * i) else none)
  | _, _ => []

/-- Write bytes to memory as a store of a core, an engine or a row transfer, reserved fields of the tables and of a root entry reading
as zero (R6): a root entry written with a pending directory is to
be published, and one that replaces an earlier pending directory counts once, on the lowest half's copy (R275). -/
def S8.storeBytes (s : S8) (a : Nat) (b : Bytes) : S8 :=
  let roots := s.rootsTouched a b.length
  let mem := roots.foldl (fun m e => m.write (e.2 + 24) (zeros 8)) (s.mem.write a (tableBits a b))
  let lowest := (halves.find? s.halfServes).getD 0
  let replaced := roots.filter (fun e =>
    placeOf a = .working lowest && s.mem.le (e.2 + 8) 4 ≠ 0xFFFFFFFF && a < e.2 + 12 && e.2 + 8 < a + b.length &&
      (SMap.find s.attn.publishing e.1).isSome)
  let pending := roots.foldl (fun m e =>
    if mem.le (e.2 + 8) 4 = 0xFFFFFFFF then m else SMap.insert m e.1 (mem.le (e.2 + 16) 8)) s.attn.publishing
  S8.raise { s with
    mem := mem
    attn := { s.attn with publishing := pending } } Obj.publishReplacedCount 0 replaced.length 0 a

end Sys2Proof.Machine
end

