-- ==== Sys2Proof/Machine/Boot.lean ====
section
/-! DEFINITION. Start-up, firmware and the header's pins (chapter 19; R502, R506): power-up, boot attempts, the
coordinator, firmware loading and live handover. -/

namespace Sys2Proof.Machine

/-! ### Segments of a byte string that arrive in any order -/

/-- Is every byte below `n` held by a segment? -/
def segmentsCover (n : Nat) (segs : List (Nat × Bytes)) : Bool :=
  (List.range n).all (fun i => segs.any (fun g => g.1 ≤ i && i < g.1 + g.2.length))

/-- The bytes segments hold: a later segment overwrites the same bytes (R302, R361, R470). -/
def assemble (n : Nat) (segs : List (Nat × Bytes)) : Bytes :=
  segs.foldl (fun b g => overlay b g.1 g.2) (zeros n)

/-! ### Power loss and power-up -/

/-- The pause index after a power loss: an entry being written is discarded (R339, R491), and one being restored, whose
key is consumed. -/
def Cellar.afterLoss (c : Cellar) (parked : List (Nat × Nat × Sequence)) : Cellar :=
  { c with
    index := SMap.keep (fun _ e => e.state = 2 || e.state = 4) c.index
    seconds := c.savedSeconds
    restores := []
    parkedRestores := []
    restorePages := 0
    extendStatus := 0
    parked := c.parked ++ parked }

/-- Sequences parked in the cellar when power is lost (R491). -/
def Serving.parkedNow (v : Serving) : List (Nat × Nat × Sequence) :=
  v.slots.filterMap (fun e =>
    if e.2.state = SlotState.parked then
      e.2.entry.map (fun n => (SMap.getD v.generations e.1 1 * 8192 + e.1, n, e.2))
    else none)

/-- The module when its dies lose power or are held in reset (R481, R490, R491): the cells of the vats, the cellar and
what the Catalogue, the Log and the boot partitions hold are kept; everything else is as at reset. -/
def S8.powerLoss (s : S8) : S8 :=
  { S8.reset with
    dict := { Dict.reset with saved := s.dict.saved, logged := s.dict.logged }
    vats := { Vats.reset with map := s.vats.map, gainStep := s.vats.gainStep }
    turn := { Turning.reset with
      usedPairs := s.turn.usedPairs
      columnMaps := s.catalogueMaps
      quality := SMap.mapVal (fun k q => { q with cycles := SMap.getD s.turn.savedCycles k 0 }) s.turn.quality
      rowWrites := s.turn.savedWrites
      savedCycles := s.turn.savedCycles
      savedWrites := s.turn.savedWrites }
    cellar := s.cellar.afterLoss s.serve.parkedNow
    wheels := { s.wheels with
      manifest := []
      placement := []
      content := SMap.keep (fun k _ => !(s.turn.programming.contains k)) s.wheels.content }
    cultures := { s.cultures with table := s.cultures.table.filter (fun c => !c.part) }
    power := { Power.reset with total := s.power.saved, saved := s.power.saved }
    boot := { Boot.reset with
      images := s.boot.images
      preferred := s.boot.preferred
      joinWait := s.boot.joinWait
      handoverState := if s.boot.switchedAt.isSome then 4 else 0
      inputGood := s.boot.inputGood
      railsGood := s.boot.railsGood
      resetLow := s.boot.resetLow
      stopped := s.boot.stopped
      pwrGood := s.boot.pwrGood }
    free := s.free }

/-- The indexes below 8 at which a list of Booleans is false. -/
def falseAt (l : List Bool) : List Nat := (List.range 8).filter (fun i => !(l.getD i false))

/-- Phases 2 to 7 of the power-up sequence (R480, R483, R484): rails within limits, every die's starter runs unless its
test record or its cores fail. A handover that power loss left unconfirmed has failed (R494). -/
def S8.start (s : S8) (recordValid starterCore : List Bool) : S8 :=
  let bad := falseAt recordValid
  let none := falseAt starterCore
  let boot := { s.boot with badRecords := bad, noStarter := none, railsGood := true, pwrGood := true }
  { s with
    boot := { boot with state := (List.range 8).map (fun d => (d, boot.startState d)) }
    power := { s.power with clocks := halves.map (fun h => (h, 1700)) }
    dict := (s.dict.raise s.run.step Obj.testRecordFaultCount 0 bad.length (unitField 1 (bad.headD 0)) 0).raise
      s.run.step Obj.handoverFailCount 0 (if s.boot.handoverState = 4 then 1 else 0) 0 0 }

/-- POWER_UP (R480): the input reaches 40 V with MOD_RESET_N high. -/
def execPowerUp (recordValid starterCore : List Bool) (s : State) : Host.Outcome State Fault Refusal :=
  act (.powerUp recordValid starterCore) s (fun c =>
    if c.boot.inputGood && !c.boot.resetLow && !c.boot.pwrGood then c.start recordValid starterCore else c)

/-- MOD_RESET (R481, R506): MOD_RESET_N sampled low for 10 µs has the effect of a power cycle, and holds. -/
def execModReset (s : State) : Host.Outcome State Fault Refusal :=
  act .modReset s (fun c => { c.powerLoss with boot := { c.powerLoss.boot with resetLow := true } })

/-- MOD_RESET_RELEASE (R480): MOD_RESET_N goes high and the power-up sequence runs. -/
def execModResetRelease (recordValid starterCore : List Bool) (s : State) : Host.Outcome State Fault Refusal :=
  act (.modResetRelease recordValid starterCore) s (fun c =>
    if c.boot.resetLow && c.boot.inputGood then
      { c with boot := { c.boot with resetLow := false } }.start recordValid starterCore
    else { c with boot := { c.boot with resetLow := false } })

/-- CARRIER_RAIL_FAULT (R481): PWR_GOOD falls and every die is held in reset. -/
def execCarrierRailFault (s : State) : Host.Outcome State Fault Refusal :=
  act .carrierRailFault s (fun c =>
    { c.powerLoss with boot := { c.powerLoss.boot with railsGood := false, pwrGood := false } })

/-- CARRIER_RAILS_RESTORED (R481): phase 2 is reached again. -/
def execCarrierRailsRestored (recordValid starterCore : List Bool) (s : State) : Host.Outcome State Fault Refusal :=
  act (.carrierRailsRestored recordValid starterCore) s (fun c =>
    if c.boot.inputGood && !c.boot.resetLow && !c.boot.railsGood then c.start recordValid starterCore else c)

/-- INPUT_VOLTAGE_STOP (R502): the power stage switches off, as on a power cycle, and PWR_GOOD falls. -/
def execInputVoltageStop (s : State) : Host.Outcome State Fault Refusal :=
  act .inputVoltageStop s (fun c =>
    { c.powerLoss with boot := { c.powerLoss.boot with
      inputGood := false, stopped := true, railsGood := false, pwrGood := false } })

/-- INPUT_RECOVER (R502): the input has been back within 40–60 V for 100 ms, and the module may restart under R480. -/
def execInputRecover (s : State) : Host.Outcome State Fault Refusal :=
  act .inputRecover s (fun c => { c with boot := { c.boot with inputGood := true, stopped := false } })

/-! ### Boot -/

/-- Is a die's cellar reachable: the die has power and its E half runs? A half that is stopped, or held in reset until its PLL locks,
does not run (R15, R330, R454). -/
def S8.cellarReachable (s : S8) (die : Nat) : Bool :=
  (SMap.find s.power.tripped die).isNone && !(s.power.cycling.contains die) && SMap.getD s.boot.state die 0 ≠ 0 &&
    SMap.getD s.clock.halfState (2 * die + 1) 0 < 2

/-- The slot that attempt k reads: Preferred when k is even, the other when k is odd (R485). -/
def Boot.attemptSlot (b : Boot) (die : Nat) : Nat :=
  let p := SMap.getD b.preferred die 0
  if SMap.getD b.attempts die 0 % 2 = 0 then p else 1 - p

/-- The bytes of a boot partition slot. -/
def Boot.imageBytes (b : Boot) (die slot : Nat) : Bytes := ((SMap.find b.images (2 * die + slot)).map (·.bytes)).getD []

/-- The check of a firmware image (R485), as BootLog's result: 0 booted, 2 length, 3 revision, 4 signature (R497). -/
def imageResult (b : Bytes) : Nat :=
  if leAt b 12 4 < 4096 ∨ 268435456 < leAt b 12 4 then 2
  else if leAt b 2 2 ≠ Config.hardwareRevision then 3
  else if !(signedBy Config.firmwareKey (b.take (leAt b 12 4))) then 4
  else 0

/-- A slot's release (R484). -/
def Boot.release (b : Boot) (die slot : Nat) : Nat := leAt (b.imageBytes die slot) 4 4

/-- Append to BootLog, keeping its last 64 entries (R497). -/
def Boot.record (b : Boot) (die slot result uptime : Nat) : Boot :=
  let entry : BootEntry := 
    { die := die, image := slot, result := result, release := b.release die slot, seconds := uptime }
  { b with log := ((b.log ++ [entry]).reverse.take 64).reverse }

/-- A failed attempt (R485): logged and counted; from the fourth in a row the starter drives ALERT_N low. -/
def S8.bootFailed (s : S8) (die slot result : Nat) : S8 :=
  let fails := SMap.getD s.boot.failures die 0 + 1
  { s with
    boot := { (s.boot.record die slot result s.power.uptime) with
      state := SMap.insert s.boot.state die 2
      attempts := SMap.insert s.boot.attempts die (SMap.getD s.boot.attempts die 0 + 1)
      failures := SMap.insert s.boot.failures die fails
      starterAlert := if 4 ≤ fails then insertNat die s.boot.starterAlert else s.boot.starterAlert }
    dict := s.dict.raise s.run.step Obj.bootAttemptCount 0 1 (unitField 1 die) slot }

/-- A service number that a unit which the test record calls bad would back moves to the lowest spare number of its half that a healthy
unit backs, and the two exchange their units; with none it is unbacked (R8, R21, R23). -/
def Vats.settleVat (v : Vats) (k : Nat) : Vats :=
  if !(Config.vatBad (v.physical k)) || v.unbacked.contains k then v
  else
    match (spareNumbers (vatHalf k) (isCulture k)).find? (fun l => !(Config.vatBad (v.physical l)) && !(v.unbacked.contains l)) with
    | some l => { v with map := SMap.insert (SMap.insert v.map k (v.physical l)) l (v.physical k) }
    | none => { v with unbacked := insertNat k v.unbacked }

/-- The vat map of a die as its firmware first makes it: every service number on a healthy unit (R8, R21). -/
def Vats.settle (v : Vats) (die : Nat) : Vats :=
  (((List.range 2592).map (fun i => 2592 * die + i)).filter isServiceVat).foldl Vats.settleVat v

/-- The same for a core's service number: a retired unit is exchanged for a spare one other than the agent's (R8, R21, R23, R234). -/
def Cores.settleCore (c : Cores) (k : Nat) : Cores :=
  if c.stateOf (c.physical k) ≠ 4 || c.unbacked.contains k then c
  else
    let h := k / 36
    match ((List.range 4).map (fun i => 36 * h + 32 + i)).find? (fun l =>
        c.stateOf (c.physical l) = 1 && c.physical l % 36 ≠ SMap.getD c.agents h 35) with
    | some l => { c with
        map := SMap.insert (SMap.insert c.map k (c.physical l % 36)) l (c.physical k % 36)
        states := SMap.insert c.states (c.physical l) 0 }
    | none => { c with unbacked := insertNat k c.unbacked }

/-- The core maps of a die's halves as its firmware first makes them (R8, R21). -/
def Cores.settle (c : Cores) (die : Nat) : Cores :=
  (((List.range 72).map (fun i => 72 * die + i)).filter (fun k => k % 36 < 32)).foldl Cores.settleCore c

/-- UnitUnbacked for each number that has become unbacked (R23). -/
def Dict.nameUnbacked (d : Dict) (step : Nat) (unit : Nat → Nat) (was now : List Nat) : Dict :=
  (now.filter (fun k => !(was.contains k))).foldl (fun d k => d.note step eventUnitUnbacked (unit k) 0) d

/-- A passing image is started in machine mode (R485), and firmware maps the die's numbers onto healthy units (R8, R21). A die that
returns, after a power cycle or after missing the join, counts, takes its place among the dies in service once it runs the
coordinator's release, and its engines stay out of the stripe list until the switch of R495 (R488). -/
def S8.bootPassed (s : S8) (die slot : Nat) : S8 :=
  let returns := s.boot.coordinator ≠ 0xFF && s.run.lostDies.contains die
  let rejoins := returns && decide (s.boot.release die slot =
    s.boot.release s.boot.coordinator (SMap.getD s.boot.running s.boot.coordinator 0))
  let vats := s.vats.settle die
  let cores := s.cores.settle die
  let dict := (s.dict.nameUnbacked s.run.step unitOfVatKey s.vats.unbacked vats.unbacked).nameUnbacked s.run.step (unitField 3)
    s.cores.unbacked cores.unbacked
  { s with
    vats := vats
    cores := cores
    boot := { (s.boot.record die slot 0 s.power.uptime) with
      state := SMap.insert s.boot.state die 3
      running := SMap.insert s.boot.running die slot
      failures := SMap.put 0 s.boot.failures die 0
      starterAlert := eraseNat die s.boot.starterAlert
      rejoining := if returns then insertNat die s.boot.rejoining else s.boot.rejoining }
    run := if rejoins then { s.run with lostDies := eraseNat die s.run.lostDies } else s.run
    attn := if rejoins then { s.attn with retired := insertNat (2 * die) (insertNat (2 * die + 1) s.attn.retired) } else s.attn
    dict := dict.raise s.run.step Obj.dieRejoinCount 0 (if rejoins then 1 else 0) (unitField 1 die) 0 }

/-- BootState as the object shows it: a die whose firmware runs and that is lost is at 6 (R32, R497). -/
def S8.bootShown (s : S8) (die : Nat) : Nat :=
  let st := SMap.getD s.boot.state die 0
  if st = 3 ∧ s.run.lostDies.contains die then 6 else st

/-- BOOT_ATTEMPT (R484, R485): the starter's next attempt, from the slot of its number. A page of a cellar that is not reachable is not
read (R15). -/
def execBootAttempt (die : Die) (read : ReadResult) (s : State) : Host.Outcome State Fault Refusal :=
  act (.bootAttempt die read) s (fun c =>
    let st := SMap.getD c.boot.state die.val 0
    if st = 1 ∨ st = 2 then
      let slot := c.boot.attemptSlot die.val
      let result := if read = ReadResult.failed ∨ !(c.cellarReachable die.val) then 1 else imageResult (c.boot.imageBytes die.val slot)
      if result = 0 then c.bootPassed die.val slot else c.bootFailed die.val slot result
    else c)

/-! ### Loading firmware -/

/-- A write of FirmwareLoadRequest (R487): the image's Length, and receiving begins. -/
def firmwareLoadEffect : WriteEffect := fun s value =>
  (statusOk, { s with boot := { s.boot with loadLength := valueOf value, segments := [], loadState := 1, loadReason := 0 } })

/-- FIRMWARE_LOAD_REQUEST (R487). -/
def execFirmwareLoadRequest (w : ObjWrite) (s : State) : Host.Outcome State Fault Refusal :=
  act (.firmwareLoadRequest w) s (fun c => c.performWrite w Obj.firmwareLoadRequest firmwareLoadEffect)

/-- The slot a loaded image goes to on a die (R487): the one that is not running; under a starter, the one that failed
last. -/
def Boot.inactiveSlot (b : Boot) (die : Nat) : Nat :=
  if SMap.getD b.state die 0 = 3 then 1 - SMap.getD b.running die 0
  else 1 - b.attemptSlot die

/-- Write an image to a die's inactive slot; a waiting starter takes it as its next attempt (R487). -/
def Boot.writeImage (b : Boot) (image : Bytes) (die : Nat) : Boot :=
  let slot := b.inactiveSlot die
  let waits := SMap.getD b.state die 0 ≠ 3
  { b with
    images := SMap.insert b.images (2 * die + slot) { state := 1, bytes := image }
    attempts := if waits then
        SMap.put 0 b.attempts die (if slot = SMap.getD b.preferred die 0 then 0 else 1)
      else b.attempts }


/-- The image is held whole: check it and write it, or refuse it (R487). -/
def S8.finishFirmware (s : S8) : S8 :=
  let image := assemble s.boot.loadLength s.boot.segments
  let result := if leAt image 12 4 ≠ s.boot.loadLength then 2 else imageResult image
  if result = 0 then
    let boot := ((List.range 8).filter s.cellarReachable).foldl (fun b d => b.writeImage image d) s.boot
    { s with boot := { boot with loadState := 3, loadReason := 0, segments := [] } }
  else
    { s with boot := { s.boot with
      loadState := 4
      loadReason := if result = 2 then 3 else if result = 3 then 2 else 1
      segments := [] } }

/-- Receive bulk data of a kind on the owner's port (R301, R467): a frame on the other port is discarded and counted, and
so is one of another kind. -/
def S8.receiveBulk (s : S8) (f : Frame) (kind : Nat) (k : S8 → FrameView → S8) : S8 :=
  s.receive f 0x30 (fun c v =>
    if c.ports.owner ≠ f.port then c.frameLost
    else if v.at 0 1 ≠ kind then c
    else k c v)

/-- BULK_FIRMWARE (R487). -/
def execBulkFirmware (f : Frame) (s : State) : Host.Outcome State Fault Refusal :=
  act (.bulkFirmware f) s (fun c => c.receiveBulk f 6 (fun c v =>
    let count := v.at 8 2
    if c.boot.loadState ≠ 1 ∨ count = 0 ∨ 208 < count ∨ c.boot.loadLength < v.at 4 4 + count then c.frameLost
    else
      let c1 := { c with boot := { c.boot with
        segments := c.boot.segments ++ [(v.at 4 4, bytesAt v.payload 16 count)] } }
      if segmentsCover c1.boot.loadLength c1.boot.segments then c1.finishFirmware else c1))

/-! ### The coordinator -/

/-- May a die coordinate: its firmware runs, both halves are in service, its cellar is reachable? (R488) -/
def S8.mayCoordinate (s : S8) (die : Nat) : Bool :=
  SMap.getD s.boot.state die 0 = 3 && field (s.dict.get Obj.halfService) (2 * die) 2 = 3 &&
    SMap.getD s.clock.halfState (2 * die) 0 ≠ 2 && s.cellarReachable die

/-- The dies that may coordinate, ascending. -/
def S8.coordinators (s : S8) : List Nat := (List.range 8).filter s.mayCoordinate

/-- Restore the saved settings (R462): the sound copy's values, or every default. -/
def Dict.restore (d : Dict) : Dict :=
  match d.saved with
  | none => d
  | some (copy, true) => { d with settings := copy.values, blobs := copy.blobs, configState := 1 }
  | some (_, false) => { d with settings := [], blobs := [], configState := 2 }

/-- The key of a wheel version (R363): WheelId and Version. -/
def Wheel.key (w : Wheel) : Nat := w.wheelId * 2 ^ 32 + w.version

/-- The physical vats that hold the blocks of a version's placement table: those taken for them, or those that back their
numbers. -/
def Wheels.holders (w : Wheels) (v : Vats) (u : Wheel) : SMap Nat :=
  u.placement.zipIdx.filterMap (fun e =>
    let k := (SMap.find u.targets e.2).getD (v.physical (vatOfWord e.1.vat))
    if SMap.find w.content k = some (u.key, e.1.block) then some (e.2, k) else none)

/-- Wheels held at power loss restart: a version's shards in the golden partition are verified, and its blocks are to be
calibrated and read-verified again (R490). -/
def Wheels.afterStart (w : Wheels) (v : Vats) (golden : SMap Bytes) : Wheels :=
  { w with table := (w.table.filter (fun u => u.state = 1 || u.state = 2)).map (fun u =>
    { u with
      state := 1
      ready := []
      targets := w.holders v u
      tries := []
      fetching := []
      verified := (List.range u.manifest.shardCount).filter (fun i =>
        (SMap.find golden (u.key * 65536 + i)).isSome) }) }

/-- The key of a culture version's image and content (R363, R374). -/
def Culture.key (v : Culture) : Nat := v.cultureId * 65536 + v.version

/-- The physical culture vats that hold a version's roles, by the role's place in its image. -/
def Culture.holders (v : Culture) (content : SMap (Nat × Nat)) : SMap Nat :=
  (content.filter (fun e => isCulture e.1 && e.2.1 = v.key)).foldl (fun m e => SMap.insert m e.2.2 e.1) []

/-- Cultures at start-up (R490): a READY version is at state 3 until it is read-verified again, one that was being written waits
for a place, one that was being received is lost, and no sequence is left on a retiring one. -/
def Cultures.afterStart (c : Cultures) (content : SMap (Nat × Nat)) : Cultures :=
  let writing := (c.table.filter (fun v => v.state = 3)).filterMap (·.place)
  { c with
    places := SMap.mapVal (fun _ p => if p = 2 then 1 else p) (SMap.keep (fun n _ => !(writing.contains n)) c.places)
    table := (c.table.filter (fun v => v.state ≠ 1)).map (fun v =>
      if v.state = 3 then { v with state := 2, place := none, targets := [], verified := false, pins := 0 }
      else if v.state = 4 then { v with state := 3, targets := v.holders content, verified := false, pins := 0 }
      else { v with pins := 0 }) }

/-- The PAUSED record of a parked image after power loss (R491). -/
def parkedCompletion (entry : Nat) (e : PauseEntry) : Completion :=
  { outcome := 2, error := 0, promiseBroken := false, pauseKey := e.nonce * 2 ^ 32 + entry,
    digest := bytesAt e.image.header 112 32 }

/-- The choice of the coordinator (R488, R490, R491, R462): the lowest die that may coordinates, the next is the deputy; dies whose
firmware does not run are treated as lost; settings and content are restored, and parked images get an expiry and their
records. -/
def S8.chooseCoordinator (s : S8) : S8 :=
  match s.coordinators with
  | [] => s
  | d :: rest =>
    let dict := s.dict.restore
    let ttl := dict.get Obj.pauseTimeToLive
    let index := s.cellar.parked.foldl (fun m p =>
      match SMap.find m p.2.1 with
      | none => m
      | some e => SMap.insert m p.2.1 { e with expiry := s.cellar.seconds + ttl }) s.cellar.index
    { s with
      dict := dict
      boot := { s.boot with coordinator := d, deputy := rest.headD 0xFF, mirror := { values := dict.settings, blobs := dict.blobs } }
      run := { s.run with lostDies := (List.range 8).filter (fun e => SMap.getD s.boot.state e 0 ≠ 3) }
      cellar := { s.cellar with index := index, parked := [] }
      serve := { s.serve with finished := s.serve.finished ++ s.cellar.parked.filterMap (fun p =>
        (SMap.find index p.2.1).map (fun e => (p.1, p.2.2, parkedCompletion p.2.1 e))) }
      wheels := s.wheels.afterStart s.vats s.cellar.golden
      cultures := s.cultures.afterStart s.wheels.content }

/-- STARTER_RESTART (R488): a die on another release than the coordinator's takes the coordinator's image under R487, where both
cellars are reachable (R15), and its starter restarts on it. -/
def execStarterRestart (die : Die) (s : State) : Host.Outcome State Fault Refusal :=
  act (.starterRestart die) s (fun c =>
    let k := c.boot.coordinator
    let slot := SMap.getD c.boot.running k 0
    if 7 < k ∨ SMap.getD c.boot.state die.val 0 ≠ 3 ∨ !(c.cellarReachable k) ∨ !(c.cellarReachable die.val) ∨
        c.boot.release die.val (SMap.getD c.boot.running die.val 0) = c.boot.release k slot then c
    else
      let target := c.boot.inactiveSlot die.val
      S8.judge { c with
        boot := { c.boot with
          images := SMap.insert c.boot.images (2 * die.val + target) { state := 1, bytes := c.boot.imageBytes k slot }
          state := SMap.insert c.boot.state die.val 1
          attempts := SMap.put 0 c.boot.attempts die.val
            (if target = SMap.getD c.boot.preferred die.val 0 then 0 else 1)
          rejoining := insertNat die.val c.boot.rejoining }
        run := { c.run with lostDies := insertNat die.val c.run.lostDies } })

/-! ### Live handover -/

/-- The agent's core of a half: physical core 35 unless moved (R234, R236). -/
def S8.agentCore (s : S8) (half : Nat) : Nat := 36 * half + SMap.getD s.cores.agents half 35

/-- The healthy spares of a half other than its agent's core. -/
def S8.freeSpares (s : S8) (half : Nat) : List Nat := (s.spareCores half).filter (fun c => c ≠ s.agentCore half)

/-- Why a handover is refused (R493): 0 when it is not. -/
def S8.handoverRefusal (s : S8) (h : Nat) : Nat :=
  let dies := (List.range 8).filter s.dieServes
  let k := s.boot.coordinator
  let new := s.boot.imageBytes k (1 - SMap.getD s.boot.running k 0)
  let running := s.boot.release k (SMap.getD s.boot.running k 0)
  if halves.any (fun i => s.halfServes i && s.freeSpares i = []) then 1
  else if running < leAt new 8 4 ∨ field running 24 8 ≠ 1 ∨ field (leAt new 4 4) 24 8 ≠ 1 then 2
  else if h < s.run.step + 64 then 3
  else if dies.any (fun d => ((SMap.find s.boot.images (2 * d + (1 - SMap.getD s.boot.running d 0))).map (·.state)) ≠ some 1)
    then 4
  else 0

/-- A write of HandoverStep (R492, R493). -/
def handoverEffect : WriteEffect := fun s value =>
  let r := s.handoverRefusal (valueOf value)
  if r = 0 then (statusOk, { s with
    boot := { s.boot with handoverStep := valueOf value, handoverState := 1, handoverReason := 0, switchedAt := none } })
  else (statusState, { s with boot := { s.boot with handoverState := 5, handoverReason := r } })

/-- HANDOVER_STEP (R492, R493). -/
def execHandoverStep (w : ObjWrite) (s : State) : Host.Outcome State Fault Refusal :=
  act (.handoverStep w) s (fun c => c.performWrite w Obj.handoverStep handoverEffect)

/-- A handover fails (R494): the event, and HandoverState 4; the image in use stays running. -/
def S8.handoverFailed (s : S8) : S8 :=
  { s with
    boot := { s.boot with handoverState := 4, handoverStep := 0, switchedAt := none }
    dict := s.dict.raise s.run.step Obj.handoverFailCount 0 1 0 0 }

/-- HANDOVER_HEARTBEAT_TIMEOUT (R494): no agent heartbeat for 1,024 steps after H. -/
def execHandoverHeartbeatTimeout (s : State) : Host.Outcome State Fault Refusal :=
  act .handoverHeartbeatTimeout s (fun c => if c.boot.handoverState = 2 then c.handoverFailed else c)

/-- MACHINE_MODE_TRAP (R494): from H − 64 a trap of a new agent cancels or fails the handover. -/
def execMachineModeTrap (die : Die) (half : Half) (s : State) : Host.Outcome State Fault Refusal :=
  act (.machineModeTrap die half) s (fun c =>
    if c.boot.handoverState = 2 ∨ (c.boot.handoverState = 1 ∧ c.boot.handoverStep ≤ c.run.step + 64) then c.handoverFailed
    else c)

/-- HANDOVER_CONFIRM (R494): HandoverConfirmSteps after H without a failure, Preferred names the new slot. -/
def execHandoverConfirm (s : State) : Host.Outcome State Fault Refusal :=
  act .handoverConfirm s (fun c =>
    match c.boot.switchedAt with
    | none => c
    | some h =>
      if c.boot.handoverState = 2 ∧ h + c.dict.get Obj.handoverConfirmSteps ≤ c.run.step then
        { c with boot := { c.boot with
          handoverState := 3
          switchedAt := none
          preferred := (List.range 8).map (fun d => (d, SMap.getD c.boot.running d 0)) } }
      else c)

/-- The new agent's core of a half: its highest healthy spare other than the agent's (R492). -/
def S8.newAgent (s : S8) (half : Nat) : Nat := (s.freeSpares half).foldl max 0

/-- The dictionary as the deputy holds it: writes that had not been mirrored have no effect (R489). -/
def S8.unmirrored (s : S8) : Dict :=
  { s.dict with settings := s.boot.mirror.values, blobs := s.boot.mirror.blobs, pending := [] }

/-- The answers to writes that wait on a port are answered BUSY, when the coordinator that performed them is lost (R489). -/
def PortState.busyWrites (p : PortState) : PortState :=
  { p with answers := p.answers.map (fun u =>
      if u.type = 0x11 then { u with payload := u.payload.set 7 (BitVec.ofNat 8 statusBusy) } else u) }

/-- What a boundary does to firmware (R489, R492): at step H the new agents take over on every die at once, each die's
other slot running; when the coordinator die is lost the deputy becomes coordinator. -/
def S8.bootBoundary (s : S8) : S8 :=
  let switch := s.boot.handoverState = 1 ∧ s.boot.handoverStep = s.run.step
  let s1 : S8 := if switch then
      { s with
        boot := { s.boot with
          handoverState := 2
          switchedAt := some s.boot.handoverStep
          running := (List.range 8).map (fun d =>
            (d, if s.dieServes d then 1 - SMap.getD s.boot.running d 0 else SMap.getD s.boot.running d 0)) }
        cores := { s.cores with
          agents := (halves.filter s.halfServes).foldl (fun m h => SMap.insert m h (s.newAgent h % 36)) s.cores.agents
          states := (halves.filter s.halfServes).foldl (fun m h =>
            SMap.insert (SMap.insert m (s.agentCore h) 1) (s.newAgent h) 2) s.cores.states } }
    else s
  if s1.boot.coordinator ≠ 0xFF ∧ !(s1.dieServes s1.boot.coordinator) then
    let next := s1.coordinators.filter s1.dieServes
    { s1 with
      boot := { s1.boot with coordinator := next.headD 0xFF, deputy := (next.drop 1).headD 0xFF }
      dict := s1.unmirrored.raise s1.run.step Obj.coordinatorChangeCount 0 1 (unitField 1 (next.headD 0)) 0
      ports := { s1.ports with a := s1.ports.a.busyWrites, b := s1.ports.b.busyWrites } }
  else s1

/-- The coordinator mirrors its settings to the deputy's working area at the boundary (R489). -/
def S8.mirrorState (s : S8) : S8 :=
  { s with boot := { s.boot with mirror := { values := s.dict.settings, blobs := s.dict.blobs } } }

end Sys2Proof.Machine
end

