-- ==== Sys2Proof/Machine/Sums.lean ====
section
/-! DEFINITION. Reductions (chapter 05; R240, R247, R523): the leaves read at ReadTick, add nodes and roots, and sets carried
across steps. -/

namespace Sys2Proof.Machine

/-! ### Trees -/

/-- A tree entry of a reduction by its number within the tree (R523). -/
def Sheet.treeEntry (sh : Sheet) (r : Reduction) (node : Nat) : Option TreeEntry :=
  ((sh.treeOf r).find? (fun e => e.1 = node)).map (·.2)

/-- The entries whose Parent names a node (R247). -/
def Sheet.treeChildren (sh : Sheet) (r : Reduction) (node : Nat) : List (Nat × TreeEntry) :=
  (sh.treeOf r).filter (fun e => e.2.parent = node)

/-- The rind unit of a leaf (R247). -/
def TreeEntry.leafUnit (t : TreeEntry) : Nat := 36 * t.die + 18 * t.half + t.position

/-- The operand key of a node of a lane's reduction. -/
def operandKey (reduction lane node slot : Nat) : Nat := ((reduction * 128 + lane) * 65536 + node) * 4 + slot

/-- The partial of value zero with a clear lane status (R134 step 5). -/
def Partial.zero (width : Nat) : Partial := { cols := emptyCols width, status := 0 }

/-- The accumulator of a column of a partial. -/
def Partial.col (p : Partial) (i : Nat) : Acc := p.cols.getD i { value := 0, poison := false, saturated := false }

/-- The die at the far end of a link lane. -/
def Fabric.farDie (f : Fabric) (lane : Nat) : Nat := match SMap.find f.lanes lane with | none => 0xFF | some l => l.peerDie

/-- Does a tree entry lie on a die passed over, lost and not yet served by its degraded sheet, or does it receive from one: across a die
bridge from a lost die, or over a link from a die whose loss its module has announced? (R134 step 5, R260) -/
def S8.passedOver (s : S8) (t : TreeEntry) : Bool :=
  s.run.lostDies.contains t.die ||
    (t.kind = 5 &&
      (if t.path < 72 then s.run.announced.any (fun a => a = (t.peer, s.fab.farDie t.path)) || s.run.farLost.any (fun a => a = (t.peer, s.fab.farDie t.path))
       else ((s.run.running.bind (fun sh => sh.transfers[t.transfer]?)).map (fun x => s.run.lostDies.contains x.source.die)).getD false))

/-- The transfer record that carries a lane's partial: the one the send or receive names when its Lane is the lane's,
otherwise the record of Kind 0 of the same path and ends that carries the lane (R206, R247). -/
def Sheet.partialTransfer (sh : Sheet) (index lane : Nat) : Option Nat :=
  match sh.transfers[index]? with
  | none => none
  | some t =>
    if t.lane = lane then some index
    else sh.transfers.findIdx? (fun u => u.kind = 0 && u.lane = lane && u.path = t.path && u.bridge = t.bridge &&
      u.destModule = t.destModule && u.source = t.source && u.dest = t.dest)

/-- Send a node's partial on: into its parent's operand, or to the transfer of the send that takes it (R134, R523). -/
def Vats.passOn (v : Vats) (sh : Sheet) (r : Reduction) (lane : Nat) (t : TreeEntry) (p : Partial) : Vats :=
  match sh.treeEntry r t.parent with
  | none => v
  | some parent =>
    if parent.kind = 4 then
      match sh.partialTransfer parent.transfer lane with
      | none => v
      | some i => { v with outgoing := SMap.insert v.outgoing i p }
    else { v with operands := SMap.insert v.operands (operandKey r.number lane t.parent t.slot) p }

/-- The lanes active at a reduction's phase, ascending (R195). -/
def Run.activeLanes (r : Run) (phase : Nat) : List Nat := (List.range 96).filter (fun l => r.laneActive phase l)

/-- What a unit delivers of a set: its accumulators, with Poison when the unit met an uncorrectable word in the step
(R119, R398). A set never opened is zero. -/
def Vats.leafPartial (v : Vats) (unit : Nat) (r : Reduction) (lane : Nat) : Partial :=
  let a := v.set (setKey unit r.number lane)
  let bad := v.unitsPoisoned.contains unit
  let cols := if a.opened then a.cols else emptyCols r.width
  { cols := if bad then cols.map (fun c => { c with poison := true }) else cols
    status := orStatus a.status (if bad then statusPoison else 0) }

/-- A partial as it comes off the mesh (R241): four containers to a flit, and a flit with an uncorrectable word poisons its containers
and the lane status. -/
def Partial.cross (p : Partial) (e : MeshErr) : Partial :=
  if e.flits = [] then p
  else
    { cols := p.cols.zipIdx.map (fun c => if e.flits.contains (c.2 / 4) then { c.1 with poison := true } else c.1)
      status := orStatus p.status statusPoison }

/-- A partial as it comes off a die bridge (R241, R244, R248): six columns to a flit. -/
def Partial.crossBridge (p : Partial) (e : MeshErr) : Partial :=
  if e.flits = [] then p
  else
    { cols := p.cols.zipIdx.map (fun c => if e.flits.contains (c.2 / 6) then { c.1 with poison := true } else c.1)
      status := orStatus p.status statusPoison }

/-- What the mesh does to a leaf's partial of a lane. -/
def meshAt (mesh : List (RindUnit × Lane × MeshErr)) (unit lane : Nat) : MeshErr :=
  ((mesh.find? (fun e => unitKey e.1 = unit && e.2.1.val = lane)).map (fun e => e.2.2)).getD { corrected := 0, flits := [] }

/-- Read one leaf for every active lane (R134 step 2). -/
def Vats.readLeaf (v : Vats) (sh : Sheet) (r : Reduction) (lanes : List Nat) (mesh : List (RindUnit × Lane × MeshErr))
    (t : TreeEntry) : Vats :=
  lanes.foldl (fun a lane => a.passOn sh r lane t ((v.leafPartial t.leafUnit r lane).cross (meshAt mesh t.leafUnit lane))) v

/-- The fabric reads a reduction's leaf sets at ReadTick (R134). A reduction whose Carry is 1 is saved instead (R138). -/
def S8.readLeaves (s : S8) (reduction tick : Nat) (mesh : List (RindUnit × Lane × MeshErr)) : S8 :=
  match s.run.running with
  | none => s
  | some sh =>
    match sh.reduction reduction with
    | none => s
    | some r =>
      if r.carry then s
      else
        let leaves := ((sh.treeOf r).map (·.2)).filter (fun t => t.kind = 1 && !(s.passedOver t))
        let met := (leaves.flatMap (fun t => (s.run.activeLanes r.phase).map (fun lane => meshAt mesh t.leafUnit lane)))
        let read := leaves.foldl (fun a t => a.readLeaf sh r (s.run.activeLanes r.phase) mesh t) s.vats
        S8.meshWords { s with
          vats := { read with readsServed := insertNat reduction read.readsServed }
          run := leaves.foldl (fun a t => a.worked (2 * t.die + t.half) tick) s.run }
          (met.foldl (fun a e => a + e.corrected) 0) (met.foldl (fun a e => a + e.flits.length) 0) 0

/-- REDUCTION_READ (R134, R137, R241). -/
def execReductionRead (reduction : BitVec 12) (tick : Nat) (mesh : List (RindUnit × Lane × MeshErr)) (s : State) :
    Host.Outcome State Fault Refusal :=
  act (.reductionRead reduction tick mesh) s (fun c => (c.readLeaves reduction.toNat tick mesh).judge)

/-! ### Add nodes and roots (R134, R240) -/

/-- Add two partials column by column (R54, R130). -/
def Partial.add (x y : Partial) : Partial :=
  { cols := List.zipWith Acc.add x.cols y.cols, status := orStatus x.status y.status }

/-- Columns whose addition saturates (R54). -/
def Partial.saturations (x y : Partial) : Nat := ((x.cols.zip y.cols).filter (fun e => e.1.saturates e.2)).length

/-- Add operands in order, counting saturations. -/
def sumPartials (width : Nat) (ops : List Partial) : Partial × Nat :=
  match ops with
  | [] => (Partial.zero width, 0)
  | first :: rest =>
    rest.foldl (fun (a : Partial × Nat) p => (a.1.add p, a.2 + a.1.saturations p)) (first, 0)

/-- The operand a child has delivered: a partial of value zero for one that is passed over (R134 step 5). -/
def S8.operand (s : S8) (r : Reduction) (lane node : Nat) (child : Nat × TreeEntry) : Option Partial :=
  if s.passedOver child.2 then some (Partial.zero r.width)
  else SMap.find s.vats.operands (operandKey r.number lane node child.2.slot)

/-- All operands of a node, none while one has not arrived. -/
def S8.operandsOf (s : S8) (sh : Sheet) (r : Reduction) (lane node : Nat) : Option (List Partial) :=
  (sh.treeChildren r node).foldr (fun c acc => match s.operand r lane node c, acc with
    | some p, some rest => some (p :: rest)
    | _, _ => none) (some [])

/-- The rows a lane's result takes at Output: 32 containers a row and one row of status (R134 step 4). -/
def resultRows (width : Nat) : Nat := ceilDiv width 32 + 1

/-- A row of a core's scratchpad by number, counted round the 1,024 rows. -/
def rowAddr (core : CoreRef) (row : Nat) : Nat := scratchRow core.key (row % 1024)

/-- Write consecutive rows of a scratchpad. -/
def Mem.writeRows (m : Mem) (core : CoreRef) (row : Nat) (b : Bytes) : Mem :=
  (List.range (ceilDiv b.length 512)).foldl (fun a i => a.write (rowAddr core (row + i)) (bytesAt b (512 * i) 512)) m

/-- Read consecutive rows of a scratchpad. -/
def Mem.readRows (m : Mem) (core : CoreRef) (row n : Nat) : Bytes :=
  (List.range n).flatMap (fun i => m.read (rowAddr core (row + i)) 512)

/-- The bytes the root delivers (R134 step 4): containers 32 to a row, columns at and beyond Width zero, then the status
row; with Poison in the status every container is poisoned. -/
def Partial.rows (p : Partial) (width : Nat) : Bytes :=
  let bad := field p.status 4 1 = 1
  (List.range (32 * ceilDiv width 32)).flatMap (fun i =>
    let c : Acc := if i < width then p.col i else { value := 0, poison := false, saturated := false }
    ({ c with poison := c.poison || bad }).toBytes) ++ padTo 512 (leBytes 2 p.status)

/-- A lane's Clamped when an addition saturated (R54). -/
def Partial.mark (p : Partial) (saturations : Nat) : Partial :=
  if saturations = 0 then p else { p with status := orStatus p.status statusClamped }

/-- An add node or the root acts when all its operands are present, and its sum crosses the mesh (R134, R240, R241). -/
def S8.addNode (s : S8) (reduction lane node tick : Nat) (mesh : MeshErr) : S8 :=
  match s.run.running with
  | none => s
  | some sh =>
    match sh.reduction reduction with
    | none => s
    | some r =>
      match sh.treeEntry r node with
      | none => s
      | some t =>
        if (t.kind ≠ 2 ∧ t.kind ≠ 3) ∨ s.passedOver t ∨ !(s.run.laneActive r.phase lane) then s
        else
          match s.operandsOf sh r lane node with
          | none => s
          | some ops =>
            let sum := sumPartials r.width ops
            let p := (sum.1.mark sum.2).cross mesh
            let used := (sh.treeChildren r node).map (fun c => operandKey r.number lane node c.2.slot)
            let vats := { s.vats with operands := SMap.keep (fun k _ => !(used.contains k)) s.vats.operands }
            let root := t.kind = 3
            S8.meshWords { s with
              vats := if root then { vats with delivered := insertNat (reduction * 128 + lane) vats.delivered }
                else vats.passOn sh r lane t p
              mem := if root then s.mem.writeRows r.outCore (r.outRow + resultRows r.width * lane) (p.rows r.width) else s.mem
              run := s.run.worked (2 * t.die + t.half) tick
              dict := s.dict.raise s.run.step Obj.accSatCount 0 sum.2 (unitField 1 t.die) reduction }
              mesh.corrected mesh.flits.length (unitField 1 t.die)

/-- ADD_NODE (R54, R56, R134, R240, R241). -/
def execAddNode (reduction : BitVec 12) (lane : Lane) (node tick : Nat) (mesh : MeshErr) (s : State) :
    Host.Outcome State Fault Refusal :=
  act (.addNode reduction lane node tick mesh) s (fun c => (c.addNode reduction.toNat lane.val node tick mesh).judge)

/-! ### Carried sets (R137 to R139) -/

/-- The place of a lane's save rows: 65 rows a lane and leaf, in the working area of the leaf unit's own half (R137), leaf
by leaf and lane by lane from SaveArea's place in a working area. -/
def Sheet.saveAddr (sh : Sheet) (r : Reduction) (unit lane : Nat) : Nat :=
  let leaves := ((sh.treeOf r).map (·.2)).filter (fun t => t.kind = 1)
  let i := (leaves.findIdx? (fun t => t.leafUnit = unit)).getD 0
  workBase (unitHalf unit) + (r.saveArea + 65 * 512 * (96 * i + lane)) % 2 ^ 30

/-- The bytes of a saved set (R137): 64 rows of containers and the status row. -/
def Partial.saveBytes (p : Partial) (width : Nat) : Bytes :=
  padTo (64 * 512) ((List.range width).flatMap (fun i => (p.col i).toBytes)) ++ padTo 512 (leBytes 2 p.status)

/-- Save a carried set of a lane active at the reduction's phase (R137 to R139). -/
def S8.saveSet (s : S8) (unit reduction lane : Nat) : S8 :=
  match s.run.running.bind (fun sh => (sh.reduction reduction).map (fun r => (sh, r))) with
  | none => s
  | some (sh, r) =>
    if r.carry ∧ s.run.laneActive r.phase lane then
      { s with
        mem := s.mem.write (sh.saveAddr r unit lane) ((s.vats.leafPartial unit r lane).saveBytes r.width)
        vats := { s.vats with savedNow := insertNat (setKey unit reduction lane) s.vats.savedNow }
        dict := s.dict.tally (dieObj Obj.carrySaveCount (unit / 36)) 1 }
    else s

/-- CARRY_SAVE (R137, R138, R139). -/
def execCarrySave (unit : RindUnit) (reduction : BitVec 12) (lane : Lane) (s : State) : Host.Outcome State Fault Refusal :=
  act (.carrySave unit reduction lane) s (fun c => (c.saveSet (unitKey unit) reduction.toNat lane.val).judge)

/-- Has a reduction pours in this step: an instruction of the sheet or one written in service names it? (R138) -/
def S8.hasPours (s : S8) (sh : Sheet) (reduction : Nat) : Bool :=
  sh.bindings.any (fun b => (sh.bindingInstrs b).any (fun p => p.reduction = reduction)) ||
    s.vats.posted.any (fun e => e.2.reduction = reduction) || s.vats.granted.any (fun e => e.2.reduction = reduction)

/-- Restore a set that an earlier step saved, in a step in which its lane is active and the reduction has pours (R138, R139): opened with
the saved values and status; an uncorrectable word poisons every container and the status. -/
def S8.restoreSet (s : S8) (unit reduction lane : Nat) (upset : Upsets) : S8 :=
  let key := setKey unit reduction lane
  match s.run.running.bind (fun sh => (sh.reduction reduction).map (fun r => (sh, r))) with
  | none => s
  | some (sh, r) =>
    if s.vats.carried.contains key ∧ s.run.laneActive r.phase lane ∧ s.hasPours sh reduction then
      let a := sh.saveAddr r unit lane
      let bad := badIn s.mem upset a (65 * 512) ≠ []
      let cols : List Acc := (List.range r.width).map (fun i =>
        let c := Acc.ofBytes (s.mem.read (a + 16 * i) 16)
        if bad then { c with poison := true } else c)
      let status := orStatus (s.mem.le (a + 64 * 512) 2) (if bad then statusPoison else 0)
      let s1 := s.meetWords a (65 * 512) upset
      { s1 with
        vats := { s1.vats with
          carried := eraseNat key s1.vats.carried
          sets := SMap.insert s1.vats.sets key { opened := true, restored := true, cols := cols, status := status } }
        dict := s1.dict.tally (dieObj Obj.carryRestoreCount (unit / 36)) 1 }
    else s

/-- CARRY_RESTORE (R138, R139). -/
def execCarryRestore (unit : RindUnit) (reduction : BitVec 12) (lane : Lane) (upset : Upsets) (s : State) :
    Host.Outcome State Fault Refusal :=
  act (.carryRestore unit reduction lane upset) s (fun c => c.restoreSet (unitKey unit) reduction.toNat lane.val upset)

end Sys2Proof.Machine
end

