-- ==== Sys2Proof/Machine/Cores.lean ====
section
/-! DEFINITION. The S8 extension instructions of the host-class cores and row transfers (R218 to R225), and the move of a
logical core (R232, R233). A core is named by its logical number. -/

namespace Sys2Proof.Machine

/-! ### Registers -/

/-- Integer register r of a core; x0 reads as zero (R216). -/
def Cores.xreg (c : Cores) (core r : Nat) : Nat := if r = 0 then 0 else (SMap.getD c.x (32 * core + r) 0).toNat

/-- Write integer register r of a core; a write of x0 is discarded (R216). -/
def Cores.setX (c : Cores) (core r v : Nat) : Cores :=
  if r = 0 then c else { c with x := SMap.put 0 c.x (32 * core + r) (BitVec.ofNat 64 v) }

/-- Vector register r of a core: 128 bytes (R216). -/
def Cores.vreg (c : Cores) (core r : Nat) : Bytes := SMap.getD c.v (32 * core + r) (zeros 128)

/-- Write vector register r of a core; bytes not given are zero (R219). -/
def Cores.setV (c : Cores) (core r : Nat) (b : Bytes) : Cores :=
  { c with v := SMap.put (zeros 128) c.v (32 * core + r) (padTo 128 b) }

/-- Does a core execute: its number is backed, its die in service, and no stall holds it? (R219, R222) -/
def S8.coreRuns (s : S8) (core : Nat) : Bool :=
  s.dieServes (core / 72) && !(s.cores.unbacked.contains core) && (SMap.find s.cores.waiting core).isNone &&
    (SMap.find s.cores.tagStalls core).isNone && (SMap.find s.cores.xferStalls core).isNone

/-- Perform an extension instruction on a core that executes. -/
def S8.onCore (s : S8) (core : Core) (f : S8 → S8) : S8 := if s.coreRuns (coreKey core) then f s else s

/-- Take an exception: mcause and mtval hold the cause and the trap value (R216). -/
def Cores.takeTrap (c : Cores) (core cause value : Nat) : Cores :=
  { c with
    traps := SMap.insert c.traps core (cause, value)
    csr := SMap.put 0 (SMap.put 0 c.csr (4096 * core + 0x342) cause) (4096 * core + 0x343) value }

/-- An illegal extension instruction (R220): the illegal-instruction exception and the count, nothing else. -/
def S8.illegal (s : S8) (core word : Nat) : S8 :=
  { s with
    cores := s.cores.takeTrap core 2 word
    dict := s.dict.raise s.run.step Obj.illegalCustomCount 0 1 (unitField 3 core) word }

/-- The word of an extension instruction (R218). -/
def extWord (opcode funct3 funct7 rd rs1 rs2 : Nat) : Nat :=
  funct7 * 2 ^ 25 + rs2 * 2 ^ 20 + rs1 * 2 ^ 15 + funct3 * 2 ^ 12 + rd * 2 ^ 7 + opcode

/-! ### Row transfers (R222) -/

/-- The reach of a core's row transfer engine. -/
def xferReach (core : Nat) (machine : Bool) : Reach :=
  { half := core / 36, unit := core % 36, machine := machine, row := false, engine := true, attention := false }

/-- Are both addresses aligned and every row permitted? (R222) -/
def S8.xferPermitted (s : S8) (core : Nat) (t : RowTransfer) : Bool :=
  t.source % 512 = 0 && t.dest % 512 = 0 &&
    (List.range t.rows).all (fun i =>
      s.permits (xferReach core t.machineMode) false (t.source + 512 * i) 512 &&
        s.permits (xferReach core t.machineMode) true (t.dest + 512 * i) 512)

/-- The tags of a core that are free. -/
def Cores.freeTags (c : Cores) (core : Nat) : List Nat :=
  (List.range 16).filter (fun t => (SMap.find c.transfers (16 * core + t)).isNone)

/-- The first address of a transfer that is refused. -/
def S8.xferFaultAddress (s : S8) (core : Nat) (t : RowTransfer) : Nat :=
  if t.source % 512 ≠ 0 then t.source
  else if t.dest % 512 ≠ 0 then t.dest
  else
    ((List.range t.rows).findSome? (fun i =>
      if !(s.permits (xferReach core t.machineMode) false (t.source + 512 * i) 512) then some (t.source + 512 * i)
      else if !(s.permits (xferReach core t.machineMode) true (t.dest + 512 * i) 512) then some (t.dest + 512 * i)
      else none)).getD t.source

/-- A tag has become free: an xfer.row that waited for one goes on (R222). -/
def Cores.tagFreed (c : Cores) (core : Nat) (tag : Nat) : Cores :=
  match SMap.find c.tagStalls core with
  | none => c
  | some (rd, t) =>
    { (c.setX core rd tag) with
      tagStalls := SMap.erase c.tagStalls core
      transfers := SMap.insert c.transfers (16 * core + tag) t }

/-- End a transfer with a status (R222): XferFaultCount counts 1 and 2, and a core that waits for it goes on, which frees
the tag. -/
def S8.xferEnd (s : S8) (core tag status : Nat) (t : RowTransfer) : S8 :=
  let key := 16 * core + tag
  let dict := s.dict.raise s.run.step Obj.xferFaultCount 0 (if status = 0 then 0 else 1) (unitField 3 core) status
  match SMap.find s.cores.xferStalls core with
  | some (rd, waited) =>
    if waited = tag then
      { s with
        dict := dict
        cores := Cores.tagFreed { (s.cores.setX core rd status) with
          transfers := SMap.erase s.cores.transfers key
          xferStalls := SMap.erase s.cores.xferStalls core } core tag }
    else { s with dict := dict, cores := { s.cores with transfers := SMap.insert s.cores.transfers key { t with status := some status } } }
  | none =>
    { s with dict := dict, cores := { s.cores with transfers := SMap.insert s.cores.transfers key { t with status := some status } } }

/-- xfer.row on a free tag (R219, R222). -/
def S8.xferStart (s : S8) (core rd : Nat) (t : RowTransfer) : S8 :=
  let tags := s.cores.freeTags core
  if tags = [] then { s with cores := { s.cores with tagStalls := SMap.insert s.cores.tagStalls core (rd, t) } }
  else
    let tag := s.pick tags
    let s1 := s.picked
    let s2 := { s1 with cores := { (s1.cores.setX core rd tag) with
      transfers := SMap.insert s1.cores.transfers (16 * core + tag) t } }
    if s.xferPermitted core t then s2
    else (s2.addressFault true (s.xferFaultAddress core t) 512).xferEnd core tag 1 t

/-- XFER_ROW (R219, R222). -/
def execXferRow (core : Core) (machineMode : Bool) (rd rs1 rs2 : Fin 32) (s : State) : Host.Outcome State Fault Refusal :=
  act (.xferRow core machineMode rd rs1 rs2) s (fun c => c.onCore core (fun d =>
    let a := d.cores.xreg (coreKey core) rs1.val
    let b := d.cores.xreg (coreKey core) rs2.val
    d.xferStart (coreKey core) rd.val
      { source := a, dest := field b 0 48, rows := field b 48 10 + 1, status := none, machineMode := machineMode }))

/-- XFER_WAIT (R219, R222): the status of a transfer that has ended, which frees its tag; a stall while it runs; 3 for an
unknown tag. -/
def execXferWait (core : Core) (rd rs1 : Fin 32) (s : State) : Host.Outcome State Fault Refusal :=
  act (.xferWait core rd rs1) s (fun c => c.onCore core (fun d =>
    let k := coreKey core
    let tag := d.cores.xreg k rs1.val
    match (if tag < 16 then SMap.find d.cores.transfers (16 * k + tag) else none) with
    | none => { d with cores := d.cores.setX k rd.val 3 }
    | some t =>
      match t.status with
      | some status =>
        { d with cores := Cores.tagFreed { (d.cores.setX k rd.val status) with
          transfers := SMap.erase d.cores.transfers (16 * k + tag) } k tag }
      | none => { d with cores := { d.cores with xferStalls := SMap.insert d.cores.xferStalls k (rd.val, tag) } }))

/-- Copy rows in ascending order until a row meets a word that does not decode (R222, R231): the rows not copied. -/
def S8.copyRows (s : S8) (source dest rows : Nat) (upset : Upsets) : S8 × Bool :=
  match rows with
  | 0 => (s, true)
  | n + 1 =>
    let bad := badIn s.mem upset source 512
    let s1 := (s.meetWords source 512 upset).probeRead source 512
    if bad ≠ [] then (s1, false)
    else S8.copyRows (s1.storeBytes dest (s1.readBytes source 512)) (source + 512) (dest + 512) n upset

/-- The rows of a transfer that come over the mesh whole, eight flits to a row: those before the first flit with an uncorrectable
word (R241). -/
def meshRows (e : MeshErr) (rows : Nat) : Nat := e.flits.foldl (fun n f => min n (f / 8)) rows

/-- XFER_COMPLETE (R222, R231, R241): a running transfer copies its rows and ends. -/
def execXferComplete (core : Core) (tag : Fin 16) (upset : Upsets) (mesh : MeshErr) (s : State) :
    Host.Outcome State Fault Refusal :=
  act (.xferComplete core tag upset mesh) s (fun c =>
    let k := coreKey core
    match SMap.find c.cores.transfers (16 * k + tag.val) with
    | none => c
    | some t =>
      if t.status.isSome then c
      else if c.xferPermitted k t then
        let whole := meshRows mesh t.rows
        let r := (c.meshWords mesh.corrected mesh.flits.length (unitField 3 k)).copyRows t.source t.dest whole upset
        r.1.xferEnd k tag.val (if r.2 && whole = t.rows then 0 else 2) t
      else (c.addressFault true (c.xferFaultAddress k t) 512).xferEnd k tag.val 1 t)

/-! ### Pour and accumulator access (R223, R224) -/

/-- Has the fetch window of a slot of this step begun by a tick? (R68, R223) -/
def S8.windowBegun (s : S8) (vat slot tick : Nat) : Bool :=
  s.vats.windows.contains (slotKey vat slot) || s.vats.slotsDone.contains (slotKey vat slot) ||
    (match s.run.running with
     | none => false
     | some sh =>
       match sh.bindingOf vat with
       | none => false
       | some b => sh.slotStart b slot < tick + 192)

/-- POUR_POST (R219, R223): the entry takes effect in the first step whose fetch window for its slot has not begun. -/
def execPourPost (core : Core) (rd rs1 rs2 : Fin 32) (tick : Nat) (s : State) : Host.Outcome State Fault Refusal :=
  act (.pourPost core rd rs1 rs2 tick) s (fun c => c.onCore core (fun d =>
    let k := coreKey core
    let p := PourInstr.ofWord (d.cores.xreg k rs1.val + 2 ^ 64 * d.cores.xreg k rs2.val)
    let vat := p.target core.die.val
    let answer (v : Vats) (status : Nat) : S8 := { d with vats := v, cores := d.cores.setX k rd.val status }
    if p.malformedForm d.run.running core.die.val 2 (d.kindAfter vat p.slot) p.slot false || vatHalf vat ≠ coreHalfKey core ||
        d.vats.unbacked.contains vat || !(d.statePermits (d.vats.physical vat) p) then answer d.vats 2
    else if d.kindOfSlot vat p.slot ≠ 2 then answer d.vats 3
    else if d.windowBegun vat p.slot tick && d.vats.ahead.contains (slotKey vat p.slot) then
      answer { d.vats with postedLater := SMap.insert d.vats.postedLater (slotKey vat p.slot) p } 1
    else if d.windowBegun vat p.slot tick then
      answer { d.vats with postedNext := SMap.insert d.vats.postedNext (slotKey vat p.slot) p } 1
    else answer { d.vats with posted := SMap.insert d.vats.posted (slotKey vat p.slot) p } 0))

/-- The vats of expert e of a group, with their first Capacity[e] lane slots (R198). -/
def Sheet.expertSlots (sh : Sheet) (g : ExpertGroup) (e : Nat) : List (Nat × List Nat) :=
  (sh.bindings.filter (fun b => b.expert && (sh.bindingInstrs b).any (fun p => p.reduction = g.firstReduction + e))).map
    (fun b => (2592 * b.die + 2304 * b.kind + b.num,
      ((sh.bindingInstrs b).map (·.slot)).take (g.capacity.getD e 0)))

/-- Put a lane and its row into an expert slot of every vat of an expert (R198, R223). -/
def Vats.patch (v : Vats) (sh : Sheet) (g : ExpertGroup) (e slot lane row : Nat) : Vats :=
  { v with patched := (sh.expertSlots g e).foldl (fun m x =>
      if x.2.contains slot then SMap.insert m (slotKey x.1 slot) (lane, row) else m) v.patched }

/-- Would a patched slot's instruction be malformed: the lane, or the row for the vat? (R79, R223) -/
def Sheet.patchMalformed (sh : Sheet) (g : ExpertGroup) (e slot lane row : Nat) : Bool :=
  95 < lane || (sh.expertSlots g e).any (fun x => x.2.contains slot && 1024 < row + (if isCulture x.1 then 3 else 5))

/-- POUR_PATCH (R198, R219, R223): 0 in rd where the slot is patched, 1 where it is not. -/
def execPourPatch (core : Core) (rd rs1 rs2 : Fin 32) (tick : Nat) (s : State) : Host.Outcome State Fault Refusal :=
  act (.pourPatch core rd rs1 rs2 tick) s (fun c => c.onCore core (fun d =>
    let k := coreKey core
    let a := d.cores.xreg k rs1.val
    let b := d.cores.xreg k rs2.val
    let e := field a 0 8
    let slot := field a 8 7
    let lane := field b 0 7
    let row := field b 16 10
    let group := d.run.running.bind (fun sh =>
      (sh.groups.find? (fun g => g.core.key = k && tick < g.deadline && e < g.experts &&
        (sh.expertSlots g e).any (fun x => x.2.contains slot) && !(sh.patchMalformed g e slot lane row))).map (fun g => (sh, g)))
    match group with
    | none => { d with cores := d.cores.setX k rd.val 1 }
    | some (sh, g) => { d with vats := d.vats.patch sh g e slot lane row, cores := d.cores.setX k rd.val 0 }))

/-- The set an acc.rd or acc.wr names, by its key (R224); none for a rind unit beyond 35 or a lane beyond 95. -/
def Cores.accSetKey (c : Cores) (core : Core) (rs1 : Nat) : Option Nat :=
  let a := c.xreg (coreKey core) rs1
  if field a 19 6 ≤ 35 ∧ field a 12 7 ≤ 95 then
    some (setKey (36 * core.die.val + field a 19 6) (field a 0 12) (field a 12 7))
  else none

/-- The addresses of the 65 rows an acc.rd or acc.wr names in the core's own scratchpad (R224), row numbers modulo 1,024. -/
def Cores.accRows (c : Cores) (core : Core) (rs2 : Nat) : List Nat :=
  (List.range 65).map (fun i => scratchRow (coreKey core) ((c.xreg (coreKey core) rs2 + i) % 1024))

/-- An accumulator set in the layout of R137: 64 rows of containers, then the lane status. -/
def AccSet.rows (a : AccSet) : Bytes :=
  if a.opened then padTo (64 * 512) (a.cols.flatMap (fun x => x.toBytes)) ++ padTo 512 (leBytes 2 a.status)
  else zeros (65 * 512)

/-- A set opened with the values of 65 rows (R137, R138). -/
def AccSet.ofRows (rows : List Bytes) (width : Nat) : AccSet :=
  { opened := true
    restored := true
    cols := (List.range width).map (fun i => Acc.ofBytes (bytesAt (rows.getD (i / 32) []) (16 * (i % 32)) 16))
    status := leAt (rows.getD 64 []) 0 2 }

/-- A set read from rows of which one holds a word that does not decode carries Poison (R231, R398). -/
def AccSet.poisonedIf (a : AccSet) (bad : Bool) : AccSet :=
  if bad then { a with cols := a.cols.map (fun c => { c with poison := true }), status := orStatus a.status statusPoison } else a

/-- Write rows at a list of row addresses. -/
def Mem.writeEach (m : Mem) (addrs : List Nat) (b : Bytes) : Mem :=
  addrs.zipIdx.foldl (fun a e => a.write e.1 (bytesAt b (512 * e.2) 512)) m

/-- ACC_RD (R137, R219, R224): the set as it stands, zeros where it is not open. -/
def execAccRd (core : Core) (rs1 rs2 : Fin 32) (s : State) : Host.Outcome State Fault Refusal :=
  act (.accRd core rs1 rs2) s (fun c => c.onCore core (fun d =>
    let bytes := match d.cores.accSetKey core rs1.val with
      | none => zeros (65 * 512)
      | some key => (d.vats.set key).rows
    { d with mem := d.mem.writeEach (d.cores.accRows core rs2.val) bytes }))

/-- ACC_WR (R137, R219, R224): the set opens with the values written; refused with 1 in rd when it is open already. Rows known bad are
counted and poison the set (R231). -/
def execAccWr (core : Core) (rd rs1 rs2 : Fin 32) (s : State) : Host.Outcome State Fault Refusal :=
  act (.accWr core rd rs1 rs2) s (fun c => c.onCore core (fun d =>
    let k := coreKey core
    let addrs := d.cores.accRows core rs2.val
    let rows := addrs.map (fun a => d.mem.read a 512)
    let bad := addrs.any (fun a => badIn d.mem [] a 512 ≠ [])
    let e := addrs.foldl (fun (e : S8) a => e.meetWords a 512 []) d
    let width := ((d.run.running.bind (fun sh => sh.reduction (field (d.cores.xreg k rs1.val) 0 12))).map (·.width)).getD 2048
    match d.cores.accSetKey core rs1.val with
    | none => { d with cores := d.cores.setX k rd.val 1 }
    | some key =>
      if (d.vats.set key).opened then { d with cores := d.cores.setX k rd.val 1 }
      else
        { e with
          cores := e.cores.setX k rd.val 0
          vats := { e.vats with sets := SMap.insert e.vats.sets key ((AccSet.ofRows rows width).poisonedIf bad) } }))

/-! ### Tasks and steps (R182, R225) -/

/-- A core's registers are not retained from one task to the next: each holds a free value (R230). -/
def Cores.forget (c : Cores) (core free : Nat) : Cores :=
  { c with
    x := (List.range 31).foldl (fun m i => SMap.put 0 m (32 * core + i + 1) (BitVec.ofNat 64 (Config.freeValue (free + i)))) c.x
    f := (List.range 32).foldl (fun m i => SMap.put 0 m (32 * core + i) (BitVec.ofNat 64 (Config.freeValue (free + 31 + i)))) c.f
    v := (List.range 32).foldl (fun m i =>
      SMap.put (zeros 128) m (32 * core + i) (leBytes 128 (Config.freeValue (free + 63 + i)))) c.v }

/-- The registers of a core after its task (R230). -/
def S8.forgetRegisters (s : S8) (core : Nat) : S8 :=
  { s with cores := s.cores.forget core s.free, free := s.free + 95 }

/-- TASK_END (R182, R219, R225, R230): the task whose record index is in x[rs1] has ended; the core's registers are not retained. -/
def execTaskEnd (core : Core) (rs1 : Fin 32) (tick : Nat) (s : State) : Host.Outcome State Fault Refusal :=
  act (.taskEnd core rs1 tick) s (fun c => c.onCore core (fun d =>
    let k := coreKey core
    let index := d.cores.xreg k rs1.val
    match d.run.running.bind (fun sh => sh.tasks[index]?) with
    | none => d
    | some t =>
      if t.core.key = k ∧ !(d.run.tasksEnded.contains index) then
        S8.judge (S8.forgetRegisters { d with
          run := { (d.run.worked (coreHalfKey core) tick) with
            tasksEnded := insertNat index d.run.tasksEnded
            atomicUntil := SMap.erase d.run.atomicUntil index }
          cores := { d.cores with taskStatus := SMap.erase d.cores.taskStatus k } } k)
      else d))

/-- STEP_WAIT (R219): the core stalls until the next boundary. -/
def execStepWait (core : Core) (rd : Fin 32) (s : State) : Host.Outcome State Fault Refusal :=
  act (.stepWait core rd) s (fun c => c.onCore core (fun d =>
    { d with cores := { d.cores with waiting := SMap.insert d.cores.waiting (coreKey core) rd.val } }))

/-- At a boundary every core in step.wait goes on with the new step number in rd (R219, R230). -/
def Cores.wake (c : Cores) (step : Nat) : Cores :=
  { (c.waiting.foldl (fun a e => a.setX e.1 e.2 step) c) with waiting := [] }

/-! ### Encoding and rounding (R219, R38, R57, R45) -/

/-- Raise the counters a conversion advances (R58). -/
def Dict.countTally (d : Dict) (step unit : Nat) (t : Tally) : Dict :=
  (((d.raise step Obj.clampCount 0 t.clamps unit 0).raise step Obj.zeroedBlockCount 0 t.zeroed unit 0).raise step
    Obj.poisonBlockCount 0 t.poison unit 0).raise step Obj.saturatedCodeCount 0 t.reserved unit 0

/-- The lane-status bits a conversion sets (R129). -/
def Tally.status (t : Tally) : Nat :=
  (if t.clamps ≠ 0 then statusClamped else 0) + (if t.poison ≠ 0 then statusPoison else 0)

/-- The flags byte of an encoded block: clamped, zeroed, poison (R219). -/
def Tally.flags (t : Tally) : Nat :=
  (if t.clamps ≠ 0 then 1 else 0) + (if t.zeroed ≠ 0 then 2 else 0) + (if t.poison ≠ 0 then 4 else 0)

/-- The result of an encoding in a vector register: codes, scale, flags (R219). -/
def encodedBytes (b : Block) (t : Tally) : Bytes :=
  b.codes.map (fun c => BitVec.ofInt 8 c) ++ leBytes 1 b.scale ++ leBytes 1 t.flags

/-- Set bits in a core's task status (R129, R219). -/
def Cores.orTask (c : Cores) (core bits : Nat) : Cores :=
  { c with taskStatus := SMap.put 0 c.taskStatus core (orStatus (SMap.getD c.taskStatus core 0) bits) }

/-- Write an encoding's result, its counters and its task status. -/
def S8.encoded (s : S8) (core vd : Nat) (r : Block × Tally) : S8 :=
  { s with
    cores := (s.cores.setV core vd (encodedBytes r.1 r.2)).orTask core r.2.status
    dict := s.dict.countTally s.run.step (unitField 3 core) r.2 }

/-- The exact value of a binary32 datum, none where it is not finite (R38). -/
def exact32 (w : Nat) : Exact := let x := binary32.decode w; if x.nonFinite then none else some x.toDyadic

/-- The 32 accumulators of the register group vs1 to vs1 + 3 (R52, R219). -/
def Cores.accGroup (c : Cores) (core vs1 : Nat) : List Acc :=
  (List.range 32).map (fun i => Acc.ofBytes (bytesAt (c.vreg core (vs1 + i / 8)) (16 * (i % 8)) 16))

/-- VENC_N8 (R38, R219). -/
def execVencN8 (core : Core) (vd vs1 : Fin 32) (s : State) : Host.Outcome State Fault Refusal :=
  act (.vencN8 core vd vs1) s (fun c => c.onCore core (fun d =>
    let v := d.cores.vreg (coreKey core) vs1.val
    d.encoded (coreKey core) vd.val (encodeN8 ((List.range 32).map (fun i => exact32 (leAt v (4 * i) 4))))))

/-- VRND_N8 (R38, R57, R219, R220). -/
def execVrndN8 (core : Core) (vd vs1 : Fin 32) (s : State) : Host.Outcome State Fault Refusal :=
  act (.vrndN8 core vd vs1) s (fun c => c.onCore core (fun d =>
    if vs1.val % 4 ≠ 0 then d.illegal (coreKey core) (extWord 0x2B 0 1 vd.val vs1.val 0)
    else d.encoded (coreKey core) vd.val (encodeN8 ((d.cores.accGroup (coreKey core) vs1.val).map Acc.exact))))

/-- VRND_W16 (R57, R219, R220). -/
def execVrndW16 (core : Core) (vd vs1 : Fin 32) (s : State) : Host.Outcome State Fault Refusal :=
  act (.vrndW16 core vd vs1) s (fun c => c.onCore core (fun d =>
    let k := coreKey core
    if vs1.val % 4 ≠ 0 then d.illegal k (extWord 0x2B 0 2 vd.val vs1.val 0)
    else
      let accs := d.cores.accGroup k vs1.val
      let poison := accs.any (·.poison)
      let bytes := accs.flatMap (fun a => leBytes 2 a.roundW16) ++ leBytes 1 (if poison then 1 else 0)
      { d with cores := (d.cores.setV k vd.val bytes).orTask k (if poison then statusPoison else 0) }))

/-- VALIGN (R37, R45 step 4, R48, R219). -/
def execValign (core : Core) (vd vs1 rs2 : Fin 32) (s : State) : Host.Outcome State Fault Refusal :=
  act (.valign core vd vs1 rs2) s (fun c => c.onCore core (fun d =>
    let k := coreKey core
    let v := d.cores.vreg k vs1.val
    let x := d.cores.xreg k rs2.val
    let b := Block.ofBytes (byteAt v 32) (bytesAt v 0 32)
    let aligned := (List.range 32).map (fun i =>
      if field x (8 + i) 1 = 1 then ((0 : Int), false) else alignCode (field x 0 8) b.scale (b.codes.getD i 0))
    let clamps := (aligned.filter (·.2)).length
    { d with
      cores := d.cores.setV k vd.val
        (aligned.map (fun e => BitVec.ofInt 8 e.1) ++ leBytes 1 (zCounter (aligned.map (·.1))) ++ leBytes 1 clamps)
      dict := d.dict.countTally d.run.step (unitField 3 k)
        { clamps := clamps, reserved := reservedCodes (byteAt v 32).toNat (bytesAt v 0 32) } }))

/-- Is a word an extension instruction the mode may execute, by R219's table? -/
def extLegal (machine : Bool) (word : Nat) : Bool := (Sys2Proof.decodeExtension ⟨0, .w, 0⟩ machine 0 word).isSome

/-- ILLEGAL_CUSTOM (R220): the word, of opcode custom-0 or custom-1, is an encoding the table does not list, or one its mode
may not execute. -/
def execIllegalCustom (core : Core) (machineMode : Bool) (word : BitVec 32) (s : State) : Host.Outcome State Fault Refusal :=
  act (.illegalCustom core machineMode word) s (fun c => c.onCore core (fun d =>
    if (field word.toNat 0 7 = 0x0B ∨ field word.toNat 0 7 = 0x2B) ∧ !(extLegal machineMode word.toNat) then
      d.illegal (coreKey core) word.toNat
    else d))

/-! ### Moving a logical core (R232 to R234) -/

/-- CoreMoveStatus: state, reason and rows copied (R236). -/
def moveWord (state reason rows : Nat) : Nat := state * 2 ^ 28 + reason * 2 ^ 24 + rows

/-- Report a move in its die's CoreMoveStatus. -/
def Cores.report (c : Cores) (die word : Nat) : Cores := { c with moveStatus := SMap.put 0 c.moveStatus die word }

/-- The cores of a half that are healthy spares, the agent's among them (R234). -/
def S8.healthySpares (s : S8) (half : Nat) : List Nat :=
  ((List.range 36).map (fun i => 36 * half + i)).filter (fun c => s.coreState c = 1 || s.coreState c = 2)

/-- Does the running sheet hold a kind-255 task on a half? (R234) -/
def Run.firmwareTasks (r : Run) (half : Nat) : Bool :=
  match r.running with
  | none => false
  | some sh => sh.tasks.any (fun t => t.kind = 255 && t.core.halfKey = half)

/-- The agent runs on the half's highest-numbered healthy spare; with none, in the kind-255 tasks, and without those
AgentStarved is raised (R234). -/
def S8.settleAgent (s : S8) (half : Nat) : S8 :=
  let spares := s.healthySpares half
  if spares = [] then
    let starves := !(s.run.firmwareTasks half)
    { s with
      cores := { s.cores with
        agents := SMap.insert s.cores.agents half 0xFF
        starved := if starves then insertNat half s.cores.starved else eraseNat half s.cores.starved }
      dict := s.dict.raise s.run.step Obj.agentStarvedCount 0
        (if starves && !(s.cores.starved.contains half) then 1 else 0) (unitField 2 half) 0 }
  else
    let next := spares.foldl max 0
    let states := spares.foldl (fun m c => SMap.insert m c (if c = next then 2 else 1)) s.cores.states
    { s with cores := { s.cores with
      states := states
      agents := SMap.insert s.cores.agents half (next % 36)
      starved := eraseNat half s.cores.starved } }

/-- Why a move is refused (R233, R236): 0 when it is not. -/
def S8.moveRefusal (s : S8) (half logical spare : Nat) : Nat :=
  if !(s.dieServes (half / 2)) then 4
  else if 31 < logical ∨ spare < 32 ∨ 35 < spare then 2
  else if (SMap.find s.cores.moves half).isSome then 3
  else if !((s.healthySpares half).contains (s.cores.physical (36 * half + spare))) ∨
      s.cores.unbacked.contains (36 * half + spare) then 1
  else 0

/-- Begin a move of a logical core to the core that backs a spare number (R232); `after` is the CoreState its source is to
take. Mirroring begins at the next boundary. -/
def S8.startMove (s : S8) (half logical spare after : Nat) : S8 :=
  let r := s.moveRefusal half logical spare
  if r ≠ 0 then { s with cores := s.cores.report (half / 2) (moveWord 5 r 0) }
  else
    let source := s.cores.physical (36 * half + logical)
    let target := s.cores.physical (36 * half + spare)
    let states := SMap.insert (SMap.insert s.cores.states source 5) target 5
    { s with cores := { (s.cores.report (half / 2) (moveWord 1 0 0)) with
      states := states
      moves := SMap.insert s.cores.moves half
        { half := half, logical := logical, spareNumber := spare, source := source, target := target, copied := 0, state := 1,
          sourceState := after, startStep := s.run.step + 1 } } }

/-- CoreMoveRequest (R232, R236). -/
def coreMoveEffect (die : Nat) : WriteEffect := fun s value =>
  let w := valueOf value
  (statusOk, s.startMove (2 * die + field w 13 1) (field w 6 6) (field w 0 6) 1)

/-- CORE_MOVE_REQUEST (R232, R233, R236). -/
def execCoreMoveRequest (die : Die) (w : ObjWrite) (s : State) : Host.Outcome State Fault Refusal :=
  act (.coreMoveRequest die w) s (fun c => c.performWrite w (dieObj Obj.coreMoveRequest die.val) (coreMoveEffect die.val))

/-- Does a task with an Atomic span still run on a logical core at a boundary? (R232) -/
def Run.atomicOn (r : Run) (core : Nat) : Bool :=
  match r.running with
  | none => false
  | some sh => r.atomicUntil.any (fun e => r.step ≤ e.2 && ((sh.tasks[e.1]?).map (fun t => t.core.key)) = some core)

/-- Copy the first rows of a logical core's scratchpad to a spare number's (R232). -/
def Mem.copyScratch (m : Mem) (logical spare rows : Nat) : Mem :=
  m.write (scratchRow spare 0) (m.read (scratchRow logical 0) (512 * rows))

/-- A move at a boundary that begins step n (R232). -/
def S8.moveBoundary (s : S8) (m : CoreMove) : S8 :=
  let n := s.run.step
  let die := m.half / 2
  let logical := 36 * m.half + m.logical
  let spare := 36 * m.half + m.spareNumber
  if m.state = 3 then
    S8.settleAgent { s with cores := { (s.cores.report die (moveWord 4 0 1024)) with
      moves := SMap.erase s.cores.moves m.half
      map := SMap.insert s.cores.map spare (m.source % 36)
      states := SMap.insert s.cores.states m.source m.sourceState } } m.half
  else
    let rows := if n ≤ m.startStep then m.copied else min 1024 (m.copied + s.dict.get Obj.coreMoveRowsPerStep)
    let mem := s.mem.copyScratch logical spare rows
    if rows = 1024 ∧ !(s.run.atomicOn logical) then
      let s1 := { s with
        mem := mem
        cores := { (s.cores.report die (moveWord 3 0 1024)) with
          map := SMap.insert s.cores.map logical (m.target % 36)
          states := SMap.insert s.cores.states m.target 0
          moves := SMap.insert s.cores.moves m.half { m with copied := 1024, state := 3 } } }
      if s.agentCore m.half = m.target then s1.settleAgent m.half else s1
    else
      let state := if rows = 1024 then 2 else 1
      { s with
        mem := mem
        cores := { (s.cores.report die (moveWord state 0 rows)) with
          moves := SMap.insert s.cores.moves m.half { m with copied := rows, state := state } } }

/-- What a boundary does to the cores: step.wait ends, and every move goes on (R219, R232). -/
def S8.coreBoundary (s : S8) : S8 :=
  let s1 := { s with cores := { (s.cores.wake s.run.step) with firmwareRan := [] } }
  s.cores.moves.foldl (fun a e => a.moveBoundary e.2) s1

end Sys2Proof.Machine
end

