-- ==== Sys2Proof/Machine/DoubleWord.lean ====
section
/-! DEFINITION. Double words: pairs of binary32 values whose value is hi + lo, combined in pairs and rounded once (R140, R141).
Nothing here changes the state. -/

namespace Sys2Proof.Machine

/-- The binary32 datum of its bits, and back. -/
def f32 (w : Nat) : Fp := binary32.decode w
def bits32 (x : Fp) : Nat := binary32.encode x

/-- two_sum (R140). -/
def twoSum (a b : Fp) : Fp × Fp :=
  let s := binary32.add a b
  let bb := binary32.sub s a
  (s, binary32.add (binary32.sub a (binary32.sub s bb)) (binary32.sub b bb))

/-- combine of two double words (R140). -/
def combineDw (x y : DoubleWord) : DoubleWord :=
  let t := twoSum (f32 x.1) (f32 y.1)
  let e := binary32.add t.2 (binary32.add (f32 x.2) (f32 y.2))
  let hi := binary32.add t.1 e
  (bits32 hi, bits32 (binary32.sub e (binary32.sub hi t.1)))

/-- scale of a double word by a factor (R283). -/
def scaleDw (x : DoubleWord) (f : Fp) : DoubleWord :=
  let a := binary32.mul (f32 x.1) f
  let b := binary32.mul (f32 x.2) f
  let hi := binary32.add a b
  (bits32 hi, bits32 (binary32.sub b (binary32.sub hi a)))

/-- The exact value of a double word; none when it is not finite (R141). -/
def exactDw (x : DoubleWord) : Exact :=
  if (f32 x.1).nonFinite || (f32 x.2).nonFinite then none else some (Dyadic.add (f32 x.1).toDyadic (f32 x.2).toDyadic)

/-- Partials combined in pairs, the lower-numbered source first (R140). -/
def combineAll (l : List DoubleWord) : DoubleWord :=
  match l with
  | [] => (0, 0)
  | x :: rest => rest.foldl combineDw x

/-- The final results of combinations, each rounded once from its exact value to the consumer's format: 0 binary32, 1 W16, otherwise N8
blocks (R38, R141); with how many of them are not finite. -/
def roundStatistics (format : Nat) (xs : List DoubleWord) : Bytes × Nat :=
  let vs := xs.map exactDw
  let float (f : FloatFormat) (width nan : Nat) : Bytes := vs.flatMap (fun v => leBytes width
    (match v with
     | none => nan
     | some x => f.encode (f.roundDyadic false x)))
  (if format = 0 then float binary32 4 0x7FC00000
   else if format = 1 then float bfloat16 2 0x7FC0
   else (List.range (ceilDiv vs.length 32)).flatMap (fun b =>
     (encodeN8 ((List.range 32).map (fun i => vs.getD (32 * b + i) (some { m := 0, e := 0 })))).1.packN8),
   (vs.filter Option.isNone).length)

end Sys2Proof.Machine
end

