-- ==== Sys2Proof/Machine/Golden.lean ====
section
/-! DEFINITION. Golden content and what is formed from it: vat blocks of a shard and role blocks of a culture image (R354,
R355, R374), targets, probes and their answers (R153, R154, R164), the tables of a freshly programmed vat (R105 to R112,
R117, R363) and spare vats (R19, R174). -/

namespace Sys2Proof.Machine

/-! ### Blocks -/

/-- The golden data of one vat: the bytes of its block, and whether it is a culture's role block. -/
structure Golden where
  culture : Bool
  bytes : Bytes
  deriving DecidableEq, Repr

/-- Block i of a shard (R354). -/
def shardBlock (shard : Bytes) (i : Nat) : Bytes :=
  (shard.drop (leAt shard (512 + 64 * i) 4)).take (leAt shard (516 + 64 * i) 4)

/-- Role block r of a culture image (R374). -/
def roleBlock (image : Bytes) (r : Nat) : Bytes := (image.drop (512 + 1052672 * r)).take 1052672

/-- The golden data of a physical vat's content: its wheel version's block, or its culture version's role (R363, R375). -/
def S8.goldenOf (s : S8) (k : Nat) : Option Golden :=
  match SMap.find s.wheels.content k with
  | none => none
  | some (key, n) =>
    if isCulture k then (SMap.find s.cellar.images key).map (fun b => { culture := true, bytes := roleBlock b n })
    else (SMap.find s.cellar.golden (key * 65536 + n / 62)).map (fun b => { culture := false, bytes := shardBlock b (n % 62) })

/-- The weight byte of row r, column c (R355, R374). -/
def Golden.weight (g : Golden) (r c : Nat) : Int :=
  if g.culture then leIntAt g.bytes (1024 * r + c) 1 else leIntAt g.bytes (512 + 2048 * r + c) 1

/-- The lifted rows (R355). -/
def Golden.lifted (g : Golden) : List Nat :=
  if g.culture then [] else (List.range (min 8 (leAt g.bytes 8 1))).map (fun i => leAt g.bytes (16 + 2 * i) 2)

/-- The outlier entries (R110, R355). -/
def Golden.outliers (g : Golden) : List Entry :=
  if g.culture then []
  else (List.range (leAt g.bytes 10 2)).filterMap (fun i => Entry.ofWord (leAt g.bytes (4203008 + 8 * i) 8))

/-- The column step word: m_c in [15:0], e_c in [23:16] (R355, R374). -/
def Golden.step (g : Golden) (c : Nat) : Nat :=
  if g.culture then leAt g.bytes (1048576 + 4 * c) 4 else leAt g.bytes (4194816 + 4 * c) 4

/-- Rows of a vat (R59). -/
def vatRows (k : Nat) : Nat := if isCulture k then 1024 else 2048

/-- t_r,c: what the pair of data column c is meant to hold on row r (R84, R91, R154). -/
def Golden.target (g : Golden) (r c : Nat) : Int :=
  if g.lifted.contains r || g.outliers.any (fun e => e.row = r && e.col = c) then 0 else g.weight r c

/-- The golden weight itself, outliers from their entries (R91). -/
def Golden.full (g : Golden) (r c : Nat) : Int :=
  match g.outliers.find? (fun e => e.row = r && e.col = c) with
  | some e => e.delta
  | none => g.weight r c

/-- b_k: the least exponent at which every row's checksum target fits −127…+127 (R164). -/
def Golden.checksumShift (g : Golden) (k group : Nat) : Nat :=
  let sum (r : Nat) : Int := (List.range 128).foldl (fun a c => a + g.target r (128 * group + c)) 0
  ((List.range 16).find? (fun b => (List.range (vatRows k)).all (fun r => (rneDiv (sum r) (2 ^ b)).natAbs ≤ 127))).getD 16

/-- The target of a checksum pair on a row (R164). -/
def Golden.checksumTarget (g : Golden) (k group r : Nat) : Int :=
  rneDiv ((List.range 128).foldl (fun a c => a + g.target r (128 * group + c)) 0) (2 ^ g.checksumShift k group)

/-- What a pair is meant to hold on a row: a data pair its column's target, a redundant pair that of the column it serves, a
checksum pair its sum (R63, R154, R164). Reference pairs have none here. -/
def Golden.pairTarget (g : Golden) (k : Nat) (map : List (Nat × Nat)) (p r : Nat) : Int :=
  if p < dataColumns k then g.target r p
  else if p < workPairs k then
    match map.find? (fun e => e.2 = p) with
    | some e => g.target r e.1
    | none => 0
  else if firstChecksum k ≤ p then g.checksumTarget k (p - firstChecksum k) r
  else 0

/-! ### Probes (R153, R154) -/

/-- One step of the 32-bit Galois LFSR of x^32 + x^22 + x^2 + x + 1. -/
def lfsrStep (x : Nat) : Nat := if 2 ^ 31 ≤ x then (2 * x - 2 ^ 32) ^^^ 0x00400007 else 2 * x

/-- The next h and the register after it: stepped again while the low 4 bits are 15 (R153). -/
def lfsrNext (fuel x : Nat) : Int × Nat :=
  match fuel with
  | 0 => (0, x)
  | n + 1 =>
    let y := lfsrStep x
    if y % 16 = 15 then lfsrNext n y else (((y % 16 : Nat) : Int) - 7, y)

/-- n values h from a seed. -/
def lfsrValues (n x : Nat) : List Int :=
  match n with
  | 0 => []
  | m + 1 => (lfsrNext 64 x).1 :: lfsrValues m (lfsrNext 64 x).2

/-- h of standard probe Q_i on each row, 0 on lifted rows (R153). -/
def standardProbe (k : Nat) (lifted : List Nat) (i : Nat) : List Int :=
  (lfsrValues (vatRows k) (0x1F350000 + i)).zipIdx.map (fun e => if lifted.contains e.2 then 0 else e.1)

/-- The column inputs of reverse probe V_i, as h (R153). -/
def reverseProbe (i : Nat) : List Int := lfsrValues 2048 (0x1F350010 + i)

/-- A_k,π: the answer of a pair to a probe (R154). -/
def Golden.answer (g : Golden) (k : Nat) (map : List (Nat × Nat)) (h : List Int) (p : Nat) : Int :=
  h.zipIdx.foldl (fun a e => a + g.pairTarget k map p e.2 * 16 * e.1) 0

/-- The row-side answer of a row to a reverse probe (R154). -/
def Golden.rowAnswer (g : Golden) (h : List Int) (r : Nat) : Int :=
  h.zipIdx.foldl (fun a e => a + g.target r e.2 * 16 * e.1) 0

/-! ### Quality (R163) -/

/-- The record of a vat that turning has not measured. -/
def Quality.none : Quality :=
  { normError := 0, unstable := false, unstablePairs := [], candidate := false, calDue := false, atEndurance := false,
    maskedGroups := [], redundantUsed := 0, residuals := 0, cycles := 0, partials := 0, calibrated := false, lastCalStep := 0,
    lastCalTemp := 0, retries := 0, programmedAt := 0 }

/-- The quality record of a physical vat. -/
def Turning.qualityOf (t : Turning) (k : Nat) : Quality := SMap.getD t.quality k Quality.none

/-- Change a vat's quality record. -/
def Turning.setQuality (t : Turning) (k : Nat) (f : Quality → Quality) : Turning :=
  { t with quality := SMap.insert t.quality k (f (t.qualityOf k)) }

/-- Hours of CellarSeconds, by which age is counted (R342). -/
def S8.hours (s : S8) : Nat := s.cellar.seconds / 3600

/-- May a vat be chosen as a programming target: below its endurance limit? (R172) -/
def S8.enduring (s : S8) (k : Nat) : Bool :=
  if isCulture k then SMap.getD s.turn.rowWrites k 0 < s.dict.get Obj.cultureEnduranceLimit
  else (s.turn.qualityOf k).cycles < s.dict.get Obj.enduranceLimit

/-- The State a vat takes when its content leaves it: 3 where it is at its endurance limit, else 0 (R172). -/
def S8.leftState (s : S8) (k : Nat) : Nat := if s.enduring k then 0 else 3


/-! ### The pool and spare vats (R116, R117, R174) -/

/-- Pool rows of a unit that headers of vats in State 1 or 2 name, apart from one vat's. -/
def Mem.poolTaken (m : Mem) (u apart : Nat) : List Nat :=
  ((vatsOfUnit u).filter (fun k => k ≠ apart && (m.vatState k = 1 || m.vatState k = 2))).flatMap m.poolRowsOf

/-- The first run of n free rows of a pool (R111: contiguous). -/
def freeRun (taken : List Nat) (n : Nat) : Option Nat :=
  (List.range (1664 + 1 - n)).find? (fun r => (List.range n).all (fun i => !(taken.contains (r + i))))

/-- The pool rows of a unit that are not free: named by a header in force or staged, apart from one vat's, or left by a staged header and
not yet free (R115). -/
def S8.poolBusy (s : S8) (u apart : Nat) : List Nat :=
  s.mem.poolTaken u apart ++ s.seen.poolTaken u apart ++
    (s.turn.oldRows.filter (fun e => e.1 / 2048 = u)).map (fun e => e.1 % 2048)

/-- Where a block's lifted rows and entries would stand in a unit's pool: first rows and the rows allotted to entries, where the pool holds
them and RindResidualReserve rows beside (R117); none for more outliers than a vat's 128 rows (R116). -/
def S8.poolPlace (s : S8) (k : Nat) (g : Golden) : Option (Nat × Nat × Nat) :=
  let taken := s.poolBusy (unitOfVat k) k
  let lifted := 4 * g.lifted.length
  let outliers := ceilDiv g.outliers.length 64
  let reserve := s.dict.get Obj.rindResidualReserve
  if 128 < outliers ∨ 1664 < taken.eraseDups.length + lifted + outliers + reserve then none
  else
    match freeRun taken lifted with
    | none => none
    | some a =>
      (freeRun (taken ++ (List.range lifted).map (a + ·)) (min 128 (outliers + reserve))).map (fun b =>
        (a, b, min 128 (outliers + reserve)))

/-- The empty healthy physical vats behind a half's spare numbers that may be programmed (R172, R174). -/
def S8.spareVats (s : S8) (half : Nat) (culture : Bool) : List Nat :=
  ((spareNumbers half culture).filter (fun l => !(s.vats.unbacked.contains l))).map s.vats.physical |>.filter (fun k =>
    !(Config.vatBad k) && s.mem.vatState k = 0 && !(s.turn.programming.contains k) && s.enduring k &&
      !(s.vats.unitsRetired.contains (unitOfVat k)) && !(s.vats.freeing.any (fun f => f.physical = k)))

/-! ### Tables of a programmed vat (R105 to R112, R363) -/

/-- ColumnSum of a column (R520): the targets of its rows less its residual entries. -/
def columnSumOf (g : Golden) (k : Nat) (entries : List Entry) (c : Nat) : Int :=
  let t := (List.range (vatRows k)).foldl (fun a r => if g.lifted.contains r then a else a + g.target r c) 0
  (entries.filter (fun e => e.residual && e.col = c && !(g.lifted.contains e.row))).foldl (fun a e => a - e.delta) t

/-- The order of entries: outliers, then residuals, each by row and column (R110). -/
def entryBefore (a b : Entry) : Bool :=
  if a.residual ≠ b.residual then !a.residual
  else if a.row ≠ b.row then a.row < b.row
  else a.col ≤ b.col

/-- The bytes of entries (R110). -/
def entryBytes (es : List Entry) : Bytes := (sortBy entryBefore es).flatMap (fun e => leBytes 8 e.toWord)

/-- The residual entries that fit beside the outliers, the largest |Δ| first (R117): those kept and how many are dropped. -/
def fitResiduals (rows outliers : Nat) (res : List Entry) : List Entry × Nat :=
  let room := 64 * rows - outliers
  let ordered := sortBy (fun a b => b.delta.natAbs ≤ a.delta.natAbs) res
  (ordered.take room, res.length - min room res.length)

/-- Row 0 (R106), without TableDigest. -/
def headerRow (k : Nat) (g : Golden) (wheel content generation : Nat) (place : Nat × Nat × Nat) (residuals : Nat) : Bytes :=
  padTo 512
    (leBytes 2 1 ++ leBytes 1 (if isCulture k then 1 else 0) ++ leBytes 1 1 ++ leBytes 1 wheel ++ leBytes 1 g.lifted.length ++
      zeros 2 ++ leBytes 4 content ++ leBytes 4 generation ++
      (List.range 8).flatMap (fun i => leBytes 2 (g.lifted.getD i 0xFFFF)) ++ leBytes 2 place.1 ++ leBytes 2 place.2.1 ++
      leBytes 2 g.outliers.length ++ leBytes 2 residuals ++ leBytes 2 place.2.2)

/-- Row 1 (R107, R112): no column moved, the checksum scales. -/
def constantsRow (k : Nat) (g : Golden) : Bytes :=
  padTo 512 (List.replicate (4 * mapSlots k) (0xFF : Byte) ++
    (List.range (checksumGroups k)).flatMap (fun i => leBytes 2 1 ++ leBytes 1 (g.checksumShift k i) ++ zeros 1))

/-- Calibration entries at their reset value: G 0x8000, O 0 (R108). -/
def plainCalibration (n : Nat) : Bytes := (List.range n).flatMap (fun _ => leBytes 4 0x80000000)

/-- The data column entries (R109). -/
def columnBytes (g : Golden) (k : Nat) (entries : List Entry) : Bytes :=
  (List.range (dataColumns k)).flatMap (fun c =>
    leBytes 3 (g.step c) ++ zeros 1 ++ leBytes 4 (ofSigned 32 (columnSumOf g k entries c)))

/-- The whole table of a freshly programmed vat (R105, R112). -/
def tableBytes (k : Nat) (g : Golden) (wheel content generation : Nat) (place : Nat × Nat × Nat) (residuals : List Entry) :
    Bytes :=
  let size := if isCulture k then 0x4000 else 0x9000
  let pairs := if isCulture k then 1072 else 2144
  let columnsAt := if isCulture k then 5632 else 9728
  padTo size
    (padTo columnsAt (headerRow k g wheel content generation place residuals.length ++ constantsRow k g ++ plainCalibration pairs) ++
      columnBytes g k residuals ++ (if isCulture k then [] else plainCalibration 2048))

/-- The lifted golden weights as pool bytes (R111). -/
def liftedBytes (g : Golden) : Bytes :=
  g.lifted.flatMap (fun r => (List.range 2048).map (fun c => BitVec.ofInt 8 (g.weight r c)))

/-- Write TableDigest: the SHA-256 of rows 1 to the last but the reserved ones, and of the vat's pool rows (R106). -/
def Mem.digestTable (m : Mem) (k : Nat) : Mem :=
  let rows := if isCulture k then 26 else 66
  let pool := (m.poolRowsOf k).flatMap (fun r => m.read (poolRow (unitOfVat k) r) 512)
  m.write (tableBase k + 48) (sha256 (m.read (tableBase k + 512) (512 * rows) ++ pool))

/-- Writes of a vat's tables: staged while it is in service, else made directly (R113, R115). -/
def S8.stageTables (s : S8) (k : Nat) (writes : List (Nat × Bytes)) : S8 :=
  if s.mem.vatState k = 2 then s.stageWrites k writes
  else { s with mem := (s.mem.writeAll (s.advancing k writes)).digestTable k }

/-- The probe answers of a vat: A of every pair for each standard probe (R154: 134 KiB for a charge-trap vat). -/
def Golden.answersOf (g : Golden) (k : Nat) : Bytes :=
  (List.range 16).flatMap (fun i =>
    let h := standardProbe k g.lifted i
    (List.range (if isCulture k then 1072 else 2144)).flatMap (fun p => leBytes 4 (ofSigned 32 (g.answer k [] h p))))

/-- Keep a vat's probe answers beside the golden image (R154). -/
def Cellar.keepAnswers (c : Cellar) (k : Nat) (g : Golden) : Cellar := { c with answers := SMap.insert c.answers k (g.answersOf k) }

/-- The answer of a pair to standard probe i: a redundant pair answers as the column it serves (R63, R154). -/
def answerAt (answers : Bytes) (k : Nat) (map : List (Nat × Nat)) (i p : Nat) : Int :=
  let pair := if dataColumns k ≤ p ∧ p < workPairs k then ((map.find? (fun e => e.2 = p)).map (·.1)).getD p else p
  leIntAt answers (4 * ((if isCulture k then 1072 else 2144) * i + pair)) 4

/-- Write the tables and pool rows of a programmed vat directly (R113, R363). -/
def Mem.writeTables (m : Mem) (k : Nat) (g : Golden) (wheel content : Nat) (place : Nat × Nat × Nat) (residuals : List Entry) :
    Mem :=
  let u := unitOfVat k
  let m1 := m.write (tableBase k) (tableBytes k g wheel content (m.vatGeneration k + 1) place residuals)
  let m2 := m1.write (poolRow u place.1) (liftedBytes g)
  (m2.write (poolRow u place.2.1) (padTo (512 * place.2.2) (entryBytes (g.outliers ++ residuals)))).digestTable k

end Sys2Proof.Machine
end

