-- ==== Sys2Proof/Machine/Links.lean ====
section
/-! DEFINITION. Transfers, Helca links, the barrier over them and the time base (chapter 09; R448). -/

namespace Sys2Proof.Machine

/-! ### Sending a transfer (R206, R252, R255, R256, R259) -/

/-- The lane that carries a lane's bulk traffic: itself, or the trunk's spare once the lane has failed (R266). -/
def Fabric.bulkLane (f : Fabric) (n : Nat) : Nat :=
  let spare := 9 * (n / 9) + 8
  if (f.lane n).state = 3 ∧ (f.laneChanges.any (fun e => e.1 = n) ∨ ((f.lane spare).state = 2 ∧ (f.lane spare).replaces = n + 1))
  then spare else n

/-- Where a transfer record's payload lies at its source: the rows of the staging or sampling task of the source core that
covers the lane (R205, R206). -/
def Sheet.stagedRow (sh : Sheet) (t : Transfer) : Nat :=
  let want := if t.kind = 2 then 4 else 9
  match sh.tasks.find? (fun k => k.kind = want && k.core = t.source && k.firstLane ≤ t.lane && t.lane < k.firstLane + k.laneCount) with
  | none => 0
  | some k => k.outputRow + ceilDiv t.length 512 * (t.lane - k.firstLane)

/-- The payload of a tree partial (R56, R248): six L64 a flit and a last flit with the lane status, Clamped for a limited column or a
saturated one at its limit; and how many columns took a limit. -/
def Partial.wire (p : Partial) (grid : Int) (width : Nat) : Bytes × Nat :=
  let ls := (List.range width).map (fun i => (p.col i).toL64 grid)
  let limited := (ls.filter (·.2)).length
  let atLimit := p.cols.any (fun c => c.saturated && c.value.natAbs = accMax.natAbs)
  let status := orStatus (orStatus p.status (if limited ≠ 0 ∨ atLimit then statusClamped else 0))
    (if p.cols.any (·.poison) then statusPoison else 0)
  (padTo (48 * ceilDiv width 6) (ls.flatMap (fun l => leBytes 8 (ofSigned 64 l.1))) ++ padTo 48 (leBytes 2 status), limited)

/-- The reduction whose send or receive a transfer record carries (R247). -/
def Sheet.reductionOf (sh : Sheet) (kind index : Nat) : Option (Reduction × Nat × TreeEntry) :=
  sh.reductions.findSome? (fun (r : Reduction) =>
    ((sh.treeOf r).find? (fun e => e.2.kind = kind &&
      (match sh.transfers[index]? with
       | none => false
       | some t => sh.partialTransfer e.2.transfer t.lane = some index))).map (fun (e : Nat × TreeEntry) => (r, e.1, e.2)))

/-- The flits of a payload (R251). -/
def payloadFlits (index : Nat) (b : Bytes) : List Bytes :=
  let n := ceilDiv b.length 48
  (List.range n).map (fun i =>
    { kind := kindBulk, seq := 0, transfer := index, flit := i, last := i + 1 = n, replay := false,
      payload := bytesAt b (48 * i) 48 : FlitView }.toData)

/-- A reduction token's data (R254). -/
def tokenData (index count step : Nat) : Bytes :=
  { kind := kindToken, seq := 0, transfer := 0, flit := 0, last := false, replay := false,
    payload := leBytes 2 index ++ leBytes 2 count ++ leBytes 8 step : FlitView }.toData

/-- The transfers whose token waits on a lane. -/
def LinkLaneState.tokens (l : LinkLaneState) : List Nat :=
  (l.queue ++ l.control).filterMap (fun d =>
    if (FlitView.ofData d).kind = kindToken then some (leAt (FlitView.ofData d).payload 0 2) else none)

/-- Has the lane sent every transfer that the running sheet places on it in the step? Shard flits leave only then (R360). -/
def S8.placedSent (s : S8) (n : Nat) : Bool :=
  match s.run.running with
  | none => true
  | some sh => sh.transfers.zipIdx.all (fun e =>
      e.1.bridge || e.1.path ≠ s.fab.logicalLane n || !(s.run.sends e.1) || s.run.transfersSent.contains e.2 || !(s.dieServes e.1.source.die))

/-- Move a lane's data on, and note the transfers now sent whole (R182). -/
def S8.pumpLane (s : S8) (n : Nat) : S8 :=
  let l := s.fab.lane n
  let l1 := if s.placedSent n then l.pumpAll.idleSlots.pumpAll else l.pumpAll
  { s with
    fab := s.fab.setLane n l1
    run := { s.run with
      transfersSent := (l.tokens.filter (fun i => !(l1.tokens.contains i))).foldl (fun a i => insertNat i a) s.run.transfersSent } }


/-- What the source die's mesh leaves of a transfer's rows: those before the first with an uncorrectable word, with which the transfer
ends (R222, R241). -/
def keptBytes (e : MeshErr) (flitBytes : Nat) (b : Bytes) : Bytes :=
  match e.flits with
  | [] => b
  | i :: rest => b.take (512 * (flitBytes * rest.foldl min i / 512))

/-- A transfer that a mesh or bridge flit ends with status 2 is counted (R222, R236, R241). -/
def S8.countFault (s : S8) (t : Transfer) (core : CoreRef) (mesh : MeshErr) : S8 :=
  s.raise Obj.xferFaultCount 0 (if t.kind ≠ 0 ∧ mesh.flits ≠ [] then 1 else 0) (unitField 3 core.key) 2

/-- The payload a transfer record sends, none where there is nothing to send, and the columns limited (R56, R241). -/
def S8.transferPayload (s : S8) (sh : Sheet) (index : Nat) (t : Transfer) (mesh : MeshErr) : Option (Bytes × Nat) :=
  if t.kind = 0 then
    match SMap.find s.vats.outgoing index, sh.reductionOf 4 index with
    | some p, some (r, _) => some ((p.cross mesh).wire r.grid r.width)
    | _, _ => none
  else some (keptBytes mesh 64 ((s.mem.readRows t.source (sh.stagedRow t) (ceilDiv t.length 512)).take t.length), 0)

/-- A transfer starts (R241, R252, R255, R259): its flits cross the source die's mesh and wait on the lane, or cross a die bridge. -/
def S8.startTransfer (s : S8) (index : Nat) (mesh : MeshErr) : S8 :=
  match s.run.running.bind (fun sh => (sh.transfers[index]?).map (fun t => (sh, t))) with
  | none => s
  | some (sh, t) =>
    if !(s.run.sends t) || s.run.transfersSent.contains index then s
    else
      let payload : Option (Bytes × Nat) := s.transferPayload sh index t mesh
      let bytes := (payload.map (fun e => e.1)).getD []
      let limited := (payload.map (fun e => e.2)).getD 0
      let met := (s.meshWords mesh.corrected mesh.flits.length (unitField 1 t.source.die)).countFault t t.source mesh
      let s1 := { met with
        vats := { met.vats with outgoing := SMap.erase met.vats.outgoing index }
        dict := met.dict.raise met.run.step Obj.l64SatCount 0 limited 0 0 }
      if t.bridge then
        { s1 with
          fab := { s1.fab with
            arriving := SMap.insert s1.fab.arriving (72 * 65536 + index)
              (bytes, ceilDiv bytes.length 48, true, some (ceilDiv bytes.length 48)) }
          run := { s1.run with transfersSent := insertNat index s1.run.transfersSent } }
      else
        let n := s1.fab.bulkLane t.path
        let l := s1.fab.lane n
        let flits := payloadFlits index bytes
        let l1 := { l with queue := l.queue ++ flits ++ [tokenData index flits.length s1.run.step] }
        S8.pumpLane { s1 with fab := s1.fab.setLane n l1 } n

/-- TRANSFER_START (R241, R252, R255, R259). -/
def execTransferStart (transfer : Carried) (s : State) : Host.Outcome State Fault Refusal :=
  act (.transferStart transfer) s (fun c => (c.startTransfer transfer.record transfer.mesh).judge)

/-! ### A transfer arrives (R41, R56, R134, R182, R256) -/

/-- A partial read from its payload (R56). -/
def Partial.ofWire (grid : Int) (width : Nat) (b : Bytes) : Partial :=
  let status := leAt b (48 * ceilDiv width 6) 2
  { cols := (List.range width).map (fun i => accOfL64 (leIntAt b (8 * i) 8) grid (field status 4 1 = 1)), status := status }

/-- The rows a payload is written as at its destination (R41, R43, R44): N8 and N4 packed blocks as an N8 vector in split
layout, the others as they stand. -/
def arrivedRows (format : Nat) (b : Bytes) : Bytes :=
  match format with
  | 1 => toSplit ((List.range (b.length / 33)).map (fun i => unpackN8 (bytesAt b (33 * i) 33)))
  | 2 => toSplit ((List.range (b.length / 17)).map (fun i => n4ToN8 (unpackN4 (bytesAt b (17 * i) 17))))
  | _ => padTo (roundUp 512 b.length) b

/-- Reserved −128 codes of a packed N8 payload, which read as −127 and are counted (R37, R41). -/
def arrivedReserved (format : Nat) (b : Bytes) : Nat :=
  if format = 1 then
    (List.range (b.length / 33)).foldl (fun n i => n + reservedCodes (byteAt b (33 * i)).toNat (bytesAt b (33 * i + 1) 32)) 0
  else 0

/-- A transfer has arrived: its flits from 0 to Last are held in order and its token has come (R256). What the bridge or the
destination die's mesh upsets poisons a partial, and ends another transfer with status 2 (R241, R244). -/
def S8.arrive (s : S8) (lane index tick : Nat) (mesh : MeshErr) : S8 :=
  match s.run.running.bind (fun sh => (sh.transfers[index]?).map (fun t => (sh, t))) with
  | none => s
  | some (sh, t) =>
    let key := (if t.bridge then 72 else s.fab.logicalLane lane) * 65536 + index
    match SMap.find s.fab.arriving key with
    | none => s
    | some (payload, next, last, token) =>
      if (t.bridge || s.run.receives t) && (last || next = 0) && token = some next && !(s.run.transfersArrived.contains index)
      then
        let bytes := if t.kind = 0 then payload else keptBytes mesh (if t.bridge then 48 else 64) (payload.take t.length)
        let crossed (p : Partial) : Partial := if t.bridge then p.crossBridge mesh else p.cross mesh
        let met := (s.meshWords mesh.corrected mesh.flits.length (unitField 1 t.dest.die)).countFault t t.dest mesh
        let s1 := { met with
          fab := { met.fab with arriving := SMap.erase met.fab.arriving key }
          vats := if t.kind = 0 ∧ next ≠ 0 then
              match sh.reductionOf 5 index with
              | none => met.vats
              | some (r, e) => met.vats.passOn sh r t.lane e.2 (crossed (Partial.ofWire r.grid r.width bytes))
            else met.vats
          mem := if t.kind = 0 then met.mem else met.mem.writeRows t.dest t.destRow (arrivedRows t.format bytes)
          run := { (met.run.worked t.dest.halfKey tick) with transfersArrived := insertNat index met.run.transfersArrived } }
        s1.raise Obj.saturatedCodeCount 0 (if t.kind = 0 then 0 else arrivedReserved t.format bytes) (unitField 1 t.dest.die) 0
      else s

/-- TRANSFER_ARRIVED (R41, R56, R134, R182, R241, R244, R256). -/
def execTransferArrived (lane : LinkLane) (transfer : Carried) (tick : Nat) (s : State) : Host.Outcome State Fault Refusal :=
  act (.transferArrived lane transfer tick) s (fun c => (c.arrive lane.val transfer.record tick transfer.mesh).judge)

/-! ### Lane failure (R262, R265, R266) -/

/-- Has every lane of a trunk failed? -/
def Fabric.trunkFailed (f : Fabric) (d : Nat) : Bool := (trunkLanes d).all (fun n => (f.lane n).state = 3)

/-- A module cut off from its parent (R262): the event, the isolated flit to its children, and every die lost. A module whose dies
have returned since can be cut off again. -/
def S8.isolate (s : S8) : S8 :=
  if s.fab.isolated ∧ s.run.lostDies.length = 8 then s
  else
    let lanes := (s.run.barrier.map (·.lanes)).getD []
    let run := (List.range 8).foldl (fun r d => r.loseNow d) s.run
    { s with
      dict := s.dict.raise s.run.step Obj.barrierIsolatedCount 0 1 0 0
      fab := { (lanes.foldl (fun f l => f.sendBarrier l (s.barrierFlit 2 0)) s.fab) with isolated := true }
      run := run }

/-- A trunk that has wholly failed (R262), acted on once: a child is cut off, or this module is. -/
def S8.trunkLost (s : S8) (d : Nat) : S8 :=
  let s1 := { s with fab := { s.fab with trunksLost := insertNat d s.fab.trunksLost } }
  match s.run.barrier with
  | none => s1
  | some b =>
    let run := { (s.run.lose d) with
      announced := ((s.fab.lane (9 * d)).peerModule, (s.fab.lane (9 * d)).peerDie) :: s.run.announced }
    if b.lanes.any (fun l => l / 9 = d) then
      { s1 with
        run := { run with lostChildren := insertNat d s.run.lostChildren }
        dict := s.dict.raise s.run.step Obj.barrierChildLostCount 0 1 (unitField 6 (9 * d)) d }.collect
    else if b.parent ≠ 0xFFFF ∧ b.parentLane / 9 = d then { s1 with run := run }.isolate
    else s1

/-- Treat a lane as failed, once (R265): LaneFail is raised, and control flits still pending move to another lane (R266). -/
def S8.laneDown (s : S8) (n : Nat) : S8 :=
  let l := s.fab.lane n
  if l.state = 3 then s
  else
    let fab := s.fab.setLane n { l with state := 3, control := [] }
    { s with
      fab := if l.control = [] then fab else fab.sendControl n l.control
      dict := s.dict.raise s.run.step Obj.laneFailCount 0 1 (unitField 6 n) 0 }

/-- The detecting end sends a lane notice on another lane of the trunk (R254, R265). -/
def S8.notice (s : S8) (n : Nat) : S8 :=
  match (trunkLanes (n / 9)).find? (fun m => m ≠ n && (s.fab.lane m).lit) with
  | none => s
  | some m =>
    { s with fab := s.fab.sendControl m [(s.fab.lane m).creditData 2 (n % 9)] }

/-- A lane is found failed at this end (R265). -/
def S8.detectFail (s : S8) (n : Nat) : S8 := if (s.fab.lane n).state = 3 then s else (s.laneDown n).notice n

/-- A logical lane is without backing (R23, R266), once: UnitUnbacked, and its die is lost when the running sheet names the lane
(R213). -/
def S8.laneUnbacked (s : S8) (n : Nat) : S8 :=
  if s.fab.unbacked.contains n then s
  else
    { s with
      fab := { s.fab with unbacked := insertNat n s.fab.unbacked }
      run := if (s.run.running.map (fun sh => sh.namesLane n)).getD false then s.run.lose (n / 9) else s.run
      dict := s.dict.note s.run.step eventUnitUnbacked (unitField 6 n) n }

/-- What a failed lane's queue holds apart from replays: its unacknowledged flits come first (R266). -/
def LinkLaneState.carriedOver (l : LinkLaneState) : List Bytes :=
  l.unacked.filterMap flitData ++ l.queue.filter (fun d => !(FlitView.ofData d).replay)

/-- The spare takes a failed lane's traffic (R266), or, without one, the lane is unbacked; the failure of a spare leaves the lane it
replaces unbacked; a trunk whose lanes have all failed cuts a subtree off (R262). -/
def S8.failOver (s : S8) (n : Nat) : S8 :=
  let spare := 9 * (n / 9) + 8
  let l := s.fab.lane n
  let sp := s.fab.lane spare
  let changes := s.fab.laneChanges.filter (fun e => e.2 = spare)
  let s1 :=
    if n = spare then
      let gone := if l.replaces ≠ 0 then [l.replaces - 1] else changes.map (fun e => e.1)
      gone.foldl (fun a k => a.laneUnbacked k)
        { s with fab := { s.fab with laneChanges := s.fab.laneChanges.filter (fun e => e.2 ≠ spare) } }
    else if changes.any (fun e => e.1 = n) || (sp.state = 2 && sp.replaces = n + 1) then s
    else if sp.state = 1 ∧ changes = [] then
      let fab := (s.fab.setLane n { l with unacked := [], queue := [], background := [] }).setLane spare
        { sp with queue := sp.queue ++ l.carriedOver, background := sp.background ++ l.background }
      S8.pumpLane { s with fab := { fab with laneChanges := s.fab.laneChanges ++ [(n, spare)] } } spare
    else s.laneUnbacked n
  if s1.fab.trunkFailed (n / 9) && !(s1.fab.trunksLost.contains (n / 9)) then s1.trunkLost (n / 9) else s1

/-- LANE_FAIL (R21, R213, R262, R266). -/
def execLaneFail (lane : LinkLane) (s : State) : Host.Outcome State Fault Refusal :=
  act (.laneFail lane) s (fun c => (c.laneDown lane.val).failOver lane.val)

/-- LANE_SIGNAL_LOSS (R265): no signal or flit lock for 64 flit times. -/
def execLaneSignalLoss (lane : LinkLane) (s : State) : Host.Outcome State Fault Refusal :=
  act (.laneSignalLoss lane) s (fun c => c.detectFail lane.val)

/-! ### Receiving flits (R252 to R257) -/

/-- A good flit is received, and a slot passes. -/
def LinkLaneState.gotFlit (l : LinkLaneState) : LinkLaneState := { l with received := l.received + 1 }.passSlot

/-- A flit with an uncorrectable word is received (R265), and a slot passes. -/
def LinkLaneState.gotBad (l : LinkLaneState) : LinkLaneState :=
  { l with errors := (l.received :: l.errors).filter (fun e => l.received - e < 2 ^ 20), received := l.received + 1 }.passSlot

/-- Has a lane failed at this end: LaneErrorLimit uncorrectable flits within 2^20, or three failed replays of one flit? (R265) -/
def S8.judgeLane (s : S8) (n : Nat) : S8 :=
  if s.dict.get Obj.laneErrorLimit ≤ (s.fab.lane n).errors.length ∨ 3 ≤ (s.fab.lane n).replays then s.detectFail n else s

/-- Receive a control flit of a kind (R257): one that does not decode is discarded, counted, and counts towards the lane's failure
(R265); corrected words count. A lane out of service receives nothing. -/
def S8.receiveControl (s : S8) (f : Flit) (kind : Nat) (k : S8 → FlitView → S8) : S8 :=
  let n := f.lane.val
  if (s.fab.lane n).lit then
    match flitData f.raw with
    | none =>
      (S8.raise { s with fab := s.fab.setLane n (s.fab.lane n).gotBad } Obj.controlFlitLostCount 0 1 (unitField 6 n) 0).judgeLane n
    | some d =>
      let s1 := S8.raise { s with fab := s.fab.setLane n (s.fab.lane n).gotFlit } Obj.flitCorrectedCount 0 (flitCorrected f.raw)
        (unitField 6 n) 0
      if (FlitView.ofData d).kind = kind then k s1 (FlitView.ofData d) else s1
  else s

/-- The NAK a receiver sends at its next control slot (R254, R257). -/
def LinkLaneState.sendNak (l : LinkLaneState) : LinkLaneState :=
  { l with discarding := true, missed := false, control := l.control ++ [l.creditData 1 0] }.pumpAll

/-- Ask for a replay from the flit expected next (R257). -/
def S8.askReplay (s : S8) (n failures : Nat) : S8 :=
  { s with
    fab := s.fab.setLane n { (s.fab.lane n).sendNak with replays := failures }
    dict := s.dict.raise s.run.step Obj.flitReplayCount 0 1 (unitField 6 n) 0 }.judgeLane n

/-- A bulk flit that does not decode (R257, R265): it and every later one are discarded and NAK is sent. While later flits are being
discarded, it is a failed replay when its header still shows the replay of the flit expected; with the header lost too, what comes
next tells. -/
def S8.badBulk (s : S8) (n : Nat) (raw : Bytes) : S8 :=
  let l := s.fab.lane n
  let s1 := { s with fab := s.fab.setLane n l.gotBad }
  if !l.discarding then s1.askReplay n 0
  else
    match flitHeader raw with
    | none => S8.judgeLane { s1 with fab := s1.fab.setLane n { s1.fab.lane n with missed := true } } n
    | some h =>
      if (FlitView.ofData h).replay ∧ (FlitView.ofData h).seq = l.expected then s1.askReplay n (l.replays + 1) else s1.judgeLane n

/-- Take a bulk flit that came in order (R255, R257). -/
def LinkLaneState.tookBulk (l : LinkLaneState) : LinkLaneState :=
  { l with
    expected := (l.expected + 1) % 4096
    discarding := false
    missed := false
    freed := (l.freed + 1) % 2 ^ 32
    replays := 0 }.gotFlit

/-- Put a bulk flit that came in order to its transfer (R256, R257); a flit of Transfer 0xFFFF belongs to none (R360). -/
def S8.acceptBulk (s : S8) (n : Nat) (v : FlitView) : S8 :=
  let key := s.fab.logicalLane n * 65536 + v.transfer
  let held := SMap.getD s.fab.arriving key ([], 0, false, none)
  let now := if v.flit = held.2.1 then (held.1 ++ v.payload, held.2.1 + 1, v.last, held.2.2.2)
    else if v.flit = 0 then (v.payload, 1, v.last, held.2.2.2) else held
  let fab := s.fab.setLane n (s.fab.lane n).tookBulk
  { s with fab := if v.transfer = 0xFFFF then fab else { fab with arriving := SMap.insert s.fab.arriving key now } }

/-- Receive a bulk flit (R257). While flits are being discarded, a later replayed flit after one whose header was lost shows that the
replay of the flit expected has failed. -/
def S8.receiveBulkFlit (s : S8) (f : Flit) (k : S8 → FlitView → S8) : S8 :=
  let n := f.lane.val
  let l := s.fab.lane n
  if l.lit then
    match flitData f.raw with
    | none => s.badBulk n f.raw
    | some d =>
      let v := FlitView.ofData d
      let s1 := s.raise Obj.flitCorrectedCount 0 (flitCorrected f.raw) (unitField 6 n) 0
      if v.kind = kindBulk ∧ v.seq = l.expected ∧ (!l.discarding ∨ v.replay) then k s1 v
      else
        let s2 := { s1 with fab := s1.fab.setLane n l.gotFlit }
        if v.kind = kindBulk ∧ v.replay ∧ l.discarding ∧ l.missed then s2.askReplay n (l.replays + 1) else s2
  else s

/-- BULK_FLIT_RX (R257, R265). -/
def execBulkFlitRx (f : Flit) (s : State) : Host.Outcome State Fault Refusal :=
  act (.bulkFlitRx f) s (fun c => c.receiveBulkFlit f (fun d v => d.acceptBulk f.lane.val v))

/-- The flits that follow an acknowledged sequence number in a replay buffer (R257). -/
def afterAck (unacked : List Bytes) (ack : Nat) : List Bytes :=
  match unacked.findIdx? (fun raw => ((flitData raw).map (fun d => (FlitView.ofData d).seq)) = some ack) with
  | none => unacked
  | some i => unacked.drop (i + 1)

/-- The data of a flit marked as a replay (R251, R257). -/
def asReplay (raw : Bytes) : Option Bytes := (flitData raw).map (fun d => { FlitView.ofData d with replay := true }.toData)

/-- Take the credits and the acknowledgement of a credit flit (R254, R255, R257); a NAK replays what follows it, before what waits. -/
def LinkLaneState.takeCredit (l : LinkLaneState) (p : Bytes) : LinkLaneState :=
  let left := afterAck l.unacked (leAt p 4 2 % 4096)
  { l with
    credits := l.credits + (leAt p 0 4 + (2 ^ 32 - l.credits % 2 ^ 32)) % 2 ^ 32
    unacked := left
    queue := if field (leAt p 6 1) 0 1 = 1 then left.filterMap asReplay ++ l.queue.filter (fun d => !(FlitView.ofData d).replay)
      else l.queue }

/-- Receive a credit flit: its credits and acknowledgement, then what waited is sent. -/
def S8.creditFlit (s : S8) (n : Nat) (p : Bytes) : S8 :=
  { s with fab := s.fab.setLane n ((s.fab.lane n).takeCredit p) }.pumpLane n

/-- CREDIT_FLIT_RX (R255, R257). -/
def execCreditFlitRx (f : Flit) (s : State) : Host.Outcome State Fault Refusal :=
  act (.creditFlitRx f) s (fun c =>
    c.receiveControl f kindCredit (fun d v => (d.creditFlit f.lane.val v.payload).judge))

/-- NAK_RX (R257): a credit flit whose NAK flag is set. -/
def execNakRx (f : Flit) (s : State) : Host.Outcome State Fault Refusal :=
  act (.nakRx f) s (fun c => c.receiveControl f kindCredit (fun d v =>
    if field (leAt v.payload 6 1) 0 1 = 1 then (d.creditFlit f.lane.val v.payload).judge else d))

/-- LANE_NOTICE_RX (R265): a credit flit that carries a lane notice. -/
def execLaneNoticeRx (f : Flit) (s : State) : Host.Outcome State Fault Refusal :=
  act (.laneNoticeRx f) s (fun c => c.receiveControl f kindCredit (fun d v =>
    if field (leAt v.payload 6 1) 1 1 = 1 ∧ leAt v.payload 7 1 ≤ 8 then
      d.laneDown (9 * (f.lane.val / 9) + leAt v.payload 7 1)
    else d))

/-- REDUCTION_TOKEN_RX (R256): the token of a transfer of this step. -/
def execReductionTokenRx (f : Flit) (s : State) : Host.Outcome State Fault Refusal :=
  act (.reductionTokenRx f) s (fun c => c.receiveControl f kindToken (fun d v =>
    if leAt v.payload 4 8 = d.run.step then
      let key := d.fab.logicalLane f.lane.val * 65536 + leAt v.payload 0 2
      let held := SMap.getD d.fab.arriving key ([], 0, false, none)
      { d with fab := { d.fab with
        arriving := SMap.insert d.fab.arriving key (held.1, held.2.1, held.2.2.1, some (leAt v.payload 2 2)) } }
    else d))

/-- REDUCTION_TOKEN_TIMEOUT (R257): 1,024 ticks after the token the transfer has not fully arrived. -/
def execReductionTokenTimeout (lane : LinkLane) (transfer : Nat) (s : State) : Host.Outcome State Fault Refusal :=
  act (.reductionTokenTimeout lane transfer) s (fun c =>
    match SMap.find c.fab.arriving (c.fab.logicalLane lane.val * 65536 + transfer) with
    | some (_, next, last, some count) =>
      if (last || count = 0) && next = count then c
      else
        { c with
          fab := c.fab.setLane lane.val (c.fab.lane lane.val).sendNak
          dict := c.dict.raise c.run.step Obj.flitReplayCount 0 1 (unitField 6 lane.val) 0 }
    | _ => c)

/-! ### The barrier (R183, R260, R262) -/

/-- BARRIER_DONE_RX (R183, R253, R260): a child's done flit of this step is collected. -/
def execBarrierDoneRx (f : Flit) (s : State) : Host.Outcome State Fault Refusal :=
  act (.barrierDoneRx f) s (fun c => c.receiveControl f kindBarrier (fun d v =>
    let b := BarrierFlit.ofPayload v.payload
    if b.direction = 0 ∧ b.step = d.run.step ∧ ((d.run.barrier.map (·.lanes)).getD []).any (fun l => l / 9 = f.lane.val / 9)
    then
      S8.collect { d with run := { d.run with
        dones := SMap.insert d.run.dones (f.lane.val / 9) b.tick
        belowOverrun := d.run.belowOverrun || b.overrun
        closing := (d.run.closing ++ b.closed).eraseDups
        announced := (d.run.announced ++ b.announce).eraseDups } }
    else d))

/-- BARRIER_RELEASE_RX (R183, R214, R260): the release is taken and passed on to the children. -/
def execBarrierReleaseRx (f : Flit) (s : State) : Host.Outcome State Fault Refusal :=
  act (.barrierReleaseRx f) s (fun c => c.receiveControl f kindBarrier (fun d v =>
    let b := BarrierFlit.ofPayload v.payload
    if b.direction = 1 ∧ b.step = d.run.step ∧ !d.run.isRoot ∧ d.run.release = none then
      { d with
        run := { d.run with
          release := some b.tick
          closing := (d.run.closing ++ b.closed).eraseDups
          announced := (d.run.announced ++ b.announce).eraseDups }
        fab := { (((d.run.barrier.map (·.lanes)).getD []).foldl (fun g l => g.sendBarrier l b) d.fab) with isolated := false } }
    else d))

/-- BARRIER_ISOLATED_RX (R32, R262): a module above has lost its parent. -/
def execBarrierIsolatedRx (f : Flit) (s : State) : Host.Outcome State Fault Refusal :=
  act (.barrierIsolatedRx f) s (fun c => c.receiveControl f kindBarrier (fun d v =>
    if (BarrierFlit.ofPayload v.payload).direction = 2 then d.isolate else d))

/-! ### The time base (R263, R264, R448) -/

/-- Is this module the time root? (R263) -/
def S8.timeRoot (s : S8) : Bool := !s.hasTickParent

/-- A tick flit for a lane (R254, R263); tick counts in 1/16 tick. -/
def S8.tickFlit (s : S8) (lane tick16 : Nat) : Bytes :=
  let l := s.fab.lane lane
  controlData kindTick (leBytes 8 tick16 ++ leBytes 2 s.run.own ++
    leBytes 1 ((if s.timeRoot then 1 else 0) + (if s.fab.aligned then 2 else 0)) ++ zeros 1 ++
    leBytes 8 l.echoSend ++ leBytes 8 l.echoReceive)

/-- The lanes that carry tick flits: every lane in service, since a module cannot tell which lane a child takes its tick from; the
child's own answer goes on its tick parent's lane (R263; DESIGN CHOICE, log entry 40). -/
def S8.tickLanes (s : S8) : List Nat := (s.fab.lanes.filter (fun e => e.2.lit)).map (fun e => e.1)

/-- A lane's next tick slot, every 64th control slot, carries a tick flit (R252, R263). -/
def Fabric.tickSlot (f : Fabric) (n : Nat) (data : Bytes) : Fabric :=
  (f.setLane n { f.lane n with slot := roundUp 2048 (f.lane n).slot }).sendControl n [data]

/-- TICK_EXCHANGE (R263): every 64th control slot carries a tick flit. -/
def execTickExchange (tick16 : Nat) (s : State) : Host.Outcome State Fault Refusal :=
  act (.tickExchange tick16) s (fun c =>
    { c with fab := c.tickLanes.foldl (fun f l => f.tickSlot l (c.tickFlit l tick16)) c.fab })

/-- The tick master die (R448). -/
def S8.tickMaster (s : S8) : Nat :=
  if s.hasTickParent then s.dict.get Obj.tickParentLane / 9 else s.boot.coordinator

/-- The steering correction in ppb (R448): −o / (64 × I) − Σo / (4,096 × I), I = 5,242.88 ns, clamped to ±50 ppm. -/
def steering (o sum : Int) : Int := clampInt (-50000) 50000 (rneDiv (-(o * 64 + sum) * 10 ^ 8) (2 ^ 31))

/-- A tick flit of the tick parent (R263, R264, R448): latency and offset from the four timestamps, and the tick steered. -/
def S8.steer (s : S8) (lane : Nat) (t1 t2 t3 t4 : Int) : S8 :=
  let latency := ((t4 - t1) - (t3 - t2)) / 2
  let offset := ((t2 - t1) - latency) * 1000 / 16
  let sum := s.fab.offsetSum + offset
  let bad := 2000 < offset.natAbs
  let l := s.fab.lane lane
  { s with
    fab := { (s.fab.setLane lane { l with latency := latency.toNat }) with
      offset := offset
      offsetSum := sum
      aligned := !bad
      tickSet := s.fab.tickSet || s.run.running.isNone }
    clock := { s.clock with correction := SMap.put 0 s.clock.correction s.tickMaster (steering offset sum) }
    dict := s.dict.raise s.run.step Obj.tickAlignFaultCount 0 (if bad then 1 else 0) (unitField 6 lane) 0 }

/-- TICK_FLIT_RX (R263, R264, R448). The peer's count at arrival returns as EchoReceive; an exchange is complete once the
flit echoes one of ours. -/
def execTickFlitRx (f : Flit) (arrival16 : Nat) (s : State) : Host.Outcome State Fault Refusal :=
  act (.tickFlitRx f arrival16) s (fun c => c.receiveControl f kindTick (fun d v =>
    let n := f.lane.val
    let p := v.payload
    let d1 := { d with fab := d.fab.setLane n { d.fab.lane n with echoSend := leAt p 0 8, echoReceive := arrival16 } }
    if d.hasTickParent ∧ d.dict.get Obj.tickParentLane = n ∧ leAt p 12 8 ≠ 0 then
      d1.steer n (leAt p 0 8) arrival16 (leAt p 12 8) (leAt p 20 8)
    else d1))

/-! ### Training and bridges (R246, R250) -/

/-- The peer a trunk's live lanes report, none while none is live. -/
def Fabric.trunkPeer (f : Fabric) (d : Nat) : Option (Nat × Nat) :=
  ((trunkLanes d).find? (fun n => (f.lane n).lit)).map (fun n => ((f.lane n).peerModule, (f.lane n).peerDie))

/-- LANE_TRAINING (R250, R514): a lane trains and reports its peer. It enters service when that is the peer of all the trunk's live
lanes, lane n to lane n, and the far end reports the same pairing on all its live lanes (`agreed`); it keeps training while the far
end does not, and is held out of service as miswired when its peer differs. -/
def execLaneTraining (lane : LinkLane) (peerModule : PeerReport) (peerDie : Die) (peerLane : Fin 9) (latency16 : Nat)
    (s : State) : Host.Outcome State Fault Refusal :=
  act (.laneTraining lane peerModule peerDie peerLane latency16) s (fun c =>
    let n := lane.val
    let bad := peerLane.val ≠ n % 9 || (trunkLanes (n / 9)).any (fun m =>
      m ≠ n && (c.fab.lane m).lit && ((c.fab.lane m).peerModule, (c.fab.lane m).peerDie) ≠ (peerModule.number, peerDie.val))
    let serves := !bad && peerModule.agreed
    let l : LinkLaneState := { LinkLaneState.fresh with
      state := if bad then 5 else if !peerModule.agreed then 4 else if n % 9 = 8 then 1 else 0
      peerModule := peerModule.number
      peerDie := peerDie.val
      latency := latency16 }
    let fab := c.fab.setLane n l
    { c with
      fab := if serves then { fab with unbacked := eraseNat n fab.unbacked, trunksLost := eraseNat (n / 9) fab.trunksLost } else fab
      run := if serves then { c.run with farLost := c.run.farLost.filter (fun e => e ≠ (peerModule.number, peerDie.val)) } else c.run
      dict := c.dict.raise c.run.step Obj.trunkMiswireCount 0 (if bad then 1 else 0) (unitField 6 n) peerModule.number })

/-- BRIDGE_WIRE_FAIL (R213, R246): a spare wire group is assigned at the next boundary; with none left the bridge has failed. -/
def execBridgeWireFail (bridge : Fin 10) (s : State) : Host.Outcome State Fault Refusal :=
  act (.bridgeWireFail bridge) s (fun c =>
    let n := bridge.val
    let used := SMap.getD c.fab.groupsUsed n 0 + (c.fab.groupDue.filter (fun b => b = n)).length
    if c.fab.bridgesFailed.contains n then c
    else if used < Config.bridgeSpares n then { c with fab := { c.fab with groupDue := c.fab.groupDue ++ [n] } }
    else
      { c with
        fab := { c.fab with bridgesFailed := insertNat n c.fab.bridgesFailed }
        run := c.bridgeLoss n
        dict := c.dict.raise c.run.step Obj.bridgeFaultCount 0 1 (unitField 9 n) 0 })

/-- What a boundary does to the links (R246, R266): lanes bound to their spares, wire groups reassigned, arrivals of the step ended; the
lines start anew. -/
def Fabric.boundary (f : Fabric) : Fabric :=
  let bound := f.laneChanges.foldl (fun g e => g.setLane e.2 { g.lane e.2 with state := 2, replaces := e.1 + 1 }) f
  { bound with
    lanes := SMap.mapVal (fun _ l => { l with line := [] }) bound.lanes
    laneChanges := []
    groupsUsed := f.groupDue.foldl (fun m n => SMap.modify m n 0 (· + 1)) f.groupsUsed
    groupDue := []
    arriving := SMap.keep (fun k v => k / 65536 ≠ 72 && v.2.1 ≠ 0 && v.2.2.2 = none) f.arriving }

end Sys2Proof.Machine
end

