-- ==== Sys2Proof/Machine/LoadCheck.lean ====
section
/-! DEFINITION. The checks a make sheet passes when it is loaded, in the order of their reasons (R211). Each check answers the
index of the first faulty record within the section that holds it, or nothing. -/

namespace Sys2Proof.Machine

/-- The index of the first record that fails. -/
def firstBad {α : Type} (l : List α) (bad : α → Bool) : Option Nat := l.findIdx? bad

/-- A check of the sheet as a whole. -/
def wholeSheet (ok : Bool) : Option Nat := if ok then none else some 0

/-- The first of several findings. -/
def firstOf (l : List (Option Nat)) : Option Nat := l.findSome? id

/-- The vat a binding names. -/
def Binding.vat (b : Binding) : Nat := 2592 * b.die + 2304 * b.kind + b.num

/-! ### 0x001 to 0x003 -/

/-- 0x001: the sheet's SHA-256 is its entry of the digest list, and the list hashes to RunDigest (R180). -/
def S8.checkDigest (s : S8) (buffer : Nat) (bytes : Bytes) (sh : Sheet) : Option Nat :=
  wholeSheet (sha256 (sheetDigestBytes bytes) = bytesAt s.run.digestList (32 * (9 * sh.header.moduleIndex + buffer)) 32 &&
    sha256 s.run.digestList = sh.header.runDigest)

/-- The sheet loaded in a buffer. -/
def Run.loaded (r : Run) (buffer : Nat) : Option Sheet :=
  match SMap.find r.buffers buffer with
  | none => none
  | some b => if b.state = 3 then b.sheet else none

/-- 0x002: run, wheel and module agree, Kind and LostDie fit the buffer (R211), and the wheel version is READY (R364). A
degraded sheet agrees with the base sheet loaded beside it. -/
def S8.checkIdentity (s : S8) (buffer : Nat) (sh : Sheet) : Option Nat :=
  let h := sh.header
  let fits := if buffer = 0 then h.kind = 0 && h.lostDie = 0xFF else h.kind = 1 && h.lostDie + 1 = buffer
  let ready := s.wheels.table.any (fun w => w.wheelId = h.wheelId && w.version = h.wheelVersion && w.state = 2)
  let run := if buffer = 0 then true
    else match s.run.loaded 0 with
      | none => true
      | some b => b.header.runId = h.runId && b.header.wheelId = h.wheelId && b.header.wheelVersion = h.wheelVersion &&
          b.header.moduleIndex = h.moduleIndex
  wholeSheet (fits && ready && run && h.moduleIndex < 256 && 1 ≤ h.runModules && h.runModules ≤ 256)

/-- The re-home spare vats that the held versions' placement tables name for a lost die (R20, R357). -/
def S8.rehomeVats (s : S8) (die : Nat) : List Nat :=
  (s.wheels.table.filter (fun u => u.state ≠ 3)).flatMap (fun w => (w.placement.filter (fun p => p.lostDie = die)).map (fun p => vatOfWord p.vat))

/-- Does a router serve, so that what is attached to it can be named? (R237, R239) -/
def S8.routerServes (s : S8) (die half position : Nat) : Bool := !(s.routerRetired (80 * die + 40 * half + position))

/-- Does the router of a vat's rind unit serve? (R237, R239) -/
def S8.unitServes (s : S8) (u : Nat) : Bool := s.routerServes (u / 36) (u % 36 / 18) (2 * (u % 18))

/-- Is a vat one the sheet may name: backed, and a service number or a re-home number of its LostDie? (R20, R23, R239) -/
def S8.vatNameable (s : S8) (sh : Sheet) (vat : Nat) : Bool :=
  !(s.vats.unbacked.contains vat) && s.dieServes (vatDie vat) && vatDie vat ≠ sh.header.lostDie &&
    s.unitServes (unitOfVat (s.vats.physical vat)) &&
    (isServiceVat vat || (sh.header.kind = 1 && (s.rehomeVats sh.header.lostDie).contains vat))

/-- Is a core one the sheet may name? (R19, R20, R23, R239) -/
def S8.coreNameable (s : S8) (sh : Sheet) (c : CoreRef) : Bool :=
  c.num ≤ 31 && !(s.cores.unbacked.contains c.key) && s.dieServes c.die && c.die ≠ sh.header.lostDie &&
    s.routerServes c.die c.half (s.cores.physical c.key % 36)

/-- Is a Helca lane backed: in service, or replaced by its trunk's spare? (R23, R266) -/
def Fabric.laneBacked (f : Fabric) (n : Nat) : Bool :=
  !(f.unbacked.contains n) &&
    ((f.lane n).state = 0 || ((f.lane n).state = 3 && (f.lane (9 * (n / 9) + 8)).replaces = n + 1))

/-- Is the lane or bridge that a path names backed, off the lost die, at a router that serves, and no spare lane? (R20, R23, R211,
R239) -/
def S8.pathNameable (s : S8) (sh : Sheet) (bridge : Bool) (path : Nat) : Bool :=
  if bridge then
    path < 10 && bridgeHighDie path ≠ sh.header.lostDie && bridgeLowDie path ≠ sh.header.lostDie &&
      (if path < 6 then s.routerServes (bridgeLowDie path) 1 39 && s.routerServes (bridgeHighDie path) 0 39
       else [bridgeLowDie path, bridgeHighDie path].all (fun d => s.routerServes d 0 38 && s.routerServes d 1 38))
  else path < 72 && path % 9 ≠ 8 && path / 9 ≠ sh.header.lostDie && s.fab.laneBacked path &&
    s.routerServes (path / 9) (if path % 9 < 4 then 0 else 1) 37

/-- Is the unit of a tree entry backed, and off the lost die? (R119, R211) -/
def S8.treeNameable (s : S8) (sh : Sheet) (t : TreeEntry) : Bool :=
  if t.kind = 0 then true
  else
    s.dieServes t.die && t.die ≠ sh.header.lostDie &&
      (if t.kind = 1 then t.position < 18 && !(s.vats.unitsRetired.contains t.leafUnit) else t.position < 40) &&
      (if t.kind = 4 ∨ t.kind = 5 then s.pathNameable sh (32768 ≤ t.path) (t.path % 32768) else true)

/-- Do the bridges of a transfer's route begin with the one its Path names, and may the sheet name them all? (R211, R245) -/
def S8.routeNameable (s : S8) (sh : Sheet) (t : Transfer) : Bool :=
  if t.bridge then
    t.bridges.all (s.pathNameable sh true) &&
      (t.source.die = t.dest.die || (bridgesBetween t.source.die t.dest.die).head? = some t.path)
  else s.pathNameable sh false t.path

/-- 0x003: every unit the sheet names is backed and may be named (R20, R23, R119, R211). -/
def S8.checkUnits (s : S8) (sh : Sheet) : Option Nat :=
  let own (c : CoreRef) : Bool := s.coreNameable sh c
  firstOf
    [firstBad sh.bindings (fun b => !(s.vatNameable sh b.vat)),
     firstBad sh.reductions (fun r => !(own r.outCore)),
     firstBad sh.tasks (fun t => !(own t.core)),
     firstBad sh.transfers (fun t => (t.destModule = sh.header.moduleIndex && !(own t.dest)) ||
       ((t.bridge || t.destModule ≠ sh.header.moduleIndex) && !(own t.source)) || !(s.routeNameable sh t)),
     firstBad sh.groups (fun g => !(own g.core)),
     firstBad sh.barrier (fun b => (b.parent ≠ 0xFFFF && !(s.pathNameable sh false b.parentLane)) ||
       !(b.lanes.all (s.pathNameable sh false))),
     firstBad sh.trees (fun t => !(s.treeNameable sh t)),
     firstBad sh.attention (fun a => !(own a.queryCore) || !(own a.outCore) ||
       a.nodes.any (fun n => n.die ≠ sh.header.lostDie && !(own n)) ||
       halves.any (fun h => s.halfServes h && h / 2 ≠ sh.header.lostDie && !(s.routerServes (h / 2) (h % 2) 36))),
     firstBad sh.places (fun p => (p.vats.take p.roles).any (fun w => !(s.vatNameable sh (vatOfWord w))))]

/-! ### 0x004 to 0x007: plans and instructions -/

/-- The slots of a plan by kind: 96 lane slots, 24 reserve, 8 maintenance, each at least 400 ticks after the one before
(R66). -/
def planFits (p : List SlotEntry) : Bool :=
  (p.filter (fun e => e.kind = 0)).length = 96 && (p.filter (fun e => e.kind = 1)).length = 24 &&
    (p.filter (fun e => e.kind = 2)).length = 8 &&
    (List.range 127).all (fun i => 16 * (p.getD i ⟨3, 0, 0⟩).start + 400 ≤ 16 * (p.getD (i + 1) ⟨3, 0, 0⟩).start)

/-- 0x004: slot plans and offsets (R66, R186): every plan ends in time, and with its offset where a binding gives it one. -/
def checkPlans (sh : Sheet) : Option Nat :=
  firstOf
    [firstBad sh.plans (fun p => !(planFits p) || sh.header.plannedDone < 16 * (p.getD 127 ⟨3, 0, 0⟩).start + 480),
     firstBad sh.bindings (fun b => sh.plans.length ≤ b.plan || 49 < b.offset ||
       sh.header.plannedDone < sh.slotStart b 127 + 480)]

/-- The faulty instruction of a binding: malformed, out of slot order, or naming another vat (R79, R203, R211). -/
def S8.badInstr (s : S8) (sh : Sheet) (b : Binding) : Option Nat :=
  let l := sh.bindingInstrs b
  (l.zipIdx.find? (fun e =>
    e.1.malformedForm (some sh) b.die (sh.slotKind b e.1.slot)
      (if e.1.slot < 127 then some (sh.slotKind b (e.1.slot + 1)) else none) e.1.slot true || e.1.target b.die ≠ b.vat ||
      s.vats.unbacked.contains b.vat ||
      (e.2 ≠ 0 && e.1.slot ≤ (l.getD (e.2 - 1) e.1).slot))).map (fun e => b.first + e.2)

/-- An instruction that lies in no binding's range and is malformed in itself, whatever its vat's plan and die (R79). -/
def Sheet.badLoose (sh : Sheet) : Option Nat :=
  (sh.instrs.zipIdx.find? (fun e =>
    !(sh.bindings.any (fun b => b.first ≤ e.2 && e.2 < b.first + b.count)) &&
      e.1.malformedForm (some sh) 0 e.1.slotKind (if e.1.slot < 127 then some e.1.slotKind else none) e.1.slot true)).map (·.2)

/-- 0x005: no malformed instruction; a binding holds at most 128, within the section (R79, R211). -/
def S8.checkInstrs (s : S8) (sh : Sheet) : Option Nat :=
  (sh.bindings.findSome? (fun b =>
    if 128 < b.count ∨ sh.instrs.length < b.first + b.count then some b.first else s.badInstr sh b)).or sh.badLoose

/-- Does an instruction only fill the second slot of the pour before it: a double pour's second, or a reverse pour's? -/
def secondSlot (before p : PourInstr) : Bool :=
  p.slot = before.slot + 1 && p.lane = before.lane &&
    ((before.average = 1 && p.average = 2) || (before.direction = 1 && p.direction = 1))

/-- The instructions that place a pour: a double or reverse pour is placed by its first slot (R123). -/
def Sheet.placedPours (sh : Sheet) (b : Binding) : List (PourInstr × Nat) :=
  let l := sh.bindingInstrs b
  l.zipIdx.filter (fun e => e.2 = 0 || !(secondSlot (l.getD (e.2 - 1) e.1) e.1))

/-- The last slot of a placed pour. -/
def Sheet.lastSlot (sh : Sheet) (b : Binding) (p : PourInstr) : Nat :=
  if p.direction = 1 then p.slot + 1
  else if (sh.bindingInstrs b).any (fun q => secondSlot p q) then p.slot + 1 else p.slot

/-- 0x006: lane slots serve strictly ascending lanes (R123); an expert vat's lanes are the route task's. -/
def checkLaneOrder (sh : Sheet) : Option Nat :=
  sh.bindings.findSome? (fun b =>
    if b.expert then none
    else
      let l := sh.placedPours b
      (l.zipIdx.find? (fun e => e.2 ≠ 0 && e.1.1.lane ≤ (l.getD (e.2 - 1) e.1).1.lane)).map (fun e => b.first + e.1.2))

/-- The bindings whose pours a vat can take: its own, or its template's for a culture place (R373). -/
def Sheet.poursOf (sh : Sheet) (b : Binding) : Binding :=
  (sh.bindingOf (sh.templateOf b.vat)).getD b

/-- The physical unit that serves a binding's vat (R88). -/
def S8.bindingUnit (s : S8) (b : Binding) : Nat := unitOfVat (s.vats.physical b.vat)

/-- The (reduction, lane) sets that a binding's pours open, forward and reverse: an expert slot stands for a lane of its own (R80, R99,
R198). -/
def Sheet.setsOf (sh : Sheet) (b : Binding) : List (Nat × Nat) :=
  (sh.placedPours (sh.poursOf b)).map (fun e => (e.1.reduction, if b.expert then 128 + e.1.slot else e.1.lane))

/-- Accumulators open on a unit at once: sets stay open to the step's end (R80), each with its reduction's Width (R118). -/
def S8.openAccumulators (s : S8) (sh : Sheet) (u : Nat) : Nat :=
  (((sh.bindings.filter (fun b => s.bindingUnit b = u)).flatMap sh.setsOf).eraseDups).foldl
    (fun a e => a + ((sh.reduction e.1).map (·.width)).getD 0) 0

/-- What happens in one slot to the lanes waiting on a vat when every vector is flagged: the waiting lanes' hold starts and
the holds that ended (R124, R187). -/
structure HoldWalk where
  waiting : List Nat
  ended : List (Nat × Nat)
  deriving DecidableEq, Repr

/-- Release a lane: it counts as held until 160 ticks after its release, which is no earlier than its hold (R125, R187). -/
def releaseHold (start decision : Nat) : Nat × Nat := (start, max decision start + 160)

/-- The holds of a binding's vat with every lane slot active and every vector flagged (R187). -/
def Sheet.holdsOf (sh : Sheet) (b : Binding) : List (Nat × Nat) :=
  let p := sh.poursOf b
  let pours := (sh.placedPours p).filter (fun e => e.1.direction = 0)
  let reserves := (List.range 128).filter (fun i => sh.slotKind b i = 1)
  let w := (List.range 128).foldl (fun (h : HoldWalk) i =>
    if sh.slotKind b i = 1 then
      let at_ := sh.slotStart b i
      let left := (reserves.filter (fun r => i < r)).length
      let granted := (h.waiting.take 1).map (fun st => (st, at_ + 640))
      let rest := h.waiting.drop 1
      { waiting := rest.take left
        ended := h.ended ++ granted ++ (rest.drop left).map (fun st => releaseHold st (at_ - 192)) }
    else
      match pours.find? (fun e => e.1.slot = i) with
      | none => h
      | some e =>
        let start := sh.slotStart b (sh.lastSlot p e.1) + 480
        if reserves.any (fun r => i < r) then { h with waiting := h.waiting ++ [start] }
        else { h with ended := h.ended ++ [releaseHold start start] })
    { waiting := [], ended := [] }
  w.ended ++ w.waiting.map (fun st => releaseHold st st)

/-- The most results held at once on a unit (R118, R187). -/
def S8.peakHeld (s : S8) (sh : Sheet) (u : Nat) : Nat :=
  let holds := (sh.bindings.filter (fun b => s.bindingUnit b = u)).flatMap sh.holdsOf
  (holds.map (fun h => (holds.filter (fun g => g.1 ≤ h.1 && h.1 < g.2)).length)).foldl max 0

/-- 0x007: accumulators and held results of every unit (R118, R187); the record is the first binding of the unit. -/
def S8.checkLimits (s : S8) (sh : Sheet) : Option Nat :=
  firstBad sh.bindings (fun b => 98304 < s.openAccumulators sh (s.bindingUnit b) || 64 < s.peakHeld sh (s.bindingUnit b))

/-! ### Placed traffic and R521 -/

/-- The routers a flit crosses from one place to another: along the row, then along the column (R239). -/
def routeOf (a b : Nat × Nat) : List (Nat × Nat) :=
  let cols := if a.2 ≤ b.2 then (List.range (b.2 - a.2 + 1)).map (a.2 + ·) else (List.range (a.2 - b.2 + 1)).map (a.2 - ·)
  let rows := if a.1 ≤ b.1 then (List.range (b.1 - a.1)).map (a.1 + 1 + ·) else (List.range (a.1 - b.1)).map (a.1 - 1 - ·)
  cols.map (fun c => (a.1, c)) ++ rows.map (fun r => (r, b.2))

/-- The links of a route: consecutive routers. -/
def linksOf (die : Nat) (route : List (Nat × Nat)) : List (Nat × Nat) :=
  (route.zip (route.drop 1)).map (fun e => (routerKey die e.1, routerKey die e.2))

/-- Placed traffic on VC0: the edge it is, by its reduction and tree entry where it is one, its links, the ticks between which it is
under way, and its flits (R238). -/
structure Flow where
  edge : Option (Nat × Nat)
  links : List (Nat × Nat)
  start : Nat
  stop : Nat
  flits : Nat
  deriving DecidableEq, Repr

/-- The router place of a tree entry: a leaf's unit stands at twice its number (R237). -/
def TreeEntry.grid (t : TreeEntry) : Nat × Nat := gridOf t.half (if t.kind = 1 then 2 * t.position else t.position)

/-- The lanes whose partials a reduction carries: those that pours of the sheet add to, and those that its receives bring (R247). -/
def Sheet.reductionLanes (sh : Sheet) (r : Reduction) : Nat :=
  let own := (sh.bindings.flatMap sh.setsOf).filterMap (fun e => if e.1 = r.number then some e.2 else none)
  let brought := ((sh.treeOf r).filter (fun e => e.2.kind = 5)).flatMap (fun e =>
    (List.range 96).filter (fun lane => (sh.partialTransfer e.2.transfer lane).isSome))
  (own ++ brought).eraseDups.length

/-- Flits of the partials of all lanes of a reduction on a mesh edge (R248). -/
def Sheet.edgeFlits (sh : Sheet) (r : Reduction) : Nat := (ceilDiv r.width 4 + 1) * sh.reductionLanes r

/-- Fabric cycles as ticks, rounded up (R521). -/
def cycleTicks (cycles : Nat) : Nat := ceilDiv (2 * cycles) 3

/-- The ready tick of each entry of a tree, the entries taken `fuel` levels deep (R521): `other` is the number of flits of
other placed traffic on the links of an entry's edge, in use from a tick on. -/
def S8.readyTick (s : S8) (sh : Sheet) (r : Reduction) (other : Nat → List (Nat × Nat) → Nat → Nat → Nat) (fuel node : Nat) : Nat :=
  match fuel with
  | 0 => r.readTick
  | fuel + 1 =>
    match sh.treeEntry r node with
    | none => r.readTick
    | some t =>
      if t.kind = 1 then r.readTick
      else if t.kind = 5 then ((sh.transfers[t.transfer]?).map (·.endTick)).getD r.readTick
      else
        ((sh.treeChildren r node).map (fun c =>
          let ready := s.readyTick sh r other fuel c.1
          let route := routeOf c.2.grid t.grid
          let through := ((route.drop 1).dropLast).filter (fun g => s.routerRetired (routerKey t.die g))
          let own := 2 * route.length + through.length + sh.edgeFlits r
          ready + cycleTicks (own + other c.1 (linksOf t.die route) ready (ready + cycleTicks own)))).foldl max r.readTick

/-- Levels a tree can have. -/
def Sheet.treeFuel (sh : Sheet) (r : Reduction) : Nat := (sh.treeOf r).length + 1

/-- The edges of a reduction's tree as flows, without the delay that other traffic adds. -/
def S8.treeFlows (s : S8) (sh : Sheet) (r : Reduction) : List Flow :=
  (sh.treeOf r).filterMap (fun e =>
    match sh.treeEntry r e.2.parent with
    | none => none
    | some p =>
      let route := routeOf e.2.grid p.grid
      let ready := s.readyTick sh r (fun _ _ _ _ => 0) (sh.treeFuel r) e.1
      some { edge := some (r.number, e.1), links := linksOf p.die route, start := ready,
             stop := ready + cycleTicks (2 * route.length + sh.edgeFlits r), flits := sh.edgeFlits r })

/-- The grid place of a core: at its own number's position (R237). -/
def CoreRef.grid (c : CoreRef) : Nat × Nat := gridOf c.half c.num

/-- The routes of a transfer that crosses bridges, die by die: from a place to each bridge in turn, then to the destination core
(R243, R245). -/
def bridgeRoutes (bridges : List Nat) (die half : Nat) (place goal : Nat × Nat) : List (Nat × List (Nat × Nat)) :=
  match bridges with
  | [] => [(die, routeOf place goal)]
  | b :: rest =>
    let gate := attachGrid true b die half
    let across := bridgeAcross b die
    let exit := attachGrid true b across half
    (die, routeOf place gate) :: bridgeRoutes rest across (if exit.2 < 5 then 0 else 1) exit goal

/-- The routes of a transfer within this module: die and routers crossed (R239, R245). -/
def Sheet.transferRoutes (sh : Sheet) (t : Transfer) : List (Nat × List (Nat × Nat)) :=
  if t.bridge then bridgeRoutes t.bridges t.source.die t.source.half t.source.grid t.dest.grid
  else
    let port (die : Nat) := attachGrid false t.path die 0
    (if t.destModule ≠ sh.header.moduleIndex then [(t.source.die, routeOf t.source.grid (port t.source.die))]
     else [(t.dest.die, routeOf (port t.dest.die) t.dest.grid)])

/-- The route of a vat sequencer's fetch: from the core to the vat's rind unit (R68, R238). -/
def S8.fetchRoute (s : S8) (b : Binding) (p : PourInstr) : List (Nat × Nat) :=
  let u := s.bindingUnit b
  routeOf (gridOf p.coreHalf p.coreNum) (gridOf (u % 36 / 18) (2 * (u % 18)))

/-- Transfers and sequencer fetches as flows (R238). -/
def S8.otherFlows (s : S8) (sh : Sheet) : List Flow :=
  sh.transfers.map (fun t =>
    { edge := none, links := (sh.transferRoutes t).flatMap (fun e => linksOf e.1 e.2), start := t.startTick, stop := t.endTick,
      flits := ceilDiv t.length 64 }) ++
  sh.bindings.flatMap (fun b =>
    (sh.bindingInstrs b).map (fun p =>
      { edge := none, links := linksOf b.die (s.fetchRoute b p), start := sh.slotStart b p.slot - 192, stop := sh.slotStart b p.slot,
        flits := 8 * (if b.kind = 1 then 3 else 5) }))

/-- Flits of the flows, apart from an edge's own, that share a link with the edge while it is in use (R521). -/
def flitsOn (flows : List Flow) (edge : Nat × Nat) (links : List (Nat × Nat)) (start stop : Nat) : Nat :=
  (flows.filter (fun f => f.edge ≠ some edge && f.start < stop && start < f.stop && f.links.any (fun l => links.contains l))).foldl
    (fun a f => a + f.flits) 0

/-- All placed traffic of a sheet: the edges of its trees, its transfers and its fetches (R238, R521). -/
def S8.placedFlows (s : S8) (sh : Sheet) : List Flow :=
  (sh.reductions.filter (fun q => !q.carry)).flatMap (s.treeFlows sh) ++ s.otherFlows sh

/-- Where placed traffic turns from its row to a column: neither end of the route is a turn (R239). -/
def turnOf (route : List (Nat × Nat)) : Option (Nat × Nat) :=
  match route.head?, route.getLast? with
  | some a, some b => if a.1 ≠ b.1 ∧ a.2 ≠ b.2 then some (a.1, b.2) else none
  | _, _ => none

/-- Does no placed traffic of a route turn at a retired router? (R239) -/
def S8.turnServes (s : S8) (die : Nat) (route : List (Nat × Nat)) : Bool :=
  match turnOf route with
  | none => true
  | some g => !(s.routerRetired (routerKey die g))

/-- A tree's worst-case delivery tick (R521): the root's, then four core cycles at floor clock for each row of each lane;
for a part without a root, its last send's. -/
def S8.deliveryTick (s : S8) (sh : Sheet) (r : Reduction) : Nat :=
  let flows := s.placedFlows sh
  let ready (n : Nat) := s.readyTick sh r (fun e => flitsOn flows (r.number, e)) (sh.treeFuel r) n
  let rows := (ceilDiv r.width 32 + 1) * sh.reductionLanes r
  ((sh.treeOf r).map (fun e =>
    if e.2.kind = 3 then ready e.1 + ceilDiv (40 * rows) 17 else if e.2.kind = 4 then ready e.1 else 0)).foldl max 0

/-- Is a send ready no later than its transfer starts? (R521 step 4) -/
def S8.sendsInTime (s : S8) (sh : Sheet) (r : Reduction) : Bool :=
  let flows := s.placedFlows sh
  (sh.treeOf r).all (fun e => e.2.kind ≠ 4 ||
    s.readyTick sh r (fun c => flitsOn flows (r.number, c)) (sh.treeFuel r) e.1 ≤
      ((sh.transfers[e.2.transfer]?).map (·.startTick)).getD 0)

/-! ### 0x008: reductions -/

/-- The bindings that contribute to a reduction. -/
def Sheet.contributors (sh : Sheet) (r : Reduction) : List Binding :=
  sh.bindings.filter (fun b => (sh.bindingInstrs (sh.poursOf b)).any (fun p => p.reduction = r.number))

/-- N × K is within both bounds (R133), and the fields lie in their ranges (R131). -/
def Reduction.bounded (r : Reduction) : Bool :=
  -48 ≤ r.grid && r.grid ≤ 47 && 1 ≤ r.limit && r.limit ≤ 2 ^ 63 && 1 ≤ r.contributions && 1 ≤ r.width && r.width ≤ 2048 &&
    r.contributions * r.limit ≤ 2 ^ 63 - 1 &&
    (if 47 ≤ r.grid then false else r.contributions * r.limit ≤ 2 ^ (47 - r.grid).toNat - 1)

/-- ReadTick is no earlier than tick 640 of the latest lane or reserve slot of every vat that contributes (R135). -/
def Sheet.readInTime (sh : Sheet) (r : Reduction) : Bool :=
  (sh.contributors r).all (fun b =>
    (List.range 128).all (fun i => 1 < sh.slotKind b i || sh.slotStart b i + 640 ≤ r.readTick))

/-- The pours of a unit into one set: effective start of the first slot, and Accumulate (R81). -/
def S8.setPours (s : S8) (sh : Sheet) (u reduction lane : Nat) : List (Nat × Nat) :=
  (sh.bindings.filter (fun b => s.bindingUnit b = u)).flatMap (fun b =>
    ((sh.placedPours (sh.poursOf b)).filter (fun e => e.1.reduction = reduction &&
      (if b.expert then 128 + e.1.slot else e.1.lane) = lane)).map (fun e => (sh.slotStart b e.1.slot, e.1.accumulate)))

/-- R81 for one set: exactly one Accumulate 0 pour, 16 ticks before the first of the others. A set of culture vats alone has
none (R373). -/
def overwriteFirst (pours : List (Nat × Nat)) (cultureOnly : Bool) : Bool :=
  match pours.filter (fun p => p.2 = 0) with
  | [z] => pours.all (fun p => p.2 = 0 || z.1 + 16 ≤ p.1)
  | [] => cultureOnly
  | _ => false

/-- The units and lanes a reduction's sets lie on. -/
def S8.setPlaces (s : S8) (sh : Sheet) (r : Reduction) : List (Nat × Nat) :=
  ((sh.contributors r).flatMap (fun b =>
    ((sh.setsOf b).filter (fun e => e.1 = r.number)).map (fun e => (s.bindingUnit b, e.2)))).eraseDups

/-- The unit's restores or saves in the order of its queue: carried reductions ascending, lanes ascending (R138). -/
def S8.carryQueue (s : S8) (sh : Sheet) (u : Nat) : List (Nat × Nat × Nat) :=
  (sortBy (fun (a b : Reduction) => a.number < b.number) (sh.reductions.filter (·.carry))).flatMap (fun r =>
    (List.range 224).filterMap (fun lane =>
      if (s.setPlaces sh r).contains (u, lane) then some (r.number, lane, r.readTick) else none))

/-- One save of a unit's queue, 128 ticks (R138): of the saves whose ReadTick has come the first in the queue's order, and with none
the queue waits for the earliest. -/
def nextSave (free : Nat) (queue : List (Nat × Nat × Nat)) : Nat × List (Nat × Nat × Nat) :=
  let earliest := (queue.map (fun e => e.2.2)).foldl min ((queue.map (fun e => e.2.2)).headD 0)
  let start := max free earliest
  match queue.find? (fun e => e.2.2 ≤ start) with
  | none => (free, [])
  | some e => (start + 128, queue.erase e)

/-- The end tick of a unit's last save, the queue's saves coming after its restores (R138; DEDUCED, log entry 33: a lower-numbered
reduction whose ReadTick is later does not keep the queue idle). -/
def saveEnds (queue : List (Nat × Nat × Nat)) : Nat :=
  ((List.range queue.length).foldl (fun (a : Nat × List (Nat × Nat × Nat)) _ => nextSave a.1 a.2) (128 * queue.length, queue)).1

/-- A carried reduction's conditions (R138): Accumulate 1 throughout, codes after the restore's end, saves within the step. -/
def S8.carryFits (s : S8) (sh : Sheet) (r : Reduction) : Bool :=
  (s.setPlaces sh r).all (fun e =>
    let queue := s.carryQueue sh e.1
    let place := (queue.findIdx? (fun q => q.1 = r.number && q.2.1 = e.2)).getD 0
    (s.setPours sh e.1 r.number e.2).all (fun p => p.2 = 1 && 128 * (place + 1) < p.1 + 480) &&
      saveEnds queue ≤ sh.header.plannedDone)

/-- 0x008: R81, R133, R135 and R138. -/
def S8.checkReductions (s : S8) (sh : Sheet) : Option Nat :=
  firstBad sh.reductions (fun r =>
    !r.bounded || !(sh.readInTime r) || 4094 < r.number || 1 < (sh.reductions.filter (fun q => q.number = r.number)).length ||
      (if r.carry then !(s.carryFits sh r)
       else
         sh.header.plannedDone < s.deliveryTick sh r || !(s.sendsInTime sh r) ||
           (s.setPlaces sh r).any (fun e =>
             !(overwriteFirst (s.setPours sh e.1 r.number e.2)
               ((sh.contributors r).all (fun b => s.bindingUnit b ≠ e.1 || b.kind = 1))))))

/-! ### 0x009 to 0x00F -/

/-- 0x009: the planned step fits the step bound (R184). -/
def checkLength (sh : Sheet) : Option Nat :=
  wholeSheet (sh.header.plannedDone + sh.header.barrierLead + 15 ≤ 65536)

/-- The reserve slots after a slot of a binding's vat. -/
def Sheet.reservesAfter (sh : Sheet) (b : Binding) (slot : Nat) : List Nat :=
  (List.range 128).filter (fun i => slot < i && sh.slotKind b i = 1)

/-- The most lower lanes that can be waiting at a slot, under any pattern of trips (R124, R188). -/
def Sheet.backlog (sh : Sheet) (b : Binding) (slot : Nat) : Nat :=
  let pours := (sh.placedPours (sh.poursOf b)).filter (fun e => e.1.direction = 0)
  (List.range slot).foldl (fun w i =>
    if sh.slotKind b i = 1 then min (w - 1) (sh.reservesAfter b i).length
    else if pours.any (fun e => e.1.slot = i) then w + 1 else w) 0

/-- The latest tick at which a pour's vector can be read with its flag set (R188). -/
def Sheet.lastRead (sh : Sheet) (b : Binding) (p : PourInstr) : Nat :=
  let high := sh.slotStart b (sh.lastSlot (sh.poursOf b) p) + 640
  match ((sh.reservesAfter b p.slot).take (sh.backlog b p.slot + 1)).getLast? with
  | none => high
  | some r => max high (sh.slotStart b r)

/-- Rows of one lane's vector: five, or three for a culture vat (R49, R68). -/
def PourInstr.vectorRowCount (p : PourInstr) : Nat := if p.vatKind = 1 then 3 else 5

/-- The core an instruction names. -/
def PourInstr.core (p : PourInstr) (die : Nat) : CoreRef := { die := die, half := p.coreHalf, num := p.coreNum }

/-- Rows that a kind-0 task writes for one lane: three where a culture vat's instruction reads them, else five. -/
def Sheet.vectorRowsOf (sh : Sheet) (t : CoreTask) : Nat :=
  if sh.bindings.any (fun b => b.kind = 1 && (sh.bindingInstrs b).any (fun p =>
    p.core b.die = t.core && t.outputRow ≤ p.row && p.row < t.outputRow + 3 * t.laneCount &&
      (p.row - t.outputRow) % 3 = 0 && t.firstLane + (p.row - t.outputRow) / 3 = p.lane)) then 3 else 5

/-- The task that builds a pour's vector (R188): of kind 0, or of kind 7 for a reverse pour (R389), on the core, covering the lane,
writing at the row. -/
def Sheet.producer (sh : Sheet) (die : Nat) (p : PourInstr) : Option (CoreTask × Nat) :=
  sh.tasks.zipIdx.find? (fun e =>
    e.1.core = p.core die && e.1.firstLane ≤ p.lane && p.lane < e.1.firstLane + e.1.laneCount &&
      ((e.1.kind = 0 && e.1.outputRow + p.vectorRowCount * (p.lane - e.1.firstLane) = p.row) ||
       (p.direction = 1 && e.1.kind = 7 &&
         e.1.outputRow + Config.routineOutputs 7 e.1.routine e.1.argument * (p.lane - e.1.firstLane) = p.row)))

/-- Rows that a task writes for one lane (R205): a pour vector, a rounded result in the longer of its two formats, what the wheel's
routine writes, or a staged payload; an attention task's rows are the attention record's, and a route task patches slots. -/
def Sheet.taskRows (sh : Sheet) (t : CoreTask) : Nat :=
  match t.kind with
  | 0 => sh.vectorRowsOf t
  | 1 => (sh.reductions.filter (fun r => r.outCore = t.core && r.phase = t.phase)).foldl
      (fun n r => max n (max (ceilDiv (2 * r.width) 512) (splitLength (roundUp 32 r.width) / 512))) 0
  | 2 => Config.routineOutputs 2 t.routine t.argument
  | 6 => Config.routineOutputs 6 t.routine t.argument
  | 7 => Config.routineOutputs 7 t.routine t.argument
  | 9 => (sh.transfers.filter (fun x => x.kind = 1 && x.source = t.core)).foldl (fun n x => max n (ceilDiv x.length 512)) 0
  | _ => 0

/-- Rows of a core written from tick to tick: what the placed records say is written (R188). -/
def Sheet.rowWrites (sh : Sheet) (core : CoreRef) : List (Nat × Nat × Nat × Nat × Option Nat) :=
  (sh.tasks.zipIdx.filter (fun e => e.1.core = core)).map (fun e =>
    (e.1.outputRow, sh.taskRows e.1 * e.1.laneCount, e.1.startTick, e.1.endTick, some e.2)) ++
  (sh.attention.filter (fun a => a.outCore = core)).map (fun a =>
    (a.outRow, (1 + (if a.w16 then 2 * a.heads else splitLength (512 * a.heads) / 512)) * sh.header.lanes, a.partialTick, 65536, none)) ++
  (sh.reductions.filter (fun r => r.outCore = core && !r.carry)).map (fun r =>
    (r.outRow, (ceilDiv r.width 32 + 1) * sh.reductionLanes r, r.readTick, 65536, none)) ++
  (sh.transfers.filter (fun t => t.dest = core && t.destModule = sh.header.moduleIndex && t.kind ≠ 0)).map (fun t =>
    (t.destRow, ceilDiv t.length 512, t.startTick, t.endTick, none))

/-- Are a pour's vector rows built in time and left alone while they can be read? (R188) -/
def Sheet.vectorKept (sh : Sheet) (b : Binding) (p : PourInstr) : Bool :=
  match sh.producer b.die p with
  | none => false
  | some (t, i) =>
    t.endTick + 193 ≤ sh.slotStart b p.slot &&
      (sh.rowWrites (p.core b.die)).all (fun w =>
        w.2.2.2.2 = some i || w.1 + w.2.1 ≤ p.row || p.row + p.vectorRowCount ≤ w.1 ||
          w.2.2.2.1 ≤ t.endTick || sh.lastRead b p ≤ w.2.2.1)

/-- 0x00A: the producers and rows of pour vectors (R188); an expert slot's row is the route task's. -/
def checkVectors (sh : Sheet) : Option Nat :=
  sh.bindings.findSome? (fun b =>
    if b.expert then none
    else ((sh.placedPours b).find? (fun e => !(sh.vectorKept b e.1))).map (fun e => b.first + e.2))

/-- The turnaround T (R191), and T_K on a track of span K (R196). -/
def Sheet.turnaround (sh : Sheet) (span : Nat) : Nat :=
  sh.header.phases + sh.header.entrySteps + sh.header.attentionPhases * (span - 1)

/-- The class I stride of a turnaround (R192). -/
def strideOf (t : Nat) : Nat := 16 * ceilDiv t 16

/-- Is a track record as R192, R196 and R207 require? -/
def Sheet.trackFits (sh : Sheet) (t : Track) : Bool :=
  let long := sh.header.lanes ≤ t.number + sh.header.longTracks
  let s := (if t.kind % 2 = 0 then 1 else 4) * strideOf (sh.turnaround t.span)
  t.kind < 4 && t.number < sh.header.lanes && (long ↔ 2 ≤ t.kind) &&
    (if long then 2 ≤ t.span && t.span ≤ 64 && t.residues = s / t.span else t.span = 1 && t.residues = s) && t.stride = s

/-- 0x00B: strides and track records (R192, R196). -/
def checkTracks (sh : Sheet) : Option Nat :=
  let h := sh.header
  firstOf
    [wholeSheet (h.strideI = strideOf (sh.turnaround 1) && h.strideS = 4 * h.strideI && 1 ≤ h.entrySteps && h.entrySteps ≤ 15 &&
       1 ≤ h.lanes && h.lanes ≤ 96 && h.longTracks ≤ 32 && h.longTracks ≤ h.lanes),
     firstBad sh.tracks (fun t => !(sh.trackFits t) || 1 < (sh.tracks.filter (fun u => u.number = t.number)).length),
     wholeSheet (sh.tracks.length = h.lanes)]

/-- 0x00C: an averaged vat serves at most 48 lanes (R76). -/
def checkAveraged (sh : Sheet) : Option Nat :=
  firstBad sh.bindings (fun b => b.averaged && 48 < ((sh.bindingInstrs b).map (·.lane)).eraseDups.length)

/-- 0x00D: no task's Atomic is above 16. -/
def checkAtomic (sh : Sheet) : Option Nat := firstBad sh.tasks (fun t => 16 < t.atomic)

/-- 0x00E: the estimate is within PowerCap (R200): µJ a tick are kW, PowerCap is in W. -/
def S8.checkEstimate (s : S8) (sh : Sheet) : Option Nat :=
  wholeSheet ((sh.estimates.foldl (fun a e => a + e.step) 0) * 1000 ≤
    s.dict.get Obj.powerCap * (sh.header.minDone + sh.header.barrierLead))

/-- A track record without its DieMask. -/
def Track.unmasked (t : Track) : Track := { t with dieMask := 0 }

/-- A transfer record without its SourceCore and a path over a die bridge (R211 0x00F). -/
def Transfer.outward (t : Transfer) : Transfer :=
  { t with source := ⟨0, 0, 0⟩, path := if t.bridge then 0 else t.path }

/-- Does the sheet serve a lane: its track's DieMask has the lost die's bit clear? (R207, R214) -/
def Sheet.servesLane (sh : Sheet) (lane : Nat) : Bool :=
  sh.tracks.any (fun t => t.number = lane && field t.dieMask sh.header.lostDie 1 = 0)

/-- 0x00F: a degraded sheet against its base sheet (R211). -/
def S8.checkDegraded (s : S8) (sh : Sheet) : Option Nat :=
  if sh.header.kind ≠ 1 then none
  else
    match s.run.loaded 0 with
    | none => none
    | some b =>
      let g := b.header
      let h := sh.header
      let others (l : List Transfer) := l.filter (fun t => t.destModule ≠ h.moduleIndex)
      let wanted := ((others b.transfers).filter (fun t => sh.servesLane t.lane)).map Transfer.outward
      let held := (others sh.transfers).map Transfer.outward
      firstOf
        [wholeSheet (h.lanes = g.lanes && h.longTracks = g.longTracks && h.entrySteps = g.entrySteps && h.phases = g.phases &&
           h.firstPhase = g.firstPhase && h.lastPhase = g.lastPhase && h.strideI = g.strideI && h.strideS = g.strideS),
         firstBad sh.tracks (fun t => !(b.tracks.any (fun u => u.unmasked = t.unmasked))),
         firstBad sh.transfers (fun t => t.destModule ≠ h.moduleIndex && !(wanted.contains t.outward)),
         wholeSheet (wanted.all held.contains)]

/-! ### 0x010 to 0x014 -/

/-- Is a tree entry's operand count right, and does it use no retired router, as a node or where its edge turns, and no
failed bridge? (R239, R247, R248) -/
def S8.entryFits (s : S8) (sh : Sheet) (r : Reduction) (e : Nat × TreeEntry) : Bool :=
  let kids := (sh.treeChildren r e.1).length
  let t := e.2
  let place := routerKey t.die t.grid
  !(s.routerRetired place) &&
    (if t.kind = 1 then kids = 0
     else if t.kind = 2 then kids = t.operands && 2 ≤ t.operands && t.operands ≤ 4
     else if t.kind = 3 then kids = t.operands && 1 ≤ t.operands && t.operands ≤ 4 && t.parent = 0xFFFF
     else if t.kind = 4 then kids = 1 && t.operands = 1 && t.parent = 0xFFFF
     else if t.kind = 5 then kids = 0
     else false) &&
    (if t.kind = 3 ∨ t.kind = 4 then true
     else
       match sh.treeEntry r t.parent with
       | none => false
       | some p => p.kind = 2 || p.kind = 3 || p.kind = 4) &&
    (if t.kind = 4 ∨ t.kind = 5 then
       (match sh.transfers[t.transfer]? with
        | none => false
        | some x => x.kind = 0 && (if x.bridge then 32768 else 0) + x.path = t.path) &&
       !(32768 ≤ t.path && s.fab.bridgesFailed.contains (t.path % 32768)) else true) &&
    (match sh.treeEntry r t.parent with
     | none => true
     | some p => !(s.routerRetired (routerKey t.die (t.grid.1, p.grid.2))))

/-- Do the entries of a part lead to its tops, with at most one root, and is a send over a bridge matched by a receive of the
sheet? (R248, R523) A send to another module meets its receive in a sheet this module does not hold. -/
def S8.treeFits (s : S8) (sh : Sheet) (r : Reduction) : Bool :=
  let t := sh.treeOf r
  let climbs (e : Nat × TreeEntry) : Bool :=
    (List.range t.length).foldl (fun (n : Nat) _ => ((sh.treeEntry r n).map (·.parent)).getD 0xFFFF) e.1 = 0xFFFF
  ((sh.trees[r.tree]?).map (·.kind)) = some 0 && t ≠ [] && t.all (s.entryFits sh r) && t.all climbs &&
    (t.filter (fun e => e.2.kind = 3)).length ≤ 1 && t.any (fun e => e.2.kind = 3 || e.2.kind = 4) &&
    t.all (fun e => e.2.kind ≠ 4 || e.2.path < 32768 ||
      (t.filter (fun f => f.2.kind = 5 && f.2.path = e.2.path && f.2.transfer = e.2.transfer && f.2.die ≠ e.2.die)).length = 1)

/-- The flits of a transfer record (R248, R251). -/
def Transfer.flits (t : Transfer) : Nat := ceilDiv t.length 48

/-- Does a transfer's window meet R259 on the lane that carries it, with the latency measured now, in 1/16 tick, the sum rounded up
once? -/
def S8.laneTraffic (s : S8) (sh : Sheet) (t : Transfer) : Bool :=
  if t.bridge then true
  else
    let latency16 := (s.fab.lane (s.fab.bulkLane t.path)).latency
    let beside := sh.transfers.filter (fun u => !u.bridge && u.path = t.path && u.startTick ≤ t.startTick && t.startTick < u.endTick)
    let f := beside.foldl (fun a u => a + u.flits) 0
    t.startTick + ceilDiv (16 * 256 * 32 * f + 3100 * (5 * latency16 + 16 * 328)) (16 * 3100) ≤ t.endTick

/-- Does the barrier record meet R261 as far as one module can tell: each lane it names within LinkLatencyBound? -/
def S8.barrierFits (s : S8) (sh : Sheet) (b : BarrierRecord) : Bool :=
  ((if b.parent = 0xFFFF then [] else [b.parentLane]) ++ b.lanes).all (fun l =>
    (s.fab.lane (s.fab.bulkLane l)).latency ≤ 16 * sh.header.latencyBound)

/-- 0x010: trees, placed traffic and its turns, and the barrier's lanes (R239, R248, R259, R261). -/
def S8.checkTrees (s : S8) (sh : Sheet) : Option Nat :=
  firstOf
    [firstBad sh.reductions (fun r => !(s.treeFits sh r)),
     firstBad sh.transfers (fun t => !(s.laneTraffic sh t) || t.bridges.any s.fab.bridgesFailed.contains ||
       !((sh.transferRoutes t).all (fun e => s.turnServes e.1 e.2))),
     firstBad sh.bindings (fun b => (sh.bindingInstrs b).any (fun p => !(s.turnServes b.die (s.fetchRoute b p)))),
     firstBad sh.barrier (fun b => !(s.barrierFits sh b))]

/-- 0x011: the attention records (R278, R279). An engine serves a phase's walks one after another, so the walks open at once are those
that long tracks keep open between steps, and one more (R280, R288). The request delivery ends no earlier than the issuing task, and
the last block's flits after it (DEDUCED, log entry 33). -/
def checkAttention (sh : Sheet) : Option Nat :=
  let held := sh.attention.map (·.layer)
  let long := sh.header.longTracks
  firstOf
    [firstBad sh.attention (fun a =>
       a.heads = 0 || 32 < a.heads || a.phase < sh.header.firstPhase || sh.header.lastPhase < a.phase || a.partialTick < a.walkTick ||
         sh.attention.length ≤ a.layer || 1 < (held.filter (fun l => l = a.layer)).length ||
         1 < (sh.attention.filter (fun x => x.phase = a.phase)).length ||
         64 < long * sh.attention.length + 1 ||
         sh.tasks.any (fun t => t.kind = 3 && t.phase = a.phase && t.core = a.queryCore && t.startTick < a.walkTick &&
           a.walkTick < t.endTick + cycleTicks (8 * (3 + 2 * a.heads))) ||
         (a.nodes.zip [1, 2, 5, 6, 1, 5, 1]).any (fun e => e.1.die ≠ e.2) || sh.header.attentionFrames < 8192)]

/-- 0x012: no culture instruction carries Accumulate 0 (R373). -/
def checkCultureInstrs (sh : Sheet) : Option Nat :=
  firstBad sh.instrs (fun p => p.vatKind = 1 && p.accumulate = 0)

/-- The template of a place's group: its lowest-numbered place (R372). -/
def Sheet.templatePlace (sh : Sheet) (p : PlaceRecord) : PlaceRecord :=
  (sh.places.filter (fun q => q.group = p.group)).foldl (fun a q => if q.place < a.place then q else a) p

/-- Is a place record as R372 requires? -/
def Sheet.placeFits (sh : Sheet) (p : PlaceRecord) : Bool :=
  let t := sh.templatePlace p
  p.place ≤ 511 && 1 ≤ p.roles && p.roles ≤ 24 && (sh.places.filter (fun q => q.place = p.place)).length = 1 &&
    p.roles = t.roles &&
    (List.range 24).all (fun r =>
      let w := p.vats.getD r 0xFFFF
      if p.roles ≤ r then w = 0xFFFF
      else
        field w 15 1 = 1 && field w 0 12 < 288 &&
          vatHalf (vatOfWord w) = vatHalf (vatOfWord (t.vats.getD r 0xFFFF)) &&
          (match sh.bindingOf (vatOfWord w), sh.bindingOf (vatOfWord (t.vats.getD r 0xFFFF)) with
           | some b, some c => b.plan = c.plan && b.offset = c.offset && b.averaged = c.averaged && b.expert = c.expert
           | _, _ => false))

/-- 0x013: the culture place records (R372). -/
def checkPlaces (sh : Sheet) : Option Nat := firstBad sh.places (fun p => !(sh.placeFits p))

/-- 0x014: ripening tracks and their companions (R386): class S, the next two numbers, and their slots consecutive on every
charge-trap vat. -/
def checkRipening (sh : Sheet) : Option Nat :=
  firstBad sh.tracks (fun t => t.ripen &&
    (t.kind ≠ 1 ||
      !([t.number + 1, t.number + 2].all (fun n => sh.tracks.any (fun u => u.number = n && u.companion && !u.ripen))) ||
      sh.bindings.any (fun b => b.kind = 0 && !b.expert &&
        (let l := (sh.bindingInstrs b).filter (fun p => p.lane = t.number + 1 || p.lane = t.number + 2)
         match l with
         | [] => false
         | [p] => !(p.direction = 1 && p.lane = t.number + 1 && sh.slotKind b (p.slot + 1) = 0)
         | [p, q] => !(q.slot = p.slot + 1)
         | _ => true))))

/-- The twenty checks in order: the first reason that fails, with its record (R211). -/
def S8.loadFault (s : S8) (buffer : Nat) (bytes : Bytes) (sh : Sheet) : Option (Nat × Nat) :=
  [(0x001, s.checkDigest buffer bytes sh), (0x002, s.checkIdentity buffer sh), (0x003, s.checkUnits sh),
   (0x004, checkPlans sh), (0x005, s.checkInstrs sh), (0x006, checkLaneOrder sh), (0x007, s.checkLimits sh),
   (0x008, s.checkReductions sh), (0x009, checkLength sh), (0x00A, checkVectors sh), (0x00B, checkTracks sh),
   (0x00C, checkAveraged sh), (0x00D, checkAtomic sh), (0x00E, s.checkEstimate sh), (0x00F, s.checkDegraded sh),
   (0x010, s.checkTrees sh), (0x011, checkAttention sh), (0x012, checkCultureInstrs sh), (0x013, checkPlaces sh),
   (0x014, checkRipening sh)].findSome? (fun e => e.2.map (fun i => (e.1, i)))

end Sys2Proof.Machine
end

