-- ==== Sys2Proof/Machine/Runs.lean ====
section
/-! DEFINITION. Sending, checking and starting make sheets (R210, R211) and the overrun of a half (R185). -/

namespace Sys2Proof.Machine

/-! ### Sheet buffers -/

/-- The largest sheet, in bytes (R210). -/
def sheetLimit : Nat := 256 * 2 ^ 20

/-- An empty sheet buffer. -/
def SheetBuffer.empty : SheetBuffer := { bytes := [], state := 0, reason := 0, record := 0, sheet := none }

/-- A sheet buffer. -/
def Run.buffer (r : Run) (n : Nat) : SheetBuffer := SMap.getD r.buffers n SheetBuffer.empty

/-- Put bytes into a buffer at an offset; a buffer that is not receiving discards what it held (R210). -/
def SheetBuffer.put (b : SheetBuffer) (offset : Nat) (data : Bytes) : SheetBuffer :=
  let held := if b.state = 1 then b.bytes else []
  let room := padTo (max held.length (offset + data.length)) held
  { SheetBuffer.empty with bytes := overlay room offset data, state := 1 }

/-- BULK_MAKE_SHEET (R210). The manual gives kind 0x02 no layout; the model's: [1] buffer, [4–7] offset, [8–9] count 1–208,
[16–223] data. -/
def execBulkMakeSheet (f : Frame) (s : State) : Host.Outcome State Fault Refusal :=
  act (.bulkMakeSheet f) s (fun c => c.receiveBulk f 2 (fun c v =>
    let buffer := v.at 1 1
    let count := v.at 8 2
    if 8 < buffer ∨ count = 0 ∨ 208 < count ∨ sheetLimit < v.at 4 4 + count then c.frameLost
    else
      let b := (c.run.buffer buffer).put (v.at 4 4) (bytesAt v.payload 16 count)
      { c with run := { c.run with buffers := SMap.insert c.run.buffers buffer b } }))

/-- RunDigestList (R210, R215). -/
def digestListEffect : WriteEffect := fun s value => (statusOk, { s with run := { s.run with digestList := value } })

/-! ### Loading -/

/-- RunLoadRequest (R210, R215): the buffer's check begins. -/
def runLoadEffect : WriteEffect := fun s value =>
  let n := valueOf value
  let b := { s.run.buffer n with state := 2, reason := 0, record := 0, sheet := none }
  (statusOk, { s with run := { s.run with buffers := SMap.insert s.run.buffers n b, loadBuffer := n } })

/-- RUN_LOAD_REQUEST (R211). -/
def execRunLoadRequest (w : ObjWrite) (s : State) : Host.Outcome State Fault Refusal :=
  act (.runLoadRequest w) s (fun c => c.performWrite w Obj.runLoadRequest runLoadEffect)

/-- A buffer after a check's finding: refused with its reason and record, or as it was (R211). -/
def SheetBuffer.refused (b : SheetBuffer) : Option (Nat × Nat) → SheetBuffer
  | some (reason, i) => { b with state := 4, reason := reason, record := i % 65536, sheet := none }
  | none => b

/-- The degraded sheets that were loaded before their base sheet are held to it (R211 0x002, 0x00F). -/
def S8.recheckDegraded (s : S8) : S8 :=
  let judged := fun (n : Nat) (b : SheetBuffer) =>
    match (if n ≠ 0 ∧ b.state = 3 then b.sheet else none) with
    | none => b
    | some sh => b.refused (match s.checkIdentity n sh, s.checkDegraded sh with
      | some i, _ => some (0x002, i)
      | none, some i => some (0x00F, i)
      | none, none => none)
  { s with run := { s.run with buffers := SMap.mapVal judged s.run.buffers } }

/-- The check of the requested buffer ends (R211). -/
def S8.loadComplete (s : S8) : S8 :=
  let n := s.run.loadBuffer
  let b := s.run.buffer n
  if b.state ≠ 2 then s
  else
    let sh := Sheet.ofBytes b.bytes
    let after : SheetBuffer := match s.loadFault n b.bytes sh with
      | none => { b with state := 3, sheet := some sh }
      | some (reason, record) => { b with state := 4, reason := reason, record := record % 65536 }
    let loaded : S8 := { s with run := { s.run with buffers := SMap.insert s.run.buffers n after } }
    if n = 0 ∧ after.state = 3 then loaded.recheckDegraded else loaded

/-- RUN_LOAD_COMPLETE (R211). -/
def execRunLoadComplete (s : State) : Host.Outcome State Fault Refusal := act .runLoadComplete s S8.loadComplete

/-- RunLoadStatus (R215). -/
def Run.loadStatus (r : Run) : Nat :=
  let b := r.buffer r.loadBuffer
  b.state * 2 ^ 28 + b.reason * 2 ^ 16 + b.record

/-- RUN_START_STEP (R210): the start of the loaded run. A step earlier than CurrentStep + 64 breaks a limit the S8 does not
check (R3). -/
def execRunStartStep (w : ObjWrite) (s : State) : Host.Outcome State Fault Refusal :=
  actOr (.runStartStep w) s (fun c => c.performWriteOr w Obj.runStartStep (storeEffect Obj.runStartStep))

/-! ### Overrun -/

/-- A half that is not done by tick 65,536 − BarrierLead (R185): marked, StepOverrun raised, its die lost at the boundary. -/
def S8.overrunHalf (s : S8) (half : Nat) : S8 :=
  if s.run.running.isSome ∧ s.halfServes half ∧ (SMap.find s.run.halfDone half).isNone ∧ !(s.run.overrun.contains half) then
    S8.moduleDone { s with
      run := { s.run with overrun := insertNat half s.run.overrun, losing := insertNat (half / 2) s.run.losing }
      dict := s.dict.raise s.run.step Obj.stepOverrunCount 0 1 (unitField 2 half) s.run.step }
  else s

/-- STEP_OVERRUN (R185). -/
def execStepOverrun (die : Die) (half : Half) (s : State) : Host.Outcome State Fault Refusal :=
  act (.stepOverrun die half) s (fun c => c.overrunHalf (halfKey die half))

end Sys2Proof.Machine
end

