-- ==== Sys2Proof/Machine/Tasks.lean ====
section
/-! DEFINITION. The core tasks of a make sheet (R205): pour vectors, stage 7, the wheel's routines, routing, transfer staging and
firmware. A task works lane by lane; the rows of lane ℓ follow those of the task's first lane. Sampling and embedding
stand in Machine/Sampler.lean, attention, ripening and trier tasks in their chapters' files. -/

namespace Sys2Proof.Machine

/-- A task of the running sheet by its record index. -/
def Run.task (r : Run) (index : Nat) : Option (Sheet × CoreTask) :=
  r.running.bind (fun sh => (sh.tasks[index]?).map (fun t => (sh, t)))

/-- Do a task's work for a lane: the task is of the kind, on a die in service, covers the lane, the lane is active at its
phase (R195), and the task has not ended. -/
def S8.onTask (s : S8) (index kind lane : Nat) (f : Sheet → CoreTask → S8) : S8 :=
  match s.run.task index with
  | none => s
  | some (sh, t) =>
    if t.kind = kind && s.dieServes t.core.die && !(s.cores.unbacked.contains t.core.key) && t.firstLane ≤ lane &&
        lane < t.firstLane + t.laneCount && s.run.laneActive t.phase lane && !(s.run.tasksEnded.contains index)
    then f sh t else s

/-- A task's Argument for a lane: the replaced sheet's while a version switch is open and the lane's token is stamped with
the old version (R369). -/
def Run.argumentOf (r : Run) (index : Nat) (t : CoreTask) (lane : Nat) : Nat :=
  match r.oldSheet with
  | none => t.argument
  | some (old, _) =>
    if (SMap.getD r.stamps t.phase []).contains lane then ((old.tasks[index]?).map (·.argument)).getD t.argument else t.argument

/-- Rows of a lane within a task's input or output, `rows` to a lane. -/
def CoreTask.inRow (t : CoreTask) (rows lane : Nat) : Nat := t.inputRow + rows * (lane - t.firstLane)
def CoreTask.outRow (t : CoreTask) (rows lane : Nat) : Nat := t.outputRow + rows * (lane - t.firstLane)

/-- The words of a core's rows that do not decode (R397). -/
def Mem.badRows (m : Mem) (core : CoreRef) (row n : Nat) : List Nat :=
  (List.range n).flatMap (fun i => badIn m [] (rowAddr core (row + i)) 512)

/-- A core's vector loads meet a row that does not decode: the count, and a load access-fault exception (R216, R231). -/
def S8.loadTrap (s : S8) (core : CoreRef) (row n : Nat) : S8 :=
  let bad := s.mem.badRows core row n
  { s with
    dict := s.dict.raise s.run.step Obj.scratchpadUncorrectableCount 0 bad.length (unitField 3 core.key) 0
    cores := s.cores.takeTrap core.key 5 (16 * bad.headD 0) }

/-- Let a task read rows of its core: where one does not decode the core traps and the work is not done (R231). -/
def S8.reading (s : S8) (core : CoreRef) (row n : Nat) (f : Bytes → S8) : S8 :=
  if s.mem.badRows core row n = [] then f (s.mem.readRows core row n) else s.loadTrap core row n

/-- A task's outcome for a lane: its rows written, its counters, and the lane's status for the token in flight (R130). -/
def S8.laneResult (s : S8) (core : CoreRef) (row : Nat) (rows : Bytes) (phase lane : Nat) (status : Nat) : S8 :=
  { s with
    mem := s.mem.writeRows core row rows
    serve := match SMap.find s.run.carrying (128 * phase + lane) with
      | none => s.serve
      | some slot => match SMap.find s.serve.slots slot with
        | none => s.serve
        | some q => { s.serve with slots := SMap.insert s.serve.slots slot { q with inFlight := orStatus q.inFlight status } } }

/-! ### Pour vectors (R45 to R49, R87) -/

/-- The physical vat that a pour vector is built for: that of the instruction which reads the rows for the lane (R77), of
the patched expert slot (R198), or of the role of the lane's culture place (R373). -/
def S8.vectorVat (s : S8) (sh : Sheet) (core : CoreRef) (phase row lane : Nat) : Option Nat :=
  let pick (x : Sheet) : Option Nat :=
    (x.bindings.find? (fun b => (x.bindingInstrs b).any (fun p =>
      p.core b.die = core &&
        (if b.expert then SMap.find s.vats.patched (slotKey b.vat p.slot) = some (lane, row)
         else p.lane = lane && p.row = row)))).map (·.vat)
  let vat := match s.run.oldSheet with
    | none => pick sh
    | some (old, _) => if (SMap.getD s.run.stamps phase []).contains lane then pick old else pick sh
  vat.map (fun v =>
    s.vats.physical
      (match sh.placeOfVat v, SMap.find s.run.lanePlace (128 * phase + lane) with
       | some (_, role), some place =>
         ((sh.places.find? (fun q => q.place = place)).map (fun q => vatOfWord (q.vats.getD role 0xFFFF))).getD v
       | _, _ => v))

/-- Build a lane's pour vector from the N8 vector in the task's input rows. -/
def S8.buildVector (s : S8) (sh : Sheet) (t : CoreTask) (lane : Nat) : S8 :=
  let n := sh.vectorRowsOf t
  let elements := if n = 3 then 1024 else 2048
  let row := t.outRow n lane
  s.reading t.core (t.inRow n lane) n (fun bytes =>
    let lifted := ((s.vectorVat sh t.core t.phase row lane).map s.mem.liftedRows).getD []
    let blocks := splitBlocks bytes elements
    let reserved := ((List.range (elements / 32)).map (fun b =>
      reservedCodes (byteAt bytes (ceilDiv elements 512 * 512 + b)).toNat (bytesAt bytes (32 * b) 32))).foldl (· + ·) 0
    let r := buildPourVector blocks lifted (s.dict.get Obj.fallbackZThreshold) (s.dict.get Obj.fallbackSThreshold)
    { s with
      mem := s.mem.writeRows t.core row (r.1.toBytes n)
      dict := s.dict.countTally s.run.step (unitField 3 t.core.key) { r.2 with reserved := reserved } })

/-- TASK_BUILD_POUR_VECTORS (R37, R45, R48, R49). -/
def execTaskBuildPourVectors (task : Nat) (lane : Lane) (s : State) : Host.Outcome State Fault Refusal :=
  act (.taskBuildPourVectors task lane) s (fun c => c.onTask task 0 lane.val (fun sh t => c.buildVector sh t lane.val))

/-! ### Stage 7 (R57) -/

/-- The reduction whose result for the task's first lane stands at the task's input row (R134, R204). -/
def Sheet.resultAt (sh : Sheet) (t : CoreTask) : Option Reduction :=
  sh.reductions.find? (fun r => r.outCore = t.core && r.phase = t.phase &&
    (r.outRow + resultRows r.width * t.firstLane) % 1024 = t.inputRow % 1024)

/-- Round accumulators to N8 blocks, the columns beyond Width zero (R57). -/
def roundN8 (accs : List Acc) (width : Nat) : List (Block × Tally) :=
  (List.range (ceilDiv width 32)).map (fun b =>
    encodeN8 ((List.range 32).map (fun i =>
      if 32 * b + i < width then (accs.getD (32 * b + i) ⟨0, false, false⟩).exact else some { m := 0, e := 0 })))

/-- Add up the tallies of blocks. -/
def sumTallies (bs : List (Block × Tally)) : Tally := bs.foldl (fun a b => a.add b.2) {}

/-- Round a lane's result to N8 or W16, as the task chooses (R57); the lane's status passes to the token (R130). -/
def S8.roundLane (s : S8) (sh : Sheet) (index : Nat) (t : CoreTask) (lane : Nat) : S8 :=
  match sh.resultAt t with
  | none => s
  | some r =>
    let n := resultRows r.width
    s.reading t.core (t.inRow n lane) n (fun bytes =>
      let accs := (List.range r.width).map (fun i => Acc.ofBytes (bytesAt bytes (16 * i) 16))
      let status := leAt bytes (512 * (n - 1)) 2
      if Config.roundsToW16 t.routine (s.run.argumentOf index t lane) then
        let rows := ceilDiv (2 * r.width) 512
        s.laneResult t.core (t.outRow rows lane) (padTo (512 * rows) (accs.flatMap (fun a => leBytes 2 a.roundW16))) t.phase lane
          (orStatus status (if accs.any (·.poison) then statusPoison else 0))
      else
        let blocks := roundN8 accs r.width
        let tally := sumTallies blocks
        let bytes := toSplit (blocks.map (·.1))
        { (s.laneResult t.core (t.outRow (bytes.length / 512) lane) bytes t.phase lane (orStatus status tally.status)) with
          dict := s.dict.countTally s.run.step (unitField 3 t.core.key) tally })

/-- TASK_ROUND (R38, R42, R57, R130). -/
def execTaskRound (task : Nat) (lane : Lane) (s : State) : Host.Outcome State Fault Refusal :=
  act (.taskRound task lane) s (fun c => c.onTask task 1 lane.val (fun sh t => c.roundLane sh task t lane.val))

/-! ### The wheel's routines (R205) -/

/-- The combinations that a routine makes of the double words in its input: each combined in pairs and rounded once to the consumer's
format, with how many are not finite (R140, R141). -/
def routineStatistics (kind routine arg : Nat) (input : Bytes) : Bytes × Nat :=
  roundStatistics (Config.statisticFormat kind routine arg)
    ((Config.statisticOffsets kind routine arg).map (fun at_ =>
      combineAll (at_.map (fun o => (leAt input o 4, leAt input (o + 4) 4)))))

/-- A routine's work for a lane on given input: what it writes is the wheel's. A non-finite combination poisons the lane and
is counted (R141). -/
def S8.routineLane (s : S8) (index kind : Nat) (t : CoreTask) (lane : Nat) (input : Bytes) : S8 :=
  let arg := s.run.argumentOf index t lane
  let out := Config.routineOutputs kind t.routine arg
  let stats := routineStatistics kind t.routine arg input
  let status := orStatus (Config.routineStatus kind t.routine arg input % 32) (if stats.2 = 0 then 0 else statusPoison)
  { (s.laneResult t.core (t.outRow out lane) (padTo (512 * out) (Config.routineRows kind t.routine arg input stats.1)) t.phase lane status) with
    dict := s.dict.raise s.run.step Obj.nonFiniteCombineCount 0 stats.2 (unitField 3 t.core.key) lane }

/-- TASK_NORM_ACTIVATION (R140, R141, R205). -/
def execTaskNormActivation (task : Nat) (lane : Lane) (s : State) : Host.Outcome State Fault Refusal :=
  act (.taskNormActivation task lane) s (fun c => c.onTask task 2 lane.val (fun _ t =>
    let n := Config.routineInputs 2 t.routine (c.run.argumentOf task t lane.val)
    c.reading t.core (t.inRow n lane.val) n (fun input => c.routineLane task 2 t lane.val input)))

/-! ### Routing (R198, R199) -/

/-- The score that ranks an expert: its router output, or where that is a NaN a value left open. -/
def rankScore (e : Nat) (x : Fp) : Fp := if x = .nan then Config.nanScore e else x

/-- A lane's experts by descending score, ties to the lower number (R199). -/
def rankExperts (scores : List Fp) : List Nat :=
  (sortBy (fun (a b : Nat × Fp) => b.2.lt a.2 || (!(a.2.lt b.2) && a.1 < b.1))
    (scores.zipIdx.map (fun e => (e.2, rankScore e.2 e.1)))).map (·.1)

/-- Where the assignment of lanes to experts stands: the load of each expert, the placements (expert, expert slot, lane), the
choices beyond TopK and those dropped. -/
structure Routing where
  load : SMap Nat
  placed : List (Nat × Nat × Nat)
  overflow : Nat
  dropped : Nat
  deriving DecidableEq, Repr

/-- One lane's choices (R199). -/
def Routing.lane (r : Routing) (g : ExpertGroup) (lane : Nat) (ranked : List Nat) : Routing :=
  let walk := ((ranked.take (g.topK + g.depth)).zipIdx).foldl (fun (a : Routing × Nat) (e : Nat × Nat) =>
    if a.2 = g.topK then a
    else
      let load := SMap.getD a.1.load e.1 0
      if load < g.capacity.getD e.1 0 then
        ({ a.1 with
           load := SMap.insert a.1.load e.1 (load + 1)
           placed := a.1.placed ++ [(e.1, load, lane)]
           overflow := a.1.overflow + (if g.topK ≤ e.2 then 1 else 0) }, a.2 + 1)
      else a) (r, 0)
  { walk.1 with dropped := walk.1.dropped + (g.topK - walk.2) }

/-- The router outputs of a lane at a group's route task: binary32 values in its input rows (R199). -/
def S8.scoresOf (s : S8) (g : ExpertGroup) (t : CoreTask) (lane : Nat) : List Fp :=
  let n := ceilDiv (4 * g.experts) 512
  let rows := s.mem.readRows t.core (t.inRow n lane) n
  (List.range g.experts).map (fun e => binary32.decode (leAt rows (4 * e) 4))

/-- The row of a lane's pour vector on the core of an expert slot's template: where the core's kind-0 task puts it (R188). -/
def Sheet.routedRow (sh : Sheet) (core : CoreRef) (vat lane row : Nat) : Nat :=
  match sh.tasks.find? (fun t => t.kind = 0 && t.core = core && t.firstLane ≤ lane && lane < t.firstLane + t.laneCount) with
  | none => row
  | some t => t.outRow (if isCulture vat then 3 else 5) lane

/-- Put a placed lane into its expert slot on every vat of the expert (R198, R199). -/
def Vats.place (v : Vats) (sh : Sheet) (g : ExpertGroup) (e : Nat × Nat × Nat) : Vats :=
  { v with patched := (sh.expertSlots g e.1).foldl (fun m x =>
      match x.2[e.2.1]?, sh.bindingOf x.1 with
      | some slot, some b =>
        match (sh.bindingInstrs b).find? (fun p => p.slot = slot) with
        | none => m
        | some p => SMap.insert m (slotKey x.1 slot) (e.2.2, sh.routedRow (p.core b.die) x.1 e.2.2 p.row)
      | _, _ => m) v.patched }

/-- The route task assigns the group's active lanes to its experts (R199); router outputs that do not decode trap, and nothing is placed
(R231). -/
def S8.route (s : S8) (group : Nat) : S8 :=
  match s.run.running.bind (fun sh => (sh.groups[group]?).map (fun g => (sh, g))) with
  | none => s
  | some (sh, g) =>
    match sh.tasks.find? (fun t => t.kind = 5 && t.core = g.core && t.phase = g.phase) with
    | none => s
    | some t =>
      if !(s.dieServes g.core.die) then s
      else
        let lanes := (s.run.activeLanes g.phase).filter (fun l => t.firstLane ≤ l && l < t.firstLane + t.laneCount)
        let start : Routing := { load := [], placed := [], overflow := 0, dropped := 0 }
        let n := ceilDiv (4 * g.experts) 512
        match lanes.find? (fun l => s.mem.badRows t.core (t.inRow n l) n ≠ []) with
        | some l => s.loadTrap t.core (t.inRow n l) n
        | none =>
        let r := lanes.foldl (fun a l => a.lane g l (rankExperts (s.scoresOf g t l))) start
        { s with
          vats := r.placed.foldl (fun v e => v.place sh g e) s.vats
          dict := (s.dict.raise s.run.step Obj.expertOverflowCount 0 r.overflow (unitField 3 g.core.key) group).raise s.run.step
            Obj.expertDropCount 0 r.dropped (unitField 3 g.core.key) group }

/-- TASK_ROUTE (R198, R199). -/
def execTaskRoute (group : Nat) (s : State) : Host.Outcome State Fault Refusal :=
  act (.taskRoute group) s (fun c => c.route group)

/-! ### Transfer staging (R40, R41, R44, R206) -/

/-- The payload a transfer of a format carries of a lane's N8 vector or W16 values, and what the conversion clamps. -/
def stagedBytes (format length : Nat) (rows : Bytes) : Bytes × Tally :=
  if format = 1 then ((splitBlocks rows (32 * (length / 33))).flatMap Block.packN8, {})
  else if format = 2 then
    let bs := (splitBlocks rows (32 * (length / 17))).map n8ToN4
    (bs.flatMap (fun b => b.1.packN4), sumTallies bs)
  else (rows.take length, {})

/-- Reserved −128 codes of a lane's N8 vector that staging reads (R37). -/
def stagedReserved (format length : Nat) (rows : Bytes) : Nat :=
  let n := if format = 1 then 32 * (length / 33) else if format = 2 then 32 * (length / 17) else 0
  (List.range (n / 32)).foldl (fun k b =>
    k + reservedCodes (byteAt rows (ceilDiv n 512 * 512 + b)).toNat (bytesAt rows (32 * b) 32)) 0

/-- Rows of a lane's vector before staging. -/
def stagedInputRows (format length : Nat) : Nat :=
  if format = 1 then splitLength (32 * (length / 33)) / 512
  else if format = 2 then splitLength (32 * (length / 17)) / 512
  else ceilDiv length 512

/-- Stage a lane's output for the transfer record that the task's core sends for it. -/
def S8.stageLane (s : S8) (sh : Sheet) (t : CoreTask) (lane : Nat) : S8 :=
  match sh.transfers.find? (fun x => x.kind = 1 && x.source = t.core && x.lane = lane) with
  | none => s
  | some x =>
    let n := stagedInputRows x.format x.length
    s.reading t.core (t.inRow n lane) n (fun rows =>
      let r := stagedBytes x.format x.length rows
      let out := ceilDiv x.length 512
      { (s.laneResult t.core (t.outRow out lane) (padTo (512 * out) r.1) t.phase lane r.2.status) with
        dict := s.dict.countTally s.run.step (unitField 3 t.core.key)
          { r.2 with reserved := r.2.reserved + stagedReserved x.format x.length rows } })

/-- TASK_TRANSFER_STAGING (R40, R205, R206). -/
def execTaskTransferStaging (task : Nat) (lane : Lane) (s : State) : Host.Outcome State Fault Refusal :=
  act (.taskTransferStaging task lane) s (fun c => c.onTask task 9 lane.val (fun sh t => c.stageLane sh t lane.val))

/-! ### Firmware (R234) -/

/-- TASK_FIRMWARE (R205, R234): a half's management work is done in the kind-255 tasks of the running sheet. -/
def execTaskFirmware (die : Die) (half : Half) (s : State) : Host.Outcome State Fault Refusal :=
  act (.taskFirmware die half) s (fun c =>
    let h := halfKey die half
    if c.run.firmwareTasks h && c.halfServes h then
      { c with cores := { c.cores with
        firmwareRan := insertNat h c.cores.firmwareRan
        starved := eraseNat h c.cores.starved } }
    else c)

end Sys2Proof.Machine
end

