-- ==== Sys2Proof/Machine/Serve.lean ====
section
/-! DEFINITION. A sequence in its slot: which entry comes next and when, which token it carries, and at which phases its entries
in flight stand (R190 to R196, R302, R311). -/

namespace Sys2Proof.Machine

/-! ### Entries and tokens -/

/-- The position of entry 0: 0 for an admit, that of the pending token for a resume (R311, R345). -/
def Sequence.base (q : Sequence) : Nat := q.restored - 1

/-- Entries that come before the first output token: p, and p + 1 for a resume (R311). -/
def Sequence.lead (q : Sequence) : Nat := q.req.promptLength + (if q.pendingToken.isSome then 1 else 0)

/-- Positions held: those of the image's records and of the entries made (R324). -/
def Sequence.held (q : Sequence) : Nat := q.base + q.entered

/-- The token of an entry, when it is known: the pending token, a prompt token received, or the output token of that
position (R302, R311, R345). -/
def Sequence.tokenOf (q : Sequence) (j : Nat) : Option Nat :=
  let i := j - (if q.pendingToken.isSome then 1 else 0)
  if q.lead ≤ j then (match q.lastToken with | some (t, p) => if p = q.base + j then some t else none | none => none)
  else if j = 0 ∧ q.pendingToken.isSome then q.pendingToken
  else SMap.find q.prompt i

/-- Has the sequence sampled its end, or been given its record? (R323, R325) -/
def Sequence.ended (q : Sequence) : Bool :=
  q.sampled.any (fun t => t.last || field t.status 4 1 = 1) || (q.completion.isSome && q.state ≠ .draining)

/-- The length c_max that a request can reach (R308). -/
def Sequence.reach (q : Sequence) : Nat := q.restored + q.req.promptLength + q.req.maxNew

/-! ### Tracks -/

/-- A sheet's track record. -/
def Sheet.track (sh : Sheet) (n : Nat) : Option Track := sh.tracks.find? (fun t => t.number = n)

/-- The fill capped at floor(s / K) (R310). -/
def Track.fill (t : Track) (fill : Nat) : Nat := max 1 (min fill (t.stride / max 1 t.span))

/-- The fill residues of a residue: r − jK modulo s for j below f (R310). -/
def Track.fillResidues (t : Track) (r f : Nat) : List Nat :=
  (List.range f).map (fun j => (r + t.stride * (j * t.span + 1) - j * t.span) % t.stride)

/-- Entries left in the window of an entry that comes before the first output token, and windows after it (R311). -/
def Sequence.windowLeft (q : Sequence) (j : Nat) : Nat := (q.lead - 1 - j) % q.fill
def Sequence.windowsAfter (q : Sequence) (j : Nat) : Nat := (q.lead - 1 - j) / q.fill

/-- The step of the last entry before the first output token, while entries before it are still due. -/
def Sequence.lastPromptStep (q : Sequence) (t : Track) : Nat :=
  q.nextEntry + q.windowLeft q.entered * t.span + q.windowsAfter q.entered * t.stride

/-- The step of the entry after entry j, made in a step (R311): within a window every K steps, the next window's first, or one
stride later. -/
def Sequence.following (q : Sequence) (t : Track) (j step : Nat) : Nat :=
  if q.lead ≤ j + 1 then step + t.stride
  else if q.windowLeft j = 0 then step + t.stride - (q.fill - 1) * t.span
  else step + t.span

/-- Is an entry the first of its window? (R311, R312) -/
def Sequence.opensWindow (q : Sequence) (j : Nat) : Bool := j < q.lead && (j = 0 || q.windowLeft j + 1 = q.fill)

/-- Are the tokens of the window that entry j begins all here? (R312) -/
def Sequence.windowReady (q : Sequence) (j : Nat) : Bool :=
  (List.range (q.windowLeft j + 1)).all (fun i => (q.tokenOf (j + i)).isSome)

/-- Is the sequence's prompt still entering in a step: entries before the first output token are due, or the last of them was
made in the step? (R310) -/
def Sequence.filling (q : Sequence) (step : Nat) : Bool :=
  q.entered < q.lead || q.entriesAt.any (fun e => e.step = step && e.entry + 1 = q.lead)

/-- The residues a sequence holds: r, and its fill residues up to its last prompt entry (R310). -/
def Sequence.residues (q : Sequence) (t : Track) (r step : Nat) : List Nat :=
  if q.filling step then t.fillResidues r q.fill else [r]

/-! ### Where entries in flight stand -/

/-- Attention phases of the run before a phase that the module holds or comes to (R196). -/
def Sheet.attentionBefore (sh : Sheet) (phase : Nat) : Nat :=
  let h := sh.header
  let before :=
    if h.firstPhase = 0 then 0
    else if h.lastPhase + 1 = h.phases then h.attentionPhases - sh.attention.length
    else Config.attentionBefore h.runId h.firstPhase
  before + (sh.attention.filter (fun a => a.phase < phase)).length

/-- The steps after its entry at which a token of a track of span K stands at a phase: one, or K at an attention phase
(R190, R196). -/
def Sheet.delays (sh : Sheet) (span phase : Nat) : List Nat :=
  let first := phase + (span - 1) * sh.attentionBefore phase
  if sh.attention.any (fun a => a.phase = phase) then (List.range span).map (first + ·) else [first]

/-- The phases a sheet holds. -/
def Sheet.heldPhases (sh : Sheet) : List Nat :=
  (List.range (sh.header.lastPhase + 1 - sh.header.firstPhase)).map (sh.header.firstPhase + ·)

/-- The phases at which an entry stands in a step. -/
def Sheet.standing (sh : Sheet) (e : EntryMade) (step : Nat) : List Nat :=
  let span := ((sh.track e.lane).map (·.span)).getD 1
  sh.heldPhases.filter (fun k => (sh.delays span k).contains (step - e.step))

/-- The step in which the token after an entry is sampled (R191, R196, R311). -/
def Sheet.samplingStep (sh : Sheet) (e : EntryMade) : Nat :=
  e.step + sh.turnaround (((sh.track e.lane).map (·.span)).getD 1) - 1

/-- Does the module sample: does it hold phase Φ − 1? (R322) -/
def Sheet.samples (sh : Sheet) : Bool := sh.header.lastPhase + 1 = sh.header.phases

/-- Entries still in flight in a step: those whose token is not yet due. -/
def Sheet.stillFlying (sh : Sheet) (q : Sequence) (step : Nat) : List EntryMade :=
  q.entriesAt.filter (fun e => step ≤ sh.samplingStep e)

/-- Every (phase, lane, slot, culture place) at which a token stands in a step. -/
def S8.tokensStanding (s : S8) (sh : Sheet) (step : Nat) : List (Nat × Nat × Nat × Option Nat) :=
  s.serve.slots.flatMap (fun e =>
    e.2.entriesAt.flatMap (fun x => (sh.standing x step).map (fun k => (k, x.lane, e.1, x.culturePlace))))

/-- The slot whose entry's token is due for sampling on a lane in a step, with the entry (R191, R311). -/
def S8.dueOnLane (s : S8) (sh : Sheet) (lane step : Nat) : Option (Nat × Sequence × EntryMade) :=
  s.serve.slots.findSome? (fun e =>
    (e.2.entriesAt.find? (fun x => x.lane = lane && sh.samplingStep x = step && e.2.lead ≤ x.entry + 1)).map (fun x => (e.1, e.2, x)))

end Sys2Proof.Machine
end

