-- ==== Sys2Proof/Machine/Images.lean ====
section
/-! DEFINITION. Pause images and the pause index as admission reads them: keys, header fields, sizes, free entries and free space
(R337 to R344). -/

namespace Sys2Proof.Machine

/-! ### Keys (R340, R341) -/

/-- A PauseKey: entry number in [15:0], Nonce in [63:32]. -/
def pauseKey (entry nonce : Nat) : Nat := nonce * 2 ^ 32 + entry

/-- The entry that a key names: State 2 and the Nonce matching. -/
def Cellar.named (c : Cellar) (key : Nat) : Option (Nat × PauseEntry) :=
  match SMap.find c.index (field key 0 16) with
  | none => none
  | some e => if e.state = 2 ∧ field key 16 16 = 0 ∧ field key 32 32 = e.nonce then some (field key 0 16, e) else none

/-- Has an entry expired? A parked image has no expiry (R342, R343). -/
def Cellar.expired (c : Cellar) (e : PauseEntry) : Bool := e.expiry ≠ 0xFFFFFFFF && e.expiry ≤ c.seconds

/-! ### Header fields (R337) -/

def PauseImage.length (i : PauseImage) : Nat := leAt i.header 4 4
def PauseImage.pinPolicy (i : PauseImage) : Nat := leAt i.header 10 1
def PauseImage.wheelId (i : PauseImage) : Nat := leAt i.header 11 1
def PauseImage.wheelVersion (i : PauseImage) : Nat := leAt i.header 12 4
def PauseImage.cultureId (i : PauseImage) : Nat := leAt i.header 16 2
def PauseImage.cultureVersion (i : PauseImage) : Nat := leAt i.header 18 2
def PauseImage.framesPerLayer (i : PauseImage) : Nat := leAt i.header 20 4
def PauseImage.pendingToken (i : PauseImage) : Nat := leAt i.header 24 4
def PauseImage.temperature (i : PauseImage) : Nat := leAt i.header 28 4
def PauseImage.topP (i : PauseImage) : Nat := leAt i.header 32 4
def PauseImage.sampleSeed (i : PauseImage) : Nat := leAt i.header 36 8
def PauseImage.draws (i : PauseImage) : Nat := leAt i.header 44 8
def PauseImage.stops (i : PauseImage) : List Nat := (List.range 8).map (fun k => leAt i.header (52 + 4 * k) 4)
def PauseImage.window (i : PauseImage) : Nat := leAt i.header 84 4
def PauseImage.emitted (i : PauseImage) : Nat := leAt i.header 88 4
def PauseImage.left (i : PauseImage) : Nat := leAt i.header 92 4
def PauseImage.status (i : PauseImage) : Nat := leAt i.header 96 2
def PauseImage.digest (i : PauseImage) : Bytes := bytesAt i.header 112 32

/-- LayerIds: the WheelLayer fields in ascending LayerIndex, padded with 0xFFFF to 4,096 numbers (R337, R344). -/
def Sheet.layerIds (sh : Sheet) : Bytes :=
  let held := (sortBy (fun (a b : AttentionRecord) => a.layer ≤ b.layer) sh.attention).map (·.wheelLayer)
  ((List.range 4096).map (fun i => held.getD i 0xFFFF)).flatMap (leBytes 2)

/-- LayerTag: bits [15:0] of the SHA-256 of LayerIds (R340). -/
def Sheet.layerTag (sh : Sheet) : Nat := leAt (sha256 sh.layerIds) 0 2

/-! ### Sizes and free space (R332, R337, R338) -/

/-- FramesPerLayer of an image that holds a number of records. -/
def framesFor (records : Nat) : Nat := ceilDiv records 16

/-- Cellar pages of an image: the header page, and the frames packed over whole pages. -/
def imagePages (layers records : Nat) : Nat := 1 + ceilDiv (layers * framesFor records * 10240) 16384

/-- The Pages field: cellar pages / 64, rounded up (R340). -/
def pagesField (pages : Nat) : Nat := ceilDiv pages 64

/-- Space of the Pause partition that retired flash blocks beyond a die's spare have taken, in bytes (R349). -/
def Cellar.spareTaken (c : Cellar) : Nat :=
  (List.range 8).foldl (fun a d => a + (SMap.getD c.spareUsed d 0 - Config.flashSpare d)) 0 * 2 ^ 20

/-- Bytes of the Pause partition that images hold, by their Pages (R338, R340). -/
def Cellar.used (c : Cellar) : Nat := c.index.foldl (fun a e => a + 64 * 16384 * e.2.pages) 0

/-- Bytes of the Pause partition that are free (R338). -/
def Cellar.free (c : Cellar) : Nat := Config.pauseBytes - c.used - c.spareTaken

/-- Free entries of the pause index. -/
def Cellar.entriesFree (c : Cellar) : Nat := Config.pauseEntries - c.index.length

/-- The entry that a pause takes: any free one. -/
def S8.freeEntry (s : S8) : Nat :=
  s.pick ((List.range Config.pauseEntries).filter (fun n => (SMap.find s.cellar.index n).isNone))

/-- A non-zero Nonce (R340). -/
def nonceOf (n : Nat) : Nat := 1 + Config.freeValue n % (2 ^ 32 - 1)

/-- An image before it is written. -/
def PauseImage.blank : PauseImage := { header := [], frames := [] }

/-- Take an entry for an image that is to be written: its space and number are held (R338). -/
def S8.takeEntry (s : S8) (pages layerTag : Nat) : Nat × S8 :=
  let n := s.freeEntry
  let e : PauseEntry :=
    { nonce := 0, expiry := 0xFFFFFFFF, length := 0, pages := pagesField pages, layerTag := layerTag, state := 1,
      image := PauseImage.blank, stripe := 0 }
  (n, { s.picked with
    cellar := { s.cellar with index := SMap.insert s.cellar.index n e } })

/-! ### Stripes (R329, R330) -/

/-- The die on which a stripe's parity page lies (R329). -/
def parityDie (stripe : Nat) : Nat := stripe % 8

/-- The bytewise XOR of pages of one length (R329). -/
def xorPages (n : Nat) (pages : List Bytes) : Bytes := pages.foldl (fun a p => List.zipWith (· ^^^ ·) a p) (zeros n)

/-- The 8 pages of a full stripe by die: 7 data pages in order on the dies but the parity's, which holds their XOR (R329). -/
def stripePages (n stripe : Nat) (data : List Bytes) : List Bytes :=
  (List.range 8).map (fun d =>
    if d = parityDie stripe then xorPages n data else data.getD (if d < parityDie stripe then d else d - 1) (zeros n))

/-- The page of one die of a stripe, rebuilt from the other seven (R330). -/
def rebuildPage (n : Nat) (pages : List Bytes) (die : Nat) : Bytes := xorPages n (pages.take die ++ pages.drop (die + 1))

/-- The data pages of stripe k of an image stored over all dies (R329, R337). -/
def stripeData (stored : Bytes) (k : Nat) : List Bytes :=
  (List.range 7).map (fun i => bytesAt stored (16384 * (7 * k + i)) 16384)

/-! ### Writing (R329, R330, R349, R350) -/

/-- The dies whose cellar cannot be reached (R330). -/
def S8.cellarsAway (s : S8) : List Nat := (List.range 8).filter (fun d => !(s.cellarReachable d))

/-- Count raw NAND written in the life total and in the current day (R349, R350). -/
def Cellar.wrote (c : Cellar) (nandPages : Nat) : Cellar :=
  let n := 18432 * nandPages
  { c with
    written := (c.written + n) % 2 ^ 64
    days := match c.days with
      | [] => [n]
      | d :: rest => (d + n) :: rest }

/-- The stripes that a number of data pages takes: 7 pages a stripe, 6 while a die's cellar cannot be reached. -/
def S8.stripesFor (s : S8) (pages : Nat) : Nat := ceilDiv pages (if s.cellarsAway = [] then 7 else 6)

/-- Write a number of data pages in new stripes. -/
def S8.writePages (s : S8) (pages : Nat) : S8 :=
  { s with cellar := s.cellar.wrote (s.stripesFor pages * (8 - min 1 s.cellarsAway.length)) }

/-- Write bytes to a striped partition. -/
def S8.writeCellar (s : S8) (bytes : Nat) : S8 := s.writePages (ceilDiv bytes 16384)

/-- A slot's restore leaves the queues (R335, R344). -/
def Cellar.unqueue (c : Cellar) (slot : Nat) : Cellar :=
  { c with
    restores := c.restores.filter (fun r => r.1 ≠ slot)
    parkedRestores := c.parkedRestores.filter (fun r => r.1 ≠ slot) }

/-- The slots whose restores are being read: the head of each queue, the resumes' being served first (R335). -/
def Cellar.reading (c : Cellar) : List Nat := (c.restores.head?.toList ++ c.parkedRestores.head?.toList).map (fun r => r.1)

/-- Free an entry and its pages (R343, R345). -/
def Cellar.release (c : Cellar) (n : Nat) : Cellar := { c with index := SMap.erase c.index n }

end Sys2Proof.Machine
end

