-- ==== Sys2Proof/Machine/Admission.lean ====
section
/-! DEFINITION. Admission: the checks and the promise of an admit or resume request (R305 to R314, R344, R370, R387, R429, R522). -/

namespace Sys2Proof.Machine

/-! ### Requests (R306) -/

/-- Read an admit or resume request's payload. -/
def Request.ofView (v : FrameView) : Request :=
  { requestId := v.at 0 4, cls := v.at 4 1, pinPolicy := v.at 5 1, wheelId := v.at 6 1, wheelVersion := v.at 8 4,
    cultureId := v.at 12 2, cultureVersion := v.at 14 2, promptLength := v.at 16 4, maxNew := v.at 20 4,
    temperature := v.at 24 4, topP := v.at 28 4, sampleSeed := v.at 32 8,
    stops := (List.range 8).map (fun i => v.at (40 + 4 * i) 4), window := v.at 72 4, pauseKey := v.at 76 8, ripenJob := v.at 84 2 }

/-- Temperature: a zero, or a binary32 datum from 0.01 to 100.0. -/
def temperatureInRange (w : Nat) : Bool := w % 2 ^ 31 = 0 || (0x3C23D70A ≤ w && w ≤ 0x42C80000)

/-- TopP: a binary32 datum above 0 and at most 1. -/
def topPInRange (w : Nat) : Bool := 0 < w && w ≤ 0x3F800000

/-- Is a ripening job running? -/
def S8.jobRuns (s : S8) (job : Nat) : Bool :=
  match SMap.find s.ripen.jobs job with
  | none => false
  | some j => 2 ≤ j.state && j.state ≤ 4

/-- The CultureId of a job's request record (R383). -/
def S8.jobCulture (s : S8) (job : Nat) : Nat := ((SMap.find s.ripen.jobs job).map (fun j => leAt j.request 2 2)).getD 0

/-- BAD_REQUEST: a field out of its range, a reserved field not zero (R306), or a training sequence that R387 bars. -/
def S8.badRequest (s : S8) (kind : Nat) (r : Request) (v : FrameView) : Bool :=
  2 < r.cls || 1 < r.pinPolicy || v.at 7 1 ≠ 0 || 8388607 < r.promptLength || (r.promptLength = 0 && !(kind = 6 && r.cls = 2)) ||
  r.maxNew = 0 || 8388607 < r.maxNew || !(temperatureInRange r.temperature) || !(topPInRange r.topP) ||
  (kind = 1 && r.pauseKey ≠ 0) || 4 < r.ripenJob || !(zeroBetween v.payload 86 224) ||
  (r.ripenJob ≠ 0 && (!(s.jobRuns r.ripenJob) || r.cultureId ≠ s.jobCulture r.ripenJob || r.cls ≠ 1 || r.pinPolicy ≠ 1))

/-! ### Content (R308, R344, R370, R376) -/

/-- Is a wheel version READY? -/
def S8.wheelReady (s : S8) (id version : Nat) : Bool :=
  s.wheels.table.any (fun w => w.wheelId = id && w.version = version && w.state = 2)

/-- The culture version that a request pins: the one it names, or the highest READY one where it names 0 (R376). -/
def S8.culturePinned (s : S8) (id version : Nat) : Option Nat :=
  let ready := (s.cultures.table.filter (fun c => c.cultureId = id && c.state = 4)).map (·.version)
  if version = 0 then (if ready = [] then none else some (ready.foldl max 0))
  else if ready.contains version then some version else none

/-- Does an image resume under the running sheet: its LayerTag (R344), and for a PINNED one its wheel version (R370)? -/
def imageAllowed (sh : Sheet) (r : Request) (e : PauseEntry) : Bool :=
  e.layerTag = sh.layerTag &&
    (e.image.pinPolicy = 1 ||
      (e.image.wheelId = sh.header.wheelId && e.image.wheelVersion = sh.header.wheelVersion &&
        (r.wheelVersion = 0 || r.wheelVersion = e.image.wheelVersion)))

/-- The culture a sequence is to pin: its ID and version, (0, 0) for none; none where it is not READY. A PINNED image keeps
the version it records (R377). -/
def S8.cultureFor (s : S8) (r : Request) (e : Option PauseEntry) : Option (Nat × Nat) :=
  let wanted : Nat × Nat := match e with
    | some p => if p.image.pinPolicy = 0 then (p.image.cultureId, p.image.cultureVersion) else (r.cultureId, r.cultureVersion)
    | none => (r.cultureId, r.cultureVersion)
  if wanted.1 = 0 then some (0, 0) else (s.culturePinned wanted.1 wanted.2).map (fun v => (wanted.1, v))

/-- CONTENT_NOT_READY. -/
def S8.contentMissing (s : S8) (sh : Sheet) (r : Request) (e : Option PauseEntry) : Bool :=
  r.wheelId ≠ sh.header.wheelId || (r.wheelVersion ≠ 0 && r.wheelVersion ≠ sh.header.wheelVersion) ||
  !(s.wheelReady sh.header.wheelId sh.header.wheelVersion) || (s.cultureFor r e).isNone ||
  (match e with | none => false | some p => !(imageAllowed sh r p))

/-! ### Tracks and residues (R310, R313, R522) -/

/-- Is a track's DieMask on a die with a half at throttle stage 2 or 3? (R436) -/
def S8.throttled (s : S8) (t : Track) : Bool :=
  (List.range 8).any (fun d => field t.dieMask d 1 = 1 && (2 ≤ s.power.stageOf (2 * d) || 2 ≤ s.power.stageOf (2 * d + 1)))

/-- Is every track closed to admission by a drain? (R371) -/
def S8.draining (s : S8) : Bool := s.dict.get Obj.wheelDrainStep ≠ 0

/-- The open tracks that may carry a sequence. -/
def S8.openTracks (s : S8) (sh : Sheet) : List Track :=
  if s.draining then [] else sh.tracks.filter (fun t => !t.companion && !(s.run.closed.contains t.number))

/-- The spans that cover a context (R196). -/
def spanFor (reach : Nat) : Nat := max 1 (ceilDiv reach 131072)

/-- Tracks that R310 considers for class I or S: those of the class with the smallest span that covers the context; a training
sequence's are ripening tracks (R387). -/
def S8.classTracks (s : S8) (sh : Sheet) (r : Request) (reach : Nat) : List Track :=
  let fit := (s.openTracks sh).filter (fun t => t.kind % 2 = r.cls && spanFor reach ≤ t.span && (r.ripenJob = 0 || t.ripen))
  let least := fit.foldl (fun a t => min a t.span) 64
  fit.filter (fun t => t.span = least)

/-- Tracks that R522 considers for class B. -/
def S8.sharedTracks (s : S8) (sh : Sheet) (reach : Nat) : List Track :=
  (s.openTracks sh).filter (fun t => spanFor reach ≤ t.span)

/-- A track, a residue, and the promise that follows from them (R311). -/
structure Placing where
  track : Track
  residue : Nat
  fill : Nat
  /-- The step of the first entry, of the last entry before the first output token, and F_0. -/
  first : Nat
  last : Nat
  firstToken : Nat
  deriving DecidableEq, Repr

/-- The first step of a residue at or after a step (R311). -/
def residueStep (origin stride residue from_ : Nat) : Nat :=
  from_ + (residue + stride - (from_ - origin) % stride) % stride

/-- The promise of n entries on a residue, the earliest being lead steps away (R311). -/
def S8.promise (s : S8) (sh : Sheet) (n lead fill : Nat) (t : Track) (residue : Nat) : Placing :=
  let f := t.fill fill
  let back := t.span * ((n - 1) % f)
  let e0 := residueStep s.run.origin t.stride residue (s.run.step + lead + back)
  let last := e0 + t.stride * (ceilDiv n f - 1)
  { track := t, residue := residue, fill := f, first := e0 - back, last := last,
    firstToken := last + sh.turnaround t.span - 1 }

/-- Does a sequence of class I or S (of any class, where `any`) hold a residue of a track at or after a step? (R310, R522) -/
def S8.residueHeld (s : S8) (t : Track) (residue first : Nat) (any : Bool) : Bool :=
  s.serve.slots.any (fun e => match e.2.place with
    | none => false
    | some (n, r) =>
      n = t.number && (any || e.2.req.cls ≠ 2) &&
        (residue = r ||
          (e.2.entered < e.2.lead && (t.fillResidues r e.2.fill).contains residue && first ≤ e.2.lastPromptStep t)))

/-- Is a residue of a class S track reserved for class B: one of the highest-numbered BReserve usable ones? (R313) -/
def S8.reservedForB (s : S8) (t : Track) (residue : Nat) : Bool :=
  t.kind % 2 = 1 && t.residues ≤ residue / t.span + s.dict.get Obj.bReserve

/-- The frames that sequences' tokens read in a step at the module's attention phases, at most 8,192 each (R197). `holds` lists
track, residues and pages of a layer. -/
def Sheet.framesRead (sh : Sheet) (holds : List (Track × List Nat × Nat)) (step : Nat) : Nat :=
  holds.foldl (fun a h =>
    a + min 8192 h.2.2 * ((h.2.1.flatMap (fun r => sh.attention.flatMap (fun x =>
      (sh.delays h.1.span x.phase).filter (fun d => (r + d) % h.1.stride = step % h.1.stride)))).length)) 0

/-- Do the frames read stay within AttentionFrames in every step? (R197) -/
def Sheet.readsFit (sh : Sheet) (holds : List (Track × List Nat × Nat)) : Bool :=
  sh.attention = [] ||
    (List.range (holds.foldl (fun a h => Nat.lcm a h.1.stride) 1)).all (fun t => sh.framesRead holds t ≤ sh.header.attentionFrames)

/-- What the sequences hold, for R197. -/
def S8.holdings (s : S8) (sh : Sheet) : List (Track × List Nat × Nat) :=
  s.serve.slots.filterMap (fun e => e.2.place.bind (fun p => (sh.track p.1).map (fun t =>
    (t, e.2.residues t p.2 s.run.step, ceilDiv e.2.reach 16))))

/-- The placings of a track that fit: every fill residue free as the class requires, and the attention reads within bounds. -/
def S8.placings (s : S8) (sh : Sheet) (n lead fill reach : Nat) (shared : Bool) (t : Track) : List Placing :=
  (((List.range t.residues).map (fun i => s.promise sh n lead fill t (t.span * i))).filter (fun p =>
    (t.fillResidues p.residue p.fill).all (fun r =>
      !(s.residueHeld t r p.first shared) && (shared || !(s.reservedForB t r))))).filter (fun p =>
    sh.readsFit (s.holdings sh ++ [(t, t.fillResidues p.residue p.fill, ceilDiv reach 16)]))

/-- The order of preference: earliest F_0, then the lower track, then the lower residue (R310); for class B the smallest span,
then the earliest first entry (R522). -/
def Placing.rank (p : Placing) (shared : Bool) : List Nat :=
  if shared then [p.track.span, p.first, p.track.number, p.residue] else [p.firstToken, p.track.number, p.residue]

/-- Is a list of numbers below another, first difference deciding? -/
def listBelow (a b : List Nat) : Bool :=
  match a, b with
  | x :: xs, y :: ys => x < y || (x = y && listBelow xs ys)
  | _, _ => false

/-- The best placing on some tracks. -/
def S8.bestPlacing (s : S8) (sh : Sheet) (n lead fill reach : Nat) (shared : Bool) (tracks : List Track) : Option Placing :=
  (tracks.flatMap (s.placings sh n lead fill reach shared)).foldl (fun best p =>
    match best with
    | none => some p
    | some b => if listBelow (p.rank shared) (b.rank shared) then some p else best) none

/-! ### Class B's share (R313) -/

/-- W_B: p + MaxNewTokens of every class B sequence in a slot, less the tokens entered. -/
def Serving.outstanding (v : Serving) : Nat :=
  v.slots.foldl (fun a e => if e.2.req.cls = 2 then a + (e.2.req.promptLength + e.2.req.maxNew - e.2.entered) else a) 0

/-- Does a class B request fit what the reserved residues serve within BCompletionHours? -/
def S8.sharedFits (s : S8) (sh : Sheet) (r : Request) : Bool :=
  let residues := ((s.openTracks sh).filter (fun t => t.kind % 2 = 1)).foldl (fun a t => a + min (s.dict.get Obj.bReserve) t.residues) 0
  s.serve.outstanding + r.promptLength + r.maxNew ≤
    residues * (s.dict.get Obj.bCompletionHours * 3600000000000 / (max 1 sh.header.strideS * 65536))

/-! ### The hot pool (R274, R291, R314) -/

/-- The stripe list in force: the in-service engines in ascending order (R274). -/
def S8.stripeList (s : S8) : List Nat :=
  halves.filter (fun e => s.halfServes e && !(s.attn.retired.contains e))

/-- Frames of each engine that a number of pages needs in `layers` layers, for the sequence in a slot (R274). -/
def frameNeed (stripes : List Nat) (slot pages layers : Nat) : List Nat :=
  halves.map (fun e =>
    match stripes.findIdx? (fun x => x = e) with
    | none => 0
    | some i =>
      let n := stripes.length
      layers * ((pages + n - 1 - (i + n - slot % n) % n) / n))

/-- Add engine by engine. -/
def addFrames (a b : List Nat) : List Nat := halves.map (fun e => a.getD e 0 + b.getD e 0)
def subFrames (a b : List Nat) : List Nat := halves.map (fun e => a.getD e 0 - b.getD e 0)

/-- HotPoolCommitted of an engine: pages held, reservations, and releases not yet due (R291, R292). -/
def Serving.committed (v : Serving) (e : Nat) : Nat :=
  v.slots.foldl (fun a q => a + q.2.frames.getD e 0 + q.2.reserved.getD e 0) 0 +
    v.releases.foldl (fun a r => a + r.2.getD e 0) 0

/-- Frames withdrawn from an engine's pool (R400). -/
def Mem.withdrawn (m : Mem) (e : Nat) : Nat := (m.framesGone.filter (fun f => f / 2 ^ 20 = e)).length

/-- Do more frames fit on every half? (R291) -/
def S8.framesFit (s : S8) (need : List Nat) : Bool :=
  halves.all (fun e => need.getD e 0 = 0 ||
    s.serve.committed e + need.getD e 0 + s.mem.withdrawn e + s.dict.get Obj.hotPoolHeadroom ≤ Config.framesPerHalf)

/-- Pages that a sequence needs up to the end of the segment that holds a position, FramesAhead pages beyond, and never more
than its whole reach (R291, R314). -/
def S8.segmentPages (s : S8) (position reach : Nat) : Nat :=
  min (ceilDiv reach 16) (16 * (position / 256 + 1) + s.dict.get Obj.framesAhead)

/-! ### The admission ceiling (R428, R429) -/

/-- U: the sum over held residues of ceil(2^32 / (Lanes × s)). -/
def residueShare (sh : Sheet) (t : Track) (count : Nat) : Nat := count * ceilDiv (2 ^ 32) (max 1 (sh.header.lanes * t.stride))
def S8.heldShare (s : S8) (sh : Sheet) : Nat := (s.holdings sh).foldl (fun a h => a + residueShare sh h.1 h.2.1.length) 0

/-- P_full, in mW. -/
def S8.fullPower (s : S8) (sh : Sheet) : Nat :=
  s.power.scale * (sh.estimates.foldl (fun a e => a + e.step) 0) * 1000000 / (65536 * max 1 (sh.header.minDone + sh.header.barrierLead))

/-- P_adm for a share U, in mW (AdmissionPower). -/
def S8.admissionPower (s : S8) (sh : Sheet) (u : Nat) : Int :=
  (s.power.idle : Int) + ((s.fullPower sh : Int) - s.power.idle) * u / 2 ^ 32

/-- POWER_CAP: the ceiling of R429, or the standing refusal of R427. -/
def S8.powerRefuses (s : S8) (sh : Sheet) (placing : Option Placing) : Bool :=
  s.power.capRefusal ||
    (match placing with
     | none => false
     | some p =>
       1000 * ((s.dict.get Obj.powerCap : Int) - s.dict.get Obj.capMargin) <
         s.admissionPower sh (s.heldShare sh + residueShare sh p.track p.fill))

/-! ### The decision (R308) -/

/-- What the unit decides: a reason, or where the sequence goes. -/
inductive Decision where
  | refuse (reason : Nat)
  | accept (placing : Option Placing)
  deriving DecidableEq, Repr

/-- Pages of a queue of restores. -/
def queuedPages (q : List (Nat × Nat)) : Nat := q.foldl (fun a r => a + r.2) 0

/-- Steps from the admission to the earliest first entry: AdmitLead, and RestoreLead for an image, `before` pages being still to be
read before it (R311, R344). -/
def S8.leadBehind (s : S8) (e : Option PauseEntry) (before : Nat) : Nat :=
  s.dict.get Obj.admitLead +
    (match e with
     | none => 0
     | some p => ceilDiv (64 * p.pages + before) (max 1 s.cellar.restorePages) + 4)

/-- The lead of an admit or resume request: the resumes accepted before it are read first (R344). -/
def S8.leadSteps (s : S8) (e : Option PauseEntry) : Nat := s.leadBehind e (queuedPages s.cellar.restores)

/-- The fill of a class (R310, R522). -/
def S8.fillOf (s : S8) (cls : Nat) : Nat := s.dict.get (if cls = 0 then Obj.fillI else Obj.fillS)

/-- LANE_SHARE or POWER_CAP, or the placing (R308, R310, R313, R522). -/
def S8.placeRequest (s : S8) (sh : Sheet) (r : Request) (n reach : Nat) (e : Option PauseEntry) : Decision :=
  let best (shared : Bool) (l : List Track) : Option Placing := s.bestPlacing sh n (s.leadSteps e) (s.fillOf r.cls) reach shared l
  let shared := r.cls = 2
  let tracks := if shared then s.sharedTracks sh reach else s.classTracks sh r reach
  if shared && !(s.sharedFits sh r) then .refuse 0x03
  else
    match best shared (tracks.filter (fun t => !(s.throttled t))) with
    | some p => .accept (some p)
    | none =>
      if (best shared tracks).isSome then .refuse 0x04
      else if shared && !s.draining then .accept none
      else .refuse 0x03

/-- The slots that are FREE. -/
def S8.freeSlots (s : S8) : List Nat := (List.range 8192).filter (fun i => (SMap.find s.serve.slots i).isNone)

/-- Frames that an accepted request takes at once, and those it reserves beyond them (R291, R314). -/
def S8.framesOf (s : S8) (sh : Sheet) (slot : Nat) (r : Request) (length reach : Nat) (placing : Option Placing) :
    List Nat × List Nat :=
  if placing.isNone then ([], [])
  else
    let need (pages : Nat) : List Nat := frameNeed s.stripeList slot pages sh.attention.length
    let now := need (s.segmentPages (length - 1) reach)
    (now, if r.cls = 2 then [] else subFrames (need (ceilDiv reach 16)) now)

/-- The checks of an admit (kind 1) or resume (kind 6) request after ownership, in the order of R308. -/
def S8.decideRequest (s : S8) (kind slot : Nat) (r : Request) (v : FrameView) : Decision :=
  if s.badRequest kind r v then .refuse 0x09
  else
    match s.run.running with
    | none => .refuse 0x0B
    | some sh =>
      let named := if kind = 6 then (s.cellar.named r.pauseKey).map (fun e => e.2) else none
      let length := (named.map (·.length)).getD 0
      let reach := length + r.promptLength + r.maxNew
      let n := r.promptLength + (if kind = 6 then 1 else 0)
      if s.contentMissing sh r named then .refuse 0x06
      else if 8388608 < reach then .refuse 0x05
      else if kind = 6 && (match named with | none => true | some e => s.cellar.expired e) then .refuse 0x14
      else if 8192 ≤ s.serve.slots.length then .refuse 0x01
      else
        match s.placeRequest sh r n reach named with
        | .refuse reason => .refuse reason
        | .accept placing =>
          let f := s.framesOf sh slot r length reach placing
          if !(s.framesFit (addFrames f.1 f.2)) then .refuse 0x02
          else if s.powerRefuses sh placing then .refuse 0x04
          else .accept placing

/-! ### Acceptance -/

/-- The request of a resumed sequence: its sampler state, stop tokens, window and policy are the image's (R323, R337, R346). -/
def Request.resumed (r : Request) (e : PauseEntry) : Request :=
  { r with
    pinPolicy := e.image.pinPolicy, temperature := e.image.temperature, topP := e.image.topP, sampleSeed := e.image.sampleSeed,
    stops := e.image.stops, window := e.image.window }

/-- Change a version's PinCount (R376). -/
def Cultures.pin (c : Cultures) (id version : Nat) (change : Int) : Cultures :=
  { c with table := c.table.map (fun v =>
      if v.cultureId = id ∧ v.version = version ∧ id ≠ 0 then { v with pins := ((v.pins : Int) + change).toNat } else v) }

/-- The sequence an accepted request puts into its slot. -/
def S8.newSequence (s : S8) (sh : Sheet) (slot : Nat) (port : Port) (r : Request) (named : Option (Nat × PauseEntry))
    (placing : Option Placing) : Sequence :=
  let image := named.map (fun e => e.2)
  let length := (image.map (·.length)).getD 0
  let culture := (s.cultureFor r image).getD (0, 0)
  let f := s.framesOf sh slot r length (length + r.promptLength + r.maxNew) placing
  { state := if placing.isSome then .admitted else .parked
    req := (image.map r.resumed).getD r
    port := port
    place := placing.map (fun p => (p.track.number, p.residue))
    fill := (placing.map (·.fill)).getD 1
    admitStep := s.run.step
    nextEntry := (placing.map (·.first)).getD 0
    firstTokenStep := (placing.map (·.firstToken)).getD 0
    restored := length
    pendingToken := image.map (fun e => e.image.pendingToken)
    prompt := []
    entered := 0
    entriesAt := []
    sampled := []
    lastToken := none
    cultureId := culture.1
    cultureVersion := culture.2
    wheelVersion := sh.header.wheelVersion
    emitted := (image.map (fun e => e.image.emitted)).getD 0
    unrepaired := 0
    clamped := 0
    left := (image.map (fun e => e.image.left)).getD r.maxNew
    draws := (image.map (fun e => e.image.draws)).getD 0
    status := (image.map (fun e => e.image.status)).getD 0
    inFlight := 0
    lastStep := 0
    promptLate := false
    followed := false
    parkedOnce := false
    pauseAsked := none
    forcedPause := false
    cancelled := false
    completion := none
    stripes := s.stripeList
    entry := named.map (fun e => e.1)
    restoring := named.isSome && placing.isSome
    frames := f.1
    reserved := f.2 }

/-- The handle of a slot: generation[31:13], slot[12:0] (R315). -/
def Serving.handle (v : Serving) (slot : Nat) : Nat := SMap.getD v.generations slot 1 * 8192 + slot

/-- The answer to an accepted request (R307, R311, R313). -/
def S8.acceptance (s : S8) (downSlot kind slot : Nat) (r : Request) (placing : Option Placing) : AnswerRecord :=
  { downSlot := downSlot, kind := kind, refused := false, reason := 0, requestId := r.requestId, handle := s.serve.handle slot,
    cls := r.cls, track := (placing.map (·.track.number)).getD 0xFF, residue := (placing.map (·.residue)).getD 0xFFFF,
    admitStep := s.run.step, firstTokenStep := (placing.map (·.firstToken)).getD 0, stride := (placing.map (·.track.stride)).getD 0,
    fill := (placing.map (·.fill)).getD 0,
    firstTokenTicks := (placing.map (fun p => (p.firstToken - s.run.step + 1) * 65536 + 2786)).getD 0,
    completionSeconds := if r.cls = 2 then 3600 * s.dict.get Obj.bCompletionHours else 0 }

/-- Accept a request: the slot taken, the version pinned, a resume's entry moved to State 3 and its restore queued (R308, R315,
R343, R344, R376). -/
def S8.acceptRequest (s : S8) (sh : Sheet) (slot : Nat) (port : Port) (kind : Nat) (r : Request) (placing : Option Placing) : S8 :=
  let named := if kind = 6 then s.cellar.named r.pauseKey else none
  let q := s.newSequence sh slot port r named placing
  let cellar := match named with
    | none => s.cellar
    | some (n, e) =>
      { s.cellar with
        index := SMap.insert s.cellar.index n { e with state := 3 }
        restores := s.cellar.restores ++ (if placing.isSome then [(slot, 64 * e.pages)] else []) }
  S8.raise { s.picked with
    serve := { s.serve with
      slots := SMap.insert s.serve.slots slot q
      completed := s.serve.completed.filter (fun h => h % 8192 ≠ slot) }
    cultures := s.cultures.pin q.cultureId q.cultureVersion 1
    cellar := cellar } Obj.admitCount 0 1 (unitField 10 (s.serve.handle slot)) r.requestId

/-- Decide an admit or resume request: the answer record and the module after it. -/
def S8.answerRequest (s : S8) (kind : Nat) (port : Port) (downSlot : Nat) (v : FrameView) : AnswerRecord × S8 :=
  let r := Request.ofView v
  let slot := s.pick s.freeSlots
  match s.decideRequest kind slot r v, s.run.running with
  | .accept placing, some sh => (s.acceptance downSlot kind slot r placing, s.acceptRequest sh slot port kind r placing)
  | .accept _, none => (refusalRecord downSlot kind r.requestId 0 0x0B, s)
  | .refuse reason, _ => (refusalRecord downSlot kind r.requestId 0 reason, s)

/-! ### Request frames (R300, R303, R304, R309) -/

/-- Did ownership move in the last 2 cycles? -/
def Ports.justMoved (p : Ports) : Bool :=
  match p.movedAt with
  | none => false
  | some c => p.cycle - c < 2

/-- Keep an answer, at most 256 (R309). -/
def Ports.keep (p : Ports) (port : Port) (r : AnswerRecord) : Ports := { p with kept := ((port, r) :: p.kept).take 256 }

/-- Handle a request frame: the checks for the slot, ownership and a repeated RequestId, then the decision. -/
def S8.requestFrame (s : S8) (f : Frame) (kind : Nat) (decision : S8 → FrameView → AnswerRecord × S8) : S8 :=
  s.receive f kind (fun c v =>
    let id := v.at 0 4
    let named := if kind = 1 ∨ kind = 6 then 0 else v.handle
    if 8 ≤ f.slot.val then c.raise Obj.requestSlotErrorCount 0 1 0 0
    else if c.ports.owner ≠ f.port then c.answerRecord f.port (refusalRecord f.slot.val kind id named 0x07)
    else if c.ports.justMoved then c.answerRecord f.port (refusalRecord f.slot.val kind id named 0x08)
    else
      match c.ports.kept.find? (fun k => k.1 = f.port && k.2.requestId = id) with
      | some k => c.placeRecord f.port { k.2 with downSlot := f.slot.val }
      | none =>
        let d := decision c v
        let after := d.2.answerRecord f.port d.1
        { after with ports := after.ports.keep f.port d.1 })

/-- ADMIT_REQUEST (R308). -/
def execAdmitRequest (f : Frame) (s : State) : Host.Outcome State Fault Refusal :=
  act (.admitRequest f) s (fun c => c.requestFrame f 1 (fun c v => c.answerRequest 1 f.port f.slot.val v))

/-- RESUME (R319). -/
def execResume (f : Frame) (s : State) : Host.Outcome State Fault Refusal :=
  act (.resume f) s (fun c => c.requestFrame f 6 (fun c v => c.answerRequest 6 f.port f.slot.val v))

end Sys2Proof.Machine
end

