-- ==== Sys2Proof/Machine/Sampler.lean ====
section
/-! DEFINITION. The sampler (R322, R323) and the embedding task (R205). -/

namespace Sys2Proof.Machine

/-! ### The distribution (R322) -/

/-- The first identifier of the largest logit. -/
def argMax (z : List Fp) : Nat :=
  (z.zipIdx.foldl (fun (a : Nat × Fp) e => if a.2.lt e.1 then (e.2, e.1) else a) (0, z.headD (.inf true))).1

/-- The largest of a list of data. -/
def maxFp (z : List Fp) : Fp := z.foldl (fun a x => if a.lt x then x else a) (.inf true)

/-- Step 3: q_i = z_i / T, and w_i = e^(q_i − m). -/
def temper (z : List Fp) (t : Fp) : List Fp := z.map (fun x => binary32.div x t)
def weights (q : List Fp) : List Fp := q.map (fun x => expFp (binary32.sub x (maxFp q)))

/-- Step 4: the identifiers by descending weight, ties to the lower, each with its running sum in binary64. -/
def ranked (w : List Fp) : List (Nat × Fp) :=
  let order := sortBy (fun (a b : Nat × Fp) => b.2.lt a.2 || (!(a.2.lt b.2) && a.1 < b.1)) (w.zipIdx.map (fun e => (e.2, e.1)))
  (order.foldl (fun (acc : List (Nat × Fp) × Fp) e =>
    let c := binary64.add acc.2 e.2
    (acc.1 ++ [(e.1, c)], c)) ([], Fp.fin false 0 0)).1

/-- W, the sum over all identifiers. -/
def weightSum (r : List (Nat × Fp)) : Fp := ((r.getLast?).map (fun e => e.2)).getD (.fin false 0 0)

/-- The kept set: the shortest prefix whose running sum reaches a bound. -/
def keptSet (r : List (Nat × Fp)) (bound : Fp) : List (Nat × Fp) :=
  match r with
  | [] => []
  | e :: rest => if e.2.lt bound then e :: keptSet rest bound else [e]

/-- Step 5: the SplitMix64 mixer of draw n, and u as a binary64 datum. -/
def splitMix (seed n : Nat) : Nat :=
  let x0 := (seed + (n + 1) * 0x9E3779B97F4A7C15) % 2 ^ 64
  let x1 := ((x0 ^^^ (x0 / 2 ^ 30)) * 0xBF58476D1CE4E5B9) % 2 ^ 64
  let x2 := ((x1 ^^^ (x1 / 2 ^ 27)) * 0x94D049BB133111EB) % 2 ^ 64
  x2 ^^^ (x2 / 2 ^ 31)
def drawOf (seed n : Nat) : Fp := .fin false (splitMix seed n / 2 ^ 11) (-53)

/-- Step 6: ln of a quotient, in binary64 and rounded once to binary32. -/
def logProb (w total : Fp) : Nat := binary32.encode (binary32.convert (Config.ln64 (binary64.div w total)))

/-- What sampling answers: the token, its log-probability's bits, whether it is poisoned and whether a draw was made. -/
structure Draw where
  token : Nat
  logProb : Nat
  poison : Bool
  drawn : Bool
  deriving DecidableEq, Repr

/-- Step 1. -/
def poisonedDraw : Draw := { token := 0, logProb := 0x7FC00000, poison := true, drawn := false }

/-- Sample a token (R322). -/
def sampleToken (z : List Fp) (poison : Bool) (temperature topP seed draws : Nat) : Draw :=
  if poison || z.any Fp.nonFinite then poisonedDraw
  else if temperature % 2 ^ 31 = 0 then
    let t := argMax z
    let w := weights (temper z (.fin false 1 0))
    { token := t, logProb := logProb (w.getD t .nan) (weightSum (ranked w)), poison := false, drawn := false }
  else
    let q := temper z (binary32.decode temperature)
    if q.any Fp.nonFinite then poisonedDraw
    else
      let w := weights q
      let r := ranked w
      let kept := keptSet r (binary64.mul (binary32.decode topP) (weightSum r))
      let k := weightSum kept
      let bar := binary64.mul (drawOf seed draws) k
      let t := (((kept.find? (fun e => bar.lt e.2)).orElse (fun _ => kept.getLast?)).map (fun e => e.1)).getD 0
      { token := t, logProb := logProb (w.getD t .nan) k, poison := false, drawn := true }

/-! ### The task -/

/-- VocabularySize V of the running sheet's wheel (R353). -/
def S8.vocabulary (s : S8) (sh : Sheet) : Nat :=
  ((s.wheels.table.find? (fun w => w.wheelId = sh.header.wheelId && w.version = sh.header.wheelVersion)).map
    (fun w => w.manifest.vocabulary)).getD 0

/-- The sequence after a token is sampled for one of its entries (R322, R323). -/
def Sequence.sample (q : Sequence) (e : EntryMade) (step : Nat) (z : List Fp) : Sequence :=
  let d := sampleToken z (field q.inFlight 4 1 = 1) q.req.temperature q.req.topP q.req.sampleSeed q.draws
  let position := q.base + e.entry + 1
  { q with
    sampled := q.sampled ++ [{ lane := e.lane, token := d.token, position := position, step := step,
                               status := orStatus q.inFlight (if d.poison then statusPoison else 0), logProb := d.logProb,
                               last := q.req.stops.contains d.token || q.left ≤ 1 }]
    lastToken := some (d.token, position)
    left := q.left - 1
    draws := q.draws + (if d.drawn then 1 else 0)
    inFlight := 0 }

/-- Sample the token due on a task's lane in this step: W16 logits from its input rows. -/
def S8.sampleLane (s : S8) (index lane : Nat) : S8 :=
  match s.run.task index with
  | none => s
  | some (sh, t) =>
    if t.kind = 4 && sh.samples && s.dieServes t.core.die && !(s.cores.unbacked.contains t.core.key) && t.firstLane ≤ lane &&
        lane < t.firstLane + t.laneCount && !(s.run.tasksEnded.contains index) then
      match s.dueOnLane sh lane s.run.step with
      | none => s
      | some (slot, q, e) =>
        if q.ended || (q.lastToken.map (fun x => x.2)) = some (q.base + e.entry + 1) then s
        else
          let v := s.vocabulary sh
          let n := ceilDiv (2 * v) 512
          s.reading t.core (t.inRow n lane) n (fun rows =>
            let z := (List.range v).map (fun i => bfloat16.decode (leAt rows (2 * i) 2))
            { s with serve := { s.serve with slots := SMap.insert s.serve.slots slot (q.sample e s.run.step z) } })
    else s

/-- TASK_SAMPLE (R322, R323). -/
def execTaskSample (task : Nat) (lane : Lane) (s : State) : Host.Outcome State Fault Refusal :=
  act (.taskSample task lane) s (fun c => c.sampleLane task lane.val)

/-- The token that enters phase 0 on a lane in this step. -/
def S8.enteringToken (s : S8) (lane : Nat) : Option Nat :=
  s.serve.slots.findSome? (fun e =>
    (e.2.entriesAt.find? (fun x => x.lane = lane && x.step = s.run.step)).bind (fun x => e.2.tokenOf x.entry))

/-- TASK_EMBED (R205): the wheel's embedding of the token that enters phase 0 on the lane. -/
def execTaskEmbed (task : Nat) (lane : Lane) (s : State) : Host.Outcome State Fault Refusal :=
  act (.taskEmbed task lane) s (fun c => c.onTask task 6 lane.val (fun _ t =>
    match c.enteringToken lane.val with
    | none => c
    | some token => c.routineLane task 6 t lane.val (leBytes 4 token)))

end Sys2Proof.Machine
end

