-- ==== Sys2Proof/Machine/Serving.lean ====
section
/-! DEFINITION. Serving: cancel and pause, prompt frames, the control port cycle with its commits and upstream frames, and ending a
sequence (R294 to R304, R315 to R326). -/

namespace Sys2Proof.Machine

/-! ### Slots becoming FREE -/

/-- The generation after one, modulo 2^19 and skipping 0 (R315). -/
def nextGeneration (g : Nat) : Nat := if (g + 1) % 2 ^ 19 = 0 then 1 else (g + 1) % 2 ^ 19

/-- Release a sequence's frames 65 steps from now (R292). -/
def Serving.releaseFrames (v : Serving) (step : Nat) (frames : List Nat) : Serving :=
  if frames.all (· = 0) then v else { v with releases := v.releases ++ [(step + 65, frames)] }

/-- Free a slot: its generation advances, its pin and frames are released, the entries it took in the pause index for an image
that will not be written or that it no longer needs are freed (R292, R315, R316, R376). -/
def S8.freeSlot (s : S8) (slot : Nat) : S8 :=
  match SMap.find s.serve.slots slot with
  | none => s
  | some q =>
    { s with
      serve := Serving.releaseFrames { s.serve with
        slots := SMap.erase s.serve.slots slot
        generations := SMap.insert s.serve.generations slot (nextGeneration (SMap.getD s.serve.generations slot 1)) }
        s.run.step q.frames
      cultures := s.cultures.pin q.cultureId q.cultureVersion (-1)
      cellar := (q.entry.toList ++ q.pauseAsked.toList).foldl Cellar.release
        (s.cellar.unqueue slot) }

/-- End a sequence with its record, sent from the next cycle boundary on (R316, R324). -/
def S8.finish (s : S8) (slot : Nat) (c : Completion) : S8 :=
  match SMap.find s.serve.slots slot with
  | none => s
  | some q =>
    let h := s.serve.handle slot
    S8.freeSlot { s with serve := { s.serve with
      finished := s.serve.finished ++ [(h, q, c)]
      completed := if c.outcome = 0 then h :: s.serve.completed else s.serve.completed } } slot

/-- A record with an outcome and an error, without key and digest. -/
def Completion.plain (outcome error : Nat) (broken : Bool) : Completion :=
  { outcome := outcome, error := error, promiseBroken := broken, pauseKey := 0, digest := [] }

/-- Change the sequence in a slot. -/
def S8.setSequence (s : S8) (slot : Nat) (f : Sequence → Sequence) : S8 :=
  match SMap.find s.serve.slots slot with
  | none => s
  | some q => { s with serve := { s.serve with slots := SMap.insert s.serve.slots slot (f q) } }

/-! ### Cancel and pause (R308, R316, R317, R326, R338) -/

/-- The slot that a handle names: one not FREE, of the handle's generation (R315). -/
def Serving.named (v : Serving) (handle : Nat) : Option (Nat × Sequence) :=
  if handle / 8192 = SMap.getD v.generations (handle % 8192) 1 then
    (SMap.find v.slots (handle % 8192)).map (fun q => (handle % 8192, q))
  else none

/-- The answer to a cancel or pause that is accepted. -/
def heededRecord (downSlot kind requestId handle : Nat) : AnswerRecord :=
  { refusalRecord downSlot kind requestId handle 0 with refused := false }

/-- Are a cancel's or pause's reserved payload bytes zero? (R306) -/
def handleRequestOk (v : FrameView) : Bool := zeroBetween v.payload 4 224

/-- A sequence cancelled (R326): one that has been given a record keeps it. -/
def Sequence.cancel (q : Sequence) : Sequence :=
  if q.completion.isSome then q
  else if q.state = .running then
    { q with state := .draining, cancelled := true, completion := some (Completion.plain 1 0 false) }
  else { q with completion := some (Completion.plain 1 0 false) }

/-- Decide a cancel. -/
def S8.answerCancel (s : S8) (downSlot : Nat) (v : FrameView) : AnswerRecord × S8 :=
  let id := v.at 0 4
  let refuse (reason : Nat) : AnswerRecord × S8 := (refusalRecord downSlot 4 id v.handle reason, s)
  if !(handleRequestOk v) then refuse 0x09
  else
    match s.serve.named v.handle with
    | none => if s.serve.completed.contains v.handle then refuse 0x10 else refuse 0x11
    | some (slot, q) =>
      if q.state = .draining ∨ q.state = .pausing then refuse 0x12
      else (heededRecord downSlot 4 id v.handle, s.setSequence slot Sequence.cancel)

/-- CANCEL (R326). -/
def execCancel (f : Frame) (s : State) : Host.Outcome State Fault Refusal :=
  act (.cancel f) s (fun c => c.requestFrame f 4 (fun c v => c.answerCancel f.slot.val v))

/-- Attention layers held. -/
def Run.layersHeld (r : Run) : Nat := (r.running.map (fun sh => sh.attention.length)).getD 0

/-- The pages of the image that a sequence could produce at its next segment boundary (R338). -/
def S8.nextImagePages (s : S8) (q : Sequence) : Nat := imagePages s.run.layersHeld (256 * ceilDiv q.held 256)

/-- The pages and entries that an explicit pause would take: those of the next boundary's image; none where a parked sequence's image is
in the cellar already (R316, R338). -/
def S8.pauseNeed (s : S8) (q : Sequence) : Nat × Nat :=
  if q.state ≠ .parked then (s.nextImagePages q, 1)
  else if q.entry.isSome then (0, 0)
  else (imagePages s.run.layersHeld q.held, 1)

/-- CELLAR_FULL: would an explicit pause leave less than the forced reserve? (R338) -/
def S8.cellarFull (s : S8) (q : Sequence) : Bool :=
  s.cellar.free < 16384 * 64 * pagesField (s.pauseNeed q).1 + s.dict.get Obj.cellarForcedReserve * 2 ^ 30 ||
    s.cellar.entriesFree < 8192 + (s.pauseNeed q).2

/-- LayerTag of the running sheet, 0 with none. -/
def Run.tag (r : Run) : Nat := (r.running.map Sheet.layerTag).getD 0

/-- A pause of a PARKED sequence takes effect at once: its image's key is given out, or once it is written (R316). -/
def S8.pauseParked (s : S8) (slot : Nat) (q : Sequence) : S8 :=
  match q.entry.bind (fun n => (SMap.find s.cellar.index n).map (fun e => (n, e))) with
  | none =>
    let t := s.takeEntry (imagePages s.run.layersHeld q.held) s.run.tag
    t.2.setSequence slot (fun q => { q with state := .pausing, entry := some t.1 })
  | some (n, e) =>
    if e.state = 1 then s.setSequence slot (fun q => { q with state := .pausing })
    else
      let after := { s with cellar := { s.cellar with
        index := SMap.insert s.cellar.index n { e with state := 2, expiry := s.cellar.seconds + s.dict.get Obj.pauseTimeToLive } } }
      (after.setSequence slot (fun q => { q with
          entry := none
          completion := some { outcome := 2, error := 0, promiseBroken := false, pauseKey := pauseKey n e.nonce, digest := e.image.digest } }))

/-- Decide a pause. -/
def S8.answerPause (s : S8) (downSlot : Nat) (v : FrameView) : AnswerRecord × S8 :=
  let id := v.at 0 4
  let refuse (reason : Nat) : AnswerRecord × S8 := (refusalRecord downSlot 5 id v.handle reason, s)
  if !(handleRequestOk v) then refuse 0x09
  else
    match s.serve.named v.handle with
    | none => refuse 0x11
    | some (slot, q) =>
      if (q.state ≠ .running ∧ q.state ≠ .parked) ∨ q.pauseAsked.isSome ∨ q.completion.isSome then refuse 0x12
      else if s.cellarFull q then refuse 0x13
      else if q.state = .parked then (heededRecord downSlot 5 id v.handle, s.pauseParked slot q)
      else
        let t := s.takeEntry (s.nextImagePages q) s.run.tag
        (heededRecord downSlot 5 id v.handle, t.2.setSequence slot (fun q => { q with pauseAsked := some t.1 }))

/-- PAUSE (R317). -/
def execPause (f : Frame) (s : State) : Host.Outcome State Fault Refusal :=
  act (.pause f) s (fun c => c.requestFrame f 5 (fun c v => c.answerPause f.slot.val v))

/-- IDLE_FRAME (R299, R304): a good frame of the port. -/
def execIdleFrame (f : Frame) (s : State) : Host.Outcome State Fault Refusal :=
  act (.idleFrame f) s (fun c => c.receive f 0x3F (fun c _ => c))

/-! ### Prompt tokens (R301, R302) -/

/-- The prompt after a frame's tokens, by index, and how many were ignored: an index already entered keeps its token. -/
def Sequence.takeTokens (q : Sequence) (first : Nat) (tokens : List Nat) : Sequence × Nat :=
  let shift := if q.pendingToken.isSome then 1 else 0
  (tokens.zipIdx.foldl (fun (a : Sequence × Nat) e =>
    if first + e.2 + shift < q.entered then (a.1, a.2 + 1)
    else ({ a.1 with prompt := SMap.insert a.1.prompt (first + e.2) e.1 }, a.2)) (q, 0))

/-- A prompt frame's tokens reach their sequence; one outside the vocabulary ends it with BAD_PROMPT. -/
def S8.promptTokens (s : S8) (slot : Nat) (q : Sequence) (first : Nat) (tokens : List Nat) : S8 :=
  let vocabulary := (s.run.running.map s.vocabulary).getD 0
  if tokens.any (fun t => vocabulary ≤ t) then
    s.setSequence slot (fun q =>
      if q.completion.isSome then q else { q with completion := some (Completion.plain 3 3 false) })
  else
    let r := q.takeTokens first tokens
    (s.setSequence slot (fun _ => r.1)).raise Obj.promptIgnoredCount 0 r.2 (unitField 10 (s.serve.handle slot)) first

/-- BULK_PROMPT_TOKENS (R301, R302). -/
def execBulkPromptTokens (f : Frame) (s : State) : Host.Outcome State Fault Refusal :=
  act (.bulkPromptTokens f) s (fun c => c.receiveBulk f 1 (fun c v =>
    let first := v.at 4 4
    let count := v.at 8 2
    match c.serve.named v.handle with
    | none => c.frameLost
    | some (slot, q) =>
      if (q.state ≠ .admitted ∧ q.state ≠ .running) ∨ count = 0 ∨ 53 < count ∨ q.req.promptLength < first + count then c.frameLost
      else c.promptTokens slot q first ((List.range count).map (fun i => v.at (12 + 4 * i) 4))))

/-! ### Upstream frames (R297 to R299, R305, R307, R321, R324, R473) -/

/-- The 256 bytes of an upstream frame in a cycle and slot. -/
def UpFrame.raw (u : UpFrame) (cycle slot : Nat) : Bytes :=
  encodeFrame (leBytes 1 u.type ++ leBytes 3 cycle ++ leBytes 1 slot ++ leBytes 4 u.handle ++ leBytes 2 u.payload.length ++
    leBytes 2 u.flags ++ zeros 3 ++ u.payload)

/-- An answer record's 112 bytes. -/
def AnswerRecord.toBytes (r : AnswerRecord) : Bytes :=
  padTo 112 (leBytes 1 r.downSlot ++ leBytes 1 r.kind ++ leBytes 1 (if r.refused then 1 else 0) ++ leBytes 1 r.reason ++
    leBytes 4 r.requestId ++ leBytes 4 r.handle ++ leBytes 1 r.cls ++ leBytes 1 r.track ++ leBytes 2 r.residue ++
    leBytes 8 r.admitStep ++ leBytes 8 r.firstTokenStep ++ leBytes 2 r.stride ++ leBytes 1 r.fill ++ zeros 1 ++
    leBytes 8 r.firstTokenTicks ++ leBytes 4 r.completionSeconds)

/-- The answer frame of downstream slots 2i and 2i + 1; none when neither held a request frame. -/
def PortState.answerFrame (st : PortState) (i : Nat) : Option UpFrame :=
  if st.records.any (fun r => r.downSlot / 2 = i) then
    some { type := 2, handle := 0, flags := 0,
           payload := (List.range 2).flatMap (fun j =>
             match st.records.find? (fun r => r.downSlot = 2 * i + j) with
             | some r => r.toBytes
             | none => zeros 112) }
  else none

/-- The next frame of a port in the order of R299, and the port without it. -/
def PortState.next (st : PortState) : Option (UpFrame × PortState) :=
  match st.tokens, st.records07, st.events, st.answers, st.segments with
  | u :: rest, _, _, _, _ => some (u, { st with tokens := rest })
  | [], u :: rest, _, _, _ => some (u, { st with records07 := rest })
  | [], [], u :: rest, _, _ => some (u, { st with events := rest })
  | [], [], [], u :: rest, _ => some (u, { st with answers := rest })
  | [], [], [], [], u :: rest => some (u, { st with segments := rest })
  | [], [], [], [], [] => none

/-- Fill upstream slots from `slot` on. -/
def PortState.fill (st : PortState) (slots : List Nat) : PortState :=
  slots.foldl (fun st n =>
    match st.next with
    | none => st
    | some (u, rest) => { rest with upstream := rest.upstream ++ [(n, u)] }) st

/-- The cycle that ends: its slots 12 to 15 carry the answers to its request frames, or other traffic (R299, R305). -/
def PortState.closeCycle (st : PortState) : PortState :=
  let s1 := (List.range 4).foldl (fun st i =>
    match st.answerFrame i with
    | some u => { st with upstream := st.upstream ++ [(12 + i, u)] }
    | none => st.fill [12 + i]) { st with upstream := [] }
  { s1 with records := [] }

/-- A token out frame (R321). -/
def tokenFrame (handle : Nat) (t : SampledToken) : UpFrame :=
  { type := 3, handle := handle, flags := 0,
    payload := padTo 224 (leBytes 4 t.position ++ leBytes 4 t.token ++ leBytes 8 t.step ++ leBytes 2 t.status ++
      leBytes 1 (if t.last then 1 else 0) ++ zeros 1 ++ leBytes 4 t.logProb) }

/-- A completion record frame (R324). -/
def recordFrame (handle : Nat) (q : Sequence) (c : Completion) : UpFrame :=
  let flags := (if c.promiseBroken then 1 else 0) + (if q.promptLate then 2 else 0) + (if q.followed then 4 else 0) +
    (if q.parkedOnce then 8 else 0)
  { type := 7, handle := handle, flags := 0,
    payload := padTo 224 (leBytes 1 c.outcome ++ leBytes 1 c.error ++ leBytes 2 q.status ++ leBytes 1 flags ++ zeros 3 ++
      leBytes 4 q.emitted ++ leBytes 4 q.unrepaired ++ leBytes 4 q.clamped ++ leBytes 4 q.held ++ leBytes 8 q.lastStep ++
      leBytes 8 c.pauseKey ++ leBytes 4 q.wheelVersion ++ leBytes 2 q.cultureId ++ leBytes 2 q.cultureVersion ++
      padTo 32 c.digest ++ leBytes 4 q.req.requestId) }

/-- An event frame (R473). -/
def eventFrame (e : EventFrame) (dropped : Bool) : UpFrame :=
  { type := 0x20, handle := 0, flags := 0,
    payload := padTo 224 (leBytes 2 (e.obj / 256) ++ leBytes 1 (e.obj % 256) ++
      leBytes 1 ((if e.nonMaskable then 1 else 0) + (if dropped then 2 else 0)) ++ leBytes 4 e.element ++ leBytes 4 e.counter ++
      leBytes 8 e.mark.step ++ leBytes 4 e.mark.unit ++ leBytes 8 e.mark.value) }

/-- Send a frame on every live port (R299). -/
def Ports.onLive (p : Ports) (f : PortState → PortState) : Ports :=
  let a := if p.live .a then f p.a else p.a
  let b := if p.live .b then f p.b else p.b
  { p with a := a, b := b }

/-! ### Commit (R320, R323 to R326) -/

/-- A sequence with one token more emitted (R130, R324). -/
def Sequence.emit (q : Sequence) (t : SampledToken) : Sequence :=
  { q with
    emitted := q.emitted + 1
    unrepaired := q.unrepaired + field t.status 1 1
    clamped := q.clamped + field t.status 2 1
    status := orStatus q.status t.status
    lastStep := t.step }

/-- The token out frames of the tokens sampled in steps that have ended, in ascending lane order; a cancelled sequence's go to whey
(R320, R326). -/
def S8.dueTokens (s : S8) : List UpFrame :=
  let frames (handle : Nat) (q : Sequence) : List (Nat × UpFrame) :=
    if q.cancelled then []
    else (q.sampled.filter (fun t => t.step < s.run.step)).map (fun t => (256 * t.step + t.lane, tokenFrame handle t))
  let all := s.serve.finished.flatMap (fun e => frames e.1 e.2.1) ++
    s.serve.slots.flatMap (fun e => frames (s.serve.handle e.1) e.2)
  (sortBy (fun (a b : Nat × UpFrame) => a.1 ≤ b.1) all).map (fun e => e.2)

/-- Commit one token: to whey when its sequence was cancelled, else it counts among those emitted. -/
def S8.commitToken (s : S8) (slot : Nat) (t : SampledToken) : S8 :=
  match SMap.find s.serve.slots slot with
  | none => s
  | some q =>
    if q.cancelled then { s with dict := s.dict.tally Obj.wheyTokenCount 1 } else s.setSequence slot (fun q => q.emit t)

/-- Commit the tokens that a sequence which has ended sampled before its end. -/
def S8.commitEnded (s : S8) (e : Nat × Sequence × Completion) : S8 :=
  let due := e.2.1.sampled.filter (fun t => t.step < s.run.step)
  let q := if e.2.1.cancelled then e.2.1 else due.foldl (fun (q : Sequence) t => q.emit t) e.2.1
  let s1 : S8 := { s with serve := { s.serve with finished := s.serve.finished ++ [(e.1, q, e.2.2)] } }
  if e.2.1.cancelled then { s1 with dict := s1.dict.tally Obj.wheyTokenCount due.length } else s1

/-- How a sequence stands after its tokens are committed: a poisoned token or its last one ends it; a cancelled one's record is
sent, and its slot is FREE when the token that went to whey was its last. -/
def S8.commitEnd (s : S8) (slot : Nat) (tokens : List SampledToken) (commit : Bool) : S8 :=
  match SMap.find s.serve.slots slot with
  | none => s
  | some q =>
    if q.state = .draining then
      match q.completion with
      | some c =>
        if tokens.any (·.last) then s.finish slot c
        else if commit then
          { s with serve := { s.serve with
              finished := s.serve.finished ++ [(s.serve.handle slot, q, c)]
              slots := SMap.insert s.serve.slots slot { q with completion := none } } }
        else s
      | none => if tokens.any (·.last) then s.freeSlot slot else s
    else
      match q.completion with
      | some c => s.finish slot c
      | none =>
        if tokens.any (fun t => field t.status 4 1 = 1) then s.finish slot (Completion.plain 3 1 false)
        else if tokens.any (·.last) then s.finish slot (Completion.plain 0 0 false)
        else s

/-- Commit what a slot has sampled in steps that have ended. -/
def S8.commitSlot (s : S8) (commit : Bool) (slot : Nat) : S8 :=
  match SMap.find s.serve.slots slot with
  | none => s
  | some q =>
    let due := q.sampled.filter (fun t => t.step < s.run.step)
    let s1 := s.setSequence slot (fun q => { q with sampled := q.sampled.filter (fun t => s.run.step ≤ t.step) })
    (due.foldl (fun s t => s.commitToken slot t) s1).commitEnd slot due commit

/-- Slots in ascending lane order, those without a lane last (R320). -/
def Serving.laneOrder (v : Serving) : List Nat :=
  (sortBy (fun (a b : Nat × Sequence) =>
    ((a.2.place.map (fun p => p.1)).getD 256) ≤ ((b.2.place.map (fun p => p.1)).getD 256)) v.slots).map (fun e => e.1)

/-- The commit of a cycle boundary: tokens and completions, then the records on every live port. -/
def S8.commit (s : S8) : S8 :=
  let commit := s.run.step ≠ s.serve.commitStep
  let tokens := s.dueTokens
  let s0 := s.serve.finished.foldl (fun (s : S8) e => s.commitEnded e) { s with serve := { s.serve with finished := [] } }
  let s1 := s.serve.laneOrder.foldl (fun s slot => s.commitSlot commit slot) s0
  let records := s1.serve.finished.map (fun e => recordFrame e.1 e.2.1 e.2.2)
  { s1 with
    serve := { s1.serve with finished := [], commitStep := s1.run.step }
    ports := s1.ports.onLive (fun st => { st with tokens := st.tokens ++ tokens, records07 := st.records07 ++ records }) }

/-! ### Ownership (R304) -/

/-- Has a port been silent for 64 consecutive cycles? -/
def Ports.silent (p : Ports) (which : Port) : Bool :=
  match (p.get which).lastGood with
  | none => 64 ≤ p.cycle + 1
  | some c => 64 ≤ p.cycle - c

/-- Does ownership move at this cycle boundary? -/
def Ports.moves (p : Ports) : Bool := p.releaseAsked || (p.silent p.owner && p.live (otherPort p.owner))

/-- End an open segmented transfer without effect (R470): the count, and its answer. -/
def S8.endTransfer (s : S8) (t : DictTransfer) (status : Nat) : S8 :=
  S8.raise { s with
    dict := { s.dict with transfers := s.dict.transfers.filter (fun u => u.id ≠ t.id ∨ u.port ≠ t.port) }
    ports := s.ports.set t.port { s.ports.get t.port with
      answers := (s.ports.get t.port).answers ++
        (if t.write then [dictAnswer 0x11 t.requestId t.obj status (typeCodeOf t.obj) 0 t.id t.length []] else [])
      segments := (s.ports.get t.port).segments.filter (fun u => leAt u.payload 0 2 ≠ t.id) } }
    Obj.dictTransferAbortCount 0 (if t.write then 1 else 0) 0 t.id

/-- Ownership moves to the other port; segmented writes under way end ABORTED (R304, R470). -/
def S8.moveOwner (s : S8) : S8 :=
  if s.ports.moves then
    let old := s.ports.owner
    let s1 := (s.dict.transfers.filter (fun t => t.write && t.port = old)).foldl (fun s t => s.endTransfer t statusAborted) s
    S8.raise { s1 with ports := { s1.ports with
      owner := otherPort old
      releaseAsked := false
      movedAt := some (s1.ports.cycle + 1) } } Obj.ownerChangeCount 0 1 0 0
  else s

/-- OwnerRelease (R304): 1 asks for the move. -/
def ownerReleaseEffect : WriteEffect := fun s value =>
  (statusOk, if valueOf value = 1 then { s with ports := { s.ports with releaseAsked := true } } else s)

/-- OWNER_RELEASE (R304). -/
def execOwnerRelease (w : ObjWrite) (s : State) : Host.Outcome State Fault Refusal :=
  act (.ownerRelease w) s (fun c => c.performWrite w Obj.ownerRelease ownerReleaseEffect)

/-! ### The cycle boundary -/

/-- Event frames that every live port has room for in the cycle that begins (R299, R473). -/
def S8.eventRoom (s : S8) : Nat :=
  let room (st : PortState) : Nat := 12 - (st.tokens.length + st.records07.length)
  match s.ports.live .a, s.ports.live .b with
  | true, true => min (room s.ports.a) (room s.ports.b)
  | true, false => room s.ports.a
  | false, true => room s.ports.b
  | false, false => 0

/-- Send queued event frames (R473, R474). -/
def S8.sendEvents (s : S8) : S8 :=
  let sent := s.dict.queue.take s.eventRoom
  if sent = [] then s
  else
    let frames := sent.zipIdx.map (fun e => eventFrame e.1 (e.2 = 0 && s.dict.dropped))
    { s with
      dict := { s.dict with queue := s.dict.queue.drop s.eventRoom, dropped := false }
      ports := s.ports.onLive (fun st => { st with events := st.events ++ frames }) }

/-- Do something to each port that answers (R16, R486). -/
def S8.onPorts (s : S8) (f : PortState → PortState) : S8 :=
  let one (which : Port) (ports : Ports) : Ports :=
    if s.portAnswers which then ports.set which (f (ports.get which)) else ports
  { s with ports := one .b (one .a s.ports) }

/-- A control port cycle begins (R295, R299, R304, R320): the ended cycle's answers, ownership, the commit, events, and the
slots up to 11 of the new cycle. -/
def S8.controlBoundary (s : S8) : S8 :=
  let s1 := ((s.onPorts PortState.closeCycle).moveOwner.commit).sendEvents
  let s2 := s1.onPorts (fun st => st.fill (List.range 12))
  { s2 with ports := { s2.ports with cycle := s2.ports.cycle + 1 } }

/-- CONTROL_CYCLE_BOUNDARY (R295, R299, R304, R320). -/
def execControlCycleBoundary (s : State) : Host.Outcome State Fault Refusal := act .controlCycleBoundary s S8.controlBoundary

end Sys2Proof.Machine
end

