-- ==== Sys2Proof/Machine/Segments.lean ====
section
/-! DEFINITION. What a step boundary does to the sequences in slots: entries into phase 0, late windows, segment boundaries, parking
and resuming class B, pauses, the loss of a die, and LaneActive of the step that begins (R193 to R195, R212, R291, R292,
R302, R312, R317, R318, R327, R377). -/

namespace Sys2Proof.Machine

/-! ### Giving way -/

/-- A pause takes effect: the slot enters PAUSING and its image is to be written under the entry taken (R317). -/
def S8.beginPause (s : S8) (slot entry : Nat) : S8 :=
  s.setSequence slot (fun q => { q with
    state := .pausing, place := none, entry := some entry, pauseAsked := none, forcedPause := false, nextEntry := s.run.step })

/-- A forced pause: any free space and any free entry (R338). -/
def S8.forcePause (s : S8) (slot : Nat) : S8 :=
  match SMap.find s.serve.slots slot with
  | none => s
  | some q =>
    match q.pauseAsked with
    | some n => s.beginPause slot n
    | none =>
      let t := s.takeEntry (imagePages s.run.layersHeld q.held) s.run.tag
      t.2.beginPause slot t.1

/-- A class B sequence gives way to the cellar and enters PARKED; it releases its frames (R292, R318). -/
def S8.park (s : S8) (slot : Nat) (q : Sequence) : S8 :=
  let t := s.takeEntry (imagePages s.run.layersHeld q.held) s.run.tag
  let s1 := t.2.setSequence slot (fun q => { q with
    state := .parked, place := none, entry := some t.1, parkedOnce := true, frames := [], reserved := [], nextEntry := s.run.step })
  S8.raise { s1 with serve := s1.serve.releaseFrames s.run.step q.frames } Obj.parkCount 0 1
    (unitField 10 (s.serve.handle slot)) 0

/-- HotPoolShort (R292). -/
def S8.hotPoolShort (s : S8) (slot : Nat) : S8 :=
  s.raise Obj.hotPoolShortCount 0 1 (unitField 10 (s.serve.handle slot)) 0

/-! ### The segment boundary (R291, R316 to R318, R377) -/

/-- The frames of the segment that begins, committed from the sequence's reservation first; none when they do not fit
(R291, R314). -/
def S8.commitFrames (s : S8) (slot : Nat) (q : Sequence) : Option S8 :=
  let need := frameNeed q.stripes slot (s.segmentPages (q.base + q.entered) q.reach) s.run.layersHeld
  let more := subFrames need q.frames
  if s.framesFit (subFrames more q.reserved) then
    some (s.setSequence slot (fun q => { q with
      frames := addFrames q.frames more, reserved := subFrames q.reserved more }))
  else none

/-- A FOLLOW sequence moves to the highest READY version of its culture (R377). -/
def S8.follow (s : S8) (slot : Nat) (q : Sequence) : S8 :=
  match s.culturePinned q.cultureId 0 with
  | none => s
  | some v =>
    if q.req.pinPolicy = 1 ∧ q.cultureId ≠ 0 ∧ q.cultureVersion < v then
      S8.raise (S8.setSequence { s with
          cultures := (s.cultures.pin q.cultureId q.cultureVersion (-1)).pin q.cultureId v 1 } slot
        (fun q => { q with cultureVersion := v, followed := true })) Obj.cultureFollowCount 0 1
        (unitField 11 q.cultureId) v
    else s

/-- Has a class I or S sequence been admitted to the residue of a class B sequence? (R193) -/
def S8.displaced (s : S8) (sh : Sheet) (q : Sequence) : Bool :=
  match q.place with
  | none => false
  | some (n, r) => q.req.cls = 2 && (match sh.track n with | none => false | some t => s.residueHeld t r s.run.step false)

/-- The boundary that opens the sequence's next segment: the module after it, and whether the sequence goes on into the
segment. -/
def S8.segmentBoundary (s : S8) (sh : Sheet) (slot : Nat) (q : Sequence) : S8 × Bool :=
  if q.state = .draining then
    (match q.completion with | some c => s.finish slot c | none => s.freeSlot slot, false)
  else if q.pauseAsked.isSome || q.forcedPause then (s.forcePause slot, false)
  else if s.displaced sh q then (s.park slot q, false)
  else
    match s.commitFrames slot q with
    | some s1 => (s1.follow slot q, true)
    | none => (if q.req.cls = 2 then (s.hotPoolShort slot).park slot q else (s.hotPoolShort slot).forcePause slot, false)

/-! ### Entries (R192, R194, R302, R311, R312) -/

/-- The culture place of a pinned version (R373). -/
def Cultures.placeOf (c : Cultures) (id version : Nat) : Option Nat :=
  if id = 0 then none else (c.table.find? (fun v => v.cultureId = id && v.version = version)).bind (·.place)

/-- Make the entry that is due. -/
def S8.enter (s : S8) (sh : Sheet) (slot : Nat) (t : Track) : S8 :=
  s.setSequence slot (fun q =>
    let e : EntryMade :=
      { step := s.run.step, entry := q.entered, lane := t.number,
        culturePlace := s.cultures.placeOf q.cultureId q.cultureVersion }
    { q with
      state := if q.state = .admitted then .running else q.state
      entered := q.entered + 1
      entriesAt := e :: sh.stillFlying q s.run.step
      nextEntry := q.following t q.entered s.run.step
      wheelVersion := sh.header.wheelVersion })

/-- Move what is left of the schedule one stride later; a late prompt window sets PromptLate once (R312). -/
def S8.slide (s : S8) (slot : Nat) (t : Track) (late : Bool) : S8 :=
  match SMap.find s.serve.slots slot with
  | none => s
  | some q =>
    S8.raise (s.setSequence slot (fun q => { q with
        nextEntry := s.run.step + t.stride
        firstTokenStep := if late then q.firstTokenStep + t.stride else q.firstTokenStep
        promptLate := q.promptLate || late }))
      Obj.promptLateCount 0 (if late && !q.promptLate then 1 else 0) (unitField 10 (s.serve.handle slot)) q.entered

/-- Is the sequence's next entry late for want of prompt tokens? (R302, R312) -/
def Sequence.promptMissing (q : Sequence) : Bool :=
  q.entered < q.lead && ((q.opensWindow q.entered && !(q.windowReady q.entered)) || (q.tokenOf q.entered).isNone)

/-- Must the entry wait a stride for another reason: its restore has not ended, its token is not sampled, or a sequence of
class I or S enters on the track in this step (R193)? -/
def S8.entryWaits (s : S8) (sh : Sheet) (q : Sequence) (t : Track) : Bool :=
  q.restoring || (q.lead ≤ q.entered && sh.samples && (q.tokenOf q.entered).isNone) ||
    s.serve.slots.any (fun e => e.2.entriesAt.any (fun x => x.lane = t.number && x.step = s.run.step))

/-- A sequence at the boundary that begins a step: its entry is made when its residue's step has come. -/
def S8.advance (s : S8) (sh : Sheet) (slot : Nat) : S8 :=
  match SMap.find s.serve.slots slot with
  | none => s
  | some q =>
    match q.place.bind (fun p => (sh.track p.1).map (fun t => (t, p.2))) with
    | none => s
    | some (t, r) =>
      if q.ended || (q.state ≠ .admitted && q.state ≠ .running && q.state ≠ .draining) then s
      else
        let due := if q.nextEntry < s.run.step then residueStep s.run.origin t.stride r s.run.step else q.nextEntry
        if due ≠ s.run.step then s
        else if s.run.closed.contains t.number then s
        else if q.promptMissing then s.slide slot t true
        else if s.entryWaits sh q t then s.slide slot t false
        else if 0 < q.entered ∧ (q.base + q.entered) % 256 = 0 then
          let b := s.segmentBoundary sh slot q
          if b.2 then b.1.enter sh slot t else b.1
        else s.enter sh slot t

/-- The order in which sequences come to a boundary: classes I and S first, then class B in the order of admission
(R193, R318). -/
def Serving.boundaryOrder (v : Serving) : List Nat :=
  (sortBy (fun (a b : Nat × Sequence) =>
    ((if a.2.req.cls = 2 then a.2.admitStep + 1 else 0) : Nat) ≤ (if b.2.req.cls = 2 then b.2.admitStep + 1 else 0)) v.slots).map
    (fun e => e.1)

/-! ### Resuming a PARKED sequence (R318, R522) -/

/-- Is a parked sequence's image, if it has one, stored? -/
def S8.imageStored (s : S8) (q : Sequence) : Bool :=
  match q.entry with
  | none => true
  | some n => ((SMap.find s.cellar.index n).map (fun e => e.state = 2 || e.state = 3)).getD false

/-- Resume a parked sequence where a residue and its frames are free. -/
def S8.unpark (s : S8) (sh : Sheet) (slot : Nat) : S8 :=
  match SMap.find s.serve.slots slot with
  | none => s
  | some q =>
    if q.state ≠ .parked ∨ q.completion.isSome ∨ !(s.imageStored q) then s
    else
      let image := q.entry.bind (SMap.find s.cellar.index)
      let n := if q.entered < q.lead then q.lead - q.entered else 1
      let tracks := (s.sharedTracks sh q.reach).filter (fun t => !(s.throttled t))
      let before := queuedPages s.cellar.restores + queuedPages s.cellar.parkedRestores
      match s.bestPlacing sh n (s.leadBehind image before) (s.fillOf 2) q.reach true tracks with
      | none => s
      | some p =>
        let frames := frameNeed s.stripeList slot (s.segmentPages (q.base + q.entered) q.reach) sh.attention.length
        if !(s.framesFit frames) then s
        else
          let cellar := match q.entry, image with
            | some k, some e =>
              { s.cellar with
                index := SMap.insert s.cellar.index k { e with state := 3 }
                parkedRestores := s.cellar.parkedRestores ++ [(slot, 64 * e.pages)] }
            | _, _ => s.cellar
          S8.setSequence { s with cellar := cellar } slot (fun q => { q with
            state := .running, place := some (p.track.number, p.residue), fill := p.fill, nextEntry := p.first,
            restoring := q.entry.isSome, stripes := s.stripeList, frames := frames, reserved := [] })

/-! ### Losses and run changes (R212, R327, R371) -/

/-- Are a sequence's pages in the hot pool? -/
def S8.inHotPool (s : S8) (q : Sequence) : Bool :=
  (q.state ≠ .parked && !(q.state = .pausing && q.completion.isSome)) || ((q.entry.bind (SMap.find s.cellar.index)).map (fun (e : PauseEntry) => decide (e.state = 1))).getD false

/-- Does the loss of a die, or the closing of tracks, end a sequence? (R327) -/
def S8.endsWith (s : S8) (closed : List Nat) (dieLost : Bool) (q : Sequence) : Bool :=
  (match q.place with | none => false | some p => closed.contains p.1) || q.entriesAt.any (fun e =>
      closed.contains e.lane && (match s.run.running with | none => false | some sh => s.run.step ≤ sh.samplingStep e)) ||
    (dieLost && s.run.layersHeld ≠ 0 && s.inHotPool q)

/-- End the sequences that a loss reaches with DIE_LOST and PromiseBroken (R327). -/
def S8.breakPromises (s : S8) (closed : List Nat) (dieLost : Bool) : S8 :=
  let hit := (s.serve.slots.filter (fun e => s.endsWith closed dieLost e.2)).map (fun e => (e.1, e.2.cancelled && e.2.completion.isNone))
  let s1 := hit.foldl (fun s e =>
    if e.2 then s.freeSlot e.1
    else s.finish e.1 (Completion.plain 3 2 true)) s
  s1.raise Obj.promiseBrokenCount 0 (hit.filter (fun e => !e.2)).length 0 0

/-- Pause one sequence in flight at the last step of a run (R212): what is still in flight is given up, the earliest such token
becomes the pending one. -/
def S8.pauseInFlight (s : S8) (sh : Sheet) (slot : Nat) : S8 :=
  match SMap.find s.serve.slots slot with
  | none => s
  | some q =>
    if q.completion.isSome ∨ q.cancelled then
      (match q.completion with | some c => s.finish slot c | none => s.freeSlot slot)
    else if q.state = .running then
      let flying := sh.stillFlying q s.run.step
      let first := flying.foldl (fun a e => min a e.entry) q.entered
      (s.setSequence slot (fun q => { q with entered := first, entriesAt := [], inFlight := 0 })).forcePause slot
    else s

/-- Pause every sequence in flight (R212, R371). -/
def S8.pauseAll (s : S8) (sh : Sheet) : S8 := (s.serve.slots.map (fun e => e.1)).foldl (fun s slot => s.pauseInFlight sh slot) s

/-- Do two sheets agree so that sequences keep their tracks and residues? (R212) -/
def Sheet.keepsSequences (a b : Sheet) : Bool :=
  let x := a.header
  let y := b.header
  x.lanes = y.lanes && x.longTracks = y.longTracks && x.entrySteps = y.entrySteps && x.phases = y.phases &&
    x.firstPhase = y.firstPhase && x.lastPhase = y.lastPhase && x.strideI = y.strideI && x.strideS = y.strideS &&
    a.tracks.map (fun t => { t with dieMask := 0 }) = b.tracks.map (fun t => { t with dieMask := 0 })

/-- A sheet without what a version switch may change (R368): RunId, RunDigest, StartStep, WheelVersion, the Vat fields of charge-trap
bindings and pour instructions, and the Argument fields of core tasks. -/
def Sheet.unversioned (sh : Sheet) : Sheet :=
  { sh with
    header := { sh.header with runId := 0, runDigest := [], startStep := 0, wheelVersion := 0 }
    bindings := sh.bindings.map (fun b => if b.kind = 0 then { b with num := 0 } else b)
    instrs := sh.instrs.map (fun p => if p.vatKind = 0 then { p with vat := 0 } else p)
    tasks := sh.tasks.map (fun t => { t with argument := 0 }) }

/-- Is a sheet another version's of a sheet: identical but for what may change, each changed vat in the half of the vat it replaces?
(R368) -/
def Sheet.versionOf (a b : Sheet) : Bool :=
  a.unversioned = b.unversioned &&
    (a.bindings.zip b.bindings).all (fun e =>
      vatHalf (2592 * e.1.die + 2304 * e.1.kind + e.1.num) = vatHalf (2592 * e.2.die + 2304 * e.2.kind + e.2.num))

/-- Is a run change a version switch, both versions READY, of the base sheet and of each degraded sheet? (R368) -/
def S8.versionSwitch (s : S8) (old new : Sheet) (degraded : SMap Sheet) : Bool :=
  let ready (sh : Sheet) : Bool :=
    s.wheels.table.any (fun w => w.wheelId = sh.header.wheelId && w.version = sh.header.wheelVersion && w.state = 2)
  ready old && ready new && old.versionOf new && s.run.degraded.map (fun e => e.1) = degraded.map (fun e => e.1) &&
    s.run.degraded.all (fun e => match SMap.find degraded e.1 with
      | none => false
      | some d => e.2.versionOf d)

/-- Does a run change keep every sequence on its track and residue: the fields of R212 agree, and the wheel is the same or switched as
R368 allows? -/
def S8.keepsRun (s : S8) (old new : Sheet) (degraded : SMap Sheet) : Bool :=
  old.keepsSequences new &&
    ((old.header.wheelId = new.header.wheelId && old.header.wheelVersion = new.header.wheelVersion) || s.versionSwitch old new degraded)

/-! ### LaneActive (R195, R369, R373) -/

/-- The step from which tokens carry the new version's stamp, while a version switch is open (R369). -/
def Run.switchStep (r : Run) : Option Nat :=
  match r.running, r.oldSheet with
  | some sh, some (_, last) => some (last + 2 - sh.header.phases - 63 * sh.header.attentionPhases)
  | _, _ => none

/-- Write LaneActive, the carried slots, LaneWheelStamp and LaneCulturePlace of the step. -/
def S8.setLanes (s : S8) (sh : Sheet) : S8 :=
  let standing := s.tokensStanding sh s.run.step
  let old (lane slot : Nat) (phase : Nat) : Bool :=
    match s.run.switchStep, SMap.find s.serve.slots slot with
    | some x, some q => q.entriesAt.any (fun e => e.lane = lane && e.step < x && (sh.standing e s.run.step).contains phase)
    | _, _ => false
  { s with run := { s.run with
      active := standing.foldl (fun m e => SMap.modify m e.1 [] (insertNat e.2.1)) []
      carrying := standing.foldl (fun m e => SMap.insert m (128 * e.1 + e.2.1) e.2.2.1) []
      stamps := (standing.filter (fun e => old e.2.1 e.2.2.1 e.1)).foldl (fun m e => SMap.modify m e.1 [] (insertNat e.2.1)) []
      lanePlace := standing.foldl (fun m e => match e.2.2.2 with
        | none => m
        | some p => SMap.insert m (128 * e.1 + e.2.1) p) [] } }

/-- The boundary that begins a step, for the sequences: frames whose release is due, entries, parked sequences, lanes. -/
def S8.serveBoundary (s : S8) : S8 :=
  let s1 := { s with serve := { s.serve with releases := s.serve.releases.filter (fun r => s.run.step < r.1) } }
  match s.run.running with
  | none => { s1 with run := { s1.run with active := [], carrying := [], stamps := [], lanePlace := [] } }
  | some sh =>
    let s2 := s1.serve.boundaryOrder.foldl (fun s slot => s.advance sh slot) s1
    (s2.serve.boundaryOrder.foldl (fun s slot => s.unpark sh slot) s2).setLanes sh

end Sys2Proof.Machine
end

