-- ==== Sys2Proof/Machine/Attention.lean ====
section
/-! DEFINITION. Attention engines, page tables and the combination tree (chapter 10, R268 to R292). -/

namespace Sys2Proof.Machine

/-! ### Partials (R283) -/

/-- An empty head partial: m = −∞ (R283). -/
def HeadPartial.empty : HeadPartial := { m := 0xFF800000, l := (0, 0), v := List.replicate 512 (0, 0), count := 0 }

/-- An empty partial of H heads. -/
def LanePartial.empty (heads : Nat) : LanePartial := { heads := List.replicate heads HeadPartial.empty, status := 0 }

/-- Add a record with its score and its 512 content elements to a head's partial (R283). -/
def HeadPartial.add (h : HeadPartial) (score : Fp) (content : List Fp) : HeadPartial :=
  let rising := (f32 h.m).lt score
  let f := exp2Fp (binary32.sub (f32 h.m) score)
  let m := if rising then score else f32 h.m
  let l := if rising then scaleDw h.l f else h.l
  let v := if rising then h.v.map (fun x => scaleDw x f) else h.v
  let p := exp2Fp (binary32.sub score m)
  { m := bits32 m
    l := combineDw l (bits32 p, 0)
    v := List.zipWith (fun x c => combineDw x (bits32 (binary32.mul p c), 0)) v content
    count := h.count + 1 }

/-- Combine two head partials (R285). -/
def HeadPartial.combine (a b : HeadPartial) : HeadPartial :=
  if a.count = 0 then b
  else if b.count = 0 then a
  else
    let m := if (f32 a.m).lt (f32 b.m) then f32 b.m else f32 a.m
    let fa := exp2Fp (binary32.sub (f32 a.m) m)
    let fb := exp2Fp (binary32.sub (f32 b.m) m)
    { m := bits32 m
      l := combineDw (scaleDw a.l fa) (scaleDw b.l fb)
      v := List.zipWith (fun x y => combineDw (scaleDw x fa) (scaleDw y fb)) a.v b.v
      count := a.count + b.count }

/-- combine_partial (R285). -/
def LanePartial.combine (a b : LanePartial) : LanePartial :=
  { heads := List.zipWith HeadPartial.combine a.heads b.heads, status := orStatus a.status b.status }

/-! ### Records and scores (R268, R269, R282) -/

/-- A latent record, or a query of a head: 512 content and 64 positional codes with their 18 scale bytes. -/
structure Latent where
  codes : List Int
  scales : List Nat
  deriving DecidableEq, Repr

/-- Read 18 blocks from their code bytes and scale bytes; −128 reads as −127 (R37). -/
def Latent.ofBytes (codes scales : Bytes) : Latent :=
  { codes := codes.zipIdx.map (fun e => readN8Code (byteAt scales (e.2 / 32)).toNat e.1)
    scales := scales.map BitVec.toNat }

/-- The code bytes and the scale bytes of head h's query in a request block (R277). -/
def queryBytes (block : Bytes) (h : Nat) : Bytes × Bytes :=
  let r := 512 * (3 + 2 * h)
  (bytesAt block r 512 ++ bytesAt block (r + 512) 64, bytesAt block (r + 576) 18)

/-- The code bytes and the scale bytes of record i of a frame (R269). -/
def recordBytes (frame : Bytes) (i : Nat) : Bytes × Bytes :=
  (bytesAt frame (512 * (1 + i)) 512 ++ bytesAt frame (512 * (17 + i / 8) + 64 * (i % 8)) 64,
    bytesAt frame (512 * 19 + 16 * i) 16 ++ bytesAt frame (512 * 19 + 256 + 2 * i) 2)

/-- Reserved −128 codes among the 18 blocks of a query or a record (R37, R282). -/
def latentReserved (e : Bytes × Bytes) : Nat :=
  (List.range 18).foldl (fun n b => n + reservedCodes (byteAt e.2 b).toNat (bytesAt e.1 (32 * b) 32)) 0

/-- A query of head h in a request block (R277). -/
def queryOf (block : Bytes) (h : Nat) : Latent := Latent.ofBytes (queryBytes block h).1 (queryBytes block h).2

/-- Record i of a frame (R269). -/
def recordOf (frame : Bytes) (i : Nat) : Latent := Latent.ofBytes (recordBytes frame i).1 (recordBytes frame i).2

/-- The term of block b of a score (R282). -/
def blockTerm (q r : Latent) (b : Nat) : Fp :=
  let sq := q.scales.getD b 0
  let sr := r.scales.getD b 0
  if sq = 0xFF ∨ sr = 0xFF then .nan
  else if sq = 0 ∨ sr = 0 then .fin false 0 0
  else
    let p := ((List.range 32).map (fun i => q.codes.getD (32 * b + i) 0 * r.codes.getD (32 * b + i) 0)).foldl (· + ·) 0
    binary64.roundDyadic false { m := p, e := (sq : Int) + sr - 254 }

/-- The score of a record for a query (R282). -/
def scoreOf (q r : Latent) (scoreScale : Nat) : Fp :=
  let sum := (List.range 18).foldl (fun a b => binary64.add a (blockTerm q r b)) (.fin false 0 0)
  binary32.convert (binary64.mul sum (f32 scoreScale))

/-- Content element k of a record, exact (R283). -/
def Latent.content (r : Latent) (k : Nat) : Fp :=
  let s := r.scales.getD (k / 32) 0
  let c := r.codes.getD k 0
  if s = 0xFF then .nan else if s = 0 then .fin false 0 0 else .fin (c < 0) c.natAbs ((s : Int) - 127)

/-- Add a record to the partials of every head. -/
def LanePartial.addRecord (p : LanePartial) (block : Bytes) (scoreScale : Nat) (r : Latent) : LanePartial :=
  let content := (List.range 512).map r.content
  { p with heads := p.heads.zipIdx.map (fun e => e.1.add (scoreOf (queryOf block e.2) r scoreScale) content) }

/-! ### Tables (R271 to R275) -/

/-- The address of table block b in a half's working area (R272). -/
def blockAddr (half b : Nat) : Nat := workBase half + Config.pageTableBase + 2048 * b

/-- The address of a root entry in a half's copy (R273). -/
def rootAddr (half layers slot layer : Nat) : Nat := workBase half + Config.rootTableBase + 32 * (layers * slot + layer)

/-- The fields of a root entry: current directory and generation, pending directory and generation, PublishStep. -/
structure RootEntry where
  directory : Nat
  generation : Nat
  pendingDirectory : Nat
  pendingGeneration : Nat
  publishStep : Nat
  deriving DecidableEq, Repr

/-- Read a root entry. -/
def Mem.root (m : Mem) (a : Nat) : RootEntry :=
  { directory := m.le a 4, generation := m.le (a + 4) 4, pendingDirectory := m.le (a + 8) 4,
    pendingGeneration := m.le (a + 12) 4, publishStep := m.le (a + 16) 8 }

/-- No directory. -/
def noDirectory : Nat := 0xFFFFFFFF

/-- The words of a table block that do not decode: with any, the block holds no valid entry (R289). -/
def Mem.badBlock (m : Mem) (upset : Upsets) (half b : Nat) : List Nat := badIn m upset (blockAddr half b) 2048

/-- The directory entry of a page as a half's copy holds it (R271, R272). -/
def Mem.directoryEntry (m : Mem) (half directory page : Nat) : Nat := m.le (blockAddr half directory + 4 * (page / 512)) 4

/-- The words that do not decode of the blocks in which a page's directory and table entries lie (R289). -/
def Mem.badTable (m : Mem) (upset : Upsets) (half directory page : Nat) : List Nat :=
  if directory = noDirectory then []
  else
    let bad := m.badBlock upset half (directory + page / 512 / 512)
    let dir := m.directoryEntry half directory page
    if bad = [] ∧ field dir 31 1 = 1 then m.badBlock upset half (field dir 0 28) else bad

/-- The corrected words of the blocks in which a page's directory and table entries lie (R289, R398). -/
def Mem.correctedTable (m : Mem) (upset : Upsets) (half directory page : Nat) : List Nat :=
  if directory = noDirectory then []
  else
    let dir := m.directoryEntry half directory page
    correctedIn upset (blockAddr half (directory + page / 512 / 512)) 2048 ++
      (if field dir 31 1 = 1 then correctedIn upset (blockAddr half (field dir 0 28)) 2048 else [])

/-- A table entry of a page: none where the directory or the entry is not valid, or a block does not decode (R271, R289). -/
def Mem.tableEntry (m : Mem) (half directory page : Nat) : Option Nat :=
  let dir := m.directoryEntry half directory page
  if directory = noDirectory ∨ m.badTable [] half directory page ≠ [] ∨ field dir 31 1 = 0 then none
  else
    let e := m.le (blockAddr half (field dir 0 28) + 4 * (page % 512)) 4
    if field e 31 1 = 0 then none else some e

/-- Is a table entry's Index beyond the die's frames? (R271) -/
def entryBeyond (e : Nat) : Bool := 1468005 < field e 0 28

/-- The engine a table entry names (R271). -/
def entryEngine (e : Nat) : Nat := 2 * field e 28 3 + (if 734003 ≤ field e 0 28 then 1 else 0)

/-- The address of the frame a table entry names (R30, R271). -/
def entryFrame (e : Nat) : Nat := frameBase (field e 28 3) (field e 0 28)

/-- The pages of a directory, with their entries, as a half's copy gives them. -/
def Mem.pages (m : Mem) (half directory count : Nat) : List (Nat × Nat) :=
  (List.range count).filterMap (fun p => (m.tableEntry half directory p).map (fun e => (p, e)))

/-- The publication of one root entry at the boundary that begins a step, in one half's copy (R275). -/
def Mem.publish (m : Mem) (step a : Nat) : Mem :=
  let r := m.root a
  if r.pendingDirectory ≠ noDirectory ∧ r.publishStep ≤ step then
    m.write a (leBytes 4 r.pendingDirectory ++ leBytes 4 r.pendingGeneration ++ leBytes 4 noDirectory)
  else m

/-- Every pending directory that is due moves in every half's copy (R275). -/
def S8.publishRoots (s : S8) : S8 :=
  let layers := s.run.layersHeld
  let due := s.attn.publishing.filter (fun e => e.2 ≤ s.run.step)
  { s with
    mem := due.foldl (fun m e =>
      halves.foldl (fun m h => m.publish s.run.step (rootAddr h layers (e.1 % 8192) (e.1 / 8192))) m) s.mem
    attn := { s.attn with publishing := s.attn.publishing.filter (fun e => s.run.step < e.2) } }

/-! ### The walk (R277 to R281, R287 to R289) -/

/-- A walk under way: the module, the partial, and the mismatches met. -/
structure Walking where
  mem : Mem
  partial_ : LanePartial
  mismatches : Nat
  last : Nat × Nat × Nat
  framesRead : Nat
  /-- Reserved −128 codes read (R37). -/
  reserved : Nat
  bad : List Nat
  corrected : List Nat
  deriving DecidableEq, Repr

/-- What a walk goes by: its engine, layer, request block, the root in effect and the words found upset. -/
structure WalkInput where
  engine : Nat
  layer : Nat
  block : Bytes
  scoreScale : Nat
  directory : Nat
  generation : Nat
  low : Nat
  high : Nat
  upset : Upsets
  deriving DecidableEq, Repr

def WalkInput.handle (w : WalkInput) : Nat := leAt w.block 0 4
def WalkInput.expected (w : WalkInput) : Nat := leAt w.block 4 4
def WalkInput.position (w : WalkInput) : Nat := leAt w.block 8 4
def WalkInput.writes (w : WalkInput) : Bool := field (leAt w.block 21 1) 0 1 = 1

/-- A page mismatch: Poison, and the latest handle, layer and page (R281). -/
def Walking.mismatch (k : Walking) (w : WalkInput) (page : Nat) : Walking :=
  { k with
    partial_ := { k.partial_ with status := orStatus k.partial_.status statusPoison }
    mismatches := k.mismatches + 1
    last := (w.handle, w.layer, page) }

/-- Words that do not decode set Poison (R289). -/
def Walking.meet (k : Walking) (w : WalkInput) (a n : Nat) : Walking :=
  let bad := badIn k.mem w.upset a n
  { k with
    partial_ := { k.partial_ with status := orStatus k.partial_.status (if bad = [] then 0 else statusPoison) }
    bad := k.bad ++ bad
    corrected := k.corrected ++ correctedIn w.upset a n }

/-- The header check of a frame (R280). -/
def WalkInput.headerPasses (w : WalkInput) (m : Mem) (frame page : Nat) : Bool :=
  m.le frame 4 = w.handle && m.le (frame + 4) 2 = w.layer && m.le (frame + 8) 8 = 16 * page && m.le (frame + 16) 4 ≤ w.generation

/-- Write a record into a frame and raise its ValidCount (R270). -/
def Mem.writeRecord (m : Mem) (frame i : Nat) (block : Bytes) : Mem :=
  let m1 := m.write (frame + 512 * (1 + i)) (bytesAt block 512 512)
  let m2 := m1.write (frame + 512 * (17 + i / 8) + 64 * (i % 8)) (bytesAt block 1024 64)
  let m3 := m2.write (frame + 512 * 19 + 16 * i) (bytesAt block 1088 16)
  let m4 := m3.write (frame + 512 * 19 + 256 + 2 * i) (bytesAt block 1104 2)
  let valid := max (m.le (frame + 6) 1) (i + 1)
  let flags := m.le (frame + 7) 1
  m4.write (frame + 6) (leBytes 1 valid ++ leBytes 1 (if valid = 16 then flags ||| 1 else flags))

/-- Words of a page's table blocks that do not decode set Poison; corrected ones are used corrected. Each word counts once (R289). -/
def Walking.meetTable (k : Walking) (w : WalkInput) (page : Nat) : Walking :=
  let bad := k.mem.badTable w.upset w.engine w.directory page
  { k with
    bad := k.bad ++ bad.filter (fun x => !(k.bad.contains x))
    corrected := k.corrected ++ (k.mem.correctedTable w.upset w.engine w.directory page).filter (fun x => !(k.corrected.contains x))
    partial_ := { k.partial_ with status := orStatus k.partial_.status (if bad = [] then 0 else statusPoison) } }

/-- The table entry a walk finds for a page, none where the directory, the entry or a block is not valid (R280, R289). -/
def Walking.entry (k : Walking) (w : WalkInput) (page : Nat) : Option Nat :=
  if k.mem.badTable w.upset w.engine w.directory page = [] then k.mem.tableEntry w.engine w.directory page else none

/-- The record write at the start of a walk (R280, R281); a header row that does not decode keeps the record out (R289). -/
def Walking.write (k : Walking) (w : WalkInput) : Walking :=
  let page := w.position / 16
  let k1 := k.meetTable w page
  match k.entry w page with
  | none => k1.mismatch w page
  | some e =>
    if entryBeyond e then k1.mismatch w page
    else if entryEngine e ≠ w.engine then k1
    else
      let k2 := k1.meet w (entryFrame e) 512
      if badIn k1.mem w.upset (entryFrame e) 512 ≠ [] then k2
      else if !(w.headerPasses k1.mem (entryFrame e) page) then k2.mismatch w page
      else { k2 with mem := k1.mem.writeRecord (entryFrame e) (w.position % 16) w.block }

/-- Read the records of a frame in range (R280); a record with a row that does not decode is skipped (R289). -/
def Walking.readFrame (k : Walking) (w : WalkInput) (page frame : Nat) : Walking :=
  if badIn k.mem w.upset frame 512 ≠ [] then k.meet w frame 512
  else if !(w.headerPasses k.mem frame page) then (k.meet w frame 512).mismatch w page
  else
    let k1 := { k.meet w frame 10240 with framesRead := k.framesRead + 1 }
    (List.range (min 16 (k.mem.le (frame + 6) 1))).foldl (fun k i =>
      let pos := 16 * page + i
      let rows := [frame + 512 * (1 + i), frame + 512 * (17 + i / 8), frame + 512 * 19]
      if w.low ≤ pos ∧ pos ≤ w.high ∧ rows.all (fun a => badIn k.mem w.upset a 512 = []) then
        let bytes := k.mem.read frame 10240
        { k with
          partial_ := k.partial_.addRecord w.block w.scoreScale (recordOf bytes i)
          reserved := k.reserved + latentReserved (recordBytes bytes i) }
      else k) k1

/-- Visit one page of the range (R280). -/
def Walking.visit (k : Walking) (w : WalkInput) (page : Nat) : Walking :=
  let k1 := k.meetTable w page
  match k.entry w page with
  | none => k1
  | some e =>
    if entryBeyond e then k1.mismatch w page
    else if entryEngine e ≠ w.engine then k1
    else k1.readFrame w page (entryFrame e)

/-- One step of a walk: the generation check and the record write in its first step, then the pages of the step's range. -/
def Walking.run (k : Walking) (w : WalkInput) (first : Bool) : Walking :=
  let k0 := { k with
    reserved := k.reserved + ((List.range k.partial_.heads.length).map (fun h => latentReserved (queryBytes w.block h))).sum }
  let k1 := if first ∧ w.expected ≠ w.generation then k0.mismatch w (w.position / 16) else k0
  let k2 := if first ∧ w.writes then k1.write w else k1
  if w.high < w.low then k2
  else (List.range (w.high / 16 - w.low / 16 + 1)).foldl (fun k i => k.visit w (w.low / 16 + i)) k2

/-- The key of a lane's partial at a source: engines 0–15, level-1 nodes 16–23, nodes 24–30. -/
def partialKey (layer lane source : Nat) : Nat := (layer * 128 + lane) * 32 + source

/-- Where a lane's token stands at an attention phase: the step within its walk, and the span (R196, R288). -/
def S8.walkIndex (s : S8) (sh : Sheet) (phase lane : Nat) : Option (Nat × Nat) :=
  let span := ((sh.track lane).map (·.span)).getD 1
  let first := phase + (span - 1) * sh.attentionBefore phase
  s.serve.slots.findSome? (fun e =>
    (e.2.entriesAt.find? (fun x => x.lane = lane && (sh.delays span phase).contains (s.run.step - x.step))).map
      (fun x => (s.run.step - x.step - first, span)))

/-- The request block of a lane: rows of QueryCore by the lane's rank among the phase's lanes (R277, R278). -/
def S8.requestBlock (s : S8) (a : AttentionRecord) (lane : Nat) : Bytes :=
  let rows := 3 + 2 * a.heads
  let rank := ((List.range lane).filter (fun l => s.run.tokenPresent a.phase l)).length
  s.mem.readRows a.queryCore (a.queryRow + rows * rank) rows

/-- Does a word lie in the hot pool? -/
def inFrames (word : Nat) : Bool := placeOf (16 * word) = .hotPool

/-- Counts and marks of the words and mismatches that a walk met (R281, R289, R293, R400). -/
def S8.walked (s : S8) (w : WalkInput) (k : Walking) : S8 :=
  let bad := k.bad.eraseDups
  let corrected := k.corrected.eraseDups
  let unit := unitField 2 w.engine
  { s with
    mem := (k.mem.meet s.run.step 0 (corrected.filter inFrames) (bad.filter inFrames)).meet s.run.step (workBase w.engine)
      (corrected.filter (fun x => !(inFrames x))) (bad.filter (fun x => !(inFrames x)))
    attn := { s.attn with
      framesRead := SMap.put 0 s.attn.framesRead w.engine ((SMap.getD s.attn.framesRead w.engine 0 + k.framesRead) % 2 ^ 64)
      mismatch := if k.mismatches = 0 then s.attn.mismatch else k.last }
    dict := (((s.dict.raise s.run.step Obj.pageMismatchCount 0 k.mismatches unit w.handle).raise s.run.step
      Obj.attentionUncorrectableCount 0 bad.length unit w.handle).raise s.run.step Obj.dramCorrectedCount 0 corrected.length unit
        w.handle).raise s.run.step Obj.saturatedCodeCount 0 k.reserved unit 0 }

/-- Partials an engine holds in its buffer (R284). -/
def Attention.opened (a : Attention) (engine : Nat) : Nat := (a.partials.filter (fun e => e.1 % 32 = engine)).length

/-- Where the buffer of an engine holds an open partial: after those of lower layer and lane (R28, R284; the place is the model's,
DESIGN CHOICE, log entry 41). -/
def Attention.partialAddress (a : Attention) (engine key : Nat) : Nat :=
  address 1 (engine / 2) (if engine % 2 = 0 then 0x0E400000 else 0x0F000000) +
    (a.partials.filter (fun e => e.1 % 32 = engine && e.1 < key)).foldl (fun n e => n + e.2.rows.length) 0

/-- A partial is read from its engine's buffer: a word found not to decode sets Poison (R398). -/
def LanePartial.readBack (p : LanePartial) (upset : Upsets) (a : Nat) : LanePartial :=
  if badIn Mem.reset upset a p.rows.length = [] then p else { p with status := orStatus p.status statusPoison }

/-- Walk for the request of a lane on an engine (R280, R288). An engine whose buffer holds 64 partials opens no other (R284). -/
def S8.walk (s : S8) (engine layer lane : Nat) (upset : Upsets) : S8 :=
  match s.run.running.bind (fun sh => (sh.attention.find? (fun a => a.layer = layer)).map (fun a => (sh, a))) with
  | none => s
  | some (sh, a) =>
    match s.walkIndex sh a.phase lane with
    | none => s
    | some (i, span) =>
      if !(s.stripeList.contains engine) || !(s.run.laneActive a.phase lane) || (i = 0 && 64 ≤ s.attn.opened engine &&
          (SMap.find s.attn.partials (partialKey layer lane engine)).isNone) then s
      else
        let block := s.requestBlock a lane
        let root := s.mem.root (rootAddr engine s.run.layersHeld (leAt block 0 4 % 8192) layer)
        let key := (layer * 128 + lane) * 16 + engine
        let open_ : Walk := if i = 0 then { index := 0, directory := root.directory, generation := root.generation }
          else SMap.getD s.attn.walks key { index := i, directory := root.directory, generation := root.generation }
        let low := leAt block 12 4
        let high := leAt block 16 4
        let w : WalkInput :=
          { engine := engine, layer := layer, block := block, scoreScale := a.scoreScale, directory := open_.directory,
            generation := open_.generation, low := if span = 1 then low else max low (131072 * i),
            high := if span = 1 then high else min high (131072 * i + 131071), upset := upset }
        let place := s.attn.partialAddress engine (partialKey layer lane engine)
        let held := SMap.getD s.attn.partials (partialKey layer lane engine) (LanePartial.empty a.heads)
        let start : Walking :=
          { mem := s.mem, mismatches := 0, last := (0, 0, 0), framesRead := 0, reserved := 0, bad := [], corrected := [],
            partial_ := if i = 0 then LanePartial.empty a.heads else held.readBack upset place }
        let k := start.run w (i = 0)
        let s1 := s.walked w k
        let n := if i = 0 then 0 else held.rows.length
        { s1 with
          dict := s1.dict.meet s.run.step place (correctedIn upset place n).length (badIn Mem.reset upset place n).length
          attn := { s1.attn with
            partials := SMap.insert s1.attn.partials (partialKey layer lane engine) k.partial_
            walks := if i + 1 < span then SMap.insert s1.attn.walks key { open_ with index := i + 1 } else SMap.erase s1.attn.walks key } }

/-- ATTENTION_WALK (R280). -/
def execAttentionWalk (engine : EngineId) (layer : Nat) (lane : Lane) (upset : Upsets) (s : State) :
    Host.Outcome State Fault Refusal :=
  act (.attentionWalk engine layer lane upset) s (fun c => c.walk engine.val layer lane.val upset)

/-! ### The combination tree (R285, R286) -/

/-- The operands of a node: 0–7 level 1 of a die, 8–14 nodes 0–6. -/
def nodeOperands (node : Nat) : Nat × Nat :=
  if node < 8 then (2 * node, 2 * node + 1)
  else if node < 12 then (16 + 2 * (node - 8), 17 + 2 * (node - 8))
  else if node = 12 then (24, 25)
  else if node = 13 then (26, 27)
  else (28, 29)

/-- The die of a node's core (R285). -/
def nodeDie (node : Nat) : Nat := if node < 8 then node else [1, 2, 5, 6, 1, 5, 1].getD (node - 8) 1

/-- Is a source of partials in service: an engine of the stripe list, or a node on a die in service one of whose own sources serves?
The tree is four levels deep; `fuel` counts them. -/
def S8.serves (s : S8) (fuel source : Nat) : Bool :=
  match fuel with
  | 0 => false
  | fuel + 1 =>
    if source < 16 then s.stripeList.contains source
    else
      s.dieServes (nodeDie (source - 16)) &&
        (s.serves fuel (nodeOperands (source - 16)).1 || s.serves fuel (nodeOperands (source - 16)).2)

/-- Is a source of partials in service? (R285) -/
def S8.sourceServes (s : S8) (source : Nat) : Bool := s.serves 5 source

/-- Encode 32 quotients with one dyadic divisor as an N8 block (R38, R286). -/
def encodeN8Over (den : Dyadic) (vs : List Exact) : Block × Tally :=
  if vs.any (· = none) || den.m ≤ 0 then (Block.poison, { poison := 1 })
  else
    let xs : List Dyadic := vs.map (fun v => v.getD { m := 0, e := 0 })
    let scaled (x : Dyadic) (k : Int) : Int :=
      let e := x.e + k - den.e
      if 0 ≤ e then rneDiv (x.m * 2 ^ e.toNat) den.m.toNat else rneDiv x.m (den.m.toNat * 2 ^ (-e).toNat)
    if xs.all (fun x => x.m = 0) then (Block.zero, {})
    else
      match (List.range 254).find? (fun (i : Nat) => xs.all (fun x => (scaled x (126 - (i : Int))).natAbs ≤ 127)) with
      | some i =>
        let codes := xs.map (fun x => scaled x (126 - (i : Int)))
        let scale : Nat := i + 1
        if codes.all (· = 0) then (Block.zero, { zeroed := 1 }) else ({ scale := scale, codes := codes }, {})
      | none =>
        let raw := xs.map (fun x => scaled x (-127))
        ({ scale := 254, codes := raw.map (clampInt (-127) 127) },
         { clamps := (raw.filter (fun c => c < -127 ∨ 127 < c)).length })

/-- The W16 of a quotient of double words (R141, R286). -/
def quotientW16 (v l : Exact) : Nat :=
  match v, l with
  | some x, some d =>
    if d.m ≤ 0 then 0x7FC0
    else
      let e := x.e - d.e
      if 0 ≤ e then bfloat16.encode (bfloat16.roundRat (x.m < 0) (x.m.natAbs * 2 ^ e.toNat) d.m.toNat)
      else bfloat16.encode (bfloat16.roundRat (x.m < 0) x.m.natAbs (d.m.toNat * 2 ^ (-e).toNat))
  | _, _ => 0x7FC0

/-- The root's result of a lane: its rows without the status row, what the encoding counted, and how many results were not
finite (R286). -/
def rootRows (p : LanePartial) (w16 : Bool) : Bytes × Tally × Nat :=
  let empty := p.heads.all (fun h => h.count = 0)
  let divisor (h : HeadPartial) : Exact := if empty then some { m := 1, e := 0 } else exactDw h.l
  let value (h : HeadPartial) (k : Nat) : Exact := if empty then some { m := 0, e := 0 } else exactDw (h.v.getD k (0, 0))
  let bad := (p.heads.map (fun h =>
    if (divisor h).isNone then 512 else ((List.range 512).filter (fun k => (value h k).isNone)).length)).foldl (· + ·) 0
  if w16 then (p.heads.flatMap (fun h => (List.range 512).flatMap (fun k => leBytes 2 (quotientW16 (value h k) (divisor h)))), {}, bad)
  else
    let blocks := p.heads.flatMap (fun h => (List.range 16).map (fun b =>
      match divisor h with
      | none => (Block.poison, ({ poison := 1 } : Tally))
      | some d => encodeN8Over d ((List.range 32).map (fun i => value h (32 * b + i)))))
    (toSplit (blocks.map (·.1)), sumTallies blocks, bad)

/-- The status row that follows a result. -/
def statusRow (status : Nat) : Bytes := padTo 512 (leBytes 2 status)

/-- The root writes a lane's result, with EmptyAttention where nothing was attended to (R286). -/
def S8.rootResult (s : S8) (a : AttentionRecord) (lane : Nat) (p : LanePartial) : S8 :=
  let r := rootRows p a.w16
  let empty := p.heads.all (fun h => h.count = 0)
  let status := orStatus (orStatus p.status r.2.1.status)
    ((if empty then statusEmpty else 0) + (if r.2.2 = 0 then 0 else statusPoison))
  let rows := padTo (roundUp 512 r.1.length) r.1 ++ statusRow status
  let unit := unitField 3 a.outCore.key
  let s1 := s.laneResult a.outCore (a.outRow + rows.length / 512 * lane) rows a.phase lane status
  { s1 with
    attn := { s1.attn with partials := s1.attn.partials.filter (fun e => e.1 / 32 ≠ a.layer * 128 + lane) }
    dict := ((s1.dict.countTally s.run.step unit r.2.1).raise s.run.step Obj.emptyAttentionCount a.layer (if empty then 1 else 0)
      unit lane).raise s.run.step Obj.nonFiniteCombineCount 0 r.2.2 unit lane }

/-- The core on which a node runs (R278, R285): a level-1 node's is the one that QueryCore names on its die. -/
def AttentionRecord.nodeCore (a : AttentionRecord) (node : Nat) : CoreRef :=
  if node < 8 then { a.queryCore with die := node } else a.nodes.getD (node - 8) a.queryCore

/-- Combine at a node: a source that is not in service is passed over (R285). -/
def S8.combineNode (s : S8) (a : AttentionRecord) (lane node : Nat) : S8 :=
  let ops := nodeOperands node
  let get (source : Nat) : Option LanePartial := SMap.find s.attn.partials (partialKey a.layer lane source)
  let result : Option LanePartial :=
    match s.sourceServes ops.1, s.sourceServes ops.2 with
    | true, true =>
      (match get ops.1, get ops.2 with
       | some x, some y => some (x.combine y)
       | _, _ => none)
    | true, false => get ops.1
    | false, true => get ops.2
    | false, false => none
  match result with
  | none => s
  | some p =>
    if node = 14 then s.rootResult a lane p
    else
      { s with attn := { s.attn with
          partials := SMap.insert ((s.attn.partials.filter (fun e =>
            e.1 ≠ partialKey a.layer lane ops.1 ∧ e.1 ≠ partialKey a.layer lane ops.2))) (partialKey a.layer lane (16 + node)) p } }

/-- TASK_ATTENTION_COMBINE (R140, R141, R285, R286); on a long track the walk must have ended (R288). -/
def execTaskAttentionCombine (layer : Nat) (lane : Lane) (node : Fin 15) (s : State) : Host.Outcome State Fault Refusal :=
  act (.taskAttentionCombine layer lane node) s (fun c =>
    match c.run.running.bind (fun sh => sh.attention.find? (fun a => a.layer = layer)) with
    | none => c
    | some a =>
      if c.run.laneActive a.phase lane.val && c.dieServes (a.nodeCore node.val).die &&
          !(c.cores.unbacked.contains (a.nodeCore node.val).key) &&
          !(halves.any (fun e => (SMap.find c.attn.walks ((layer * 128 + lane.val) * 16 + e)).isSome))
      then c.combineNode a lane.val node.val else c)

/-! ### Step boundaries -/

/-- A frame's key from its table entry: engine·2^20 + frame within its half. -/
def frameKey (e : Nat) : Nat := entryEngine e * 2 ^ 20 + (if 734003 ≤ field e 0 28 then field e 0 28 - 734003 else field e 0 28)

/-- The directories that the roots of slots in use name, current and pending, with the pages their sequences can reach. -/
def S8.directoriesNamed (s : S8) : List (Nat × Nat) :=
  let layers := s.run.layersHeld
  s.serve.slots.flatMap (fun e => (List.range layers).flatMap (fun x =>
    let root := s.mem.root (rootAddr 0 layers e.1 x)
    ([root.directory, root.pendingDirectory].filter (· ≠ noDirectory)).map (fun d => (d, ceilDiv e.2.reach 16))))

/-- Frames that some root's directory names. -/
def S8.framesNamed (s : S8) : List Nat :=
  s.directoriesNamed.flatMap (fun d => (s.mem.pages 0 d.1 d.2).map (fun p => frameKey p.2))

/-- Table blocks that the roots of slots in use name: directories, their second blocks, and tables. -/
def S8.blocksNamed (s : S8) : List Nat :=
  s.directoriesNamed.flatMap (fun d =>
    d.1 :: (d.1 + 1) :: ((List.range 1024).map (fun i => s.mem.le (blockAddr 0 d.1 + 4 * i) 4)).filterMap (fun w =>
      if field w 31 1 = 1 then some (field w 0 28) else none))

/-- Frames that may not be written anew: named now or at the latest boundary, or unused for fewer than 64 steps (R276, R292). -/
def S8.framesInUse (s : S8) : List Nat := s.framesNamed ++ s.attn.namedFrames ++ s.attn.heldFrames.map (fun e => e.1)

/-- Table blocks that may not be written anew (R276). -/
def S8.blocksInUse (s : S8) : List Nat := s.blocksNamed ++ s.attn.namedBlocks ++ s.attn.heldBlocks.map (fun e => e.1)

/-- What was named and is no longer is held for 64 steps; what has been held so long is free (R276). -/
def holdUnused (step : Nat) (old now : List Nat) (held : SMap Nat) : SMap Nat :=
  (old.filter (fun x => !(now.contains x))).foldl (fun m x => SMap.insert m x (step + 64)) (SMap.keep (fun _ until_ => step < until_) held)

/-- The frames and blocks that the edits of the step before have made unused are noted (R276, R292). -/
def S8.noteUnused (s : S8) : S8 :=
  let frames := s.framesNamed
  let blocks := s.blocksNamed
  { s with attn := { s.attn with
    heldFrames := holdUnused s.run.step s.attn.namedFrames frames s.attn.heldFrames
    heldBlocks := holdUnused s.run.step s.attn.namedBlocks blocks s.attn.heldBlocks
    namedFrames := frames
    namedBlocks := blocks } }

/-- Partials that no walk keeps open are dropped, and the publications of the step take effect (R275, R288). -/
def S8.attentionBoundary (s : S8) : S8 :=
  let kept := s.attn.partials.filter (fun e =>
    e.1 % 32 < 16 && (SMap.find s.attn.walks (e.1 / 32 * 16 + e.1 % 32)).isSome)
  (S8.publishRoots { s with attn := { s.attn with partials := kept } }).noteUnused

/-- Retired frames that have become free are withdrawn (R400). -/
def S8.withdrawFrames (s : S8) : S8 :=
  if s.mem.framesDue = [] then s
  else
    let named := s.framesInUse
    let go := s.mem.framesDue.filter (fun f => !(named.contains f) && !(s.mem.framesGone.contains f))
    { s with
      mem := { s.mem with
        framesDue := s.mem.framesDue.filter (fun f => named.contains f)
        framesGone := s.mem.framesGone ++ go }
      dict := s.dict.raise s.run.step Obj.dramRowRetiredCount 0 go.length 0 (go.headD 0) }

end Sys2Proof.Machine
end

