-- ==== Sys2Proof/Machine/Turning.lean ====
section
/-! DEFINITION. Turning (chapter 06): the measurement ADC and the reference check, calibration, checksum localisation, repair
in place, programme-verify results, live rewrite and wear. Turning works on physical vats (R159); a rewrite is asked for by
service number (R176). -/

namespace Sys2Proof.Machine

/-! ### The measurement ADC (R148, R149) -/

/-- A conversion starts, or is ignored and counted while one runs (R148). -/
def S8.startConversion (s : S8) : S8 :=
  if s.turn.converting.isSome then s.raise Obj.measStartIgnoredCount 0 1 0 0
  else
    { s with turn := { s.turn with
      converting := some (s.dict.get Obj.measChannel, s.dict.get Obj.measMuxBank, s.dict.get Obj.measConvSelect) } }

/-- MEAS_START_EDGE (R148, R508). -/
def execMeasStartEdge (s : State) : Host.Outcome State Fault Refusal :=
  act .measStartEdge s (fun c => if c.boot.pwrGood then c.startConversion else c)

/-- MeasStart (R148, R178): a write of 1 starts a conversion. -/
def measStartEffect : WriteEffect := fun s value =>
  (statusOk, if valueOf value = 1 then s.startConversion else s)

/-- MEAS_START (R148). -/
def execMeasStart (w : ObjWrite) (s : State) : Host.Outcome State Fault Refusal :=
  act (.measStart w) s (fun c => c.performWrite w Obj.measStart measStartEffect)

/-- The code of a voltage in nanovolts (R148). -/
def measCode (nanovolts : Int) : Nat := (clampInt 0 65535 (rneDiv (nanovolts * 65536) 2500000000)).toNat

/-- MeasResult (R178). -/
def measWord (channel number code : Nat) : Nat := channel * 2 ^ 24 + number % 256 * 2 ^ 16 + code

/-- MEAS_CONVERSION_DONE (R148, R178). -/
def execMeasConversionDone (nanovolts : Int) (s : State) : Host.Outcome State Fault Refusal :=
  act (.measConversionDone nanovolts) s (fun c =>
    match c.turn.converting with
    | none => c
    | some (channel, _, _) =>
      { c with turn := { c.turn with
        converting := none
        conversions := c.turn.conversions + 1
        measResult := measWord channel (c.turn.conversions + 1) (measCode nanovolts) } })

/-- MEAS_FIRMWARE_HOLD_EXPIRE (R150): the hold ends. -/
def execMeasFirmwareHoldExpire (s : State) : Host.Outcome State Fault Refusal :=
  act .measFirmwareHoldExpire s (fun c => { c with dict := c.dict.store Obj.measFirmwareHold 0 })

/-! ### The reference check (R147, R150, R151) -/

/-- Nominal codes of the three generators in hundredths: 0.1500 V, 0.6000 V and 0.9000 V on 2.5 V full scale (R147, R148). -/
def nominalCode (gen : Nat) : Nat := match gen with | 0 => 393216 | 1 => 1572864 | _ => 2359296

/-- The trim move of a reading: 2 steps towards nominal when it is off by more than 0.02 % (R150). -/
def trimMove (gen code : Nat) : Int :=
  let n := nominalCode gen
  if 5000 * (100 * code - n) > n then -2 else if 5000 * (n - 100 * code) > n then 2 else 0

/-- Does the reference input look wrong: channels 0 and 30 disagree by more than 1.0 %, or channel 1 reads above 33? (R151) -/
def refInBad (ch0 ch1 ch30 : Nat) : Bool :=
  33 < ch1 || 96 * ch0 < 100 * (max (100 * ch30) (96 * ch0) - min (100 * ch30) (96 * ch0))

/-- Index of the reading of generator `gen` of a half among the codes of a check: channels 0 and 1, the read biases in channel
order, the integrator and converter references in half order, and channel 30 last. -/
def readingIndex (gen half : Nat) : Nat :=
  match gen with
  | 0 => if half % 2 = 0 then 2 + half / 2 else 10 + half / 2
  | 1 => 18 + half
  | _ => 34 + half

/-- The trim of a generator: the test record's, and what turning has moved it by (R147). -/
def S8.trim (s : S8) (half gen : Nat) : Int := (Config.referenceTrim half gen : Int) + SMap.getD s.turn.trims (3 * half + gen) 0

/-- A reference check (R150, R151). -/
def S8.referenceCheck (s : S8) (codes : List Nat) : S8 :=
  let code (i : Nat) := codes.getD i 0
  let bad := refInBad (code 0) (code 1) (code 50)
  let moves := (List.range 48).foldl (fun m i =>
    let v := trimMove (i % 3) (code (readingIndex (i % 3) (i / 3)))
    if v = 0 then m else SMap.insert m i v) s.turn.trimMoves
  { s with
    turn := { s.turn with
      conversions := s.turn.conversions + 51
      measResult := measWord 31 (s.turn.conversions + 51) (code 49)
      refFault := bad
      trimMoves := if bad then [] else moves }
    dict := s.dict.raise s.run.step Obj.refInFaultCount 0 (if bad && !s.turn.refFault then 1 else 0) 0 (code 0) }

/-- REFERENCE_CHECK (R150, R151): firmware starts no conversions while MeasFirmwareHold is non-zero, and one it needs waits
while one of yours runs. -/
def execReferenceCheck (codes : List (BitVec 16)) (s : State) : Host.Outcome State Fault Refusal :=
  act (.referenceCheck codes) s (fun c =>
    if c.dict.get Obj.measFirmwareHold ≠ 0 ∨ c.turn.converting.isSome then c
    else c.referenceCheck (codes.map BitVec.toNat))

/-! ### What a calibration round gives (R155) -/

/-- The values one round yields. -/
structure RoundValues where
  /-- O_π of every pair. -/
  offsets : List Int
  /-- HeldOffsetLevel of each offset reference. -/
  levels : List Int
  /-- K_j of each gain reference. -/
  gains : List Nat
  /-- G_π of every pair, before its range is judged. -/
  pairGains : List Int
  /-- O_r, K_row and G_r of the rows. -/
  rowOffsets : List Int
  rowGain : Nat
  rowGains : List Int
  deriving DecidableEq, Repr

/-- The number of pairs (R62, R86). -/
def pairCount (k : Nat) : Nat := if isCulture k then 1072 else 2144

/-- The number of reference couples (R64, R86). -/
def referenceCouples (k : Nat) : Nat := if isCulture k then 4 else 8

/-- A code of a pour. -/
def codeAt (pour : List Nat) (p : Nat) : Int := (pour.getD p 512 : Int)

/-- A quotient rounded once; a value the manual does not state where the divisor is zero. -/
def quotient (n d : Int) : Int := if d = 0 then (Config.quotientCorner n : Int) else rneSigned n d

/-- O_π (R155): the mean over the offset probes. -/
def roundOffset (k : Nat) (probes : List (List Nat)) (p : Nat) : Int :=
  rneDiv (probes.foldl (fun a c => a + 16 * (codeAt c p - codeAt c (offsetReference k p))) 0) 4

/-- HeldOffsetLevel of offset reference i (R155). -/
def roundLevel (k : Nat) (probes : List (List Nat)) (i : Nat) : Int :=
  rneDiv (probes.foldl (fun a c => a + 16 * (codeAt c (firstReference k + 2 * i + 1) - 512)) 0) 4

/-- K_j of gain reference i (R155): the mean over the standard probes of 64 × D × 2^16 / γ, formed exactly. -/
def roundGain (k : Nat) (probes : List (List Nat × List Int)) (offset : Int) (i : Nat) : Nat :=
  let sum := probes.foldl (fun (a : Int × Int) c =>
    let g := 16 * (codeAt c.1 (firstReference k + 2 * i) - codeAt c.1 (firstReference k + 2 * i + 1)) - offset
    (a.1 * g + 64 * c.2.foldl (· + ·) 0 * 2 ^ 16 * a.2, a.2 * g)) (0, 1)
  (quotient sum.1 (16 * sum.2)).toNat

/-- 16 × the stage-3 result of a pair with G = 0x8000 (R94, R155). -/
def roundStage3 (k minDrive : Nat) (v : RoundValues) (codes : List Nat) (h : List Int) (p : Nat) : Int :=
  let i := referenceStep k p / 2
  let o := codeAt codes (offsetReference k p)
  let level := if saturated o.toNat then v.levels.getD i 0 else 16 * (o - 512)
  let delta := 16 * (codeAt codes p - 512) - level - v.offsets.getD p 0
  let gamma := 16 * (codeAt codes (gainReference k p) - o) - v.offsets.getD (gainReference k p) 0
  let d := h.foldl (· + ·) 0
  if saturated o.toNat || saturated (codeAt codes (gainReference k p)).toNat || decide (d.natAbs < minDrive) || decide (gamma * d ≤ 0)
  then 16 * rneDiv (delta * v.gains.getD i 0 * 0x8000) (2 ^ 31)
  else 16 * rneSigned (delta * 64 * d * 0x8000) (gamma * 2 ^ 15)

/-- G_π (R155) from the probes of a round. A divisor of zero leaves the value open, and it is taken within the usable
range. -/
def gainFrom (answers results : List Int) : Int :=
  let num := 2 ^ 15 * answers.foldl (fun a x => a + x * x) 0
  let den := (answers.zip results).foldl (fun a e => a + e.1 * e.2) 0
  if den = 0 then 0x4000 + ((Config.quotientCorner num % 0xC000 : Nat) : Int) else rneSigned num den

/-- The residual terms of a column for a probe (R155: with the entries in force). -/
def residualTerm (entries : List Entry) (map : List (Nat × Nat)) (h : List Int) (p : Nat) : Int :=
  (entries.filter (fun e => e.residual && pairOf map e.col = p)).foldl (fun a e => a + e.delta * 16 * h.getD e.row 0) 0

/-- The values of a round (R155) against the vat's probe answers. Its pours come in the order of R152's table. -/
def S8.roundValues (s : S8) (k : Nat) (g : Golden) (answers : Bytes) (round : List (List Nat)) : RoundValues :=
  let map := s.mem.columnMap k
  let entries := s.mem.entries k
  let minDrive := s.dict.get Obj.refMinDrive
  let hs := (List.range 16).map (standardProbe k g.lifted)
  let standard := ((round.drop 4).take 16).zip hs
  let offsets := (List.range (pairCount k)).map (roundOffset k (round.take 4))
  let first : RoundValues :=
    { offsets := offsets
      levels := (List.range (referenceCouples k)).map (roundLevel k (round.take 4))
      gains := (List.range (referenceCouples k)).map (fun i => roundGain k standard (offsets.getD (firstReference k + 2 * i) 0) i)
      pairGains := [], rowOffsets := [], rowGain := 0, rowGains := [] }
  let pairGains := (List.range (pairCount k)).map (fun p =>
    if firstReference k ≤ p ∧ p < firstChecksum k then 0x8000
    else gainFrom ((List.range 16).map (fun i => answerAt answers k map i p))
      (standard.map (fun e => roundStage3 k minDrive first e.1 e.2 p + residualTerm entries map e.2 p)))
  if isCulture k then { first with pairGains := pairGains }
  else
    let zero := (round.drop 20).take 2
    let reverse := ((round.drop 22).take 4).zip ((List.range 4).map reverseProbe)
    let rowOffsets := (List.range 2048).map (fun r =>
      rneDiv (zero.foldl (fun a c => a + 16 * (codeAt c r - 512) + 16 * (codeAt c (2048 + r) - 512)) 0) 4)
    let rowGain := Config.rowGainOf k round
    let slot (c : List Nat) (r base : Nat) : Int :=
      rneDiv ((16 * (codeAt c (base + r) - 512) - rowOffsets.getD r 0) * rowGain * 0x8000) (2 ^ 31)
    let rowGains := (List.range 2048).map (fun r =>
      gainFrom (reverse.map (fun e => g.rowAnswer e.2 r))
        (reverse.map (fun e => 16 * slot e.1 r 0 + slot e.1 r 2048 +
          (entries.filter (fun x => x.residual && x.row = r)).foldl (fun a x => a + x.delta * 16 * e.2.getD x.col 0) 0)))
    { first with pairGains := pairGains, rowOffsets := rowOffsets, rowGain := rowGain, rowGains := rowGains }

/-- Is a pair usable by its gain? (R155) -/
def usableGain (g : Int) : Bool := 0x4000 ≤ g && g ≤ 0xFFFF

/-- Do two gains agree within K/2,048? (R156) -/
def gainsAgree (a b : Nat) : Bool := (max a b - min a b) * 2048 ≤ a

/-- The usable pairs of two rounds that disagree (R156). -/
def disagreeing (k : Nat) (a b : RoundValues) : List Nat :=
  (List.range (pairCount k)).filter (fun p =>
    usableGain (a.pairGains.getD p 0) && usableGain (b.pairGains.getD p 0) &&
      (4 < (a.offsets.getD p 0 - b.offsets.getD p 0).natAbs || 16 < (a.pairGains.getD p 0 - b.pairGains.getD p 0).natAbs))

/-- Do the references of two rounds agree? (R156) -/
def referencesAgree (k : Nat) (a b : RoundValues) : Bool :=
  (List.range (referenceCouples k)).all (fun i =>
    (a.levels.getD i 0 - b.levels.getD i 0).natAbs ≤ 4 && gainsAgree (a.gains.getD i 0) (b.gains.getD i 0)) &&
  (isCulture k || gainsAgree a.rowGain b.rowGain)

/-- rne of the mean of two round values (R156). -/
def meanOf (a b : Int) : Int := rneDiv (a + b) 2

/-- The calibration entry of a pair or row: offset and gain (R108). -/
def calEntry (offset gain : Int) : Bytes := leBytes 2 (ofSigned 16 offset) ++ leBytes 2 (ofSigned 16 gain)

/-- The table writes an accepted calibration makes (R156, R157): pairs listed in `keep`, and unusable pairs' gains, stay. -/
def S8.calibrationWrites (s : S8) (k : Nat) (a b : RoundValues) (keep : List Nat) (refs : Bool) : List (Nat × Bytes) :=
  let base := tableBase k
  let pairs : Bytes := (List.range (pairCount k)).flatMap (fun p =>
    if keep.contains p then s.seen.read (base + 1024 + 4 * p) 4
    else
      let usable := usableGain (a.pairGains.getD p 0) && usableGain (b.pairGains.getD p 0)
      calEntry (meanOf (a.offsets.getD p 0) (b.offsets.getD p 0))
        (if usable then meanOf (a.pairGains.getD p 0) (b.pairGains.getD p 0) else (s.seen.pairGain k p : Int)))
  let held : List (Nat × Bytes) :=
    if refs then
      [(base + heldGainOffset k, (List.range (referenceCouples k)).flatMap (fun i =>
          leBytes 4 (ofSigned 32 (meanOf (a.gains.getD i 0) (b.gains.getD i 0))))),
       (base + heldLevelOffset k, (List.range (referenceCouples k)).flatMap (fun i =>
          leBytes 2 (ofSigned 16 (meanOf (a.levels.getD i 0) (b.levels.getD i 0)))))]
    else []
  let rows : List (Nat × Bytes) :=
    if isCulture k then []
    else
      (if refs then [(base + 880, leBytes 4 (ofSigned 32 (meanOf a.rowGain b.rowGain)))] else []) ++
      [(base + 26112, (List.range 2048).flatMap (fun r =>
        calEntry (meanOf (a.rowOffsets.getD r 0) (b.rowOffsets.getD r 0)) (meanOf (a.rowGains.getD r 0) (b.rowGains.getD r 0))))]
  [(base + 1024, pairs)] ++ held ++ rows

/-- The unit root of a ratio in 0.001 %, to the nearest: 100,000 × √(n / d), limited to 65,535. -/
def rootRatio (n d : Nat) : Nat := if d = 0 then 65535 else min 65535 ((Nat.sqrt (4 * 10 ^ 10 * n / d) + 1) / 2)

/-- What the rind makes of a standard probe's codes with the tables of a memory (R160): RindMode 0, nothing held. -/
def S8.probeInput (s : S8) (m : Mem) (k : Nat) (codes : List Nat) (h : List Int) : PourInput :=
  { mem := m, vat := k, codes := codes, drives := h, low := false, exponent := 0x7F, rindOff := false,
    minDrive := s.dict.get Obj.refMinDrive, nominal := 0 }

/-- The vector of a standard probe (R153). -/
def probeVector (h : List Int) : PourVector :=
  { exponent := 0x7F, poison := false, anyClamp := false, fallback := false, lifted := [], tripMap := [], z := [], s := [],
    codes := h.map (16 * ·) }

/-- The exact result of a column for a probe from the golden weights, with the midpoint compensation (R47, R160). -/
def Golden.exactResult (g : Golden) (h : List Int) (c : Nat) : Int :=
  h.zipIdx.foldl (fun a e => if g.lifted.contains e.2 then a else a + g.full e.2 c * (16 * e.1 + 8)) 0

/-- The normalised column error of a round under the tables of a memory, in 0.001 % (R160). -/
def S8.normError (s : S8) (m : Mem) (k : Nat) (g : Golden) (round : List (List Nat)) : Nat :=
  let probes := ((round.drop 4).take 16).zip ((List.range 16).map (standardProbe k g.lifted))
  let sums := probes.foldl (fun (a : Nat × Nat) e =>
    let p := highResult m k (probeVector e.2) false false (s.probeInput m k e.1 e.2).columns
    (List.range (dataColumns k)).foldl (fun (b : Nat × Nat) c =>
      let want := g.exactResult e.2 c
      (b.1 + (p.getD c 0 - want).natAbs ^ 2, b.2 + want.natAbs ^ 2)) a) (0, 0)
  rootRatio sums.1 sums.2

/-- 16 σ² of a group: the sum of e² over the standard probes of a round (R164). -/
def S8.sumSquare (s : S8) (m : Mem) (k : Nat) (g : Golden) (round : List (List Nat)) (group : Nat) : Nat :=
  let probes := ((round.drop 4).take 16).zip ((List.range 16).map (standardProbe k g.lifted))
  probes.foldl (fun a e => a + ((s.probeInput m k e.1 e.2).checksumError group).natAbs ^ 2) 0

/-- Is a normalised column error within the bound of R160, plus a margin in 0.001 %, at a temperature in 0.1 °C and an age in
hours? -/
def withinBound (err margin : Nat) (temp : Int) (hours : Nat) : Bool :=
  let t := (max temp 400 - 400).toNat
  (err - margin) * (550 * 61320) ≤ 350 * 550 * 61320 + 200 * t * 61320 + (250 * 550 + 100 * t) * hours

/-- Is an in-service vat refresh-due: by its error at its present temperature and age, or, a charge-trap vat, by its age? (R173) -/
def S8.refreshDue (s : S8) (k : Nat) : Bool :=
  let q := s.turn.qualityOf k
  let age := s.hours - q.programmedAt
  s.mem.vatState k = 2 && (!(withinBound q.normError (s.dict.get Obj.refreshMargin) (s.meanTemp (vatHalf k)) age) ||
    (!(isCulture k) && decide (s.dict.get Obj.retentionRefreshAge ≤ age)))

/-! ### Turning's share of the maintenance slots (R145) -/

/-- The maintenance slots of a vat that turning may still use in this step: TurningSlots of the 8, less those that the trier takes
beyond its own share. A vat out of service has all 128 (R145). -/
def S8.turningSlotsLeft (s : S8) (k : Nat) : Nat :=
  let trier := SMap.getD s.turn.trierSlots k 0
  let share := if s.mem.vatState k = 2 then min (s.dict.get Obj.turningSlots) (8 - trier) else 128
  share - SMap.getD s.turn.slotsUsed k 0

/-- Turning uses maintenance slots of a vat. -/
def Turning.useSlots (t : Turning) (k n : Nat) : Turning := { t with slotsUsed := SMap.modify t.slotsUsed k 0 (· + n) }

/-! ### Columns that must move (R169) -/

/-- The redundant pairs of a vat that no column has, that no column is being moved to, and that have not been programmed since the vat was
erased (R63, R169). -/
def S8.freeRedundant (s : S8) (k : Nat) : List Nat :=
  ((List.range (mapSlots k)).map (dataColumns k + ·)).filter (fun p =>
    !((s.seen.columnMap k).any (fun e => e.2 = p)) && !((SMap.getD s.turn.usedPairs k []).contains p) &&
      !((SMap.getD s.turn.moving k []).any (fun e => e.2 = p)))

/-- Mark a vat a REWRITE candidate. -/
def S8.makeCandidate (s : S8) (k : Nat) : S8 :=
  { s with turn := s.turn.setQuality k (fun q => { q with candidate := true }) }

/-- May turning write cells of the vat while it serves? Not a culture vat's, which are written only in State 1 (R171). -/
def S8.correctable (s : S8) (k : Nat) : Bool := !(isCulture k) || s.mem.vatState k ≠ 2

/-- Turning begins to move a column to a free redundant pair; with none free the vat becomes a REWRITE candidate (R169), and so does
a culture vat in service (R171). -/
def S8.beginMove (s : S8) (k c : Nat) : S8 :=
  if (SMap.getD s.turn.moving k []).any (fun e => e.1 = c) then s
  else if s.freeRedundant k = [] || !(s.correctable k) then s.makeCandidate k
  else
    { s.picked with turn := { s.turn with
      moving := SMap.modify s.turn.moving k [] (fun l => l ++ [(c, s.pick (s.freeRedundant k))]) } }

/-- Unusable data pairs and pairs that disagree go to the repair path (R155, R157, R167). -/
def S8.repairPairs (s : S8) (k : Nat) (pairs : List Nat) : S8 :=
  pairs.foldl (fun (a : S8) p =>
    let col := if p < dataColumns k then some p
      else ((a.seen.columnMap k).find? (fun e => e.2 = p)).map (·.1)
    match col with
    | none => a
    | some c => if a.dict.get Obj.cellRepairPolicy = 0 then a.beginMove k c else a.makeCandidate k) s

/-! ### Live rewrite (R174, R175) -/

/-- RewriteStatus (R177). -/
def rewriteWord (state reason spare vat : Nat) : Nat := state * 2 ^ 28 + reason * 2 ^ 24 + spare % 4096 * 2 ^ 12 + vat % 4096

/-- Report a rewrite in its die's RewriteStatus, which is about the latest request (R177). -/
def Turning.report (t : Turning) (service state reason spare : Nat) : Turning :=
  if SMap.find t.requested (vatDie service) = some service then
    { t with status := SMap.put 0 t.status (vatDie service) (rewriteWord state reason (spare % 2592) (service % 2592)) }
  else t

/-- Is a column marked Suspect, or to be at the next boundary? (R408, R409) -/
def Trier.isSuspect (t : Trier) (k c : Nat) : Bool := (SMap.find t.suspects (2048 * k + c)).isSome

/-- The trier's marks and transients without those of a vat's columns. -/
def Trier.forget (t : Trier) (k : Nat) (cols : Nat → Bool) : Trier :=
  { t with
    suspects := SMap.keep (fun i _ => !(i / 2048 = k && cols (i % 2048))) t.suspects
    transients := SMap.keep (fun i _ => !(i / 2048 = k && cols (i % 2048))) t.transients }

/-- What turning does to a vat's tables and cells ends: calibration, localisation, repair and what is staged (R159). -/
def Turning.drop (t : Turning) (k : Nat) : Turning :=
  { t with
    calibrations := SMap.erase t.calibrations k
    localisations := SMap.erase t.localisations k
    absorbing := SMap.erase t.absorbing k
    moving := SMap.erase t.moving k
    staged := t.staged.filter (fun w => !(inTable k w.1))
    deferred := t.deferred.filter (fun e => e.1 ≠ k) }

/-- Begin to erase and programme a physical vat with content (R113, R170, R172): State 1, one cycle. -/
def S8.programme (s : S8) (k : Nat) (content : Nat × Nat) : S8 :=
  { s with
    mem := s.mem.setState k 1
    trier := s.trier.forget k (fun _ => true)
    wheels := { s.wheels with content := SMap.insert s.wheels.content k content }
    turn := { ((s.turn.drop k).setQuality k (fun q =>
        { Quality.none with cycles := q.cycles + (if isCulture k then 0 else 1), partials := q.partials })) with
      programming := eraseNat k s.turn.programming ++ [k]
      measured := SMap.erase s.turn.measured k
      usedPairs := SMap.erase s.turn.usedPairs k } }

/-- Does the half's programme-verify engine serve a vat: one of the first RewriteConcurrency of its half? (R170) -/
def S8.engineServes (s : S8) (k : Nat) : Bool :=
  ((s.turn.programming.filter (fun x => vatHalf x = vatHalf k)).take (s.dict.get Obj.rewriteConcurrency)).contains k

/-- Return a vat that is not to be used to State 0, its content forgotten (R175, R365); at its endurance limit it is retired (R172). -/
def S8.releaseSpare (s : S8) (k : Nat) : S8 :=
  { s with
    mem := s.mem.setState k (s.leftState k)
    wheels := { s.wheels with content := SMap.erase s.wheels.content k }
    turn := { s.turn.drop k with programming := eraseNat k s.turn.programming } }

/-- The spares that can take a rewrite: none that has failed in it (R174 steps 1 and 5). -/
def S8.rewriteSpares (s : S8) (r : Rewrite) (g : Golden) : List Nat :=
  (s.spareVats (vatHalf r.source) (isCulture r.source)).filter (fun k =>
    (s.poolPlace k g).isSome && !(r.tried.contains k) && !(r.unitCause && unitOfVat k = unitOfVat r.source))

/-- Choose a spare and programme it, wait for golden data that is being fetched again (R333), or raise RewriteBlocked. -/
def S8.rewriteOnto (s : S8) (r : Rewrite) : S8 :=
  match s.goldenOf r.source, SMap.find s.wheels.content r.source with
  | some g, some content =>
    let spares := s.rewriteSpares r g
    if spares = [] then
      { s with
        turn := { (s.turn.report r.service 8 3 0) with rewrites := SMap.erase s.turn.rewrites r.source }
        dict := s.dict.raise s.run.step Obj.rewriteBlockedCount 0 1 (unitOfVatKey r.service) 0 }
    else
      let k := s.pick spares
      let s1 := s.picked.programme k content
      { s1 with turn := { (s1.turn.report r.service 3 0 k) with
        rowWrites := if isCulture k then SMap.modify s1.turn.rowWrites k 0 (· + 1) else s1.turn.rowWrites
        rewrites := SMap.insert s1.turn.rewrites r.source { r with spare := k, state := 3 } } }
  | _, _ =>
    { s with
      turn := { (s.turn.report r.service 2 0 0) with
        rewrites := SMap.insert s.turn.rewrites r.source { r with state := 2 } } }

/-- A spare failed: another is tried, at most 3 in all, then RewriteFailed (R174 step 5). -/
def S8.spareFailed (s : S8) (r : Rewrite) : S8 :=
  let s1 := s.releaseSpare r.spare
  let r1 := { r with tries := r.tries + 1, tried := r.spare :: r.tried }
  if 3 ≤ r1.tries then
    { s1 with
      turn := { (s1.turn.report r.service 8 4 r.spare) with rewrites := SMap.erase s1.turn.rewrites r.source }
      dict := s1.dict.raise s1.run.step Obj.rewriteFailCount 0 1 (unitOfVatKey r.service) 0 }
  else s1.rewriteOnto r1

/-- The rewrite that a spare serves. -/
def Turning.rewriteOf (t : Turning) (spare : Nat) : Option Rewrite :=
  (t.rewrites.find? (fun e => e.2.spare = spare && 3 ≤ e.2.state)).map (·.2)

/-- A spare's calibration was accepted: it awaits the switch, or fails its bound (R160, R174). -/
def S8.spareCalibrated (s : S8) (k : Nat) : S8 :=
  match s.turn.rewriteOf k with
  | none => s
  | some r =>
    if r.state = 5 then
      if withinBound (s.turn.qualityOf k).normError 0 (s.meanTemp (vatHalf k)) (s.hours - (s.turn.qualityOf k).programmedAt) then
        { s with turn := { (s.turn.report r.service 6 0 k) with
          rewrites := SMap.insert s.turn.rewrites r.source { r with state := 6 } } }
      else s.spareFailed r
    else s

/-! ### Calibration (R146, R152, R156 to R159) -/

/-- Calibrations in progress on a unit. -/
def S8.calibrating (s : S8) (u : Nat) : Nat := (s.turn.calibrations.filter (fun e => unitOfVat e.1 = u)).length

/-- Does turning work on a half: its clock runs and its agent does not starve? (R234) -/
def S8.turns (s : S8) (half : Nat) : Bool := !(s.cores.starved.contains half)

/-- Is a vat due for calibration: in State 1 with its cells programmed, or in service and never calibrated since, its interval passed, the
temperature moved, or its localisation finished? (R158, R174) -/
def S8.calibrationDue (s : S8) (k : Nat) : Bool :=
  let q := s.turn.qualityOf k
  (SMap.find s.turn.calibrations k).isNone && (s.goldenOf k).isSome &&
    (if s.mem.vatState k = 2 then
      !q.calibrated || q.calDue || decide (s.dict.get Obj.calibrationInterval ≤ (s.run.step + 2 ^ 32 - q.lastCalStep) % 2 ^ 32) ||
        decide (10 * s.dict.get Obj.calTempDelta < (s.meanTemp (vatHalf k) - 10 * q.lastCalTemp).natAbs)
     else s.mem.vatState k = 1 && !(s.turn.programming.contains k))

/-- Steps since the latest accepted calibration, from the 32 bits that the quality record holds (R163). -/
def S8.calibrationAge (s : S8) (k : Nat) : Nat := (s.run.step + 2 ^ 32 - (s.turn.qualityOf k).lastCalStep) % 2 ^ 32

/-- Does a due vat start its calibration now: within 8 of its unit, those with the oldest calibration first? (R146, R158) -/
def S8.calibrationTurn (s : S8) (k : Nat) : Bool :=
  let u := unitOfVat k
  let older := (vatsOfUnit u).filter (fun x => x ≠ k && s.calibrationDue x && decide (s.calibrationAge k < s.calibrationAge x))
  s.calibrationDue k && decide (s.calibrating u + older.length < 8)

/-- A calibration that begins: the vat's probe answers are fetched (R154). -/
def S8.newCalibration (s : S8) (k step : Nat) : Calibration :=
  { startStep := step, first := s.mem.vatState k ≠ 2, spoilt := false, answers := SMap.getD s.cellar.answers k [] }

/-- CALIBRATION_START (R146, R152, R154, R158): a due vat, at most 8 of a unit at once, and none on a half whose agent starves
(R234). -/
def execCalibrationStart (vat : Vat) (s : State) : Host.Outcome State Fault Refusal :=
  act (.calibrationStart vat) s (fun c =>
    let k := vatKey vat
    if c.turns (vatHalf k) && c.calibrationTurn k then
      { c with turn := { (c.turn.setQuality k (fun q => { q with calDue := false })) with
        calibrations := SMap.insert c.turn.calibrations k (c.newCalibration k c.run.step) } }
    else c)

/-- Stage what a calibration measured; where the unit's staging area is committed, at the next boundary (R159). -/
def S8.stageCalibration (s : S8) (k : Nat) (writes : List (Nat × Bytes)) : S8 :=
  if s.mem.vatState k = 2 && s.mem.committed (unitOfVat k) then
    { s with turn := { s.turn with deferred := s.turn.deferred ++ [(k, writes)] } }
  else s.stageTables k writes

/-- An accepted calibration (R156, R157): its tables staged, or written directly on a vat that is not in service (R113), the
quality record, the checksum limits and the pairs to repair. `unsettled` says that it is accepted although its rounds disagree: on the
pairs of `keep`, or on the references where `refs` is false. -/
def S8.acceptCalibration (s : S8) (k : Nat) (g : Golden) (a b : RoundValues) (roundB : List (List Nat)) (keep : List Nat)
    (refs unsettled : Bool) : S8 :=
  let writes := s.calibrationWrites k a b keep refs
  let after := s.seen.writeAll writes
  let err := s.normError after k g roundB
  let temp := s.meanTemp (vatHalf k)
  let bad := (List.range (dataColumns k + mapSlots k)).filter (fun p =>
    !(usableGain (a.pairGains.getD p 0) && usableGain (b.pairGains.getD p 0)))
  let turn := s.turn.setQuality k (fun q =>
    { q with
      normError := err
      unstable := false
      unstablePairs := keep
      atEndurance := !(s.enduring k)
      calibrated := true
      lastCalStep := s.run.step % 2 ^ 32
      lastCalTemp := temp / 10
      retries := 0 })
  let s1 := { s with
    turn := { turn with calibrations := SMap.erase s.turn.calibrations k }
    vats := { s.vats with sumSquares := (List.range (checksumGroups k)).foldl (fun m i =>
      SMap.insert m (16 * k + i) (s.sumSquare after k g roundB i)) s.vats.sumSquares }
    dict := s.dict.raise s.run.step Obj.calUnstableCount 0 (if unsettled then 1 else 0) (s.vatUnit k) keep.length }
  ((s1.stageCalibration k writes).repairPairs k (bad ++ keep)).spareCalibrated k

/-- A calibration whose rounds disagree (R156, R157). -/
def S8.rejectCalibration (s : S8) (k : Nat) (g : Golden) (a b : RoundValues) (roundB : List (List Nat)) (off : List Nat)
    (refs : Bool) : S8 :=
  let tries := (s.turn.qualityOf k).retries + 1
  let s1 := { s with
    dict := s.dict.raise s.run.step Obj.calRejectCount 0 1 (s.vatUnit k) off.length
    turn := s.turn.setQuality k (fun q => { q with retries := tries }) }
  if tries < s.dict.get Obj.calibrationRetryLimit then
    { s1 with turn := { s1.turn with
      calibrations := SMap.insert s1.turn.calibrations k (s.newCalibration k (s.run.step + 1)) } }
  else if off.length ≤ 64 then s1.acceptCalibration k g a b roundB off refs true
  else
    let s2 := { s1 with
      turn := { (s1.turn.setQuality k (fun q => { q with unstable := true, candidate := true, retries := 0 })) with
        calibrations := SMap.erase s1.turn.calibrations k }
      dict := s1.dict.raise s1.run.step Obj.calUnstableCount 0 1 (s.vatUnit k) off.length }
    match s2.turn.rewriteOf k with
    | some r => if r.state = 5 then s2.spareFailed r else s2
    | none => s2

/-- The rounds of a calibration are measured: accepted where they agree, else rejected (R155, R156). -/
def S8.judgeRounds (s : S8) (k : Nat) (g : Golden) (answers : Bytes) (ra rb : List (List Nat)) : S8 :=
  let a := s.roundValues k g answers ra
  let b := s.roundValues k g answers rb
  let off := disagreeing k a b
  let refs := referencesAgree k a b
  if off = [] ∧ refs then s.acceptCalibration k g a b rb [] true false else s.rejectCalibration k g a b rb off refs

/-- CALIBRATION_COMPLETE (R155 to R160, R174): both rounds of a calibration in progress. Rounds of which a probe was lost to ProbeOverrun
are discarded, and are measured again (R146). -/
def execCalibrationComplete (vat : Vat) (roundA roundB : List ProbeCodes) (s : State) : Host.Outcome State Fault Refusal :=
  act (.calibrationComplete vat roundA roundB) s (fun c =>
    let k := vatKey vat
    match SMap.find c.turn.calibrations k, c.goldenOf k with
    | some e, some g =>
      if !(c.turns (vatHalf k)) then c
      else if e.spoilt then
        { c with turn := { c.turn with calibrations := SMap.insert c.turn.calibrations k { e with spoilt := false } } }
      else c.judgeRounds k g e.answers (roundA.map (fun p => p.map BitVec.toNat)) (roundB.map (fun p => p.map BitVec.toNat))
    | _, _ => c)

/-! ### Residual entries (R117, R167, R520) -/

/-- Residual entries that do not fit are counted, RindFull is raised and the vat becomes a REWRITE candidate (R117). -/
def S8.residualsDropped (s : S8) (k dropped : Nat) : S8 :=
  if dropped = 0 then s
  else
    S8.makeCandidate { s with
      dict := (s.dict.raise s.run.step (dieObj Obj.residualDroppedCount (vatDie k)) 0 dropped (s.vatUnit k) 0).raise s.run.step
        (dieObj Obj.rindFullCount (vatDie k)) 0 1 (s.vatUnit k) 0 } k

/-- The writes that put a vat's entries into new pool rows and name them in its header (R115). Where the pool has no such run free, the
entries are staged over the old ones (DESIGN CHOICE, log entry 31). -/
def S8.entryWrites (s : S8) (k : Nat) (entries : Bytes) : List (Nat × Bytes) :=
  match freeRun (s.poolBusy (unitOfVat k) 20736) (s.seen.entryRows k) with
  | none => [(s.seen.entryAddr k, entries)]
  | some row => [(poolRow (unitOfVat k) row, entries), (tableBase k + 34, leBytes 2 row)]

/-- Stage a vat's entries with some weights' residuals replaced: (row, column) to the new Δ, 0 for none. Outlier weights keep
their entry, the new ColumnSum of every column whose residual entries change is in the same batch (R520), and the Suspect bits of the
columns clear (R408). -/
def S8.stageResiduals (s : S8) (k : Nat) (g : Golden) (changes : List (Nat × Nat × Int)) : S8 :=
  let m := s.seen
  let old := m.entries k
  let outliers := old.filter (fun e => !e.residual)
  let named (e : Entry) : Bool := changes.any (fun c => c.1 = e.row && c.2.1 = e.col)
  let added : List Entry := (changes.filter (fun c => c.2.2 ≠ 0 && !(outliers.any (fun e => e.row = c.1 && e.col = c.2.1)))).map
    (fun c => { residual := true, row := c.1, col := c.2.1, delta := c.2.2 })
  let fit := fitResiduals (m.entryRows k) outliers.length (old.filter (fun e => e.residual && !(named e)) ++ added)
  let cols := (changes.map (·.2.1)).eraseDups
  let summed := (cols ++ (old.filter (fun e => e.residual && !(fit.1.contains e))).map (·.col)).eraseDups
  let writes : List (Nat × Bytes) :=
    s.entryWrites k (padTo (512 * m.entryRows k) (entryBytes (outliers ++ fit.1))) ++ [(tableBase k + 38, leBytes 2 fit.1.length)] ++
    summed.map (fun c => (columnAddr k c + 4, leBytes 4 (ofSigned 32 (columnSumOf g k fit.1 c)))) ++
    (cols.filter (s.trier.isSuspect k)).map (fun c => (columnAddr k c + 3, leBytes 1 (setField (m.le (columnAddr k c + 3) 1) 1 1 0)))
  let s1 := s.stageTables k writes
  S8.residualsDropped { s1 with
    trier := s.trier.forget k (fun c => cols.contains c)
    turn := s1.turn.setQuality k (fun q => { q with residuals := fit.1.length }) } k fit.2

/-! ### Localisation (R165 to R167) -/

/-- A localisation has finished: the vat is due for calibration, and the next flagged group is taken up (R158, R165). -/
def S8.endLocalisation (s : S8) (k : Nat) : S8 :=
  let turn := s.turn.setQuality k (fun q => { q with calDue := true })
  match (SMap.find s.turn.localisations k).map (·.waiting) with
  | some (g :: rest) =>
    { s with turn := { turn with localisations := SMap.insert turn.localisations k { Localisation.begin g with waiting := rest } } }
  | _ => { s with turn := { turn with localisations := SMap.erase turn.localisations k } }

/-- The column stage (R165 step 1): columns of the group, 128k to 128k + 127. Errors are in 0.001 % of rms A. -/
def S8.columnStage (s : S8) (k : Nat) (l : Localisation) (errs : List (Nat × Nat)) (sumErr : Nat) : S8 :=
  let limit := 3 * (s.turn.qualityOf k).normError
  let faulty := ((errs.filter (fun e => e.1 / 128 = l.group && decide (limit < e.2))).map (·.1)).eraseDups
  if faulty ≠ [] then
    { s with turn := { s.turn with
      localisations := SMap.insert s.turn.localisations k { l with stage := 2, columns := faulty } } }
  else if limit < sumErr then
    S8.endLocalisation { s with turn := s.turn.setQuality k (fun q =>
      { q with
        maskedGroups := insertNat l.group q.maskedGroups
        candidate := q.candidate || decide (4 < (insertNat l.group q.maskedGroups).length) }) } k
  else
    S8.endLocalisation { s with
      vats := { s.vats with sumHits := SMap.erase s.vats.sumHits (16 * k + l.group) }
      dict := s.dict.raise s.run.step Obj.checksumTransientCount 0 1 (s.vatUnit k) l.group } k

/-- The block stage (R165 step 2): (column, block, error) beyond 2 steps × 7 × 16. -/
def S8.blockStage (s : S8) (k : Nat) (l : Localisation) (errs : List (Nat × Nat × Nat)) : S8 :=
  let faulty := (errs.filter (fun e => l.columns.contains e.1 && decide (2 * 7 * 16 < e.2.2))).map (fun e => (e.1, e.2.1))
  if faulty = [] then s.endLocalisation k
  else { s with turn := { s.turn with localisations := SMap.insert s.turn.localisations k { l with stage := 3, blocks := faulty } } }

/-- The row stage (R165 step 3, R167, R169): (row, column, value in 1/256 step) more than 2 steps from its target. Each faulty
weight gets a residual entry; under ABSORB it is then corrected in place, or its column moved where it has more faulty
weights than ColumnCellLimit; under REWRITE the vat becomes a candidate, and so does a culture vat in service, whose cells are written
only in State 1 (R171). -/
def S8.rowStage (s : S8) (k : Nat) (l : Localisation) (g : Golden) (values : List (Nat × Nat × Int)) : S8 :=
  let faulty := values.filter (fun v =>
    l.blocks.contains (v.2.1, v.1 / 32) && decide (512 < (256 * g.target v.1 v.2.1 - v.2.2).natAbs))
  let changes := faulty.map (fun v => (v.1, v.2.1, rneDiv (256 * g.target v.1 v.2.1 - v.2.2) 256))
  let s1 := if faulty = [] then s else s.stageResiduals k g changes
  if faulty = [] then s1.endLocalisation k
  else if s.dict.get Obj.cellRepairPolicy = 1 || !(s.correctable k) then (s1.makeCandidate k).endLocalisation k
  else
    let cols := (faulty.map (fun v => v.2.1)).eraseDups
    let crowded := cols.filter (fun c => s.dict.get Obj.columnCellLimit < (faulty.filter (fun v => v.2.1 = c)).length)
    let absorb := (faulty.filter (fun v => !(crowded.contains v.2.1))).map (fun v => (v.1, v.2.1))
    let s2 := crowded.foldl (fun a c => a.beginMove k c) s1
    if absorb = [] then s2.endLocalisation k
    else
      S8.endLocalisation { s2 with turn := { (s2.turn.setQuality k (fun q => { q with partials := q.partials + 1 })) with
        absorbing := SMap.modify s2.turn.absorbing k [] (fun x => (x ++ absorb).eraseDups) } } k

/-- LOCALISATION_STAGE_DONE (R165 to R167): the findings of the stage the localisation stands at. -/
def execLocalisationStageDone (vat : Vat) (group : Fin 16) (found : Findings) (s : State) : Host.Outcome State Fault Refusal :=
  act (.localisationStageDone vat group found) s (fun c =>
    let k := vatKey vat
    match SMap.find c.turn.localisations k with
    | none => c
    | some l =>
      if l.group ≠ group.val || !(c.turns (vatHalf k)) then c
      else
        match found, l.stage, c.goldenOf k with
        | .column errs sumErr, 1, _ => c.columnStage k l errs sumErr
        | .block errs, 2, _ => c.blockStage k l errs
        | .row values, 3, some g => c.rowStage k l g values
        | _, _, _ => c)

/-! ### Repair in place (R168, R169) -/

/-- One reading of a weight's two cells, in 1/256 step above the floor (R168). A weight is too far from zero when it is farther from it
than its target; the partner that is then raised makes G_T − G_C equal the target. -/
def S8.absorbReading (s : S8) (k row col : Nat) (g : Golden) (t c : Int) : S8 :=
  let target := g.target row col
  let v := t - c
  let unit := s.vatUnit k
  let done := { s with turn := { s.turn with
    absorbing := SMap.modify s.turn.absorbing k [] (fun l => l.filter (fun e => e ≠ (row, col))) } }
  let tooFar := 256 * target.natAbs < v.natAbs
  let partner := if 256 * target < v then t - 256 * target else c + 256 * target
  if (v - 256 * target).natAbs ≤ 128 then
    S8.stageResiduals { done with dict := s.dict.raise s.run.step Obj.absorbCount 0 1 unit (2048 * col + row) } k g
      [(row, col, rneDiv (256 * target - v) 256)]
  else if tooFar ∧ partner ≤ 160 * 256 then
    if (s.seen.entries k).any (fun e => e.residual && e.row = row && e.col = col) then s.stageResiduals k g [(row, col, 0)] else s
  else { done with dict := s.dict.raise s.run.step Obj.absorbOutOfRangeCount 0 1 unit (2048 * col + row) }

/-- ABSORB_PULSE_VERIFY (R168): within ±0.5 step the weight is done and its residual staged again; too far from zero with the
partner in range, its residual is removed and pulsing goes on; otherwise the partner is out of range and the residual
stays. A pulse and its verify read take two of turning's maintenance slots, and without two left they come in a later step (R145). -/
def execAbsorbPulseVerify (vat : Vat) (row col : Fin 2048) (trueCell complementCell : Nat) (s : State) :
    Host.Outcome State Fault Refusal :=
  act (.absorbPulseVerify vat row col trueCell complementCell) s (fun c =>
    let k := vatKey vat
    match c.goldenOf k with
    | none => c
    | some g =>
      if (SMap.getD c.turn.absorbing k []).contains (row.val, col.val) && c.turns (vatHalf k) && decide (2 ≤ c.turningSlotsLeft k) then
        S8.absorbReading { c with turn := c.turn.useSlots k 2 } k row.val col.val g trueCell complementCell
      else c)

/-- Stage a column's move: its map entry, the Remapped bit, no Suspect bit (R409), and its residual entries gone with the pair they belonged to. -/
def S8.stageMove (s : S8) (k col pair : Nat) (g : Golden) : S8 :=
  let slotHolding (c : Nat) : Option Nat :=
    (List.range (mapSlots k)).find? (fun i => s.seen.le (tableBase k + 512 + 4 * i) 2 = c)
  let slot := ((slotHolding col).orElse (fun _ => slotHolding 0xFFFF)).getD 0
  let flag := s.seen.le (columnAddr k col + 3) 1
  let gone := ((s.seen.entries k).filter (fun e => e.residual && e.col = col)).map (fun e => (e.row, e.col, (0 : Int)))
  let s1 := if gone = [] then s else s.stageResiduals k g gone
  let s2 := s1.stageTables k [(tableBase k + 512 + 4 * slot, leBytes 2 col ++ leBytes 2 pair),
    (columnAddr k col + 3, leBytes 1 (setField (setField flag 0 1 1) 1 1 0))]
  { s2 with
    trier := s2.trier.forget k (fun c => c = col)
    turn := s2.turn.setQuality k (fun q => { q with redundantUsed := (s2.seen.columnMap k).length }) }

/-- COLUMN_MOVE_DONE (R63, R169): the redundant pair is programmed and verified. -/
def execColumnMoveDone (vat : Vat) (col : Fin 2048) (s : State) : Host.Outcome State Fault Refusal :=
  act (.columnMoveDone vat col) s (fun c =>
    let k := vatKey vat
    match (SMap.getD c.turn.moving k []).find? (fun e => e.1 = col.val), c.goldenOf k with
    | some (_, pair), some g =>
      if !(c.turns (vatHalf k)) then c
      else
        let s1 := c.stageMove k col.val pair g
        { s1 with
          turn := { s1.turn with
            moving := SMap.modify s1.turn.moving k [] (fun l => l.filter (fun e => e.1 ≠ col.val))
            usedPairs := SMap.modify s1.turn.usedPairs k [] (insertNat pair) }
          dict := s1.dict.raise s1.run.step Obj.columnRemapCount 0 1 (s1.vatUnit k) col.val }
    | _, _ => c)

/-! ### Programme-verify (R170, R172) -/

/-- The WheelId and ContentVersion bytes of a vat's content (R106). -/
def contentFields (k : Nat) (key : Nat) : Nat × Nat :=
  if isCulture k then (0, key / 65536 % 65536 + key % 65536 * 65536) else (key / 2 ^ 32 % 256, key % 2 ^ 32)

/-- The residual entries programming leaves: data pairs that ended outside ±1.5 steps (R170). -/
def programmedResiduals (k : Nat) (g : Golden) (off : List (Nat × Nat × Int)) : List Entry :=
  (off.filter (fun e => e.2.1 < dataColumns k && decide (384 < (256 * g.target e.1 e.2.1 - e.2.2).natAbs) &&
    !(g.outliers.any (fun o => o.row = e.1 && o.col = e.2.1)) && !(g.lifted.contains e.1))).map
    (fun e => { residual := true, row := e.1, col := e.2.1, delta := rneDiv (256 * g.target e.1 e.2.1 - e.2.2) 256 })

/-- A physical vat has been programmed (R170, R363): its tables, gain step, quality and pairs to move; a rewrite goes on to
calibrate it. -/
def S8.programmed (s : S8) (k : Nat) (g : Golden) (key : Nat) (place : Nat × Nat × Nat) (off : List (Nat × Nat × Int))
    (gainStep : Nat) : S8 :=
  let f := contentFields k key
  let fit := fitResiduals place.2.2 g.outliers.length (programmedResiduals k g off)
  let bad := ((off.filter (fun e => e.2.1 < dataColumns k &&
    decide (2048 < (256 * g.target e.1 e.2.1 - e.2.2).natAbs))).map (fun e => e.2.1)).eraseDups
  let turn := s.turn.setQuality k (fun q => { q with programmedAt := s.hours, residuals := fit.1.length })
  let turn1 := { turn with
    programming := eraseNat k s.turn.programming
    measured := SMap.insert s.turn.measured k off }
  let s1 := { s with
    mem := s.mem.writeTables k g f.1 f.2 place fit.1
    vats := { s.vats with gainStep := SMap.insert s.vats.gainStep k gainStep }
    cellar := s.cellar.keepAnswers k g
    turn := match s.turn.rewriteOf k with
      | none => turn1
      | some r => { (turn1.report r.service 5 0 k) with rewrites := SMap.insert turn1.rewrites r.source { r with state := 5 } } }
  (s1.residualsDropped k fit.2).repairPairs k bad

/-- PROGRAMME_VERIFY_DONE (R117, R170 to R172, R174): the engine has programmed a vat. -/
def execProgrammeVerifyDone (vat : Vat) (off : List (Nat × Nat × Int)) (gainStep : Fin 4) (s : State) :
    Host.Outcome State Fault Refusal :=
  act (.programmeVerifyDone vat off gainStep) s (fun c =>
    let k := vatKey vat
    if c.turn.programming.contains k && c.engineServes k && c.turns (vatHalf k) then
      match c.goldenOf k, SMap.find c.wheels.content k with
      | some g, some (key, _) =>
        match c.poolPlace k g with
        | some place => c.programmed k g key place off gainStep.val
        | none =>
          match c.turn.rewriteOf k with
          | some r => c.spareFailed r
          | none => c.releaseSpare k
      | _, _ => c
    else c)

/-- The request of a rewrite that waits to be taken up. -/
def S8.newRewrite (s : S8) (service source : Nat) (fault unitCause : Bool) : Rewrite :=
  { service := service, source := source, spare := source, state := 1, tries := 0, tried := [], fault := fault, unitCause := unitCause,
    content := s.mem.vatContent source }

/-- RewriteRequest (R175 to R177): a refused one answers STATE (R460), and RewriteStatus says why. -/
def rewriteEffect (die : Nat) : WriteEffect := fun s value =>
  let n := valueOf value
  let service := 2592 * die + n
  let source := s.vats.physical service
  let turn := { s.turn with requested := SMap.insert s.turn.requested die service }
  let refuse (reason : Nat) : S8 := { s with turn := turn.report service 8 reason 0 }
  if !(s.dieServes die) then (statusState, refuse 6)
  else if 2303 < n ∨ !(isServiceVat service) ∨ s.vats.unbacked.contains service then (statusState, refuse 2)
  else if (SMap.find s.turn.rewrites source).isSome then (statusState, refuse 1)
  else
    (statusOk, { s with turn := { (turn.report service 1 0 0) with
      rewrites := SMap.insert s.turn.rewrites source (s.newRewrite service source (s.turn.qualityOf source).candidate false) } })

/-- REWRITE_REQUEST (R175 to R177). -/
def execRewriteRequest (die : Die) (w : ObjWrite) (s : State) : Host.Outcome State Fault Refusal :=
  act (.rewriteRequest die w) s (fun c => c.performWrite w (dieObj Obj.rewriteRequest die.val) (rewriteEffect die.val))

/-- The rewrite of a service number that may start: one queued or fetching, one of a retired unit (R119), or, with AutoRewrite,
one of a candidate or refresh-due vat (R174). A culture vat's content is rewritten for the same causes (R119, R173). -/
def S8.rewriteDue (s : S8) (service : Nat) : Option Rewrite :=
  let source := s.vats.physical service
  let q := s.turn.qualityOf source
  let gone := s.vats.unitsRetired.contains (unitOfVat source)
  match SMap.find s.turn.rewrites source with
  | some r => if r.state ≤ 2 then some { r with unitCause := gone } else none
  | none =>
    if gone ∨ (s.dict.get Obj.autoRewrite = 1 ∧ (q.candidate ∨ s.refreshDue source)) then
      some (s.newRewrite service source (q.candidate || gone) gone)
    else none

/-- REWRITE_START (R119, R173, R174): firmware takes up a rewrite of a service number, within RewriteConcurrency vats of
the half. -/
def execRewriteStart (vat : Vat) (s : State) : Host.Outcome State Fault Refusal :=
  act (.rewriteStart vat) s (fun c =>
    let l := vatKey vat
    let busy := (c.turn.programming.filter (fun k => vatHalf k = vatHalf l)).length
    match c.rewriteDue l with
    | some r =>
      if !(isServiceVat l) || !(c.dieServes (vatDie l)) || decide (c.dict.get Obj.rewriteConcurrency ≤ busy) ||
          !(c.turns (vatHalf l)) then c
      else c.rewriteOnto r
    | none => c)

/-- WEAR_COUNT_SAVE (R172): the wear counts are written to the cellar's log partition. -/
def execWearCountSave (s : State) : Host.Outcome State Fault Refusal :=
  act .wearCountSave s (fun c =>
    { c with turn := { c.turn with
      savedCycles := (c.turn.quality.map (fun e => (e.1, e.2.cycles))).filter (fun e => e.2 ≠ 0)
      savedWrites := c.turn.rowWrites } })

/-! ### The boundary (R22, R114, R115, R150, R159, R174, R175) -/

/-- The vats whose generation a staged list advances: those whose digest must be formed again. -/
def stagedVats (staged : List (Nat × Bytes)) (vats : List Nat) : List Nat :=
  vats.filter (fun k => staged.any (fun w => w.1 = tableBase k + 12))

/-- A rewrite whose content changed, or whose die was lost, is abandoned (R175). -/
def S8.abandon (s : S8) (r : Rewrite) : S8 :=
  let lost := !(s.dieServes (vatDie r.source))
  if lost ∨ s.mem.vatContent r.source ≠ r.content then
    let s1 := if 3 ≤ r.state then s.releaseSpare r.spare else s
    { s1 with turn := { (s1.turn.report r.service 8 (if lost then 6 else 5) r.spare) with
      rewrites := SMap.erase s1.turn.rewrites r.source } }
  else s

/-- Let a physical vat that its tables hold ready back a logical number: its header takes State 2 with the number's move, and the vat that
backed it takes the State and the spare number that are its own one step later (R22, R115, R174 steps 6 and 7). What turning had under way
on the vat that leaves is discarded (R159), and the number is backed again (R23). -/
def S8.moveVat (s : S8) (l k left : Nat) : S8 :=
  let was := s.vats.physical l
  let mem := (s.mem.changeState k 2).digestTable k
  let number := (spareNumbers (vatHalf l) (isCulture l)).find? (fun n => s.vats.physical n = k)
  let leaving : VatFreeing := { physical := was, step := s.run.step + 1, state := left, number := number }
  if was = k then { s with mem := mem }
  else
    { s with
      mem := mem
      turn := s.turn.drop was
      vats := { s.vats with
        map := SMap.insert s.vats.map l k
        unbacked := eraseNat l s.vats.unbacked
        freeing := s.vats.freeing ++ [leaving] } }

/-- The switch of a rewrite (R174 steps 6 and 7). -/
def S8.switchRewrite (s : S8) (r : Rewrite) : S8 :=
  if r.state ≠ 6 then s
  else
    let s1 := s.moveVat r.service r.spare (if r.fault then 3 else s.leftState r.source)
    { s1 with
      turn := { (s1.turn.report r.service 7 0 r.spare) with rewrites := SMap.erase s1.turn.rewrites r.source }
      dict := s1.dict.raise s1.run.step Obj.rewriteCount 0 1 (unitOfVatKey r.service) 0 }

/-- A vat whose freeing falls due takes its State and its spare number (R22, R174 step 7). -/
def S8.freeVat (s : S8) (f : VatFreeing) : S8 :=
  { s with
    mem := s.mem.setState f.physical f.state
    wheels := { s.wheels with content := SMap.erase s.wheels.content f.physical }
    vats := { s.vats with map := match f.number with
      | none => s.vats.map
      | some l => SMap.insert s.vats.map l f.physical } }

/-- The pool rows that the headers of vats leave between two memories, free one step after the boundary (R115). -/
def rowsLeft (was now : Mem) (step : Nat) (vats : List Nat) : List (Nat × Nat) :=
  (vats.filter (fun k => was.le (tableBase k + 34) 2 ≠ now.le (tableBase k + 34) 2)).flatMap (fun k =>
    (List.range (was.entryRows k)).map (fun i => (2048 * unitOfVat k + was.le (tableBase k + 34) 2 + i, step)))

/-- A rewrite whose spare was being erased goes on to programme it: its report at the next boundary (DESIGN CHOICE, log entry 31). -/
def S8.erased (s : S8) (r : Rewrite) : S8 :=
  if r.state ≠ 3 ∨ SMap.find s.turn.rewrites r.source ≠ some r then s
  else { s with turn := { (s.turn.report r.service 4 0 r.spare) with rewrites := SMap.insert s.turn.rewrites r.source { r with state := 4 } } }

/-- What a boundary does for turning: staging (R114, R115), map changes (R22), rewrites, vats freed, trims (R150). The step has
already been advanced. -/
def S8.turnBoundary (s : S8) : S8 :=
  let s0 : S8 := s.turn.rewrites.foldl (fun (a : S8) e => (a.abandon e.2).erased e.2) s
  let s1 := s0.turn.rewrites.foldl (fun a e => a.switchRewrite e.2) s0
  let copied := (List.range 288).foldl (fun (m : Mem) u => m.stagingCopy u) s1.mem
  let staged := s1.turn.staged
  let touched := stagedVats staged ((List.range 288).flatMap vatsOfUnit)
  let mem := touched.foldl (fun (m : Mem) k => m.digestTable k) (copied.writeAll staged)
  let due := s1.vats.freeing.filter (fun f => f.step ≤ s1.run.step)
  let s2 := { s1 with
    mem := mem
    turn := { s1.turn with
      staged := []
      oldRows := s1.turn.oldRows.filter (fun e => s1.run.step < e.2) ++ rowsLeft s1.mem mem (s1.run.step + 1) touched
      slotsUsed := []
      trierSlots := []
      trims := s1.turn.trimMoves.foldl (fun m e =>
        SMap.put 0 m e.1 (clampInt (-(Config.referenceTrim (e.1 / 3) (e.1 % 3) : Int))
          (4095 - (Config.referenceTrim (e.1 / 3) (e.1 % 3) : Int)) (SMap.getD m e.1 0 + e.2))) s1.turn.trims
      trimMoves := [] }
    vats := { s1.vats with
      freeing := s1.vats.freeing.filter (fun f => s1.run.step < f.step) } }
  let s3 : S8 := due.foldl (fun a f => a.freeVat f) s2
  s3.turn.deferred.foldl (fun a e => a.stageTables e.1 e.2) { s3 with turn := { s3.turn with deferred := [] } }

end Sys2Proof.Machine
end

