-- ==== Sys2Proof/Machine/Wheels.lean ====
section
/-! DEFINITION. Wheels: manifests, placement tables, fetching shards, programming their blocks, READY, unloading, draining, and
the rebuilding of content at start-up (R351 to R371, R381, R490). -/

namespace Sys2Proof.Machine

/-! ### The wheel table (R351) -/

/-- The held versions: loading, READY or being unloaded. -/
def Wheels.held (w : Wheels) : List Wheel := w.table.filter (fun u => u.state ≠ 3)

/-- The entry of a version. -/
def Wheels.find (w : Wheels) (key : Nat) : Option Wheel := w.table.find? (fun u => u.key = key)

/-- Change the entry of a version. -/
def Wheels.set (w : Wheels) (key : Nat) (f : Wheel → Wheel) : Wheels :=
  { w with table := w.table.map (fun u => if u.key = key then f u else u) }

/-- Put an entry in place of a failed one of its version; the oldest failed entry makes room among the eight. -/
def Wheels.put (w : Wheels) (u : Wheel) : Wheels :=
  let rest := w.table.filter (fun v => v.key ≠ u.key)
  { w with table := (if 8 ≤ rest.length then rest.eraseP (fun v => v.state = 3) else rest) ++ [u] }

/-- The shards a version needs: those that hold a block of its placement table, ascending (R358). -/
def Wheel.needed (u : Wheel) : List Nat := u.placement.foldl (fun l p => insertNat (p.block / 62) l) []

/-- The placement entries with their indexes. -/
def Wheel.entries (u : Wheel) : List (Nat × Placement) := u.placement.zipIdx.map (fun e => (e.2, e.1))

/-- Is a shard in the golden partition? -/
def S8.shardHeld (s : S8) (u : Wheel) (n : Nat) : Bool := (SMap.find s.cellar.golden (u.key * 65536 + n)).isSome

/-! ### Manifests and placement tables (R352, R353, R357, R365) -/

/-- The key in a slot of PublisherKeys: none in an empty slot (R352). -/
def Dict.publisherKey (d : Dict) (slot : Nat) : Option RsaKey :=
  let b := d.blob Obj.publisherKeys []
  let modulus := leAt b (388 * slot) 384
  if modulus = 0 then none else some { modulus := modulus, exponent := leAt b (388 * slot + 384) 4 }

/-- The fields of a manifest (R353). -/
def Manifest.ofBytes (b : Bytes) : Manifest :=
  { wheelId := leAt b 2 1, version := leAt b 4 4, shardCount := leAt b 8 4, blockCount := leAt b 12 4, vocabulary := leAt b 16 4,
    shards := (List.range (leAt b 8 4)).map (fun i => (leAt b (64 + 40 * i) 4, bytesAt b (72 + 40 * i) 32)) }

/-- Are a manifest's fields in range, and are they those of the version asked for? -/
def manifestInRange (b : Bytes) (id version : Nat) : Bool :=
  let shards := leAt b 8 4
  let blocks := leAt b 12 4
  leAt b 0 2 = 1 && leAt b 2 1 = id && 0 < id && leAt b 4 4 = version && 0 < version && 1 ≤ shards && shards ≤ 16384 &&
    b.length = 448 + 40 * shards && 1 ≤ blocks && blocks ≤ 1015808 && (blocks - 1) / 62 + 1 = shards &&
    (Manifest.ofBytes b).shards.all (fun e => 4207616 ≤ e.1 && e.1 ≤ 264654336)

/-- The entries of a placement table. -/
def placementOf (b : Bytes) : List Placement :=
  (List.range (leAt b 8 4)).map (fun i =>
    { block := leAt b (16 + 8 * i) 4, vat := leAt b (20 + 8 * i) 2, lostDie := leAt b (22 + 8 * i) 1 })

/-- Does a list hold no number twice? -/
def noRepeats (l : List Nat) : Bool := decide (l.eraseDups.length = l.length)

/-- Is the number of a charge-trap vat a spare number? (R19) -/
def isSpareVat (l : Nat) : Bool := !(isCulture l) && !(isServiceVat l)

/-- Does an entry obey R357, among the entries for the base sheet? -/
def S8.entryPlaces (s : S8) (base : List Placement) (blocks : Nat) (p : Placement) : Bool :=
  let l := vatOfWord p.vat
  p.block < blocks && p.vat < 32768 && p.vat % 4096 < 2304 &&
    (if p.lostDie = 0xFF then
      isServiceVat l && !(s.vats.unbacked.contains l) &&
        !(s.wheels.held.any (fun u => u.placement.any (fun q => q.lostDie = 0xFF && q.vat = p.vat)))
    else
      p.lostDie < 8 && isSpareVat l && vatDie l ≠ p.lostDie &&
        base.any (fun q => q.block = p.block && vatDie (vatOfWord q.vat) = p.lostDie))

/-- Does a placement table obey R357? -/
def S8.placementGood (s : S8) (b : Bytes) (id version blocks : Nat) : Bool :=
  let entries := placementOf b
  let base := entries.filter (fun p => p.lostDie = 0xFF)
  16 ≤ b.length && b.length = 16 + 8 * leAt b 8 4 && leAt b 0 1 = id && leAt b 4 4 = version &&
    noRepeats (base.map (·.block)) && noRepeats (base.map (·.vat)) && entries.all (s.entryPlaces base blocks)

/-- Why a load fails before any shard is requested: 0 when it does not (R365). -/
def S8.loadReason (s : S8) (id version : Nat) : Nat :=
  let b := s.wheels.manifest
  let slot := leAt b 3 1
  if b.length < 448 ∨ 3 < slot then 2
  else
    match s.dict.publisherKey slot with
    | none => 1
    | some key =>
      if !(signedBy key b) then 1
      else if !(manifestInRange b id version) then 2
      else if 8 ≤ s.wheels.held.length ∨ s.wheels.held.any (fun u => u.wheelId = id && u.version = version) then 3
      else if !(s.placementGood s.wheels.placement id version (leAt b 12 4)) then 4
      else 0

/-! ### Sources (R359 to R362) -/

/-- WheelSources' default: the control node alone. -/
def defaultSources : Bytes := padTo 18 [0x00, 0x02]

/-- The sources in order: 256 + trunk, or 512 for the control node. -/
def Dict.sources (d : Dict) : List Nat :=
  ((List.range 9).map (fun i =>
    let w := leAt (d.blob Obj.wheelSources defaultSources) (2 * i) 2
    if field w 8 8 = 1 then 256 + field w 0 3 else 256 * field w 8 8)).filter (fun w => 256 ≤ w && w ≤ 512)

/-- Send payloads of Transfer 0xFFFF on a trunk's first lane in service (R360); none goes where no lane is. -/
def S8.sendShardFlits (s : S8) (trunk : Nat) (payloads : List Bytes) : S8 :=
  match (trunkLanes trunk).find? (fun n => (s.fab.lane n).state = 0) with
  | none => s
  | some n =>
    let data := payloads.map (fun p =>
      { kind := kindBulk, seq := 0, transfer := 0xFFFF, flit := 0, last := false, replay := false, payload := p : FlitView }.toData)
    let l := s.fab.lane n
    S8.pumpLane { s with fab := s.fab.setLane n { l with background := l.background ++ data } } n

/-- A request for a shard (R360). -/
def shardRequest (u : Wheel) (n : Nat) : Bytes :=
  padTo 48 (leBytes 4 (2 ^ 28 + n) ++ leBytes 1 u.wheelId ++ zeros 3 ++ leBytes 4 u.version)

/-- Ask a source for a shard: a trunk's peer by a flit, the control node by ShardWanted (R359 to R361). -/
def S8.askSource (s : S8) (u : Wheel) (n source : Nat) : S8 :=
  match s.dict.sources[source]? with
  | none => s
  | some w =>
    if w < 512 then s.sendShardFlits (w % 256) [shardRequest u n]
    else { s with dict := s.dict.note s.run.step eventShardWanted (unitField 11 u.wheelId) (u.version * 2 ^ 32 + n) }

/-- Fetch a shard from a source on: with none left, the round has ended (R362). -/
def S8.fetchFrom (s : S8) (u : Wheel) (n : Nat) (f : ShardFetch) : S8 :=
  let idle := decide (s.dict.sources.length ≤ f.source)
  let g : ShardFetch := if idle then { f with source := 0, idle := true } else { f with idle := false }
  let s1 := { s with wheels := s.wheels.set u.key (fun v => { v with fetching := SMap.insert v.fetching n g }) }
  if idle then s1 else s1.askSource u n f.source

/-- The shards that loads and READY versions want and do not hold, in the order of the table, ascending (R333, R362). -/
def S8.wantedShards (s : S8) : List (Wheel × Nat) :=
  s.wheels.table.flatMap (fun u =>
    if u.state = 1 || u.state = 2 then
      (u.needed.filter (fun n => !(s.shardHeld u n) && (SMap.find u.fetching n).isNone)).map (fun n => (u, n))
    else [])

/-- Begin fetching while shard buffers are free. -/
def S8.fetchMore (s : S8) : S8 :=
  let busy := s.wheels.table.foldl (fun a u => a + u.fetching.length) 0
  (s.wantedShards.take (s.dict.get Obj.shardBuffers - busy)).foldl
    (fun s e => s.fetchFrom e.1 e.2 { segments := [], source := 0, wait := 1, idle := false }) s

/-! ### Blocks (R355, R356) -/

/-- Does an outlier entry stand in order, off the lifted rows, where the weight byte is zero? -/
def outlierFits (g : Golden) (before : Option Entry) (w : Nat) : Bool :=
  match Entry.ofWord w with
  | none => false
  | some e =>
    !e.residual && !(g.lifted.contains e.row) && g.weight e.row e.col = 0 &&
      (match before with
       | none => true
       | some b => b.row < e.row || (b.row = e.row && b.col < e.col))

/-- Is a block malformed? -/
def blockMalformed (shard block : Bytes) (number i : Nat) : Bool :=
  let g : Golden := { culture := false, bytes := block }
  let entry := 512 + 64 * i
  let lifted := leAt block 8 1
  let rows := (List.range lifted).map (fun j => leAt block (16 + 2 * j) 2)
  let words := (List.range (leAt block 10 2)).map (fun j => leAt block (4203008 + 8 * j) 8)
  leAt block 0 4 ≠ number || leAt shard (entry + 8) 1 ≠ lifted || leAt shard (entry + 10) 2 ≠ leAt block 10 2 || 8 < lifted ||
    rows.any (fun r => 2047 < r) || (rows.zip (rows.drop 1)).any (fun e => e.2 ≤ e.1) ||
    (List.range (2048 * 2048)).any (fun j => byteAt block (512 + j) = 0x80) ||
    words.zipIdx.any (fun e =>
      !(outlierFits g (if e.2 = 0 then none else Entry.ofWord (words.getD (e.2 - 1) 0)) e.1))

/-- The blocks of a shard: 62, or what is left for the last. -/
def Wheel.blocksIn (u : Wheel) (n : Nat) : Nat := min 62 (u.manifest.blockCount - 62 * n)

/-- Does a shard hold a malformed block? -/
def Wheel.shardMalformed (u : Wheel) (shard : Bytes) (n : Nat) : Bool :=
  (List.range (u.blocksIn n)).any (fun i => blockMalformed shard (shardBlock shard i) (62 * n + i) i)

/-! ### The golden partition (R332, R363, R366) -/

/-- Bytes that the golden partition holds. -/
def Cellar.goldenUsed (c : Cellar) : Nat := c.golden.foldl (fun a e => a + e.2.length) 0

/-- Remove the shards of unloaded versions, the oldest unload first, until a number of bytes fits. -/
def S8.makeRoom (s : S8) (bytes : Nat) : S8 :=
  s.wheels.unloaded.foldl (fun s key =>
    if s.cellar.goldenUsed + bytes ≤ Config.goldenBytes then s
    else
      { s with
        cellar := { s.cellar with golden := SMap.keep (fun k _ => k / 65536 ≠ key) s.cellar.golden }
        wheels := { s.wheels with unloaded := eraseNat key s.wheels.unloaded } }) s

/-- Write a verified shard to the golden partition. -/
def S8.keepShard (s : S8) (key n : Nat) (shard : Bytes) : S8 :=
  let s1 := (s.makeRoom shard.length).writeCellar shard.length
  { s1 with cellar := { s1.cellar with golden := SMap.insert s1.cellar.golden (key * 65536 + n) shard } }

/-! ### Failure (R365) -/

/-- A load fails: its vats return to State 0. -/
def S8.failLoad (s : S8) (key reason : Nat) : S8 :=
  match s.wheels.find key with
  | none => s
  | some u =>
    let s1 := u.targets.foldl (fun s e => s.releaseSpare e.2) s
    S8.raise { s1 with wheels := s1.wheels.set key (fun v => { v with
        state := 3, reason := reason, fetching := [], targets := [], ready := [] }) }
      Obj.wheelLoadFailCount 0 1 (unitField 11 u.wheelId) reason

/-! ### Programming (R117, R174, R363, R364, R367) -/

/-- May a physical vat take a block: healthy, empty, below its endurance limit, on a unit with room in its pool, and not one
that has failed? -/
def S8.takes (s : S8) (k : Nat) (g : Golden) : Bool :=
  !(Config.vatBad k) && s.mem.vatState k = 0 && !(s.turn.programming.contains k) && s.enduring k &&
    !(s.vats.unitsRetired.contains (unitOfVat k)) && !(s.vats.freeing.any (fun f => f.physical = k)) &&
    (s.poolPlace k g).isSome && !(s.turn.qualityOf k).candidate

/-- The physical vats that can take a block meant for a number: the one that backs it, or else the half's spares. -/
def S8.blockHomes (s : S8) (l : Nat) (g : Golden) : List Nat :=
  let k := s.vats.physical l
  if s.takes k g then [k] else (s.spareVats (vatHalf l) (isCulture l)).filter (fun k => s.takes k g)

/-- Vats of a half that its programme-verify engine serves. -/
def S8.engineBusy (s : S8) (half : Nat) : Nat :=
  (s.turn.programming.filter (fun k => vatHalf k = half)).length

/-- Do rewrites of a half wait for its engine? They come before loading. -/
def S8.rewritesWait (s : S8) (half : Nat) : Bool :=
  s.turn.rewrites.any (fun e => vatHalf e.2.source = half && e.2.state ≤ 2)

/-- Is a placement entry's vat still to be programmed: its die serves, and its block is for the base sheet or re-homes a lost
die's? -/
def S8.entryDue (s : S8) (u : Wheel) (i : Nat) (p : Placement) : Bool :=
  let l := vatOfWord p.vat
  s.dieServes (vatDie l) && (p.lostDie = 0xFF || s.run.lostDies.contains p.lostDie) && !(u.ready.contains i) &&
    SMap.getD u.tries i 0 < 3 && s.shardHeld u (p.block / 62) &&
    (match SMap.find u.targets i with
     | none => true
     | some k => SMap.find s.wheels.content k ≠ some (u.key, p.block))

/-- Is a block of a golden shard sound: does it have the BlockDigest of its index entry? (R354, R363) -/
def blockSound (shard : Bytes) (i : Nat) : Bool := decide (sha256 (shardBlock shard i) = bytesAt shard (544 + 64 * i) 32)

/-- A golden shard that fails its check leaves the golden partition, and is to be fetched again (R333). -/
def S8.dropShard (s : S8) (shard : Nat) : S8 :=
  { s with
    cellar := { s.cellar with golden := SMap.erase s.cellar.golden shard }
    wheels := s.wheels.set (shard / 65536) (fun u => { u with verified := eraseNat (shard % 65536) u.verified }) }

/-- Take up a placement entry while its half's engine has room, once its block is checked (R363): no vat for a base block fails the
load. -/
def S8.programmeEntry (s : S8) (u : Wheel) (i : Nat) (p : Placement) : S8 :=
  let l := vatOfWord p.vat
  let half := vatHalf l
  let limit := min (s.dict.get Obj.loadConcurrency) (s.dict.get Obj.rewriteConcurrency)
  let loading := ((s.wheels.find u.key).map (fun v => decide (v.state = 1))).getD false
  match SMap.find s.cellar.golden (u.key * 65536 + p.block / 62) with
  | none => s
  | some shard =>
    if limit ≤ s.engineBusy half ∨ s.rewritesWait half ∨ s.cores.starved.contains half then s
    else if !(blockSound shard (p.block % 62)) then s.dropShard (u.key * 65536 + p.block / 62)
    else
      let homes := s.blockHomes l { culture := false, bytes := shardBlock shard (p.block % 62) }
      if homes = [] then (if loading && p.lostDie = 0xFF then s.failLoad u.key 6 else s)
      else
        let k := s.pick homes
        let s1 := s.picked.programme k (u.key, p.block)
        { s1 with wheels := s1.wheels.set u.key (fun v => { v with targets := SMap.insert v.targets i k }) }

/-- Take up the blocks that are due, version by version. -/
def S8.programmeMore (s : S8) : S8 :=
  s.wheels.table.foldl (fun s u =>
    if u.state = 1 || u.state = 2 then
      u.entries.foldl (fun s e => match s.wheels.find u.key with
        | none => s
        | some v => if v.state ≠ 3 && s.entryDue v e.1 e.2 then s.programmeEntry v e.1 e.2 else s) s
    else s) s

/-! ### READY (R364, R381) -/

/-- The ReplicaDigest of a version, formed from the golden partition. -/
def S8.replicaDigest (s : S8) (u : Wheel) : Bytes :=
  let base := sortBy (fun (a b : Placement) => a.block ≤ b.block) (u.placement.filter (fun p => p.lostDie = 0xFF))
  sha256 (leBytes 1 u.wheelId ++ leBytes 4 u.version ++ base.flatMap (fun p =>
    match SMap.find s.cellar.golden (u.key * 65536 + p.block / 62) with
    | none => zeros 32
    | some shard => sha256 (shardBlock shard (p.block % 62))))

/-- Is every needed shard verified and every base block on a die in service read-verified? -/
def S8.wheelComplete (s : S8) (u : Wheel) : Bool :=
  u.needed.all (fun n => s.shardHeld u n) &&
    u.entries.all (fun e => e.2.lostDie ≠ 0xFF || u.ready.contains e.1 || !(s.dieServes (vatDie (vatOfWord e.2.vat))))

/-- A load that is complete becomes READY. -/
def S8.becomeReady (s : S8) (key : Nat) : S8 :=
  match s.wheels.find key with
  | none => s
  | some u =>
    if u.state = 1 && s.wheelComplete u then
      { s with wheels := s.wheels.set key (fun v => { v with state := 2, digest := s.replicaDigest u }) }
    else s

/-! ### Loading (R358, R365) -/

/-- WheelManifest and WheelPlacement (R353, R357, R358). -/
def wheelManifestEffect : WriteEffect := fun s value => (statusOk, { s with wheels := { s.wheels with manifest := value } })
def wheelPlacementEffect : WriteEffect := fun s value => (statusOk, { s with wheels := { s.wheels with placement := value } })

/-- PublisherKeys (R352): a key slot can be written only while no wheel version is loading. -/
def publisherKeysEffect : WriteEffect := fun s value =>
  if s.wheels.table.any (fun u => u.state = 1) then (statusState, s) else storeEffect Obj.publisherKeys s value

/-- A new entry of the table. -/
def Wheel.fresh (id version : Nat) (manifest : Manifest) (placement : List Placement) : Wheel :=
  { wheelId := id, version := version, state := 1, reason := 0, manifest := manifest, placement := placement, verified := [],
    fetching := [], ready := [], targets := [], tries := [], digest := [] }

/-- A load that cannot begin: its entry, unless the version is held or the table full, and the count. -/
def S8.refuseLoad (s : S8) (id version reason : Nat) : S8 :=
  let u := { Wheel.fresh id version (Manifest.ofBytes []) [] with state := 3, reason := reason }
  S8.raise { s with wheels := if s.wheels.held.any (fun v => v.key = u.key) || 8 ≤ s.wheels.held.length then s.wheels else s.wheels.put u }
    Obj.wheelLoadFailCount 0 1 (unitField 11 id) reason

/-- A load begins: shards that the golden partition holds with the manifest's digest are verified, the others are fetched. -/
def S8.beginLoad (s : S8) (id version : Nat) : S8 :=
  let m := Manifest.ofBytes s.wheels.manifest
  let u := Wheel.fresh id version m (placementOf s.wheels.placement)
  let sound (n : Nat) (b : Bytes) : Bool := sha256 b = (m.shards.getD n (0, [])).2
  let golden := SMap.keep (fun k b => k / 65536 ≠ u.key || sound (k % 65536) b) s.cellar.golden
  let s1 := { s with
    cellar := { s.cellar with golden := golden }
    wheels := { s.wheels with unloaded := eraseNat u.key s.wheels.unloaded }.put
      { u with verified := u.needed.filter (fun n => (SMap.find golden (u.key * 65536 + n)).isSome) } }
  s1.fetchMore.programmeMore

/-- WheelLoadRequest (R358, R365). -/
def wheelLoadEffect : WriteEffect := fun s value =>
  let id := field (valueOf value) 32 8
  let version := field (valueOf value) 0 32
  let reason := s.loadReason id version
  (statusOk, if reason = 0 then s.beginLoad id version else s.refuseLoad id version reason)

/-- WHEEL_LOAD_REQUEST (R358). -/
def execWheelLoadRequest (w : ObjWrite) (s : State) : Host.Outcome State Fault Refusal :=
  act (.wheelLoadRequest w) s (fun c => c.performWrite w Obj.wheelLoadRequest wheelLoadEffect)

/-! ### Shards arriving (R360 to R363) -/

/-- The version fetching a shard, that `p` picks. -/
def Wheels.fetcher (w : Wheels) (n : Nat) (p : Wheel → ShardFetch → Bool) : Option (Wheel × ShardFetch) :=
  w.table.findSome? (fun u => (SMap.find u.fetching n).bind (fun f => if p u f then some (u, f) else none))

/-- The length of a shard (R353). -/
def Wheel.shardLength (u : Wheel) (n : Nat) : Nat := (u.manifest.shards.getD n (0, [])).1

/-- Are all bytes of a shard held? -/
def Wheel.whole (u : Wheel) (n : Nat) (f : ShardFetch) : Bool := segmentsCover (u.shardLength n) f.segments

/-- Bytes of a shard arrive at an offset. -/
def S8.takeShardBytes (s : S8) (u : Wheel) (n offset : Nat) (data : Bytes) (f : ShardFetch) : S8 :=
  let fits := data.take (u.shardLength n - offset)
  { s with wheels := s.wheels.set u.key (fun v => { v with
      fetching := SMap.insert v.fetching n { f with segments := f.segments ++ [(offset, fits)] } }) }

/-- A shard is whole: verified, written to the golden partition and programmed, or discarded and asked of the next source; a
malformed block fails a load. -/
def S8.shardWhole (s : S8) (u : Wheel) (n : Nat) (f : ShardFetch) : S8 :=
  let shard := assemble (u.shardLength n) f.segments
  if sha256 shard = (u.manifest.shards.getD n (0, [])).2 then
    let s1 := { s with wheels := s.wheels.set u.key (fun v => { v with
      fetching := SMap.erase v.fetching n, verified := insertNat n v.verified }) }
    let s2 := s1.keepShard u.key n shard
    let s3 := if u.shardMalformed shard n then s2.failLoad u.key 5 else s2
    (s3.becomeReady u.key).fetchMore.programmeMore
  else
    (s.raise Obj.shardCorruptCount 0 1 (unitField 11 u.wheelId) n).fetchFrom u n { f with segments := [], source := f.source + 1 }

/-- SHARD_RECEIVED (R362, R363): every byte of a shard is held. -/
def execShardReceived (shard : Nat) (s : State) : Host.Outcome State Fault Refusal :=
  act (.shardReceived shard) s (fun c =>
    match c.wheels.fetcher shard (fun u f => !f.idle && u.whole shard f) with
    | none => c
    | some (u, f) => c.shardWhole u shard f)

/-- SHARD_TIMEOUT (R362): 2 s without a byte. -/
def execShardTimeout (shard : Nat) (s : State) : Host.Outcome State Fault Refusal :=
  act (.shardTimeout shard) s (fun c =>
    match c.wheels.fetcher shard (fun u f => !f.idle && !(u.whole shard f)) with
    | none => c
    | some (u, f) =>
      (c.raise Obj.shardTimeoutCount 0 1 (unitField 11 u.wheelId) shard).fetchFrom u shard { f with source := f.source + 1 })

/-- SHARD_RETRY_WAIT (R362): the wait after a round has passed, and doubles up to 64 s. -/
def execShardRetryWait (shard : Nat) (s : State) : Host.Outcome State Fault Refusal :=
  act (.shardRetryWait shard) s (fun c =>
    match c.wheels.fetcher shard (fun _ f => f.idle) with
    | none => c
    | some (u, f) => c.fetchFrom u shard { f with source := 0, wait := min (2 * f.wait) 64 })

/-- BULK_WEIGHT_SHARD (R301, R361): bytes from the control node. -/
def execBulkWeightShard (f : Frame) (s : State) : Host.Outcome State Fault Refusal :=
  act (.bulkWeightShard f) s (fun c => c.receiveBulk f 3 (fun c v =>
    let n := v.at 4 4
    let offset := v.at 8 4
    let count := v.at 12 2
    match c.wheels.fetcher n (fun u g => decide (u.wheelId = v.at 1 1) && !g.idle) with
    | none => c.frameLost
    | some (u, g) =>
      if v.handle ≠ 0 ∨ count = 0 ∨ 208 < count ∨ u.shardLength n < offset + count then c.frameLost
      else c.takeShardBytes u n offset (bytesAt v.payload 16 count) g))

/-- Receive a bulk flit of Transfer 0xFFFF (R257, R360): the lane takes it, and its word is handed on. -/
def S8.receiveShardFlit (s : S8) (f : Flit) (kind : Nat) (k : S8 → Nat → Bytes → S8) : S8 :=
  s.receiveBulkFlit f (fun d v =>
    let word := leAt v.payload 0 4
    let d1 := { d with fab := d.fab.setLane f.lane.val (d.fab.lane f.lane.val).tookBulk }
    if v.transfer = 0xFFFF && field word 28 4 = kind then k d1 (field word 0 28) v.payload else d.acceptBulk f.lane.val v)

/-- SHARD_DATA_FLIT (R360): 40 bytes of a shard that is being fetched over the lane's trunk. -/
def execShardDataFlit (f : Flit) (s : State) : Host.Outcome State Fault Refusal :=
  act (.shardDataFlit f) s (fun c => c.receiveShardFlit f 0 (fun c n p =>
    match c.wheels.fetcher n (fun _ g => !g.idle && c.dict.sources[g.source]? = some (256 + f.lane.val / 9)) with
    | none => c
    | some (u, g) => c.takeShardBytes u n (leAt p 4 4) (bytesAt p 8 40) g))

/-- The data flits of a shard (R360). -/
def shardDataPayloads (n : Nat) (shard : Bytes) : List Bytes :=
  (List.range (ceilDiv shard.length 40)).map (fun i =>
    padTo 48 (leBytes 4 n ++ leBytes 4 (40 * i) ++ (shard.drop (40 * i)).take 40))

/-- SHARD_REQUEST_FLIT (R359, R360): a peer asks; a module that holds the shard in its golden partition sends it. -/
def execShardRequestFlit (f : Flit) (s : State) : Host.Outcome State Fault Refusal :=
  act (.shardRequestFlit f) s (fun c => c.receiveShardFlit f 1 (fun c n p =>
    match SMap.find c.cellar.golden ((leAt p 4 1 * 2 ^ 32 + leAt p 8 4) * 65536 + n) with
    | none => c
    | some shard => c.sendShardFlits (f.lane.val / 9) (shardDataPayloads n shard)))

/-! ### BLOCK_READ_VERIFIED (R160, R364, R365) -/

/-- Has a vat's first calibration ended within its bound? -/
def S8.readVerified (s : S8) (k : Nat) : Bool :=
  let q := s.turn.qualityOf k
  q.calibrated && !q.unstable && withinBound q.normError 0 (s.meanTemp (vatHalf k)) (s.hours - q.programmedAt)

/-- Has a vat's first calibration ended, within its bound or not? -/
def S8.calibrationEnded (s : S8) (k : Nat) : Bool :=
  ((s.turn.qualityOf k).calibrated || (s.turn.qualityOf k).unstable) && (SMap.find s.turn.calibrations k).isNone &&
    !(s.turn.programming.contains k)

/-- The version and placement entry that a physical vat is being programmed for. -/
def Wheels.entryOn (w : Wheels) (k : Nat) : Option (Wheel × Nat) :=
  w.table.findSome? (fun u =>
    (u.targets.find? (fun e => e.2 = k && !(u.ready.contains e.1))).map (fun e => (u, e.1)))

/-- A vat that failed its first calibration: it is set aside and the block goes to another; the third failure ends a load. -/
def S8.blockFailed (s : S8) (u : Wheel) (i k : Nat) : S8 :=
  let tries := SMap.getD u.tries i 0 + 1
  let s1 := (s.releaseSpare k).makeCandidate k
  let s2 := { s1 with wheels := s1.wheels.set u.key (fun v => { v with
    targets := SMap.erase v.targets i, tries := SMap.insert v.tries i tries }) }
  if 3 ≤ tries && u.state = 1 then s2.failLoad u.key 8 else s2.programmeMore

/-- BLOCK_READ_VERIFIED (R364): a vat's first calibration is judged, and its block counts towards READY. -/
def execBlockReadVerified (vat : Vat) (s : State) : Host.Outcome State Fault Refusal :=
  act (.blockReadVerified vat) s (fun c =>
    let k := vatKey vat
    match c.wheels.entryOn k with
    | none => c
    | some (u, i) =>
      if !(c.calibrationEnded k) then c
      else if c.readVerified k then
        (S8.becomeReady { c with wheels := c.wheels.set u.key (fun v => { v with ready := insertNat i v.ready }) } u.key).programmeMore
      else c.blockFailed u i k)

/-! ### Unloading and draining (R366, R371) -/

/-- Does a sheet serve a version? -/
def Sheet.usesWheel (sh : Sheet) (u : Wheel) : Bool := sh.header.wheelId = u.wheelId && sh.header.wheelVersion = u.version

/-- Does the running sheet, a loaded sheet or an open switch window use a version? -/
def Run.usesWheel (r : Run) (u : Wheel) : Bool :=
  (r.running.toList ++ r.base.toList ++ (r.oldSheet.map (·.1)).toList ++ r.degraded.map (·.2) ++
    r.buffers.filterMap (fun b => if b.2.state = 3 then b.2.sheet else none)).any (fun sh => sh.usesWheel u)

/-- WheelUnload (R365, R366): it gives up a load, is refused for a version in use, and otherwise takes a READY version out. -/
def wheelUnloadEffect : WriteEffect := fun s value =>
  let key := field (valueOf value) 0 40
  match s.wheels.find key with
  | none => (statusOk, s)
  | some u =>
    if u.state = 1 then (statusOk, s.failLoad key 7)
    else if u.state ≠ 2 then (statusOk, s)
    else if s.run.usesWheel u then (statusState, s.raise Obj.unloadRefusedCount 0 1 (unitField 11 u.wheelId) u.version)
    else (statusOk, { s with wheels := s.wheels.set key (fun v => { v with state := 4, fetching := [] }) })

/-- WHEEL_UNLOAD (R366). -/
def execWheelUnload (w : ObjWrite) (s : State) : Host.Outcome State Fault Refusal :=
  act (.wheelUnload w) s (fun c => c.performWrite w Obj.wheelUnload wheelUnloadEffect)

/-- WHEEL_DRAIN_STEP (R371): the step is set; from then on every track is closed to admission, and the run ends with it. -/
def execWheelDrainStep (w : ObjWrite) (s : State) : Host.Outcome State Fault Refusal :=
  actOr (.wheelDrainStep w) s (fun c => c.performWriteOr w Obj.wheelDrainStep (storeEffect Obj.wheelDrainStep))

/-! ### The boundary (R22, R115, R364, R366, R367) -/

/-- Stage a programmed vat to State 2 and let it back its number (R22). -/
def S8.stageVat (s : S8) (l k : Nat) : S8 :=
  let was := s.vats.physical l
  s.moveVat l k (if s.mem.vatState was = 2 then s.leftState was else s.mem.vatState was)

/-- Stage the read-verified vats of a READY version. -/
def S8.stageWheel (s : S8) (u : Wheel) : S8 :=
  let now := u.targets.filter (fun e => u.ready.contains e.1)
  let s1 := now.foldl (fun s e => match u.placement[e.1]? with
    | none => s
    | some p => s.stageVat (vatOfWord p.vat) e.2) s
  { s1 with wheels := s1.wheels.set u.key (fun v => { v with targets := SMap.keep (fun i _ => !(v.ready.contains i)) v.targets }) }

/-- A vat leaves service: State 0 now, free one step later (R22); at its endurance limit it is then retired (R172). What turning had under
way on it is discarded (R159). -/
def S8.retireVat (s : S8) (k : Nat) : S8 :=
  { s with
    mem := s.mem.changeState k 0
    turn := s.turn.drop k
    vats := { s.vats with
      freeing := s.vats.freeing ++ [{ physical := k, step := s.run.step + 1, state := s.leftState k, number := none }] } }

/-- Take an unloaded version's vats out of service and its entry out of the table. -/
def S8.takeOut (s : S8) (u : Wheel) : S8 :=
  let s1 := (s.wheels.holders s.vats u).foldl (fun s e => s.retireVat e.2) s
  { s1 with wheels := { s1.wheels with
      table := s1.wheels.table.filter (fun v => v.key ≠ u.key)
      unloaded := s1.wheels.unloaded ++ [u.key] } }

/-- The boundary that begins a step, for the wheels. -/
def S8.wheelBoundary (s : S8) : S8 :=
  let s1 := s.wheels.table.foldl (fun s u =>
    if u.state = 2 then s.stageWheel u else if u.state = 4 then s.takeOut u else s) s
  (s1.wheels.table.foldl (fun s u => s.becomeReady u.key) s1).fetchMore.programmeMore

/-! ### Content after a power loss (R490) -/

/-- Write a column map into the tables of a vat, each moved column marked (R63, R107, R109). -/
def Mem.writeMap (m : Mem) (k : Nat) (map : List (Nat × Nat)) : Mem :=
  (map.zipIdx.foldl (fun m e =>
    (m.write (tableBase k + 512 + 4 * e.2) (leBytes 2 e.1.1 ++ leBytes 2 e.1.2)).write (columnAddr k e.1.1 + 3)
      (leBytes 1 (setField (m.le (columnAddr k e.1.1 + 3) 1) 0 1 1))) m).digestTable k

/-- A vat that holds content: State 1, its tables written from the golden partition, with the column map that the Catalogue holds. -/
def S8.rebuildVat (s : S8) (k key : Nat) : S8 :=
  match s.goldenOf k with
  | none => s
  | some g =>
    match s.poolPlace k g with
    | none => s
    | some place =>
      let f := contentFields k key
      { s with
        mem := (s.mem.writeTables k g f.1 f.2 place []).writeMap k (SMap.getD s.turn.columnMaps k [])
        turn := s.turn.setQuality k (fun q => { q with calibrated := false, unstable := false, candidate := false }) }

/-- Rebuild the tables of every vat that holds content. -/
def S8.rebuildContent (s : S8) : S8 := s.wheels.content.foldl (fun s e => s.rebuildVat e.1 e.2.1) s

/-- COORDINATOR_CHOICE (R462, R488, R490, R491). -/
def execCoordinatorChoice (s : State) : Host.Outcome State Fault Refusal :=
  act .coordinatorChoice s (fun c =>
    if c.boot.coordinator = 0xFF && !(c.coordinators.isEmpty) then c.chooseCoordinator.rebuildContent.fetchMore else c)

end Sys2Proof.Machine
end

