-- ==== Sys2Proof/Machine/Cultures.lean ====
section
/-! DEFINITION. Cultures: loading their images, writing places, READY, retiring, forced loads and unloading (R372 to R380). -/

namespace Sys2Proof.Machine

/-! ### The culture table and places (R372, R375, R382) -/

/-- Change the entry of a version. -/
def Cultures.set (c : Cultures) (key : Nat) (f : Culture → Culture) : Cultures :=
  { c with table := c.table.map (fun v => if v.key = key then f v else v) }

/-- The entry of a version. -/
def Cultures.find (c : Cultures) (key : Nat) : Option Culture := c.table.find? (fun v => v.key = key)

/-- Put an entry at the end, in place of a failed one of its version; the oldest failed entry makes room among the 512. -/
def Cultures.put (c : Cultures) (v : Culture) : Cultures :=
  let rest := c.table.filter (fun u => u.key ≠ v.key)
  { c with table := (if 512 ≤ rest.length then rest.eraseP (fun u => u.state = 6) else rest) ++ [v] }

/-- Set CulturePlaceState of a place. -/
def Cultures.setPlace (c : Cultures) (place state : Nat) : Cultures := { c with places := SMap.put 0 c.places place state }

/-- The state of a place. -/
def Cultures.placeState (c : Cultures) (place : Nat) : Nat := SMap.getD c.places place 0

/-- The running sheet's places. -/
def Run.places (r : Run) : List PlaceRecord := (r.running.map (fun sh => sh.places)).getD []

/-- The record of a place. -/
def Run.placeRecord (r : Run) (place : Nat) : Option PlaceRecord := r.places.find? (fun p => p.place = place)

/-- The logical vat that a place holds for a role, if the module holds it. -/
def PlaceRecord.vatOf (p : PlaceRecord) (role : Nat) : Option Nat :=
  let w := p.vats.getD role 0xFFFF
  if w = 0xFFFF ∨ p.roles ≤ role then none else some (vatOfWord w)

/-- The roles that a place holds, with their vats. -/
def PlaceRecord.held (p : PlaceRecord) : List (Nat × Nat) :=
  (List.range p.roles).filterMap (fun r => (p.vatOf r).map (fun l => (r, l)))

/-- Are all vats of a place backed, on dies in service? (R380) -/
def S8.placeBacked (s : S8) (p : PlaceRecord) : Bool :=
  p.held.all (fun e => s.dieServes (vatDie e.2) && !(s.vats.unbacked.contains e.2))

/-! ### Images (R374) -/

/-- Is an image malformed: its header is not that of the version asked for, or a weight byte is 0x80? -/
def cultureMalformed (b : Bytes) (id version : Nat) : Bool :=
  let roles := leAt b 7 1
  leAt b 0 2 ≠ 1 || leAt b 2 2 ≠ id || leAt b 4 2 ≠ version || roles = 0 || 24 < roles || b.length ≠ 512 + 1052672 * roles ||
    (List.range roles).any (fun r => (List.range (1024 * 1024)).any (fun j => byteAt (roleBlock b r) j = 0x80))

/-- The golden data of the n-th role block of a version's image. -/
def S8.roleGolden (s : S8) (key n : Nat) : Option Golden :=
  (SMap.find s.cellar.images key).map (fun b => { culture := true, bytes := roleBlock b n })

/-! ### Writing a place (R171, R172, R363, R375, R393) -/

/-- The vats of a place that a version's image writes: the block's index and the logical vat. -/
def Culture.writes (v : Culture) (p : PlaceRecord) : List (Nat × Nat) :=
  v.roles.zipIdx.filterMap (fun e => (p.vatOf e.1).map (fun l => (e.2, l)))

/-- Does a vat's wear admit a ripened version? (R393) -/
def S8.wearPasses (s : S8) (k : Nat) : Bool :=
  SMap.getD s.turn.rowWrites k 0 * 61320 * 3600 ≤
    s.dict.get Obj.cultureEnduranceLimit * s.cellar.seconds + s.dict.get Obj.ripenWearSlack * 61320 * 3600

/-- Can a version be written into a free place: its shape, every role's vat backed and with a home, and, for a ripened part,
wear that admits it? -/
def S8.placeTakes (s : S8) (v : Culture) (p : PlaceRecord) : Bool :=
  p.shape = v.shape && s.cultures.placeState p.place = 0 && !(s.cultures.freeing.any (fun f => f.1 = p.place)) && s.placeBacked p &&
    (v.writes p).all (fun e => match s.roleGolden v.key e.1 with
      | none => false
      | some g => s.blockHomes e.2 g ≠ [] && (!v.part || (s.blockHomes e.2 g).any s.wearPasses))

/-- Write one role of a version: each write of a row is one write of it (R172). -/
def S8.writeRole (s : S8) (key n l : Nat) : S8 :=
  match s.cultures.find key, s.roleGolden key n with
  | some v, some g =>
    let homes := (s.blockHomes l g).filter (fun k => !v.part || s.wearPasses k)
    if homes = [] then s
    else
      let k := s.pick homes
      let s1 := s.picked.programme k (key, n)
      { s1 with
        turn := { s1.turn with rowWrites := SMap.modify s1.turn.rowWrites k 0 (· + 1) }
        cultures := s1.cultures.set key (fun v => { v with targets := SMap.insert v.targets n k }) }
  | _, _ => s

/-- Write a version into a place. -/
def S8.writePlace (s : S8) (v : Culture) (p : PlaceRecord) : S8 :=
  let s1 := { s with cultures := (s.cultures.set v.key (fun u => { u with
    state := 3, place := some p.place, targets := [], verified := false })).setPlace p.place 1 }
  (v.writes p).foldl (fun s e => s.writeRole v.key e.1 e.2) s1

/-- Give a version that waits a free place, if there is one. -/
def S8.placeCulture (s : S8) (key : Nat) : S8 :=
  match s.cultures.find key with
  | none => s
  | some v =>
    let free := (s.run.places.filter (s.placeTakes v)).map (·.place)
    if v.state ≠ 2 ∨ free = [] then s
    else
      match s.run.placeRecord (s.pick free) with
      | none => s
      | some p => s.picked.writePlace v p

/-- CultureSpaceWait, once for a load that reaches state 2; a part counts as deferred by wear (R378, R393). -/
def S8.spaceWait (s : S8) (key : Nat) : S8 :=
  match s.cultures.find key with
  | none => s
  | some v =>
    if v.state ≠ 2 ∨ v.waited then s
    else
      ({ s with cultures := s.cultures.set key (fun u => { u with waited := true }) }.raise Obj.cultureSpaceWaitCount 0 1
        (unitField 11 v.cultureId) v.version).raise Obj.ripenWearDeferCount 0 (if v.part then 1 else 0) (unitField 11 v.cultureId)
          v.version

/-! ### Forced loads (R379) -/

/-- The held versions that have a place of a shape and may give it up. -/
def S8.victims (s : S8) (v : Culture) : List Culture :=
  s.cultures.table.filter (fun u => (u.state = 4 || u.state = 5) && u.key ≠ v.key && u.shape = v.shape &&
    (match u.place.bind s.run.placeRecord with
     | none => false
     | some p => !v.part || p.held.all (fun e => s.wearPasses (s.vats.physical e.2))))

/-- The one of several that comes first in an order. -/
def leastBy (before : Culture → Culture → Bool) (l : List Culture) : Option Culture := (sortBy before l).head?

/-- The version whose place a forced load takes: the lowest of its CultureId, or else the one with the fewest pins, the lower place
first. -/
def S8.victim (s : S8) (v : Culture) : Option Culture :=
  let own := (s.victims v).filter (fun u => u.cultureId = v.cultureId)
  if own ≠ [] then leastBy (fun a b => a.version ≤ b.version) own
  else leastBy (fun a b => a.pins < b.pins || (a.pins = b.pins && a.place.getD 0 ≤ b.place.getD 0)) (s.victims v)

/-- Pause the sequences pinned to a version: at their next segment boundary, or at once those in the cellar. -/
def S8.pausePinned (s : S8) (u : Culture) : S8 :=
  (s.serve.slots.filter (fun e => e.2.cultureId = u.cultureId && e.2.cultureVersion = u.version)).foldl (fun s e =>
    if e.2.state = .parked then (if e.2.completion.isSome then s else s.pauseParked e.1 e.2)
    else s.setSequence e.1 (fun q => { q with forcedPause := true })) s

/-- A version becomes retiring: it takes no new admission (R378). -/
def S8.retireVersion (s : S8) (u : Culture) : S8 :=
  let cultures := s.cultures.set u.key (fun v => { v with state := 5 })
  { s with cultures := match u.place with | none => cultures | some p => cultures.setPlace p 3 }

/-- A forced load that waits takes a place: of another CultureId only while no version of the shape retires. -/
def S8.forcePlace (s : S8) (key : Nat) : S8 :=
  match s.cultures.find key with
  | none => s
  | some v =>
    match s.victim v with
    | none => s
    | some u =>
      if v.state ≠ 2 || !v.force || (u.cultureId ≠ v.cultureId && (s.victims v).any (fun w => w.state = 5)) then s
      else (s.retireVersion u).pausePinned u

/-- What is done for a version that has reached state 2. -/
def S8.settleCulture (s : S8) (key : Nat) : S8 := ((s.placeCulture key).spaceWait key).forcePlace key

/-! ### Loading (R375) -/

/-- A load fails: its vats return to State 0 and its place is free. -/
def S8.failCulture (s : S8) (key reason : Nat) : S8 :=
  match s.cultures.find key with
  | none => s
  | some v =>
    let s1 := v.targets.foldl (fun s e => s.releaseSpare e.2) s
    let cultures := s1.cultures.set key (fun u => { u with state := 6, reason := reason, place := none, targets := [], segments := [] })
    S8.raise { s1 with cultures := match v.place with | none => cultures | some p => cultures.setPlace p 0 }
      Obj.cultureLoadFailCount 0 1 (unitField 11 v.cultureId) reason

/-- A verified image: malformed, of a shape the running sheet has no place for, or kept in the culture partition and placed. -/
def S8.imageVerified (s : S8) (v : Culture) (image : Bytes) : S8 :=
  let shape := leAt image 8 4
  if cultureMalformed image v.cultureId v.version then s.failCulture v.key 5
  else if s.run.places.all (fun p => p.shape ≠ shape) then s.failCulture v.key 4
  else
    let s1 := s.writeCellar image.length
    S8.settleCulture { s1 with
      cellar := { s1.cellar with images := SMap.insert s1.cellar.images v.key image }
      cultures := s1.cultures.set v.key (fun u => { u with
        state := 2, shape := shape, roles := List.range (leAt image 7 1), segments := [] }) } v.key

/-- Versions of a CultureId held, and those stored. -/
def S8.versionsHeld (s : S8) (id : Nat) : List Nat :=
  (s.cultures.table.filter (fun v => v.cultureId = id && v.state ≠ 6)).map (·.version)
def S8.versionsStored (s : S8) (id : Nat) : List Nat :=
  (s.cellar.images.filter (fun e => e.1 / 65536 = id)).map (fun e => e.1 % 65536)

/-- The entry a request begins. -/
def Culture.ofRequest (b : Bytes) : Culture :=
  { cultureId := leAt b 0 2, version := leAt b 2 2, state := 1, reason := 0, place := none, pins := 0, shape := 0,
    force := field (leAt b 4 1) 0 1 = 1, length := leAt b 8 4, sha := bytesAt b 12 32, segments := [], waited := false,
    part := false, roles := [], targets := [], tries := 0, verified := false }

/-- Is a request's length that of an image of 1 to 24 roles? -/
def imageLengthOk (n : Nat) : Bool := (List.range 24).any (fun r => n = 512 + 1052672 * (r + 1))

/-- Why a request fails at once: 0 when it does not. A load from the cellar compares its version with the held ones alone, since
its own image is stored. -/
def S8.cultureReason (s : S8) (v : Culture) (flags : Nat) : Nat :=
  let others := s.versionsHeld v.cultureId ++ (if field flags 1 1 = 1 then [] else s.versionsStored v.cultureId)
  if v.cultureId = 0 ∨ v.version = 0 ∨ !(imageLengthOk v.length) then 2
  else if others.any (fun n => v.version ≤ n) then 3
  else 0

/-- Begin a load. -/
def S8.beginCulture (s : S8) (b : Bytes) : S8 :=
  let v := Culture.ofRequest b
  let reason := s.cultureReason v (leAt b 4 1)
  if s.cultures.table.any (fun u => u.key = v.key && u.state ≠ 6) then
    s.raise Obj.cultureLoadFailCount 0 1 (unitField 11 v.cultureId) reason
  else
    let s1 := { s with cultures := s.cultures.put v }
    if reason ≠ 0 then s1.failCulture v.key reason
    else if field (leAt b 4 1) 1 1 = 1 then
      match SMap.find s.cellar.images v.key with
      | some image => if sha256 image = v.sha then s1.imageVerified v image else s1.failCulture v.key 1
      | none => s1.failCulture v.key 1
    else s1

/-- CultureLoadRequest (R375). -/
def cultureLoadEffect : WriteEffect := fun s value =>
  if value.length ≠ 44 then (statusLength, s)
  else if 512 ≤ (s.cultures.table.filter (fun u => u.state ≠ 6)).length then (statusState, s)
  else (statusOk, s.beginCulture value)

/-- CULTURE_LOAD_REQUEST (R375). -/
def execCultureLoadRequest (w : ObjWrite) (s : State) : Host.Outcome State Fault Refusal :=
  act (.cultureLoadRequest w) s (fun c => c.performWrite w Obj.cultureLoadRequest cultureLoadEffect)

/-- The image is whole: its digest is checked. -/
def S8.imageWhole (s : S8) (v : Culture) : S8 :=
  let image := assemble v.length v.segments
  if sha256 image = v.sha then s.imageVerified v image else s.failCulture v.key 1

/-- BULK_CULTURE (R301, R374): bytes of an image. -/
def execBulkCulture (f : Frame) (s : State) : Host.Outcome State Fault Refusal :=
  act (.bulkCulture f) s (fun c => c.receiveBulk f 5 (fun c v =>
    let key := v.at 2 2 * 65536 + v.at 4 2
    let offset := v.at 8 4
    let count := v.at 12 2
    match c.cultures.find key with
    | none => c.frameLost
    | some u =>
      if u.state ≠ 1 ∨ v.handle ≠ 0 ∨ count = 0 ∨ 208 < count ∨ u.length < offset + count then c.frameLost
      else
        let now := { u with segments := u.segments ++ [(offset, bytesAt v.payload 16 count)] }
        let c1 := { c with cultures := c.cultures.set key (fun _ => now) }
        if segmentsCover now.length now.segments then c1.imageWhole now else c1))

/-! ### CULTURE_WRITE_COMPLETE (R364, R375) -/

/-- The blocks whose vats have not met their bound, every block where the records show none. -/
def S8.failedRoles (s : S8) (v : Culture) : List (Nat × Nat) :=
  let bad := v.targets.filter (fun e => !(s.readVerified e.2))
  if bad = [] then v.targets else bad

/-- A role failed: its vat is set aside and another of the half is written; the third failure ends the load. -/
def S8.rolesFailed (s : S8) (v : Culture) (p : PlaceRecord) : S8 :=
  let bad := s.failedRoles v
  let s1 := bad.foldl (fun s e => (s.releaseSpare e.2).makeCandidate e.2) s
  let tries := v.tries + 1
  let s2 := { s1 with cultures := s1.cultures.set v.key (fun u => { u with
    tries := tries, targets := SMap.keep (fun n _ => !(bad.any (fun e => e.1 = n))) u.targets }) }
  if 3 ≤ tries then s2.failCulture v.key 6
  else ((v.writes p).filter (fun e => bad.any (fun x => x.1 = e.1))).foldl (fun s e => s.writeRole v.key e.1 e.2) s2

/-- CULTURE_WRITE_COMPLETE (R364, R375): every role of a place is written and calibrated once, and each is read-verified or fails. -/
def execCultureWriteComplete (place : Fin 512) (verified : Bool) (s : State) : Host.Outcome State Fault Refusal :=
  act (.cultureWriteComplete place verified) s (fun c =>
    match c.cultures.table.find? (fun v => v.state = 3 && v.place = some place.val && !v.verified), c.run.placeRecord place.val with
    | some v, some p =>
      if v.targets.any (fun e => !(c.calibrationEnded e.2)) then c
      else if verified && v.targets.all (fun e => c.readVerified e.2) then { c with cultures := c.cultures.set v.key (fun u => { u with verified := true }) }
      else c.rolesFailed v p
    | _, _ => c)

/-! ### Unloading (R374, R380) -/

/-- CultureUnload: refused for a version with pins or one being written; otherwise its image leaves the culture partition and
the version, if it holds a place, retires. -/
def cultureUnloadEffect : WriteEffect := fun s value =>
  let key := valueOf value
  let s1 := { s with cellar := { s.cellar with images := SMap.erase s.cellar.images key } }
  match s.cultures.find key with
  | none => (statusOk, s1)
  | some v =>
    if 0 < v.pins ∨ v.state = 3 then (statusState, s.raise Obj.unloadRefusedCount 0 1 (unitField 11 v.cultureId) v.version)
    else if v.state = 4 ∨ v.state = 5 then (statusOk, s1.retireVersion v)
    else (statusOk, { s1 with cultures := { s1.cultures with table := s1.cultures.table.filter (fun u => u.key ≠ key) } })

/-- CULTURE_UNLOAD (R380). -/
def execCultureUnload (w : ObjWrite) (s : State) : Host.Outcome State Fault Refusal :=
  act (.cultureUnload w) s (fun c => c.performWrite w Obj.cultureUnload cultureUnloadEffect)

/-! ### The boundary (R22, R364, R375, R377 to R380) -/

/-- Stage a version whose roles are all read-verified: READY, its place in service, and every lower READY version of its ID
retiring. -/
def S8.stageCulture (s : S8) (v : Culture) : S8 :=
  match v.place.bind s.run.placeRecord with
  | none => s
  | some p =>
    let s1 := (v.writes p).foldl (fun s e => match SMap.find v.targets e.1 with
      | none => s
      | some k => s.stageVat e.2 k) s
    let s2 := { s1 with cultures := (s1.cultures.set v.key (fun u => { u with state := 4, targets := [] })).setPlace p.place 2 }
    (s2.cultures.table.filter (fun u => u.cultureId = v.cultureId && u.version < v.version && u.state = 4)).foldl
      (fun s u => s.retireVersion u) s2

/-- A retiring version that no sequence pins leaves: its vats go to State 0, its place is free one step later (R378). -/
def S8.leaveCulture (s : S8) (v : Culture) : S8 :=
  let s1 : S8 := match v.place.bind s.run.placeRecord with
    | none => s
    | some p => (v.writes p).foldl (fun s e => s.retireVat (s.vats.physical e.2)) s
  { s1 with cultures := { s1.cultures with
      table := s1.cultures.table.filter (fun u => u.key ≠ v.key)
      freeing := match v.place with
        | none => s1.cultures.freeing
        | some p => s1.cultures.freeing ++ [(p, s1.run.step + 1)] } }

/-- A place is not backed: a load writing it goes back to state 2, a version in it retires, and the sequences that use it end
(R327, R380). -/
def S8.placeLost (s : S8) (p : PlaceRecord) : S8 :=
  let s1 := { s with cultures := s.cultures.setPlace p.place 4 }
  match s.cultures.table.find? (fun v => v.place = some p.place) with
  | none => s1
  | some v =>
    if v.state = 3 then
      let s2 := v.targets.foldl (fun s e => s.releaseSpare e.2) s1
      { s2 with cultures := s2.cultures.set v.key (fun u => { u with state := 2, place := none, targets := [], verified := false }) }
    else
      let s2 := { s1 with cultures := s1.cultures.set v.key (fun u => { u with state := 5 }) }
      let using_ := s2.serve.slots.filter (fun e => e.2.cultureId = v.cultureId && e.2.cultureVersion = v.version && e.2.completion.isNone)
      (using_.foldl (fun (s : S8) e => s.finish e.1 (Completion.plain 3 2 true)) s2).raise Obj.promiseBrokenCount 0 using_.length
        (unitField 11 v.cultureId) v.version

/-- Places whose backing has changed. -/
def S8.placesBacked (s : S8) : S8 :=
  s.run.places.foldl (fun s p =>
    if s.placeBacked p then
      (if s.cultures.placeState p.place = 4 && !(s.cultures.table.any (fun v => v.place = some p.place)) then
        { s with cultures := s.cultures.setPlace p.place 0 }
       else s)
    else if s.cultures.placeState p.place = 4 then s else s.placeLost p) s

/-- The boundary that begins a step, for the cultures; a ripened part is staged at its publish step alone (R392). -/
def S8.cultureBoundary (s : S8) : S8 :=
  let due := s.cultures.freeing.filter (fun f => f.2 ≤ s.run.step)
  let freed := due.foldl (fun (c : Cultures) f => if c.placeState f.1 = 4 then c else c.setPlace f.1 0) s.cultures
  let s1 : S8 := { s with cultures := { freed with freeing := s.cultures.freeing.filter (fun f => s.run.step < f.2) } }
  let s2 := s1.placesBacked
  let s3 := (s2.cultures.table.filter (fun v => v.state = 3 && v.verified && !v.part)).foldl (fun s v => s.stageCulture v) s2
  let s4 := (s3.cultures.table.filter (fun v => v.state = 5 && v.pins = 0)).foldl (fun s v => s.leaveCulture v) s3
  (s4.cultures.table.filter (fun v => v.state = 2)).foldl (fun s v => s.settleCulture v.key) s4

end Sys2Proof.Machine
end

