-- ==== Sys2Proof/Machine/Cellar.lean ====
section
/-! DEFINITION. The cellar: writing and restoring pause images, page reads, scrub and rebuild, the loss of data, cellar seconds and
keys (R329 to R349). -/

namespace Sys2Proof.Machine

/-! ### Pause images (R337, R339) -/

/-- A frame as an image stores it: SequenceHandle and Generation zero (R337). -/
def storedFrame (frame : Bytes) : Bytes := zeros 4 ++ bytesAt frame 4 12 ++ zeros 4 ++ frame.drop 20

/-- The frame of a page as the tables in effect give it, zeros where the page has none. -/
def Mem.pageFrame (m : Mem) (half directory page : Nat) : Bytes :=
  match m.tableEntry half directory page with
  | none => zeros 10240
  | some e => storedFrame (m.read (entryFrame e) 10240)

/-- The frames of a sequence's image: pages 0 to FramesPerLayer − 1 of each layer in ascending order, from the copy of the
tables in the half of its lowest engine. -/
def S8.imageFrames (s : S8) (slot : Nat) (q : Sequence) : List Bytes :=
  let half := q.stripes.headD 0
  (List.range s.run.layersHeld).flatMap (fun x =>
    let root := s.mem.root (rootAddr half s.run.layersHeld slot x)
    (List.range (framesFor q.held)).map (fun p => s.mem.pageFrame half root.directory p))

/-- The header page of a sequence's image with a SequenceDigest (R337). -/
def S8.imageHeader (s : S8) (q : Sequence) (digest : Bytes) : Bytes :=
  let kind := if q.state = .parked then 1 else 0
  let first := leBytes 2 1 ++ leBytes 1 kind ++ leBytes 1 q.req.cls ++ leBytes 4 (q.held + 1) ++ leBytes 2 s.run.layersHeld ++
    leBytes 1 q.req.pinPolicy ++ leBytes 1 q.req.wheelId ++ leBytes 4 q.wheelVersion ++ leBytes 2 q.cultureId ++
    leBytes 2 q.cultureVersion ++ leBytes 4 (framesFor q.held) ++ leBytes 4 ((q.tokenOf q.entered).getD 0) ++
    leBytes 4 q.req.temperature ++ leBytes 4 q.req.topP ++ leBytes 8 q.req.sampleSeed ++ leBytes 8 q.draws ++
    (List.range 8).flatMap (fun i => leBytes 4 (q.req.stops.getD i 0xFFFFFFFF)) ++ leBytes 4 q.req.window ++ leBytes 4 q.emitted ++
    leBytes 4 q.left ++ leBytes 2 q.status ++ zeros 6 ++ leBytes 8 q.nextEntry
  padTo 16384 (padTo 256 (padTo 112 first ++ padTo 32 digest) ++ ((s.run.running.map Sheet.layerIds).getD []))

/-- The stored bytes of an image in page order, the digest field zero (R339). -/
def PauseImage.stored (i : PauseImage) : Bytes :=
  let body := i.frames.flatten
  bytesAt i.header 0 112 ++ zeros 32 ++ i.header.drop 144 ++ padTo (16384 * ceilDiv body.length 16384) body

/-- A sequence's image. -/
def S8.imageOf (s : S8) (slot : Nat) (q : Sequence) : PauseImage :=
  let blank : PauseImage := { header := s.imageHeader q (zeros 32), frames := s.imageFrames slot q }
  { blank with header := s.imageHeader q (sha256 blank.stored) }

/-- The first stripe of the Pause partition: those of the Golden, Culture, Catalogue and Log partitions come before it. -/
def firstPauseStripe : Nat := ceilDiv (1536 * 2 ^ 30) (7 * 16384)

/-- Cellar pages of an image. -/
def PauseImage.pages (i : PauseImage) : Nat := i.stored.length / 16384

/-- The stripes of a stored image. -/
def PauseEntry.holds (e : PauseEntry) (stripe : Nat) : Bool :=
  (e.state = 2 || e.state = 3) && e.stripe ≤ stripe && stripe < e.stripe + ceilDiv e.image.pages 6

/-- An image is written, read back and indexed (R339, R340). -/
def S8.storeImage (s : S8) (slot : Nat) (q : Sequence) (n : Nat) : S8 :=
  let image := s.imageOf slot q
  let stripes := s.stripesFor image.pages
  let first := firstPauseStripe + s.cellar.nextStripe
  let entry : PauseEntry :=
    { nonce := nonceOf s.free
      expiry := if q.state = .parked then 0xFFFFFFFF else s.cellar.seconds + s.dict.get Obj.pauseTimeToLive
      length := q.held + 1, pages := pagesField image.pages, layerTag := s.run.tag, state := 2, image := image, stripe := first }
  let s1 := s.picked.writePages image.pages
  { s1 with cellar := { s1.cellar with
      index := SMap.insert s1.cellar.index n entry
      nextStripe := s1.cellar.nextStripe + ceilDiv image.pages 6
      narrow := if s.cellarsAway = [] then s1.cellar.narrow
        else (List.range stripes).foldl (fun m i => SMap.insert m (first + i) s.cellarsAway) s1.cellar.narrow } }

/-- May an image be written now: is the sequence giving way, its entry taken, and nothing of it in flight? -/
def S8.mayWrite (s : S8) (q : Sequence) (e : PauseEntry) : Bool :=
  (q.state = .pausing || q.state = .parked) && q.completion.isNone && e.state = 1 &&
    (match s.run.running with | none => true | some sh => (sh.stillFlying q s.run.step).isEmpty)

/-- PAUSE_IMAGE_WRITTEN (R317, R318, R339): the image is stored; a paused sequence gets its PAUSED record with the key and the
digest. -/
def execPauseImageWritten (slot : SeqSlot) (s : State) : Host.Outcome State Fault Refusal :=
  act (.pauseImageWritten slot) s (fun c =>
    match SMap.find c.serve.slots slot.val with
    | none => c
    | some q =>
      match q.entry with
      | none => c
      | some n =>
        match SMap.find c.cellar.index n with
        | none => c
        | some e =>
          if !(c.mayWrite q e) then c
          else
            let c1 := c.storeImage slot.val q n
            if q.state = .parked then c1
            else
              let digest := (c.imageOf slot.val q).digest
              c1.setSequence slot.val (fun q => { q with
                entry := none
                completion := some
                  { outcome := 2, error := 0, promiseBroken := false, pauseKey := pauseKey n (nonceOf c.free), digest := digest } }))

/-! ### Restores (R271 to R275, R344, R345) -/

/-- The lowest numbers that are not taken. -/
def lowestFree (taken : List Nat) (count : Nat) : List Nat :=
  ((List.range (taken.length + count)).filter (fun n => !(taken.contains n))).take count


/-- Write bytes into a table block of every half (R272). -/
def Mem.writeBlock (m : Mem) (b : Nat) (bytes : Bytes) : Mem :=
  halves.foldl (fun (m : Mem) h => m.write (blockAddr h b) bytes) m

/-- The table entry of a frame: engine and index within its half (R271). -/
def frameEntry (engine index : Nat) : Nat :=
  2 ^ 31 + engine / 2 * 2 ^ 28 + (if engine % 2 = 1 then 734003 + index else index)

/-- The frames that a restore takes: for each layer's pages in order, the engine that R274 names and the lowest free frame of
its half. -/
def placeFrames (stripes : List Nat) (slot pages : Nat) (free : Nat → List Nat) (count : Nat) : List (Nat × Nat) :=
  let n := max 1 stripes.length
  ((List.range count).foldl (fun (a : SMap Nat × List (Nat × Nat)) i =>
    let engine := stripes.getD ((i % max 1 pages + slot) % n) 0
    let used := SMap.getD a.1 engine 0
    (SMap.insert a.1 engine (used + 1), a.2 ++ [(engine, (free engine).getD used 0)])) ([], [])).2

/-- A restored frame: the new handle, the publishing generation, Flags bit 1 (R345). -/
def restoredFrame (frame : Bytes) (handle generation : Nat) : Bytes :=
  leBytes 4 handle ++ bytesAt frame 4 3 ++ leBytes 1 (leAt frame 7 1 ||| 2) ++ bytesAt frame 8 8 ++ leBytes 4 generation ++ frame.drop 20

/-- Publish a layer's tables: table blocks, the directory in a free pair, and the root entry for the next step (R275). -/
def S8.publishLayer (s : S8) (slot layer : Nat) (entries : List Nat) (blocks : List Nat) (directory : Nat) : S8 :=
  let table (i : Nat) : Bytes := padTo 2048 (((entries.drop (512 * i)).take 512).flatMap (leBytes 4))
  let tables := blocks.zipIdx.foldl (fun (m : Mem) e => m.writeBlock e.1 (table e.2)) s.mem
  let dir := padTo 4096 (blocks.flatMap (fun b => leBytes 4 (2 ^ 31 + b)))
  let written := (tables.writeBlock directory (dir.take 2048)).writeBlock (directory + 1) (dir.drop 2048)
  let layers := s.run.layersHeld
  let mem := halves.foldl (fun (m : Mem) h =>
    let a := rootAddr h layers slot layer
    m.write (a + 8) (leBytes 4 directory ++ leBytes 4 (m.le (a + 4) 4 + 1) ++ leBytes 8 (s.run.step + 1))) written
  let key := layer * 8192 + slot
  S8.raise { s with
    mem := mem
    attn := { s.attn with publishing := SMap.insert s.attn.publishing key (s.run.step + 1) } }
    Obj.publishReplacedCount 0 (if (SMap.find s.attn.publishing key).isSome then 1 else 0) (unitField 10 (s.serve.handle slot)) layer

/-- The even block of a free pair. -/
def freePair (taken : List Nat) : Nat :=
  2 * (((List.range (taken.length + 1)).find? (fun i => !(taken.contains (2 * i)) && !(taken.contains (2 * i + 1)))).getD 0)

/-- Restore one layer: its frames and its tables. -/
def S8.restoreLayer (s : S8) (slot : Nat) (q : Sequence) (image : PauseImage) (layer : Nat) (taken : List Nat) : S8 × List Nat :=
  let pages := image.framesPerLayer
  let frameTaken := s.framesInUse ++ s.mem.framesGone ++ s.mem.framesDue ++ taken
  let free (engine : Nat) : List Nat :=
    lowestFree ((frameTaken.filter (fun f => f / 2 ^ 20 = engine)).map (· % 2 ^ 20)) pages
  let places := placeFrames q.stripes slot pages free pages
  let generation := s.mem.le (rootAddr 0 s.run.layersHeld slot layer + 4) 4 + 1
  let mem := places.zipIdx.foldl (fun (m : Mem) e =>
    m.write (entryFrame (frameEntry e.1.1 e.1.2))
      (restoredFrame (image.frames.getD (layer * pages + e.2) []) (s.serve.handle slot) generation)) s.mem
  let named := s.blocksInUse
  let directory := freePair named
  let blocks := lowestFree (directory :: (directory + 1) :: named) (ceilDiv pages 512)
  (S8.publishLayer { s with mem := mem } slot layer (places.map (fun e => frameEntry e.1 e.2)) blocks directory,
    taken ++ places.map (fun e => e.1 * 2 ^ 20 + e.2))

/-- Are there surely enough free table blocks for an image's tables, in even pairs below PageTableBlocks? (R272, R275) -/
def S8.blocksSuffice (s : S8) (image : PauseImage) : Bool :=
  s.run.layersHeld = 0 ||
    s.blocksInUse.length + s.run.layersHeld * (2 + ceilDiv image.framesPerLayer 512) < s.attn.blocks / 2

/-- A restore succeeds: every layer, then the image's pages and entry are freed. -/
def S8.restored (s : S8) (slot : Nat) (q : Sequence) (n : Nat) (e : PauseEntry) : S8 :=
  let r := (List.range (min s.run.layersHeld (leAt e.image.header 8 2))).foldl
    (fun (a : S8 × List Nat) x => a.1.restoreLayer slot q e.image x a.2) (s, [])
  let s1 := r.1.setSequence slot (fun q => { q with restoring := false, entry := none })
  { s1 with cellar := (s1.cellar.release n).unqueue slot }

/-- The loss of an image that is being restored or of a parked one ends its sequence (R347). -/
def S8.cellarLoss (s : S8) (slot : Nat) : S8 :=
  (s.finish slot (Completion.plain 3 4 true)).raise Obj.promiseBrokenCount 0 1 (unitField 10 (s.serve.handle slot)) 0

/-- RESTORE_COMPLETE (R15, R335, R345, R347): a restore at the head of a queue ends. Pages of one die whose cellar cannot be reached are
rebuilt from the rest of their stripes; with two such dies the image cannot be read. While table blocks are short, the restore goes
on. -/
def execRestoreComplete (slot : SeqSlot) (read : ReadResult) (s : State) : Host.Outcome State Fault Refusal :=
  act (.restoreComplete slot read) s (fun c =>
    match SMap.find c.serve.slots slot.val with
    | none => c
    | some q =>
      if !(c.cellar.reading.contains slot.val) then c
      else
        match q.entry.bind (fun n => (SMap.find c.cellar.index n).map (fun e => (n, e))) with
        | none => c
        | some (n, e) =>
          if read = ReadResult.failed ∨ 2 ≤ c.cellarsAway.length then (c.raise Obj.cellarDataLostCount 0 1 0 n).cellarLoss slot.val
          else if sha256 e.image.stored ≠ e.image.digest then c.cellarLoss slot.val
          else if c.blocksSuffice e.image then c.restored slot.val q n e else c)

/-! ### Stripes (R329 to R331, R347 to R349) -/

/-- Dies whose page of a stripe cannot be had, apart from one die's: unreachable cellars that the stripe uses, and pages lost. -/
def S8.missingPages (s : S8) (stripe apart : Nat) : List Nat :=
  (List.range 8).filter (fun d => d ≠ apart && !((SMap.getD s.cellar.narrow stripe []).contains d) &&
    (s.cellarsAway.contains d || (SMap.getD s.cellar.lostPages stripe []).contains d))

/-- A stripe is written to fresh blocks: over the dies that can be reached (R330). -/
def S8.rewriteStripe (s : S8) (stripe : Nat) : S8 :=
  { s with cellar := { (s.cellar.wrote (8 - s.cellarsAway.length)) with
      narrow := SMap.put [] s.cellar.narrow stripe s.cellarsAway
      lostPages := SMap.erase s.cellar.lostPages stripe } }

/-- FlashSpareLeft of a die, in MiB. -/
def Cellar.spareLeft (c : Cellar) (die : Nat) : Nat := Config.flashSpare die - SMap.getD c.spareUsed die 0

/-- A block of a die is retired; CellarSpareLow when the spare falls below 16 GiB (R349). -/
def S8.retireBlock (s : S8) (die : Nat) : S8 :=
  let before := s.cellar.spareLeft die
  let s1 := { s with cellar := { s.cellar with spareUsed := SMap.modify s.cellar.spareUsed die 0 (· + Config.flashBlock) } }
  s1.raise Obj.cellarSpareLowCount 0 (if 16384 ≤ before ∧ s1.cellar.spareLeft die < 16384 then 1 else 0) (unitField 1 die)
    (s1.cellar.spareLeft die)

/-- The sequence that a pause index entry belongs to. -/
def Serving.ownerOf (v : Serving) (n : Nat) : Option Nat := (v.slots.find? (fun e => e.2.entry = some n)).map (fun e => e.1)

/-- A golden shard that cannot be read is fetched again (R333); which shard a stripe carries is not given. -/
def S8.goldenLost (s : S8) : S8 :=
  match s.cellar.golden with
  | [] => s
  | l =>
    let key := s.pick (l.map (fun e => e.1))
    (s.picked.dropShard key).fetchMore

/-- A culture image that cannot be read is no longer held; which image a stripe carries is not given. -/
def S8.cultureImageLost (s : S8) : S8 :=
  match s.cellar.images with
  | [] => s
  | l =>
    let key := s.pick (l.map (fun e => e.1))
    { s.picked with cellar := { s.cellar with images := SMap.erase s.cellar.images key } }

/-- CellarDataLost: a page cannot be rebuilt, and its owner handles the loss (R332, R347). -/
def S8.dataLost (s : S8) (stripe die : Nat) : S8 :=
  let s1 := { s with cellar := { s.cellar with lostPages := SMap.modify s.cellar.lostPages stripe [] (insertNat die) } }
  let offset := 7 * 16384 * stripe
  if firstPauseStripe ≤ stripe then
    match s.cellar.index.find? (fun e => e.2.holds stripe) with
    | none => s1.raise Obj.cellarDataLostCount 0 1 (unitField 1 die) stripe
    | some (n, e) =>
      let s2 := s1.raise Obj.cellarDataLostCount 0 1 (unitField 1 die) n
      match s.serve.ownerOf n with
      | some slot => s2.cellarLoss slot
      | none => { s2 with cellar := { s2.cellar with index := SMap.insert s2.cellar.index n { e with state := 4 } } }
  else
    let s2 := s1.raise Obj.cellarDataLostCount 0 1 (unitField 1 die) stripe
    if offset < Config.goldenBytes then s2.goldenLost
    else if offset < Config.goldenBytes + Config.cultureBytes then s2.cultureImageLost
    else if offset < Config.goldenBytes + Config.cultureBytes + 64 * 2 ^ 30 then s2
    else s2.raise Obj.logLostCount 0 1 0 stripe

/-- A page stays uncorrectable: rebuilt from its stripe, which is rewritten, or lost (R331). -/
def S8.pageFailed (s : S8) (stripe die : Nat) : S8 :=
  if s.missingPages stripe die = [] then
    ((s.rewriteStripe stripe).raise Obj.cellarRebuildCount 0 1 (unitField 1 die) stripe).retireBlock die
  else s.dataLost stripe die

/-- CELLAR_PAGE_READ (R331): the page of a die whose cellar cannot be reached is had from the other seven (R330). -/
def execCellarPageRead (stripe : Nat) (die : Die) (corrected uncorrectable retries : Nat) (s : State) :
    Host.Outcome State Fault Refusal :=
  act (.cellarPageRead stripe die corrected uncorrectable retries) s (fun c =>
    if (SMap.getD c.cellar.narrow stripe []).contains die.val then c
    else if c.cellarsAway.contains die.val then
      (if c.missingPages stripe die.val = [] then c else c.dataLost stripe die.val)
    else
      let c1 := c.raise Obj.cellarCorrectedCount 0 corrected (unitField 1 die.val) stripe
      if uncorrectable = 0 then c1 else c1.pageFailed stripe die.val)

/-- SCRUB_PASS (R348): the retries and corrected words of the page that had most, and whether a page stayed uncorrectable. -/
def execScrubPass (stripe retries corrected : Nat) (read : ReadResult) (s : State) : Host.Outcome State Fault Refusal :=
  act (.scrubPass stripe retries corrected read) s (fun c =>
    let c1 := c.raise Obj.cellarCorrectedCount 0 corrected 0 stripe
    let dies := (List.range 8).filter (fun d => !(c.cellarsAway.contains d) && !((SMap.getD c.cellar.narrow stripe []).contains d))
    if read = ReadResult.failed then (if dies = [] then c1 else c1.picked.pageFailed stripe (c.pick dies))
    else if 2 < retries ∨ 64 < corrected then c1.rewriteStripe stripe
    else c1)

/-- CELLAR_REBUILD (R330): a stripe that lacks a page of a die that has returned is rewritten. -/
def execCellarRebuild (stripe : Nat) (s : State) : Host.Outcome State Fault Refusal :=
  act (.cellarRebuild stripe) s (fun c =>
    let lacks := SMap.getD c.cellar.narrow stripe []
    if lacks = [] ∨ lacks.any (fun d => c.cellarsAway.contains d) ∨ SMap.getD c.cellar.lostPages stripe [] ≠ [] then c
    else c.rewriteStripe stripe)

/-! ### Seconds and keys (R341 to R343, R349) -/

/-- Seconds of 30 days and of 7 years. -/
def monthSeconds : Nat := 30 * 86400
def lifeSeconds : Nat := 7 * 365 * 86400

/-- Would the write rate of the last 30 days, continued, use up 3,000 cycles of the striped area before 7 years? -/
def Cellar.wearAhead (c : Cellar) : Bool :=
  let recent := c.days.foldl (· + ·) 0
  let span := max 1 (min c.seconds monthSeconds)
  (3000 * 14336 * 2 ^ 30) * span < c.written * span + recent * (lifeSeconds - c.seconds)

/-- A new day of the write record, at each whole day. -/
def Cellar.turnDay (c : Cellar) : Cellar := { c with days := (0 :: c.days).take 30 }

/-- A whole cellar second: expired entries are freed, the count saved each minute, the wear judged each day. MeasFirmwareHold, in
seconds, counts down with it (R178). -/
def S8.cellarTick (s0 : S8) : S8 :=
  let s : S8 := { s0 with dict := s0.dict.store Obj.measFirmwareHold (s0.dict.get Obj.measFirmwareHold - 1) }
  let now := (s.cellar.seconds + 1) % 2 ^ 32
  let c : Cellar := { s.cellar with seconds := now, savedSeconds := if now % 60 = 0 then now else s.cellar.savedSeconds }
  let gone := (c.index.filter (fun e => e.2.state = 2 && c.expired e.2)).map (fun e => e.1)
  let s1 := S8.raise { s with cellar := gone.foldl Cellar.release c } Obj.pauseExpiredCount 0 gone.length 0 (gone.headD 0)
  if now % 86400 = 0 then
    let s2 := s1.raise Obj.cellarWearAheadCount 0 (if s1.cellar.wearAhead then 1 else 0) 0 s1.cellar.written
    { s2 with cellar := s2.cellar.turnDay }
  else s1

/-- CELLAR_SECOND (R342, R343, R349): the count advances only while the module is powered. -/
def execCellarSecond (s : State) : Host.Outcome State Fault Refusal :=
  act .cellarSecond s (fun c => if c.boot.anyFirmware then c.cellarTick else c)

/-- PauseKeyExtend (R342, R343). -/
def pauseKeyExtendEffect : WriteEffect := fun s value =>
  if value.length ≠ 12 then (statusLength, s)
  else
    match s.cellar.named (leAt value 0 8) with
    | none => (statusOk, { s with cellar := { s.cellar with extendStatus := 1 } })
    | some (n, e) =>
      if s.cellar.expired e then (statusOk, { s with cellar := { s.cellar with extendStatus := 1 } })
      else
        let index := SMap.insert s.cellar.index n { e with expiry := (s.cellar.seconds + leAt value 8 4) % 2 ^ 32 }
        (statusOk, { s with cellar := { s.cellar with index := index, extendStatus := 0 } })

/-- PAUSE_KEY_EXTEND (R342, R343). -/
def execPauseKeyExtend (w : ObjWrite) (s : State) : Host.Outcome State Fault Refusal :=
  act (.pauseKeyExtend w) s (fun c => c.performWrite w Obj.pauseKeyExtend pauseKeyExtendEffect)

end Sys2Proof.Machine
end

