-- ==== Sys2Proof/Machine/Trier.lean ====
section
/-! DEFINITION. The trier and the digests: samples, checks on cores, arbitration, verdicts and what they do, and the periodic
digests of wheels and tables (R403 to R413). -/

namespace Sys2Proof.Machine

/-! ### Samples (R403, R404) -/

/-- Does a physical vat back a service number? -/
def S8.inService (s : S8) (k : Nat) : Bool := (s.vats.logicalOf k).any (fun l => isServiceVat l && !(s.vats.unbacked.contains l))

/-- A unit's rotation: its in-service vats, those with a Suspect column first. -/
def S8.rotationOf (s : S8) (u : Nat) : List Nat :=
  let vats := (vatsOfUnit u).filter s.inService
  let suspect (k : Nat) : Bool := s.trier.suspects.any (fun e => e.1 / 2048 = k)
  vats.filter suspect ++ vats.filter (fun k => !(suspect k))

/-- The vat after the last one sampled. -/
def nextOf (order : List Nat) (last : Option Nat) : Option Nat :=
  match last.bind (fun k => order.findIdx? (fun x => x = k)) with
  | none => order.head?
  | some i => order[(i + 1) % order.length]?

/-- The step of an interval in which a unit samples. -/
def sampleOffset (interval unit : Nat) : Nat := interval * unit / 288

/-- The key of a trier record. -/
def recordKey (half record : Nat) : Nat := 64 * half + record

/-- The address of a trier record's row. -/
def recordAddr (half record row : Nat) : Nat := workBase half + Config.trierArea half + 512 * (22 * record + row)

/-- A vat in the layout of R203. -/
def vatWord (k : Nat) : Nat := (if isCulture k then 2 ^ 15 else 0) + 4096 * vatDie k + vatNumber k

/-- The wheel block number, or the culture role, of a physical vat's content. -/
def S8.blockOf (s : S8) (k : Nat) : Nat :=
  match SMap.find s.wheels.content k with
  | none => 0
  | some (key, n) => if isCulture k then (((s.cultures.find key).map (·.roles)).getD []).getD n n else n

/-- A core in the layout of OutputCore (R204), 0xFFFF for none. -/
def coreWord (c : Option Nat) : Nat :=
  match c with
  | none => 0xFFFF
  | some k => 128 * (k / 72) + 64 * (k / 36 % 2) + k % 36

/-- Row 0 of a trier record (R404). -/
def S8.recordHead (s : S8) (r : TrierRecord) (verdict : Nat) : Bytes :=
  padTo 512 (leBytes 8 r.step ++ leBytes 2 (vatWord r.vat) ++ leBytes 1 r.lane ++ leBytes 1 r.form ++ leBytes 4 r.content ++
    leBytes 4 (s.blockOf r.physical) ++ leBytes 2 r.status ++ leBytes 2 (vatWord r.physical) ++ leBytes 4 r.generation ++
    leBytes 4 r.tolerance ++ leBytes 1 verdict ++ leBytes 1 0 ++
    (List.range 3).flatMap (fun i => leBytes 2 (coreWord r.cores[i]?)))

/-- Write a record's row 0 and keep the record. -/
def S8.keepRecord (s : S8) (key : Nat) (r : TrierRecord) : S8 :=
  { s with
    mem := s.mem.write (recordAddr (key / 64) (key % 64) 0) (s.recordHead r 0)
    trier := { s.trier with records := SMap.insert s.trier.records key r } }

/-- Write a new record whole. -/
def S8.writeRecord (s : S8) (key : Nat) (r : TrierRecord) : S8 :=
  let s1 := s.keepRecord key r
  let body := padTo 2560 r.rows ++ padTo 8192 (r.results.flatMap (fun p => leBytes 4 (ofSigned 32 p)))
  { s1 with mem := s1.mem.write (recordAddr (key / 64) (key % 64) 1) body }

/-- A verdict is given: the record's byte, and the record is free (R410). -/
def S8.giveVerdict (s : S8) (key : Nat) (r : TrierRecord) (verdict : Nat) : S8 :=
  { s with
    mem := s.mem.write (recordAddr (key / 64) (key % 64) 0) (s.recordHead r verdict)
    trier := { s.trier with records := SMap.erase s.trier.records key } }

/-- The lowest free record of a half. -/
def S8.freeRecord (s : S8) (half : Nat) : Option Nat :=
  (List.range 64).find? (fun i => (SMap.find s.trier.records (recordKey half i)).isNone)

/-- The result a unit retained of the lane's pour on a vat, under whichever logical number poured. -/
def S8.retained (s : S8) (k lane : Nat) : Option TrierRecord :=
  (s.vats.logicalOf k).findSome? (fun l => (SMap.find s.trier.results (128 * l + lane)).bind
    (fun r => if r.physical = k then some r else none))

/-- May a retained result be sampled? (R403) -/
def S8.sampleable (s : S8) (k : Nat) (r : TrierRecord) : Bool :=
  let v := PourVector.ofBytes r.rows (dataColumns k)
  !v.poison && v.exponent ≠ 0 && s.mem.vatState k = 2 && (SMap.find s.turn.rewrites k).isNone

/-- A unit's sample in its step. -/
def S8.sample (s : S8) (u : Nat) : S8 :=
  let interval := s.dict.get Obj.trierInterval
  if !(s.dieServes (u / 36)) || s.vats.unitsRetired.contains u || s.run.step % interval ≠ sampleOffset interval u then s
  else
    match nextOf (s.rotationOf u) (SMap.find s.trier.rotation u) with
    | none => s
    | some k =>
      let s1 := { s with trier := { s.trier with rotation := SMap.insert s.trier.rotation u k } }
      match s.retained k (s.run.step / interval % 96), s.freeRecord (vatHalf k) with
      | some r, some i =>
        if s.sampleable k r then
          { (s1.writeRecord (recordKey (vatHalf k) i) { r with temp := s.meanTemp (vatHalf k), seconds := s.cellar.seconds }) with
            dict := s.dict.tally Obj.trierSampleCount 1 }
        else s1.raise Obj.trierSkipCount 0 1 (s.vatUnit k) 0
      | _, _ => s1.raise Obj.trierSkipCount 0 1 (s.vatUnit k) 0

/-- TRIER_SAMPLE (R403, R404). -/
def execTrierSample (unit : RindUnit) (s : State) : Host.Outcome State Fault Refusal :=
  act (.trierSample unit) s (fun c => c.sample (unitKey unit))

/-! ### The reference and the tolerance (R405, R406) -/

/-- Λ_c from a block's lifted weights (R95 stage 7). -/
def Golden.liftedTerm (g : Golden) (v : PourVector) (c : Nat) : Int :=
  (v.lifted.zipIdx.foldl (fun (a : Dyadic) e =>
    if e.1.1 = 0 ∨ e.1.1 = 0xFF then a
    else match g.lifted[e.2]? with
      | none => a
      | some r => a.add { m := e.1.2 * g.weight r c, e := (e.1.1 : Int) - v.exponent }) { m := 0, e := 0 }).rne 0

/-- p*: the exact result of a vector in the form a sample took, limited by R51. -/
def Golden.reference (g : Golden) (k form : Nat) (v : PourVector) : List Int :=
  let combined := form = 1 ∨ form = 4
  let input (a : Int) : Int := if combined then a else 16 * highNibble a + 8
  let rows := v.codes.zipIdx.filter (fun e => !(g.lifted.contains e.2))
  (List.range (dataColumns k)).map (fun c =>
    clampInt (-pourUnitMax) pourUnitMax (rows.foldl (fun a e => a + g.full e.2 c * input e.1) 0 + g.liftedTerm v c))

/-- ρ: the rms of a reference, in binary64. -/
def rmsOf (p : List Int) : Fp :=
  binary64.sqrt (binary64.roundRat false ((p.map (fun x => x.natAbs ^ 2)).foldl (· + ·) 0) p.length)

/-- rne(σ × (E + 0.15 %) × ρ), at least 16: E the bound of R160 at a temperature in 0.1 °C and an age in seconds. -/
def tolerance (sigma : Nat) (temp : Int) (seconds : Nat) (rho : Fp) : Nat :=
  let t := (max temp 400 - 400).toNat
  let year7 := 220752000
  let num := ((50 * 550 + 20 * t) * year7 + (25 * 550 + 10 * t) * seconds) * sigma
  let den := 550 * year7 * 10000
  let d := rho.toDyadic
  max 16 (if 0 ≤ d.e then rneDiv (num * d.m * 2 ^ d.e.toNat) den else rneDiv (num * d.m) (den * 2 ^ (-d.e).toNat)).toNat

/-! ### Arbitration (R407) -/

/-- The logical cores on which the running sheet plans kind-8 tasks, on dies in service. -/
def S8.checkCores (s : S8) : List Nat :=
  ((s.run.running.map (fun sh => (sh.tasks.filter (fun t => t.kind = 8)).map (fun t => t.core.key))).getD []).filter
    (fun c => s.dieServes (c / 72) && !(s.cores.unbacked.contains c))

/-- May a core take the next computation of a record? Each core is a different physical one, and B lies on another die than A
where the sheet has kind-8 tasks there; a core holds at most 4 checks that have no verdict (R224). -/
def S8.mayCompute (s : S8) (r : TrierRecord) (core : Nat) : Bool :=
  s.checkCores.contains core && r.cores.all (fun c => s.cores.physical c ≠ s.cores.physical core) &&
    decide ((s.trier.records.filter (fun e => e.2.verdict = 0 && e.2.cores.contains core)).length < 4) &&
    (r.cores.length ≠ 1 || core / 72 ≠ r.cores.headD 0 / 72 || s.checkCores.all (fun c => c / 72 = r.cores.headD 0 / 72))

/-- A healthy spare number of a half to which a logical core may move: one that the agent does not hold, before the agent's. -/
def S8.spareFor (s : S8) (half : Nat) : Option Nat :=
  let numbers := [32, 33, 34, 35].filter (fun n => !(s.cores.unbacked.contains (36 * half + n)))
  (numbers.find? (fun n => s.coreState (s.cores.physical (36 * half + n)) = 1)).orElse
    (fun _ => numbers.find? (fun n => s.coreState (s.cores.physical (36 * half + n)) = 2))

/-- Does a sheet name a logical core? (R213) -/
def Sheet.namesCore (sh : Sheet) (core : Nat) : Bool :=
  sh.tasks.any (fun t => t.core.key = core) ||
    sh.transfers.any (fun t => t.source.key = core || t.dest.key = core) ||
    sh.reductions.any (fun r => r.outCore.key = core) || sh.groups.any (fun g => g.core.key = core) ||
    sh.attention.any (fun a => a.queryCore.key = core || a.outCore.key = core || a.nodes.any (fun n => n.key = core)) ||
    sh.bindings.any (fun b => b.die = core / 72 && (sh.bindingInstrs b).any (fun p => 36 * p.coreHalf + p.coreNum = core % 72))

/-- A logical core is left without a unit: it is unbacked, and its die is lost at the next boundary when the running sheet names it
(R23, R213). -/
def S8.coreGone (s : S8) (core : Nat) : S8 :=
  let s1 := s.unbackCore core
  if (s.run.running.map (fun sh => sh.namesCore core)).getD false then { s1 with run := s1.run.lose (core / 72) } else s1

/-- Move a logical core away for good: its physical core is to take CoreState 4 (R232, R407). With no spare the move fails, and its
number is unbacked (R23, R233). -/
def S8.retireCore (s : S8) (core : Nat) : S8 :=
  match s.spareFor (core / 36) with
  | none =>
    S8.coreGone { s with cores := { (s.cores.report (core / 72) (moveWord 5 1 0)) with
      states := SMap.insert s.cores.states (s.cores.physical core) 4 } } core
  | some n => s.startMove (core / 36) (core % 36) n 4

/-- A core that was never tested. -/
def CoreTest.none : CoreTest := { lastStep := 0, pack := 0, result := 0, failures := 0, due := false, deferral := 0, overdue := false }

/-- Mark a physical core due for its test at once (R407 step 3). -/
def Trier.markDue (t : Trier) (physical : Nat) : Trier :=
  { t with cores := SMap.modify t.cores physical CoreTest.none (fun c => { c with due := true }) }

/-- Three results differ: unresolved, and the cores are due for test. -/
def S8.unresolved (s : S8) (key : Nat) (r : TrierRecord) : S8 :=
  let s1 := s.giveVerdict key r 5
  S8.raise { s1 with trier := r.cores.foldl (fun t c => t.markDue (s.cores.physical c)) s1.trier } Obj.trierUnresolvedCount 0 1
    (unitOfVatKey r.vat) r.lane

/-- Two of three results are equal: the odd core is retired, and the equal result is the reference. -/
def S8.retireOdd (s : S8) (key : Nat) (r : TrierRecord) (odd : Nat) (reference : List Int) : S8 :=
  let s1 := (s.retireCore odd).raise Obj.trierCoreRetiredCount 0 1 (unitField 3 odd) r.lane
  if disagreements r.tolerance r.results reference = [] then s1.giveVerdict key r 4
  else s1.keepRecord key { r with reference := reference }

/-- What follows from the results computed so far (R407 steps 1 to 3). -/
def S8.arbitrate (s : S8) (key : Nat) (r : TrierRecord) : S8 :=
  match r.computed, r.cores with
  | [a], _ =>
    if disagreements r.tolerance r.results a = [] then s.giveVerdict key r 1
    else (s.keepRecord key r).raise Obj.trierDisagreeCount 0 1 (unitOfVatKey r.vat) r.lane
  | [a, b], _ => s.keepRecord key (if a = b then { r with reference := a } else r)
  | [a, b, c], [x, y, z] =>
    if a = b then s.retireOdd key r z a
    else if a = c then s.retireOdd key r y a
    else if b = c then s.retireOdd key r x b
    else s.unresolved key r
  | _, _ => s.keepRecord key r

/-! ### Verdicts on the vat (R407 step 5, R408, R409) -/

/-- Stage a column's Suspect bit and mark it. -/
def S8.markSuspect (s : S8) (k c : Nat) : S8 :=
  if s.trier.isSuspect k c then { s with trier := { s.trier with suspects := SMap.insert s.trier.suspects (2048 * k + c) s.run.step } }
  else
    { s.stageWrites k [(columnAddr k c + 3, leBytes 1 (setField (s.seen.le (columnAddr k c + 3) 1) 1 1 1))] with
      trier := { s.trier with suspects := SMap.insert s.trier.suspects (2048 * k + c) s.run.step } }

/-- Hand columns to the block stage of localisation; turning merges them with those it has. -/
def S8.localise (s : S8) (k : Nat) (cols : List Nat) : S8 :=
  let was := (SMap.find s.turn.localisations k).getD (Localisation.begin (cols.headD 0 / 128))
  let merged := cols.foldl (fun l c => insertNat c l) (if was.stage = 1 then [] else was.columns)
  let now := { was with stage := 2, columns := merged, blocks := [] }
  { s with turn := { s.turn with localisations := SMap.insert s.turn.localisations k now } }

/-- A faulty verdict (R408, R411). -/
def S8.faulty (s : S8) (key : Nat) (r : TrierRecord) (cols : List Nat) : S8 :=
  let s1 := s.giveVerdict key r 2
  if s.vats.physical r.vat ≠ r.physical then s1.stageState r.physical 3
  else
    let s2 := cols.foldl (fun (s : S8) c => S8.markSuspect { s with trier := s.trier.forget r.physical (fun x => x = c) } r.physical c) (s1.raise Obj.trierFaultCount 0 1 (unitOfVatKey r.vat) cols.length)
    if cols.length ≤ s.dict.get Obj.trierColumnLimit then s2.localise r.physical cols else s2.makeCandidate r.physical

/-- A transient on one column: the third within 10^6 steps of the first of the three makes it Suspect, and turning runs the column
stage (R409). -/
def S8.transientOn (s : S8) (k c : Nat) : S8 :=
  let steps := (s.run.step :: SMap.getD s.trier.transients (2048 * k + c) []).take 3
  let s1 := { s with trier := { s.trier with transients := SMap.insert s.trier.transients (2048 * k + c) steps } }
  if steps.length = 3 && s.run.step - steps.getD 2 0 ≤ 10 ^ 6 then
    let s2 := (s1.markSuspect k c).raise Obj.columnSuspectCount 0 1 (s.vatUnit k) c
    { s2 with turn := s2.turn.flagGroup k (c / 128) }
  else s1

/-- A transient verdict. -/
def S8.transient (s : S8) (key : Nat) (r : TrierRecord) (cols : List Nat) : S8 :=
  cols.foldl (fun s c => s.transientOn r.physical c)
    ((s.giveVerdict key r 3).raise Obj.trierTransientCount 0 1 (unitOfVatKey r.vat) cols.length)

/-- Both probes are compared: faulty on the columns on which the sample and both probes disagree, else transient. -/
def S8.judgeProbes (s : S8) (key : Nat) (r : TrierRecord) : S8 :=
  let seen := disagreements r.tolerance r.results r.reference
  let cols := seen.filter (fun c => r.probes.all (fun p => p.contains c))
  if cols ≠ [] then s.faulty key r cols else s.transient key r seen

/-- One core's work on a record: its computation of the reference, `error` being what a faulty core adds; or, once both probes
have been made, their comparison. -/
def S8.checkRecord (s : S8) (key core : Nat) (error : List Int) : S8 :=
  match SMap.find s.trier.records key with
  | none => s
  | some r =>
    if r.reference ≠ [] then
      (if r.probes.length = 2 && s.checkCores.contains core then s.judgeProbes key r else s)
    else
      match s.goldenOf r.physical with
      | none => s
      | some g =>
        if !(s.mayCompute r core) then s
        else
          let p := g.reference r.physical r.form (PourVector.ofBytes r.rows (dataColumns r.physical))
          let got := p.zipIdx.map (fun e => e.1 + error.getD e.2 0)
          s.arbitrate key { r with
            cores := r.cores ++ [core]
            computed := r.computed ++ [got]
            tolerance := if r.computed = [] then tolerance (s.dict.get Obj.trierToleranceSigma) r.temp r.seconds (rmsOf got) else r.tolerance }

/-- TASK_TRIER_CHECK (R405 to R409). -/
def execTaskTrierCheck (die : Die) (half : Half) (record : Fin 64) (core : Core) (error : List Int) (s : State) :
    Host.Outcome State Fault Refusal :=
  act (.taskTrierCheck die half record core error) s (fun c =>
    c.checkRecord (recordKey (halfKey die half) record.val) (coreKey core) error)

/-! ### Abandoned verdicts (R410, R411) -/

/-- Abandon a record. -/
def S8.abandonRecord (s : S8) (key : Nat) (r : TrierRecord) : S8 :=
  (s.giveVerdict key r 6).raise Obj.trierAbandonedCount 0 1 (unitOfVatKey r.vat) r.lane

/-- TRIER_VERDICT_TIMEOUT (R410). -/
def execTrierVerdictTimeout (die : Die) (half : Half) (record : Fin 64) (s : State) : Host.Outcome State Fault Refusal :=
  act (.trierVerdictTimeout die half record) s (fun c =>
    let key := recordKey (halfKey die half) record.val
    match SMap.find c.trier.records key with
    | none => c
    | some r => if r.step + c.dict.get Obj.trierVerdictSteps ≤ c.run.step then c.abandonRecord key r else c)

/-- Must a record be abandoned at a boundary? (R411) -/
def S8.recordLost (s : S8) (r : TrierRecord) : Bool :=
  (s.vats.physical r.vat ≠ r.physical && r.probes.length < 2) ||
    (s.vats.physical r.vat = r.physical && (s.mem.vatContent r.physical ≠ r.content || (SMap.find s.wheels.content r.physical).isNone)) ||
    !(s.dieServes (vatDie r.vat)) || r.cores.any (fun c => !(s.dieServes (c / 72)))

/-- A Suspect bit set by transients clears after 10^6 steps without one (R409). -/
def S8.clearSuspect (s : S8) (key : Nat) : S8 :=
  let k := key / 2048
  let c := key % 2048
  { s.stageWrites k [(columnAddr k c + 3, leBytes 1 (setField (s.seen.le (columnAddr k c + 3) 1) 1 1 0))] with
    trier := s.trier.forget k (fun x => x = c) }

/-- The Suspect marks that have outlived their last transient. -/
def S8.staleSuspects (s : S8) : List Nat :=
  (s.trier.suspects.filter (fun e => match SMap.find s.trier.transients e.1 with
    | some (t :: _) => decide (t + 10 ^ 6 ≤ s.run.step)
    | _ => false)).map (·.1)

/-- What a boundary does for the trier. -/
def S8.trierBoundary (s : S8) : S8 :=
  let s1 := (s.trier.records.filter (fun e => s.recordLost e.2)).foldl (fun s e => s.abandonRecord e.1 e.2) s
  let s2 := s1.staleSuspects.foldl (fun s k => s.clearSuspect k) s1
  { s2 with trier := { s2.trier with results := [] } }

/-! ### Digests (R412, R413) -/

/-- The digest expected of a version, zero where none is given. -/
def Dict.expectedDigest (d : Dict) (u : Wheel) : Bytes :=
  let b := d.blob Obj.replicaDigestExpected (zeros 320)
  (((List.range 8).find? (fun i => leAt b (40 * i) 1 = u.wheelId && leAt b (40 * i + 4) 4 = u.version)).map
    (fun i => bytesAt b (40 * i + 8) 32)).getD (zeros 32)

/-- Recompute a READY version's digest once every block is held, and compare it. -/
def S8.digestWheel (s : S8) (u : Wheel) : S8 :=
  if u.state ≠ 2 || !(u.needed.all (fun n => s.shardHeld u n)) then s
  else
    let digest := s.replicaDigest u
    let want := s.dict.expectedDigest u
    S8.raise { s with wheels := s.wheels.set u.key (fun v => { v with digest := digest }) } Obj.replicaMismatchCount 0
      (if want ≠ zeros 32 ∧ want ≠ digest then 1 else 0) (unitField 11 u.wheelId) u.version

/-- Do a vat's tables match their digest, and its header the block and version that the vat map binds it to? (R413) -/
def S8.tablesMatch (s : S8) (k : Nat) : Bool :=
  (s.mem.digestTable k).read (tableBase k + 48) 32 = s.mem.read (tableBase k + 48) 32 &&
    (match SMap.find s.wheels.content k with
     | none => false
     | some (key, _) => contentFields k key = (s.mem.vatWheel k, s.mem.vatContent k))

/-- The physical vats in State 2. -/
def S8.servingVats (s : S8) : List Nat := ((List.range 288).flatMap vatsOfUnit).filter (fun k => s.mem.vatState k = 2)

/-- REPLICA_DIGEST_CHECK (R412, R413). -/
def execReplicaDigestCheck (s : State) : Host.Outcome State Fault Refusal :=
  act .replicaDigestCheck s (fun c =>
    let c1 := c.wheels.table.foldl (fun c u => c.digestWheel u) c
    (c1.servingVats.filter (fun k => !(c1.tablesMatch k))).foldl (fun c k =>
      (c.makeCandidate k).raise Obj.tableDigestMismatchCount 0 1 (c.vatUnit k) 0) c1)

end Sys2Proof.Machine
end

