-- ==== Sys2Proof/Machine/Kernels.lean ====
section
/-! DEFINITION. In-field tests: test packs, vat and router kernels, and the rotation of core tests (R414 to R420). -/

namespace Sys2Proof.Machine

/-! ### Test packs (R419, R420) -/

/-- The pack in use. -/
def Trier.activePack (t : Trier) : Bytes := t.pack.getD Config.builtInPack

/-- Its version: 0 for the built-in pack. -/
def Trier.packVersion (t : Trier) : Nat := match t.pack with | none => 0 | some b => leAt b 8 4

/-- Kernel entry i of a pack: kind, offset, length, limit. -/
structure KernelEntry where
  kind : Nat
  offset : Nat
  length : Nat
  limit : Nat
  deriving DecidableEq, Repr

/-- Read a kernel entry. -/
def kernelEntry (pack : Bytes) (i : Nat) : KernelEntry :=
  let a := 512 + 64 * i
  { kind := leAt pack a 1, offset := leAt pack (a + 4) 4, length := leAt pack (a + 8) 4, limit := leAt pack (a + 12) 4 }

/-- The most bytes a pack may have. -/
def packLimit : Nat := 64 * 2 ^ 20

/-- Why a pack is refused: 0 when it is not. -/
def Trier.reasonAgainst (t : Trier) (b : Bytes) : Nat :=
  let n := leAt b 2 2
  if packLimit < b.length then 5
  else if !(signedBy Config.testPackKey b) || leAt b 0 2 ≠ 1 || leAt b 4 4 ≠ t.packId || leAt b 16 4 ≠ b.length then 1
  else if leAt b 12 2 ≠ Config.hardwareRevision then 2
  else if leAt b 8 4 ≤ t.packVersion then 3
  else if n = 0 ∨ 256 < n ∨ b.length < 512 + 64 * n + 384 ∨
      (List.range n).any (fun i => b.length - 384 < (kernelEntry b i).offset + (kernelEntry b i).length) then 4
  else 0

/-- Refuse the pack being received. -/
def S8.refusePack (s : S8) (reason : Nat) : S8 :=
  S8.raise { s with trier := { s.trier with packState := 4, packReason := reason, segments := [] } } Obj.testPackRefusedCount 0 1
    s.trier.packId reason

/-- TestPackLoadRequest: PackId and Length (R420). -/
def testPackEffect : WriteEffect := fun s value =>
  let w := valueOf value
  let s1 := { s with trier := { s.trier with
    packId := w / 2 ^ 32, packLength := w % 2 ^ 32, segments := [], packState := 1, packReason := 0, packNext := none } }
  (statusOk, if packLimit < w % 2 ^ 32 then s1.refusePack 5 else s1)

/-- TEST_PACK_LOAD_REQUEST (R420). -/
def execTestPackLoadRequest (w : ObjWrite) (s : State) : Host.Outcome State Fault Refusal :=
  act (.testPackLoadRequest w) s (fun c => c.performWrite w Obj.testPackLoadRequest testPackEffect)

/-- The pack is whole: it is checked, and is active from the next step boundary. -/
def S8.packWhole (s : S8) : S8 :=
  let pack := assemble s.trier.packLength s.trier.segments
  let reason := s.trier.reasonAgainst pack
  if reason ≠ 0 then s.refusePack reason
  else { s with trier := { s.trier with packState := 2, packNext := some pack, segments := [] } }

/-- BULK_TEST_PACK (R301, R420). -/
def execBulkTestPack (f : Frame) (s : State) : Host.Outcome State Fault Refusal :=
  act (.bulkTestPack f) s (fun c => c.receiveBulk f 4 (fun c v =>
    let offset := v.at 8 4
    let count := v.at 12 2
    if c.trier.packState ≠ 1 ∨ v.at 4 4 ≠ c.trier.packId ∨ v.handle ≠ 0 ∨ count = 0 ∨ 208 < count ∨
        c.trier.packLength < offset + count then c.frameLost
    else
      let c1 := { c with trier := { c.trier with segments := c.trier.segments ++ [(offset, bytesAt v.payload 16 count)] } }
      if segmentsCover c1.trier.packLength c1.trier.segments then c1.packWhole else c1))

/-- TestPackState (R421). -/
def Trier.stateWord (t : Trier) : Nat := t.packState * 2 ^ 60 + t.packReason * 2 ^ 56 + t.packVersion

/-! ### Vat and router kernels (R414, R415) -/

/-- The pairs a vat kernel compares: the reference pairs, and the redundant pairs no column uses. -/
def S8.comparedPairs (s : S8) (k : Nat) : List Nat :=
  (List.range (2 * referenceCouples k)).map (firstReference k + ·) ++ s.freeRedundant k

/-- The stage-4 value a kernel expects of a pair. -/
def expectedAt (body : Bytes) (p : Nat) : Int := leIntAt body (5 * 512 + 2 * p) 2

/-- A vat fails its limits: tested once more, and at the second failure VatTestFail and a REWRITE candidate. -/
def S8.vatFailed (s : S8) (k : Nat) : S8 :=
  if s.trier.vatFails.contains k then
    (S8.makeCandidate { s with trier := { s.trier with vatFails := eraseNat k s.trier.vatFails } } k).raise Obj.vatTestFailCount 0 1
      (s.vatUnit k) 0
  else { s with trier := { s.trier with vatFails := insertNat k s.trier.vatFails } }

/-- A vat kernel on a physical vat: its probe record, the agent's replay and the limits. -/
def S8.vatTest (s : S8) (k kernel : Nat) (codes : List Nat) (recomputed : List Int) : S8 :=
  let pack := s.trier.activePack
  let e := kernelEntry pack kernel
  if leAt pack 2 2 ≤ kernel ∨ e.kind ≠ 1 ∨ !(s.dieServes (vatDie k)) ∨ s.vats.unitsRetired.contains (unitOfVat k) ∨
      codes.length ≠ pairCount k then s
  else
    let body := (pack.drop e.offset).take e.length
    let v := PourVector.ofBytes body (dataColumns k)
    let input : PourInput := { s.probeInput s.mem k codes (highDrives v) with
      exponent := v.exponent, rindOff := s.dict.get Obj.rindMode = 1
      nominal := Config.nominalGain (vatDie k) (SMap.getD s.vats.gainStep k 0) }
    let s1 := s.probe (unitOfVat k) k (probeBytes codes input.stage4)
    if recomputed ≠ (List.range (pairCount k)).map input.stage4 then s1.retireUnit (unitOfVat k)
    else if (s.comparedPairs k).any (fun p => e.limit < (input.stage4 p - expectedAt body p).natAbs) then s1.vatFailed k
    else { s1 with trier := { s1.trier with vatFails := eraseNat k s1.trier.vatFails } }

/-- VAT_TEST (R415). -/
def execVatTest (vat : Vat) (kernel : Nat) (codes : List (BitVec 10)) (recomputed : List Int) (s : State) :
    Host.Outcome State Fault Refusal :=
  act (.vatTest vat kernel codes recomputed) s (fun c => c.vatTest (vatKey vat) kernel (codes.map BitVec.toNat) recomputed)

/-- Does the running sheet place a tree node at a router? -/
def S8.nodeAt (s : S8) (die half position : Nat) : Bool :=
  (s.run.running.map (fun sh => sh.trees.any (fun t => t.die = die && t.grid = gridOf half position))).getD false

/-- A router is retired (R239): unbacked for the sheet's nodes, turns and units, whose die is lost at the next boundary. -/
def S8.retireRouter (s : S8) (die half position : Nat) : S8 :=
  let key := 80 * die + 40 * half + position
  let s1 := { s with fab := { s.fab with routers := insertNat key s.fab.routers } }
  match s.run.running with
  | none => s1
  | some sh =>
    if (s1.checkUnits sh).isNone && (s1.checkTrees sh).isNone then s1
    else if (s.checkUnits sh).isNone && (s.checkTrees sh).isNone then
      { s1 with
        dict := s1.dict.note s1.run.step eventUnitUnbacked (unitField 8 key) key
        run := s1.run.lose die }
    else s1

/-- ROUTER_TEST (R239, R414): the sums that came back are compared with the known ones. -/
def execRouterTest (die : Die) (half : Half) (position : Fin 40) (expected got : List Int) (s : State) :
    Host.Outcome State Fault Refusal :=
  act (.routerTest die half position expected got) s (fun c =>
    let key := 80 * die.val + 40 * halfBit half + position.val
    if !(c.halfServes (halfKey die half)) || c.routerRetired key || c.nodeAt die.val (halfBit half) position.val || expected = got then c
    else (c.retireRouter die.val (halfBit half) position.val).raise Obj.routerTestFailCount 0 1 (unitField 8 key) 0)

/-! ### Core tests (R416 to R418) -/

/-- A core's test record. -/
def Trier.coreTest (t : Trier) (core : Nat) : CoreTest := SMap.getD t.cores core CoreTest.none

/-- Change a core's test record. -/
def S8.setTest (s : S8) (core : Nat) (f : CoreTest → CoreTest) : S8 :=
  { s with trier := { s.trier with cores := SMap.modify s.trier.cores core CoreTest.none f } }

/-- Has a core's interval passed, or is it due at once? -/
def S8.testDue (s : S8) (core : Nat) : Bool :=
  (s.trier.coreTest core).due || (s.trier.coreTest core).lastStep + s.dict.get Obj.coreTestInterval ≤ s.run.step

/-- Is a core of the half under test, or moving to it? -/
def S8.halfTests (s : S8) (half : Nat) : Bool :=
  (List.range 36).any (fun i => s.coreState (36 * half + i) = 3) ||
    ((SMap.find s.cores.moves half).map (fun (m : CoreMove) => decide (m.sourceState = 3))).getD false

/-- The logical number that a physical core backs. -/
def Cores.logicalOf (c : Cores) (physical : Nat) : Option Nat :=
  (List.range 36).map (physical / 36 * 36 + ·) |>.find? (fun l => c.physical l = physical && !(c.unbacked.contains l))

/-- A free spare number other than the agent's. -/
def S8.testSpare (s : S8) (half : Nat) : Option Nat :=
  [32, 33, 34, 35].find? (fun n => !(s.cores.unbacked.contains (36 * half + n)) && s.coreState (s.cores.physical (36 * half + n)) = 1)

/-- Start the move of a due core, where a spare is free and no move is in progress (R417). -/
def S8.moveToTest (s : S8) (core : Nat) : S8 :=
  let half := core / 36
  match s.cores.logicalOf core, s.testSpare half with
  | some l, some n =>
    if (SMap.find s.cores.moves half).isSome || s.halfTests half then s else s.startMove half (l % 36) n 3
  | _, _ => s

/-- A half without a healthy spare tests no core in service: TestBlocked, once (R418). -/
def S8.blockTests (s : S8) (half : Nat) : S8 :=
  S8.raise { s with trier := { s.trier with blocked := insertNat half s.trier.blocked } } Obj.testBlockedCount 0
    (if s.trier.blocked.contains half then 0 else 1) (unitField 2 half) 0

/-- A core's time for a test has come: a spare core is tested in place, a core in service falls due and begins to move; a half
without a healthy spare is blocked. -/
def S8.coreDue (s : S8) (core : Nat) : S8 :=
  let half := core / 36
  if !(s.dieServes (half / 2)) || !(s.testDue core) || s.halfTests half then s
  else if s.coreState core = 1 then
    { s with cores := { s.cores with states := SMap.insert s.cores.states core 3 } }
  else if s.coreState core ≠ 0 then s
  else if s.healthySpares half = [] then s.blockTests half
  else
    (S8.setTest { s with trier := { s.trier with blocked := eraseNat half s.trier.blocked } } core
      (fun t => { t with due := true, deferral := 0, overdue := false })).moveToTest core

/-- CORE_TEST_DUE (R416 to R418): of a physical core. -/
def execCoreTestDue (core : Core) (s : State) : Host.Outcome State Fault Refusal :=
  act (.coreTestDue core) s (fun c => c.coreDue (coreKey core))

/-- Give up a move in progress that a core overdue for its test comes before: a voluntary one, or another core's to its test. -/
def S8.stopMove (s : S8) (half core : Nat) : S8 :=
  match SMap.find s.cores.moves half with
  | none => s
  | some m =>
    if m.source = core ∨ m.state = 3 ∨ m.sourceState = 4 then s
    else
      { s with cores := { (s.cores.report (half / 2) (moveWord 5 3 m.copied)) with
        moves := SMap.erase s.cores.moves half
        states := SMap.insert (SMap.insert s.cores.states m.source 0) m.target 1 } }

/-- A core's deferral has reached 64 steps: TestOverdue, and its move comes before every other use of the half's spares; not in a half
without a healthy spare (R417, R418). -/
def S8.coreOverdue (s : S8) (core : Nat) : S8 :=
  let half := core / 36
  let t := s.trier.coreTest core
  if !t.due || t.overdue || t.deferral < 64 || s.coreState core ≠ 0 || (s.healthySpares half = [] && !(s.halfTests half)) then s
  else
    let s1 := (s.setTest core (fun t => { t with overdue := true })).raise Obj.testOverdueCount 0 1 (unitField 3 core) t.deferral
    let testing := ((List.range 36).map (36 * half + ·)).filter (fun c => s1.coreState c = 3)
    let s2 := S8.stopMove { s1 with cores := { s1.cores with
      states := testing.foldl (fun m c => SMap.insert m c 1) s1.cores.states } } half core
    match s2.testSpare half with
    | some _ => s2.moveToTest core
    | none =>
      -- the agent leaves its spare (R234)
      match s2.cores.logicalOf core, s2.spareFor half with
      | some l, some n =>
        let agent := s2.cores.physical (36 * half + n)
        let s3 := { s2 with cores := { s2.cores with states := SMap.insert s2.cores.states agent 1 } }
        if (SMap.find s3.cores.moves half).isSome then s3 else s3.startMove half (l % 36) n 3
      | _, _ => s2

/-- TEST_OVERDUE (R417). -/
def execTestOverdue (core : Core) (s : State) : Host.Outcome State Fault Refusal :=
  act (.testOverdue core) s (fun c => c.coreOverdue (coreKey core))

/-- Clear the scratchpad of a tested core, which its spare number names (R416). -/
def S8.clearScratch (s : S8) (core : Nat) : S8 :=
  match s.cores.logicalOf core with
  | none => s
  | some l => { s with mem := s.mem.write (scratchRow l 0) (zeros (512 * 1024)) }

/-- A core under test ends its kernels. -/
def S8.testComplete (s : S8) (core : Nat) (passed : Bool) : S8 :=
  if s.coreState core ≠ 3 ∨ (s.cores.moves.any (fun e => e.2.source = core ∨ e.2.target = core)) then s
  else
    let s1 := s.clearScratch core
    let t := s1.trier.coreTest core
    let ended (result : Nat) : S8 := s1.setTest core (fun t => { t with
      lastStep := s.run.step, pack := s.trier.packVersion, result := result, failures := 0, due := false, deferral := 0, overdue := false })
    if passed then
      let s2 := ended (if t.failures = 0 then 1 else 2)
      S8.settleAgent { s2 with cores := { s2.cores with states := SMap.insert s2.cores.states core 1 } } (core / 36)
    else if t.failures = 0 then s1.setTest core (fun t => { t with failures := 1 })
    else
      let s2 := ended 3
      let s3 : S8 := { s2 with cores := { s2.cores with states := SMap.insert s2.cores.states core 4 } }
      let s4 := match s2.cores.logicalOf core with | none => s3 | some l => s3.coreGone l
      (s4.settleAgent (core / 36)).raise Obj.coreTestFailCount 0 1 (unitField 3 core) 0

/-- CORE_TEST_COMPLETE (R416). -/
def execCoreTestComplete (core : Core) (passed : Bool) (s : State) : Host.Outcome State Fault Refusal :=
  act (.coreTestComplete core passed) s (fun c => c.testComplete (coreKey core) passed)

/-! ### The boundary (R417, R420) -/

/-- A due core at a boundary: its move starts where it can; a step in which it waits is a deferral, but for the steps of the
copy. A half without a healthy spare waits without deferral (R418). -/
def S8.dueBoundary (s : S8) (core : Nat) : S8 :=
  let half := core / 36
  if s.coreState core = 0 && s.healthySpares half = [] && !(s.halfTests half) then s.blockTests half
  else
    let free : S8 := { s with trier := { s.trier with blocked := eraseNat half s.trier.blocked } }
    let s1 := if s.coreState core = 0 then free.moveToTest core else free
    let copying := s1.cores.moves.any (fun e => e.2.source = core && e.2.state ≠ 2)
    if copying || s1.coreState core = 3 then s1 else s1.setTest core (fun t => { t with deferral := min 255 (t.deferral + 1) })

/-- The due cores in the order in which their tests come: ascending, and in a half that was blocked the oldest test first (R417,
R418). -/
def S8.dueCores (s : S8) : List Nat :=
  let due := s.trier.cores.filter (fun e => e.2.due && s.coreState e.1 ≠ 4)
  let age (e : Nat × CoreTest) : Nat := if s.trier.blocked.contains (e.1 / 36) then e.2.lastStep else 0
  (sortBy (fun (a b : Nat × CoreTest) => age a < age b || (age a = age b && a.1 ≤ b.1)) due).map (·.1)

/-- What a boundary does for the tests: due cores, and a checked pack becomes active. -/
def S8.testBoundary (s : S8) : S8 :=
  let s1 := s.dueCores.foldl (fun s core => s.dueBoundary core) s
  match s1.trier.packNext with
  | none => s1
  | some pack => { s1 with trier := { s1.trier with pack := some pack, packNext := none, packState := 3, packReason := 0 } }

end Sys2Proof.Machine
end

