-- ==== Sys2Proof/Machine/Ripening.lean ====
section
/-! DEFINITION. Ripening: jobs, the activation store, the backward pass, updates and published parts (R383 to R395). -/

namespace Sys2Proof.Machine

/-! ### The request record (R383) -/

/-- Fields of a job's request record. -/
def Job.culture (j : Job) : Nat := leAt j.request 2 2
def Job.base (j : Job) : Nat := leAt j.request 4 2
def Job.force (j : Job) : Bool := field (leAt j.request 1 1) 0 1 = 1
def Job.learningRate (j : Job) : Fp := binary32.decode (leAt j.request 8 4)
def Job.beta (j : Job) : Fp := binary32.decode (leAt j.request 12 4)
def Job.clip (j : Job) : Fp := binary32.decode (leAt j.request 16 4)
def Job.updateSteps (j : Job) : Nat := leAt j.request 20 4
def Job.publishUpdates (j : Job) : Nat := leAt j.request 24 4

/-- Does a job run: its state is running, part writing or part ready? (R396) -/
def Job.runs (j : Job) : Bool := 2 ≤ j.state && j.state ≤ 4

/-- Is a job under way: waiting for its start or running? -/
def Job.live (j : Job) : Bool := 1 ≤ j.state && j.state ≤ 4

/-- The key of the culture version a job works on. -/
def Job.keyOf (j : Job) (version : Nat) : Nat := j.culture * 65536 + version

/-- +0 and 1 as data. -/
def fpZero : Fp := .fin false 0 0
def fpOne : Fp := .fin false 1 0

/-- Do a record's fields lie in their ranges? -/
def Job.inRange (j : Job) (step : Nat) : Bool :=
  !j.learningRate.nonFinite && fpZero.lt j.learningRate && !j.beta.nonFinite && !(j.beta.lt fpZero) && j.beta.lt fpOne &&
    j.clip ≠ .nan && !(j.clip.lt fpZero) && 64 ≤ j.updateSteps && j.updateSteps ≤ 1048576 && 1 ≤ j.publishUpdates &&
    j.publishUpdates ≤ 1000000 && step + 64 ≤ j.startStep

/-! ### Starting and stopping (R384, R385) -/

/-- The READY version of a job's base, with its place's record. -/
def S8.jobBase (s : S8) (j : Job) : Option (Culture × PlaceRecord) :=
  match s.cultures.find (j.keyOf j.base) with
  | none => none
  | some v => if v.state = 4 then (v.place.bind s.run.placeRecord).map (fun p => (v, p)) else none

/-- The roles of its base that the module holds, with the block of the image that carries each and the vat. -/
def S8.jobRoles (s : S8) (j : Job) : List (Nat × Nat × Nat) :=
  match s.jobBase j with
  | none => []
  | some (v, p) => v.roles.zipIdx.filterMap (fun e => (p.vatOf e.1).map (fun l => (e.1, e.2, l)))

/-- MiB of a half's ripening rows that the live jobs' master copies take: 12 for each role. -/
def S8.masterMiB (s : S8) (half : Nat) : Nat :=
  (s.ripen.jobs.filter (fun e => e.2.live)).foldl (fun a e =>
    a + 12 * ((s.jobRoles e.2).filter (fun r => vatHalf r.2.2 = half)).length) 0

/-- Do a job's master copy and stores fit in every half, beside those of the jobs under way? (R384) -/
def S8.areaFits (s : S8) (j : Job) : Bool :=
  (List.range 16).all (fun h =>
    let own := 12 * ((s.jobRoles j).filter (fun r => vatHalf r.2.2 = h)).length
    own = 0 || s.masterMiB h + own + Config.ripenStore ((s.run.running.map (fun sh => sh.header.runId)).getD 0) h ≤
      s.dict.get Obj.ripenAreaMiB)

/-- Why a request fails its job: 0 when it does not (R383 to R385). -/
def S8.jobReason (s : S8) (j : Job) : Nat :=
  let ripens := ((s.run.running.map (fun sh => sh.tracks.any (·.ripen))).getD false)
  if !(j.inRange s.run.step) || s.ripen.jobs.any (fun e => e.2.live && e.2.culture = j.culture) then 2
  else if !ripens || (s.jobBase j).isNone then 1
  else if !(s.areaFits j) then 3
  else 0

/-- The job a request defines. -/
def Job.ofRequest (b : Bytes) : Job :=
  { state := 1, reason := 0, request := b, startStep := leAt b 32 8, updates := 0, lossTokens := 0, part := 0, published := 0,
    publish := none, stopping := false, roles := [], header := [], master := [], momentum := [], gradient := [] }

/-- Change a job. -/
def S8.setJob (s : S8) (n : Nat) (f : Job → Job) : S8 :=
  { s with ripen := { s.ripen with jobs := s.ripen.jobs.map (fun e => if e.1 = n then (e.1, f e.2) else e) } }

/-- RipenJobRequest (R383, R385): refused for a job number out of range and while that job is under way. -/
def ripenJobEffect : WriteEffect := fun s value =>
  let n := leAt value 0 1
  let j := Job.ofRequest value
  if value.length ≠ 64 then (statusLength, s)
  else if n = 0 ∨ 4 < n then (statusRange, s)
  else if ((SMap.find s.ripen.jobs n).map (fun (k : Job) => k.live)).getD false then (statusState, s)
  else
    let reason := s.jobReason j
    let job := if reason = 0 then j else { j with state := 5, reason := reason }
    (statusOk, { s with ripen := { s.ripen with jobs := SMap.insert s.ripen.jobs n job } })

/-- RIPEN_JOB_REQUEST (R383 to R385). -/
def execRipenJobRequest (w : ObjWrite) (s : State) : Host.Outcome State Fault Refusal :=
  act (.ripenJobRequest w) s (fun c => c.performWrite w Obj.ripenJobRequest ripenJobEffect)

/-- RipenJobStop: the job stops at the next step boundary (R385). -/
def ripenStopEffect : WriteEffect := fun s value =>
  let n := valueOf value
  if n = 0 ∨ 4 < n then (statusRange, s) else (statusOk, s.setJob n (fun j => { j with stopping := true }))

/-- RIPEN_JOB_STOP (R385). -/
def execRipenJobStop (w : ObjWrite) (s : State) : Host.Outcome State Fault Refusal :=
  act (.ripenJobStop w) s (fun c => c.performWrite w Obj.ripenJobStop ripenStopEffect)

/-- The key of a master weight. -/
def weightKey (role row col : Nat) : Nat := role * 2 ^ 20 + 1024 * row + col

/-- A column step word as its mantissa and exponent (R355). -/
def stepOf (w : Nat) : Dyadic := { m := (field w 0 16 : Nat), e := toSigned 8 (field w 16 8) }

/-- The master weights of one role: g × m × 2^e, exact in binary32 (R384). -/
def seedRole (master : SMap Nat) (role : Nat) (g : Golden) : SMap Nat :=
  (List.range 1024).foldl (fun m i => (List.range 1024).foldl (fun m c =>
    SMap.put 0 m (weightKey role i c) (binary32.encode (binary32.roundDyadic false
      (Dyadic.mul { m := g.weight i c, e := 0 } (stepOf (g.step c)))))) m) master

/-- A job begins: its master copy is seeded, or its base is no longer READY. -/
def S8.beginJob (s : S8) (n : Nat) (j : Job) : S8 :=
  match s.jobBase j, SMap.find s.cellar.images (j.keyOf j.base) with
  | some _, some image =>
    let roles := s.jobRoles j
    let master := roles.foldl (fun m r => seedRole m r.1 { culture := true, bytes := roleBlock image r.2.1 }) []
    s.setJob n (fun j => { j with state := 2, roles := roles.map (·.1), header := image.take 512, master := master })
  | _, _ => s.setJob n (fun j => { j with state := 5, reason := 1 })

/-- An unpublished part leaves: the vats being written for it are given back and its place is free one step later (R378, R392). -/
def S8.dropPart (s : S8) (j : Job) : S8 :=
  match s.cultures.find (j.keyOf j.part) with
  | none => s
  | some v =>
    if !v.part then s
    else
      let s1 := v.targets.foldl (fun s e => s.releaseSpare e.2) s
      let table := s1.cultures.table.filter (fun u => u.key ≠ v.key)
      match v.place with
      | none => { s1 with cultures := { s1.cultures with table := table } }
      | some p =>
        { s1 with cultures := Cultures.setPlace { s1.cultures with
            table := table, freeing := s1.cultures.freeing ++ [(p, s1.run.step + 1)] } p 3 }

/-- A job's training sequences, by slot. -/
def S8.trainingSlots (s : S8) (n : Nat) : List Nat := (s.serve.slots.filter (fun e => e.2.req.ripenJob = n)).map (·.1)

/-- What a job leaves when it ends: its passes and its entries of the activation store go. -/
def S8.forgetPasses (s : S8) (n : Nat) : S8 :=
  let slots := s.trainingSlots n
  { s with ripen := { s.ripen with
      passes := s.ripen.passes.filter (fun p => p.job ≠ n)
      store := SMap.keep (fun k _ => !(slots.contains (k / (4096 * 65536)))) s.ripen.store } }

/-- A job fails: its last published version keeps serving (R395). -/
def S8.failJob (s : S8) (n reason : Nat) : S8 :=
  match SMap.find s.ripen.jobs n with
  | none => s
  | some j =>
    ((s.dropPart j).forgetPasses n).setJob n (fun j => { j with
      state := 5, reason := reason, publish := none, stopping := false, master := [], momentum := [], gradient := [] })

/-- A job stops: it is idle, its master copy freed and its gradient sums discarded (R385). -/
def S8.stopJob (s : S8) (n : Nat) : S8 :=
  match SMap.find s.ripen.jobs n with
  | none => s
  | some j =>
    let s1 := (s.dropPart j).forgetPasses n
    { s1 with ripen := { s1.ripen with jobs := SMap.erase s1.ripen.jobs n } }

/-- Every job under way stops (R395: a run change or version switch). -/
def S8.stopJobs (s : S8) : S8 := (s.ripen.jobs.filter (fun e => e.2.live)).foldl (fun s e => s.stopJob e.1) s

/-- Dies are lost: the jobs with a role, and so its master copy, on one of them fail, and so do all when a ripening track is on
one (R395). -/
def S8.ripenDiesLost (s : S8) (dies : List Nat) : S8 :=
  let track := (s.run.running.map (fun sh =>
    sh.tracks.any (fun t => t.ripen && dies.any (fun d => field t.dieMask d 1 = 1)))).getD false
  (s.ripen.jobs.filter (fun e => e.2.live &&
      (track || (s.jobRoles e.2).any (fun r => dies.contains (vatDie r.2.2))))).foldl (fun s e => s.failJob e.1 6) s

/-- Does a word of a working area lie in its half's ripening rows? (R384) -/
def S8.inRipenArea (s : S8) (half word : Nat) : Bool :=
  let a := workBase half + Config.ripenArea half
  a ≤ 16 * word && 16 * word < a + 2 ^ 20 * s.dict.get Obj.ripenAreaMiB

/-- Uncorrectable words are met in a half's ripening rows: a job with master rows in the half fails with reason 5 (R395). -/
def S8.masterFault (s : S8) (half : Nat) (bad : List Nat) : S8 :=
  let jobs := (s.ripen.jobs.filter (fun e => e.2.runs && (s.jobRoles e.2).any (fun r => vatHalf r.2.2 = half))).map (·.1)
  if jobs = [] ∨ !(bad.any (s.inRipenArea half)) then s
  else (s.picked.failJob (s.pick jobs) 5).raise Obj.ripenMasterFaultCount 0 1 (unitField 2 half) (s.pick jobs)

/-! ### Updates (R391) -/

/-- The keys a job's update works through, rising: role, row, column. -/
def Job.keys (j : Job) : List Nat := (j.master ++ j.momentum ++ j.gradient).foldl (fun l e => insertNat e.1 l) []

/-- n2: the sum of the squared gradient sums, in binary64. -/
def Job.norm2 (j : Job) : Fp :=
  j.keys.foldl (fun a k =>
    let g := binary32.decode (SMap.getD j.gradient k 0)
    binary64.add a (binary64.mul g g)) fpZero

/-- f: 1, or ClipNorm over the norm, rounded once to binary32. -/
def Job.clipFactor (j : Job) : Fp :=
  let norm := binary64.sqrt j.norm2
  if fpZero.lt j.clip && j.clip.lt norm then binary32.div j.clip norm else fpOne

/-- One weight's update. -/
def Job.step (j : Job) (f : Fp) (k : Nat) : Job :=
  let grad := binary32.decode (SMap.getD j.gradient k 0)
  let mom := binary32.add (binary32.mul j.beta (binary32.decode (SMap.getD j.momentum k 0))) (binary32.mul f grad)
  let master := binary32.sub (binary32.decode (SMap.getD j.master k 0)) (binary32.mul j.learningRate mom)
  { j with
    momentum := SMap.put 0 j.momentum k (binary32.encode mom)
    master := SMap.put 0 j.master k (binary32.encode master) }

/-- The job after its update: gradient sums are 0 again. -/
def Job.update (j : Job) : Job :=
  let f := j.clipFactor
  { j.keys.foldl (fun a k => a.step f k) j with gradient := [], updates := j.updates + 1 }

/-- Is a master weight not finite? -/
def Job.diverged (j : Job) : Bool := j.master.any (fun e => (binary32.decode e.2).nonFinite)

/-! ### Parts (R392) -/

/-- A column's master weights as exact values. -/
def Job.column (j : Job) (role col : Nat) : List Dyadic :=
  (List.range 1024).map (fun i => (binary32.decode (SMap.getD j.master (weightKey role i col) 0)).toDyadic)

/-- ceil(|x| / (127 × 2^e)). -/
def stepMantissa (x : Dyadic) (e : Int) : Nat :=
  let d := x.e - e
  if 0 ≤ d then ceilDiv (x.m.natAbs * 2 ^ d.toNat) 127 else ceilDiv x.m.natAbs (127 * 2 ^ (-d).toNat)

/-- A column's step: the least e for which every weight's mantissa is at most 65,535, and the largest mantissa at it. -/
def columnStep (w : List Dyadic) : Dyadic :=
  if w.all (fun x => x.m = 0) then { m := 0, e := 0 }
  else
    let fits (i : Nat) : Bool := w.all (fun x => stepMantissa x ((i : Int) - 128) ≤ 65535)
    let i : Nat := ((List.range 256).find? fits).getD 255
    let e : Int := (i : Int) - 128
    { m := (w.foldl (fun a x => max a (stepMantissa x e)) 0 : Nat), e := e }

/-- g = rne(master / step). -/
def quantise (x step : Dyadic) : Int :=
  if step.m = 0 then 0
  else
    let d := x.e - step.e
    if 0 ≤ d then rneDiv (x.m * 2 ^ d.toNat) step.m.natAbs else rneDiv x.m (step.m.natAbs * 2 ^ (-d).toNat)

/-- A role's block (R374): its weights row by row, then its column steps. -/
def Job.roleBlock (j : Job) (role : Nat) : Bytes :=
  let cols := (List.range 1024).map (fun c => let w := j.column role c; (w, columnStep w))
  let zero : Dyadic := { m := 0, e := 0 }
  (List.range 1024).flatMap (fun i => cols.map (fun c => BitVec.ofInt 8 (quantise (c.1.getD i zero) c.2))) ++
    cols.flatMap (fun c => leBytes 2 c.2.m.natAbs ++ leBytes 1 (ofSigned 8 c.2.e) ++ [0])

/-- A part image: the base image's header for the roles held, under version v. -/
def Job.image (j : Job) (v : Nat) : Bytes :=
  let h := j.header
  bytesAt h 0 4 ++ leBytes 2 v ++ bytesAt h 6 1 ++ leBytes 1 j.roles.length ++ bytesAt h 8 8 ++
    padTo 496 (j.roles.flatMap (fun r => bytesAt h (16 + 4 * r) 4)) ++ j.roles.flatMap j.roleBlock

/-- One above the highest version of a CultureId held or stored. -/
def S8.nextVersion (s : S8) (id : Nat) : Nat := 1 + (s.versionsHeld id ++ s.versionsStored id).foldl max 0

/-- A job writes a part: quantised, stored in the culture partition and loaded from state 2 on. An earlier part that is not
published leaves; the job fails when the versions are exhausted. -/
def S8.makePart (s : S8) (n : Nat) (j : Job) : S8 :=
  let v := s.nextVersion j.culture
  if 0xFFFF < v then s.failJob n 4
  else
    let image := j.image v
    let s1 := (s.dropPart j).writeCellar image.length
    let entry : Culture :=
      { cultureId := j.culture, version := v, state := 2, reason := 0, place := none, pins := 0, shape := leAt image 8 4,
        force := j.force, length := image.length, sha := sha256 image, segments := [], waited := false, part := true,
        roles := j.roles, targets := [], tries := 0, verified := false }
    let s2 := { s1 with
      cellar := { s1.cellar with images := SMap.insert s1.cellar.images (j.keyOf v) image }
      cultures := s1.cultures.put entry }
    let s3 := s2.setJob n (fun j => { j with state := 3, part := v, publish := none })
    (s3.raise Obj.ripenPartCount 0 1 (unitField 11 j.culture) v).settleCulture (j.keyOf v)

/-- Is a job's update due in a step? -/
def Job.updateDue (j : Job) (step : Nat) : Bool :=
  j.runs && j.startStep < step && (step - j.startStep) % j.updateSteps = 0 && j.updates < (step - j.startStep) / j.updateSteps

/-- An update, and after every PublishUpdates of them a part. -/
def S8.updateJob (s : S8) (n : Nat) : S8 :=
  match SMap.find s.ripen.jobs n with
  | none => s
  | some j =>
    if !(j.updateDue s.run.step) then s
    else
      let after := j.update
      let s1 := s.setJob n (fun _ => after)
      if after.diverged then s1.failJob n 5
      else if after.updates % after.publishUpdates = 0 then s1.makePart n after
      else s1

/-- RIPEN_UPDATE (R391, R392). -/
def execRipenUpdate (job : Fin 4) (s : State) : Host.Outcome State Fault Refusal :=
  act (.ripenUpdate job) s (fun c => c.updateJob (job.val + 1))

/-- RIPEN_PART_READY (R392): the part's place is written and read-verified. -/
def execRipenPartReady (job : Fin 4) (s : State) : Host.Outcome State Fault Refusal :=
  act (.ripenPartReady job) s (fun c =>
    match SMap.find c.ripen.jobs (job.val + 1) with
    | none => c
    | some j =>
      if j.state = 3 && ((c.cultures.find (j.keyOf j.part)).map (fun (v : Culture) => v.part && v.state = 3 && v.verified)).getD false then
        c.setJob (job.val + 1) (fun j => { j with state := 4 })
      else c)

/-- RipenPublishStep (R392, R395): refused for a version that is not ready and for a step already past. -/
def ripenPublishEffect : WriteEffect := fun s value =>
  let n := leAt value 0 1
  let v := leAt value 2 2
  let p := leAt value 4 8
  if value.length ≠ 12 then (statusLength, s)
  else if n = 0 ∨ 4 < n then (statusRange, s)
  else
    match SMap.find s.ripen.jobs n with
    | none => (statusState, s)
    | some j =>
      if j.state = 4 && j.part = v && s.run.step < p then (statusOk, s.setJob n (fun j => { j with publish := some (v, p) }))
      else (statusState, s.setJob n (fun j => { j with reason := 7 }))

/-- RIPEN_PUBLISH_STEP (R392, R395). -/
def execRipenPublishStep (w : ObjWrite) (s : State) : Host.Outcome State Fault Refusal :=
  actOr (.ripenPublishStep w) s (fun c => c.performWriteOr w Obj.ripenPublishStep ripenPublishEffect)

/-- Publication: the version is staged to State 2 and becomes READY (R378, R392). -/
def S8.publishPart (s : S8) (n v : Nat) (j : Job) : S8 :=
  let s1 := s.setJob n (fun j => { j with state := 2, publish := none })
  match s1.cultures.find (j.keyOf v) with
  | none => s1
  | some u =>
    let entry := { u with part := false }
    S8.stageCulture ({ s1 with cultures := s1.cultures.set u.key (fun _ => entry) }.setJob n (fun j => { j with published := v })) entry

/-- One job at the boundary that begins a step (R385, R392). -/
def S8.jobBoundary (s : S8) (n : Nat) (j : Job) : S8 :=
  if j.stopping then s.stopJob n
  else if j.state = 1 && j.startStep ≤ s.run.step then s.beginJob n j
  else
    match j.publish with
    | some (v, p) => if p ≤ s.run.step then s.publishPart n v j else s
    | none =>
      let writing := ((s.cultures.find (j.keyOf j.part)).map (fun (u : Culture) => decide (u.part ∧ (u.state = 2 ∨ u.state = 3)))).getD false
      if (j.state = 3 || j.state = 4) && !writing then s.setJob n (fun j => { j with state := 2 }) else s

/-- The boundary that begins a step, for the jobs. -/
def S8.ripenBoundary (s : S8) : S8 := s.ripen.jobs.foldl (fun s e => s.jobBoundary e.1 e.2) s

/-! ### Passes (R387, R389, R395) -/

/-- The phase in which a role's vat pours: that of its template's first instruction (R203, R372). -/
def Sheet.rolePhase (sh : Sheet) (vat : Nat) : Option Nat :=
  match sh.bindingOf (sh.templateOf vat) with
  | none => none
  | some b => (sh.bindingInstrs b).findSome? (fun p => (sh.reduction p.reduction).map (·.phase))

/-- The roles of a job that the module holds in a phase, with their numbers. -/
def S8.rolesIn (s : S8) (sh : Sheet) (j : Job) (phase : Nat) : List Nat :=
  ((s.jobRoles j).filter (fun r => sh.rolePhase r.2.2 = some phase && j.roles.contains r.1)).map (·.1)

/-- The phase with which a job's passes end on this module: the earliest that holds a role, where no earlier module can hold
one; otherwise FirstPhase. -/
def S8.passEnd (s : S8) (sh : Sheet) (j : Job) : Nat :=
  let phases := (s.jobRoles j).filterMap (fun r => sh.rolePhase r.2.2)
  let whole := match s.jobBase j with | none => true | some (v, p) => decide (p.roles ≤ j.roles.length ∨ v.roles.length = 0)
  if sh.header.firstPhase = 0 || whole then phases.foldl min sh.header.lastPhase else sh.header.firstPhase

/-- The phase at which a pass stands in a step, after the step of its logits: one phase a step, descending. -/
def Pass.phase (p : Pass) (sh : Sheet) (step : Nat) : Option Nat :=
  if p.sampling < step ∧ step ≤ p.sampling + sh.header.phases then some (sh.header.phases - (step - p.sampling)) else none

/-- Passes of the loss positions whose entries are made in this step (R387). -/
def S8.newPasses (s : S8) (sh : Sheet) : List Pass :=
  s.serve.slots.flatMap (fun e =>
    let q := e.2
    let shift := if q.pendingToken.isSome then 1 else 0
    if q.req.ripenJob = 0 || !(((SMap.find s.ripen.jobs q.req.ripenJob).map (fun (j : Job) => j.runs)).getD false) then []
    else
      (q.entriesAt.filter (fun x => x.step = s.run.step && shift ≤ x.entry && x.entry - shift + 1 < q.req.promptLength &&
          ((sh.track x.lane).map (·.ripen)).getD false)).filterMap (fun x =>
        (q.tokenOf (x.entry + 1)).map (fun y =>
          { job := q.req.ripenJob, slot := e.1, handle := s.serve.handle e.1, lane := x.lane, entry := x.entry,
            sampling := sh.samplingStep x, target := y })))

/-- Does a pass go on: its job runs, its end is not behind it, and its token has not gone to whey before its logits were
formed? (R395) -/
def S8.passGoesOn (s : S8) (sh : Sheet) (p : Pass) : Bool :=
  match SMap.find s.ripen.jobs p.job with
  | none => false
  | some j =>
    let alive := ((SMap.find s.serve.slots p.slot).map (fun (q : Sequence) =>
      s.serve.handle p.slot = p.handle && !q.cancelled && q.entriesAt.any (fun x => x.entry = p.entry))).getD false
    j.runs && s.run.step + s.passEnd sh j ≤ p.sampling + sh.header.phases && (alive || p.sampling < s.run.step)

/-- The boundary that begins a step, for the passes: new ones, those that go on, and RipenActive (R389, R396). -/
def S8.ripenLanes (s : S8) : S8 :=
  match s.run.running with
  | none => { s with ripen := { s.ripen with passes := [] }, run := { s.run with ripenActive := [] } }
  | some sh =>
    let passes := s.ripen.passes.filter (s.passGoesOn sh) ++ s.newPasses sh
    let marks := passes.filterMap (fun p => (p.phase sh s.run.step).bind (fun k => if sh.heldPhases.contains k then some (k, p.lane + 1) else none))
    { s with
      ripen := { s.ripen with passes := passes }
      run := { s.run with ripenActive := marks.foldl (fun m e => SMap.modify m e.1 [] (insertNat e.2)) [] } }

/-! ### Kind-7 tasks (R388 to R390) -/

/-- The key of a task's entry in the activation store. -/
def storeKey (slot phase task : Nat) : Nat := (slot * 4096 + phase) * 65536 + task

/-- Everything the activation store holds of a token in a phase (R388). -/
def Ripening.entry (r : Ripening) (slot phase : Nat) : Bytes :=
  (SMap.keep (fun k _ => k / 65536 = slot * 4096 + phase) r.store).flatMap (fun e => e.2)

/-- The forward side: the task keeps its input rows for the training sequence's token on its lane. -/
def S8.storeActivations (s : S8) (n index lane : Nat) (t : CoreTask) : S8 :=
  match SMap.find s.run.carrying (128 * t.phase + lane) with
  | none => s
  | some slot =>
    if ((SMap.find s.serve.slots slot).map (fun (q : Sequence) => decide (q.req.ripenJob = n))).getD false then
      let rows := Config.routineInputs 7 t.routine (s.run.argumentOf index t lane)
      s.reading t.core (t.inRow rows lane) rows (fun b =>
        { s with ripen := { s.ripen with store := SMap.insert s.ripen.store (storeKey slot t.phase index) b } })
    else s

/-- The loss task: a kind-7 task that reads the sampler's logits. -/
def Sheet.readsLogits (sh : Sheet) (t : CoreTask) : Bool :=
  sh.samples && sh.tasks.any (fun u => u.kind = 4 && u.core = t.core && u.inputRow = t.inputRow)

/-- 2^−8 of softmax(z) − onehot(y), as N8 blocks (R38, R389). -/
def lossGradient (z : List Fp) (y : Nat) : List (Block × Tally) :=
  let g := (Config.softmax32 z).zipIdx.map (fun e => if e.2 = y then binary32.sub e.1 fpOne else e.1)
  let exact (x : Fp) : Exact := if x.nonFinite then none else some (Dyadic.mul x.toDyadic { m := 1, e := -8 })
  (List.range (ceilDiv z.length 32)).map (fun b =>
    encodeN8 ((List.range 32).map (fun i => exact (g.getD (32 * b + i) fpZero))))

/-- Form the loss gradient of a position whose logits stand on the lane in this step. -/
def S8.lossLane (s : S8) (sh : Sheet) (t : CoreTask) (lane : Nat) (p : Pass) : S8 :=
  let v := s.vocabulary sh
  let n := ceilDiv (2 * v) 512
  s.reading t.core (t.inRow n lane) n (fun rows =>
    let blocks := lossGradient ((List.range v).map (fun i => bfloat16.decode (leAt rows (2 * i) 2))) p.target
    let bytes := toSplit (blocks.map (·.1))
    { s with
      mem := s.mem.writeRows t.core (t.outRow (bytes.length / 512) lane) bytes
      dict := s.dict.countTally s.run.step (unitField 3 t.core.key) (sumTallies blocks) })

/-- Add a token's outer product to a role's gradient sums (R390): ascending row, then column, in binary32. -/
def addOuter (gradient : SMap Nat) (role : Nat) (x g : List Fp) : SMap Nat :=
  x.zipIdx.foldl (fun m a => g.zipIdx.foldl (fun m b =>
    let k := weightKey role a.2 b.2
    SMap.put 0 m k (binary32.encode (binary32.add (binary32.decode (SMap.getD m k 0)) (binary32.mul a.1 b.1)))) m) gradient

/-- Is a task the last kind-7 task of its phase on a lane? -/
def Sheet.lastRipening (sh : Sheet) (index lane : Nat) (t : CoreTask) : Bool :=
  sh.tasks.zipIdx.all (fun e => !(e.1.kind = 7 && e.1.phase = t.phase && e.1.firstLane ≤ lane && lane < e.1.firstLane + e.1.laneCount) ||
    e.2 ≤ index || sh.readsLogits e.1)

/-- The gradient sums and counts of a phase, once its last task has run: each role's outer product, and at the pass's end on this
module a loss token (R390). -/
def S8.sumGradients (s : S8) (sh : Sheet) (n : Nat) (j : Job) (t : CoreTask) (p : Pass) (input : Bytes) : S8 :=
  let roles := s.rolesIn sh j t.phase
  let stored := s.ripen.entry p.slot t.phase
  let gradient := roles.foldl (fun m r => addOuter m r (Config.storedInput r stored) (Config.roleGradient r input j.master)) j.gradient
  let ends := t.phase = s.passEnd sh j
  let s1 := s.setJob n (fun j => { j with gradient := gradient, lossTokens := j.lossTokens + (if ends then 1 else 0) })
  if ends then { s1 with ripen := { s1.ripen with passes := s1.ripen.passes.erase p } } else s1

/-- The backward side: the task carries a pass's gradient on its companion lane. -/
def S8.backwardLane (s : S8) (sh : Sheet) (n index lane : Nat) (t : CoreTask) (p : Pass) : S8 :=
  match SMap.find s.ripen.jobs n with
  | none => s
  | some j =>
    let arg := s.run.argumentOf index t lane
    let rows := Config.routineInputs 7 t.routine arg
    s.reading t.core (t.inRow rows lane) rows (fun input =>
      let out := Config.routineOutputs 7 t.routine arg
      let bytes := padTo (512 * out) (Config.gradientRows t.routine arg input (s.ripen.entry p.slot t.phase) j.master)
      let s1 := { s with mem := s.mem.writeRows t.core (t.outRow out lane) bytes }
      if sh.lastRipening index lane t then s1.sumGradients sh n j t p input else s1)

/-- A kind-7 task's work for a job on a lane. -/
def S8.ripenLane (s : S8) (n index lane : Nat) (sh : Sheet) (t : CoreTask) : S8 :=
  if ((sh.track lane).map (·.ripen)).getD false then
    if sh.readsLogits t then
      match s.ripen.passes.find? (fun p => p.job = n && p.lane = lane && p.sampling = s.run.step) with
      | some p => s.lossLane sh t lane p
      | none => s
    else s.storeActivations n index lane t
  else
    match s.ripen.passes.find? (fun p => p.job = n && p.lane + 1 = lane && p.phase sh s.run.step = some t.phase) with
    | some p => s.backwardLane sh n index lane t p
    | none => s

/-- TASK_RIPENING (R388 to R390). -/
def execTaskRipening (job : Fin 4) (task : Nat) (lane : Lane) (s : State) : Host.Outcome State Fault Refusal :=
  act (.taskRipening job task lane) s (fun c =>
    if ((SMap.find c.ripen.jobs (job.val + 1)).map (fun (j : Job) => j.runs)).getD false then
      c.onTask task 7 lane.val (c.ripenLane (job.val + 1) task lane.val)
    else c)

end Sys2Proof.Machine
end

