-- ==== Sys2Proof/Machine/Objects.lean ====
section
/-! DEFINITION. What reading an object gives (R456 to R458 and the object tables of every chapter): the values of the
fixed-size objects that the module computes, and the bytes of the objects of type DOMAIN and STR. -/

namespace Sys2Proof.Machine

/-! ### Fixed-size objects -/

/-- RunState (R215). -/
def Run.stateCode (r : Run) : Nat :=
  if r.running.isSome then (if r.degradedDie = 0xFF then 2 else 3)
  else if r.buffers.any (fun e => e.2.state = 3) then 1 else 0

/-- A figure of the running sheet, 0 when none runs. -/
def Run.figure (r : Run) (f : Sheet → Nat) : Nat := (r.running.map f).getD 0

/-- AdmissionPower (R429): IdlePower while no sheet runs. -/
def S8.admissionReport (s : S8) : Nat :=
  match s.run.running with
  | none => s.power.idle
  | some sh => (s.admissionPower sh (s.heldShare sh)).toNat

/-- Is a flag of a non-maskable event set? (R476) -/
def Dict.strongFlag (d : Dict) : Bool := d.flags.any (fun e => nonMaskable.contains (e.1 / 2 ^ 32))

/-! ### The pins of the header (R476, R507, R509) -/

/-- Is ALERT_N driven low: a non-maskable event's flag is set, or a starter has failed four times in a row, and PWR_GOOD is high
(R476, R485, R507). -/
def S8.alertLow (s : S8) : Bool := s.boot.pwrGood && (s.dict.strongFlag || s.boot.starterAlert ≠ [])

/-- The level of TICK_MON at a tick count: it rises when the count modulo 1,000 is 0 and falls when it is 500 (R509). -/
def tickMonitorHigh (tick : Nat) : Bool := tick % 1000 < 500

/-- Values of identity, port, serving and cellar objects that the module computes. -/
def S8.servingValues (s : S8) : List (Nat × Nat) :=
  [(Obj.serialNumber, Config.serialNumber),
   (Obj.hardwareRevision, Config.hardwareRevision),
   (Obj.firmwareRelease, s.boot.release s.boot.coordinator (SMap.getD s.boot.running s.boot.coordinator 0)),
   (Obj.diesInService, ofBits ((List.range 8).filter s.dieServes)),
   (Obj.coordinatorDie, s.boot.coordinator),
   (Obj.ownerPort, if s.ports.owner = .a then 0 else 1),
   (Obj.portLive, (if s.ports.live .a then 1 else 0) + (if s.ports.live .b then 2 else 0)),
   (Obj.currentCycle, s.ports.cycle % 2 ^ 24),
   (Obj.pendingEventCount, s.dict.flags.length),
   (Obj.nonMaskablePending, if s.dict.strongFlag then 1 else 0),
   (Obj.configState, s.dict.configState),
   (Obj.slotsFree, 8192 - s.serve.slots.length),
   (Obj.bOutstanding, s.serve.outstanding),
   (Obj.pauseKeyExtendStatus, s.cellar.extendStatus),
   (Obj.cellarSeconds, s.cellar.seconds),
   (Obj.restorePagesPerStep, s.cellar.restorePages),
   (Obj.pauseEntriesFree, s.cellar.entriesFree),
   (Obj.pauseBytesFree, s.cellar.free - s.dict.get Obj.cellarForcedReserve * 2 ^ 30),
   (Obj.cellarWrittenBytes, s.cellar.written),
   (Obj.firmwareLoadState, s.boot.loadState * 2 ^ 28 + s.boot.loadReason * 2 ^ 24),
   (Obj.handoverStep, s.boot.handoverStep),
   (Obj.handoverState, s.boot.handoverState * 2 ^ 28 + s.boot.handoverReason * 2 ^ 24),
   (Obj.joinWait, s.boot.joinWait),
   (Obj.deputyDie, s.boot.deputy)]

/-- Values of the other objects that the module computes; `die` is the die of an object at 0x3n00 or 0x4n00. -/
def S8.unitValues (s : S8) (die : Nat) : List (Nat × Nat) :=
  [(Obj.lastPourFaultTag, SMap.getD s.vats.faultTag die 0),
   (Obj.measResult, s.turn.measResult),
   (Obj.rewriteStatus, SMap.getD s.turn.status die 0),
   (Obj.runId, s.run.figure (fun sh => sh.header.runId)),
   (Obj.runState, s.run.stateCode),
   (Obj.activeDegradedDie, s.run.degradedDie),
   (Obj.currentStep, s.run.step),
   (Obj.runLoadStatus, s.run.loadStatus),
   (Obj.lastStepTicks, s.run.lastTicks),
   (Obj.maxStepTicks, s.run.maxTicks),
   (Obj.turnaround, s.run.figure (fun sh => sh.turnaround 1)),
   (Obj.strideI, s.run.figure (fun sh => sh.header.strideI)),
   (Obj.strideS, s.run.figure (fun sh => sh.header.strideS)),
   (Obj.estimatedStepEnergy, s.run.figure (fun sh => sh.estimates.foldl (fun a e => a + e.step) 0)),
   (Obj.coreMoveStatus, SMap.getD s.cores.moveStatus die 0),
   (Obj.tickOffset, ofSigned 32 s.fab.offset),
   (Obj.pageTableBase, Config.pageTableBase),
   (Obj.rootTableBase, Config.rootTableBase),
   (Obj.attentionLayersHeld, s.run.layersHeld),
   (Obj.testPackState, s.trier.stateWord),
   (Obj.modulePower, s.power.module),
   (Obj.inputPower, s.power.input),
   (Obj.idlePower, s.power.idle),
   (Obj.admissionPower, s.admissionReport),
   (Obj.estimateScale, s.power.scale),
   (Obj.runEnergy, s.power.run / 1000),
   (Obj.lastRunEnergy, s.power.lastRun / 1000),
   (Obj.energyTotal, s.power.total / 1000),
   (Obj.inletTemp, ofSigned 16 s.power.inlet),
   (Obj.dieTripState, ofBits (s.power.tripped.map (·.1))),
   (Obj.crystalDeviation, ofSigned 32 s.clock.deviation),
   (Obj.tickMasterDie, s.tickMaster)]

/-- The value of a fixed-size object: HighestSub, what the module computes, a setting in effect, or a counter (R456, R458). -/
def S8.objValue (s : S8) (obj : Nat) : Nat :=
  if obj % 256 = 0 then objDefault obj
  else
    match (s.servingValues ++ s.unitValues (objDie obj)).find? (fun e => e.1 = normObj obj) with
    | some e => e.2
    | none =>
      match (objInfo obj).map ObjInfo.access with
      | some .rw => s.dict.get obj
      | some .rwb => s.dict.get obj
      | some .ro => s.dict.count obj 0
      | _ => 0

/-! ### DOMAIN objects of units -/

/-- The bytes of n fields of a width. -/
def fields (n width : Nat) (f : Nat → Nat) : Bytes := (List.range n).flatMap (fun i => leBytes width (f i))

/-- The 96 bits of a set of lanes. -/
def laneBits (l : List Nat) : Bytes := leBytes 12 (ofBits l)

/-- A record for each phase the module holds, empty while no sheet runs. -/
def Run.perPhase (r : Run) (f : Nat → Bytes) : Bytes := ((r.running.map Sheet.heldPhases).getD []).flatMap f

/-- A physical vat's quality record (R163). -/
def S8.qualityRecord (s : S8) (k : Nat) : Bytes :=
  let q := s.turn.qualityOf k
  let bit (b : Bool) (i : Nat) : Nat := if b then 2 ^ i else 0
  leBytes 2 q.normError ++
    leBytes 1 (bit q.unstable 0 + bit (q.unstablePairs ≠ []) 1 + bit q.candidate 2 + bit (s.refreshDue k) 3 + bit q.atEndurance 4 +
      bit (q.maskedGroups ≠ []) 5) ++
    leBytes 1 q.redundantUsed ++ leBytes 2 q.residuals ++
    leBytes 2 (if isCulture k then SMap.getD s.turn.rowWrites k 0 / 16 else q.cycles) ++ leBytes 4 q.lastCalStep ++
    leBytes 1 (ofSigned 8 q.lastCalTemp) ++
    leBytes 1 (min 255 ((List.range 16).foldl (fun a g => a + (s.windowHits k g).length) 0)) ++
    leBytes 1 q.retries ++ zeros 1

/-- CoreMap (R236): the physical core of each logical one, 0xFF where it is unbacked. -/
def S8.coreMapByte (s : S8) (die i : Nat) : Nat :=
  let core := 72 * die + i
  if s.cores.unbacked.contains core then 0xFF else s.cores.physical core % 36

/-- A die's DOMAIN objects (R90, R121, R178, R236). -/
def S8.dieBytes (s : S8) (die : Nat) : List (Nat × Bytes) :=
  [(Obj.integratorGain, fields 2592 1 (fun i => SMap.getD s.vats.gainStep (2592 * die + i) 0)),
   (Obj.columnMap, (List.range 2592).flatMap (fun i =>
     (s.mem.columnMap (2592 * die + i)).flatMap (fun e => leBytes 2 e.1 ++ leBytes 2 e.2))),
   (Obj.rindPoolFree, fields 36 2 (fun u => 1664 - (s.poolBusy (36 * die + u) 20736).eraseDups.length)),
   (Obj.rindUnitState, fields 36 1 (fun u => if s.vats.unitsRetired.contains (36 * die + u) then 1 else 0)),
   (Obj.tableGeneration, fields 2592 4 (fun i => s.mem.vatGeneration (2592 * die + i))),
   (Obj.integratorNominalGain, fields 4 4 (Config.nominalGain die)),
   (Obj.vatQuality, (List.range 2592).flatMap (fun i => s.qualityRecord (2592 * die + i))),
   (Obj.checksumLimits, fields (2592 * 16) 2 (fun i => (s.sumLimit ((16 * (2592 * die) + i) / 16) (i % 16)).getD 0)),
   (Obj.referenceTrim, fields 6 2 (fun i => ofSigned 16 (s.trim (2 * die + i / 3) (i % 3)))),
   (Obj.coreMap, fields 72 1 (s.coreMapByte die)),
   (Obj.coreState, fields 72 1 (fun i => s.coreState (72 * die + i))),
   (Obj.coreStallCycles, fields 72 8 (fun i => SMap.getD s.cores.stalls (72 * die + i) 0)),
   (Obj.halfCoreClock, fields 2 2 (fun i => s.power.clock (2 * die + i))),
   (Obj.agentCore, fields 2 1 (fun i => SMap.getD s.cores.agents (2 * die + i) 35))]

/-! ### DOMAIN objects of the fabric, attention, power and clocks -/

/-- LaneState of a lane (R267). -/
def LinkLaneState.stateByte (l : LinkLaneState) : Nat :=
  l.state + (if l.state = 2 then 16 * ((l.replaces - 1) % 9 + 1) else 0)

/-- TrunkPeer of a trunk (R267). -/
def Fabric.peerRecord (f : Fabric) (d : Nat) : Bytes :=
  let p := (f.trunkPeer d).getD (0xFFFF, 0xFF)
  leBytes 2 p.1 ++ leBytes 1 p.2 ++ leBytes 1 ((trunkLanes d).filter (fun n => (f.lane n).lit)).length

/-- BridgeState of a bridge (R267). -/
def Fabric.bridgeByte (f : Fabric) (n : Nat) : Nat :=
  (if f.bridgesFailed.contains n then 1 else 0) + 16 * ((Config.bridgeSpares n - SMap.getD f.groupsUsed n 0) % 16)

/-- DOMAIN objects of links, attention, power, clocks and tests (R267, R293, R421, R441, R455). -/
def S8.moduleBytes (s : S8) : List (Nat × Bytes) :=
  [(Obj.laneState, fields 72 1 (fun n => (s.fab.lane n).stateByte)),
   (Obj.laneLatency, fields 72 2 (fun n => (s.fab.lane n).latency)),
   (Obj.trunkPeer, (List.range 8).flatMap s.fab.peerRecord),
   (Obj.routerState, fields 640 1 (fun i => if s.fab.routers.contains i || Config.routerBad i then 1 else 0)),
   (Obj.bridgeState, fields 10 1 s.fab.bridgeByte),
   (Obj.hotPoolFree, fields 16 4 (fun e => Config.framesPerHalf - s.serve.committed e - s.mem.withdrawn e)),
   (Obj.hotPoolCommitted, fields 16 4 s.serve.committed),
   (Obj.emptyAttentionCount, fields s.run.layersHeld 4 (s.dict.count Obj.emptyAttentionCount)),
   (Obj.lastPageMismatch, leBytes 4 s.attn.mismatch.1 ++ leBytes 2 s.attn.mismatch.2.1 ++ leBytes 4 s.attn.mismatch.2.2),
   (Obj.engineFramesRead, fields 16 8 (fun e => SMap.getD s.attn.framesRead e 0)),
   (Obj.stripeList, s.stripeList.flatMap (leBytes 1)),
   (Obj.trierArea, fields 16 4 Config.trierArea),
   (Obj.testKeyDigest, padTo 32 Config.testKeyDigest),
   (Obj.coreTestState, (List.range 576).flatMap (fun c =>
     let t := s.trier.coreTest c
     leBytes 8 t.lastStep ++ leBytes 4 t.pack ++ leBytes 1 t.result ++ leBytes 1 (min 255 t.deferral) ++ zeros 2)),
   (Obj.railPower, fields 51 4 (fun i => s.power.rails.getD i 0)),
   (Obj.junctionTemp, fields 128 2 (fun i => ofSigned 16 (SMap.getD s.power.temps i 0))),
   (Obj.sensorState, fields 128 1 s.sensorShown),
   (Obj.throttleStage, fields 16 1 s.power.stageOf),
   (Obj.voltageTable, fields 256 2 (fun i => Config.voltageTable (i / 16) (i % 16))),
   (Obj.clockSource, fields 8 1 s.clock.sourceOf),
   (Obj.oscTrim, fields 8 2 (fun d => ofSigned 16 ((Config.oscTrim d : Int) + SMap.getD s.clock.oscMoves d 0))),
   (Obj.pllCorrection, fields 8 4 (fun d => ofSigned 32 (SMap.getD s.clock.correction d 0))),
   (Obj.halfClockState, fields 16 1 (fun h => SMap.getD s.clock.halfState h 0)),
   (Obj.halfClockControl, s.dict.halfControl)]

/-! ### DOMAIN objects of serving, content, events and start-up -/

/-- SlotState of a slot (R328). -/
def Serving.slotCode (v : Serving) (slot : Nat) : Nat :=
  match (SMap.find v.slots slot).map Sequence.state with
  | none => 0
  | some .admitted => 1
  | some .running => 2
  | some .draining => 3
  | some .pausing => 4
  | some .parked => 5

/-- The parts of the wheel table that count shards and vats (R382). -/
def S8.wheelRecord (s : S8) (u : Wheel) : Bytes :=
  leBytes 1 u.wheelId ++ leBytes 1 u.state ++ leBytes 1 u.reason ++ zeros 1 ++ leBytes 4 u.version ++
    leBytes 2 ((u.needed.filter (s.shardHeld u)).length) ++ leBytes 2 u.needed.length ++ leBytes 2 u.ready.length ++
    leBytes 2 u.placement.length

/-- An entry of ReplicaDigest (R382). -/
def Wheel.digestRecord (u : Wheel) : Bytes := leBytes 1 u.wheelId ++ zeros 3 ++ leBytes 4 u.version ++ padTo 32 u.digest

/-- An entry of the culture table (R382). -/
def Culture.record (v : Culture) : Bytes :=
  leBytes 2 v.cultureId ++ leBytes 2 v.version ++ leBytes 1 v.state ++ leBytes 1 v.reason ++
    leBytes 2 (v.place.getD 0xFFFF) ++ leBytes 4 v.pins ++ leBytes 4 v.shape

/-- RipenJobState of a job (R396). -/
def S8.jobRecord (s : S8) (n : Nat) : Bytes :=
  match SMap.find s.ripen.jobs n with
  | none => zeros 32
  | some j =>
    leBytes 1 n ++ leBytes 1 j.state ++ leBytes 1 j.reason ++ zeros 1 ++ leBytes 2 j.culture ++ leBytes 2 j.part ++
      leBytes 2 j.published ++ zeros 2 ++ leBytes 4 j.updates ++ leBytes 8 j.lossTokens ++ zeros 8

/-- An entry of PendingEvents (R477). -/
def Dict.pendingRecord (d : Dict) (key : Nat) (r : Raise) : Bytes :=
  leBytes 2 (key / 2 ^ 40) ++ leBytes 1 (key / 2 ^ 32) ++ zeros 1 ++ leBytes 4 key ++ leBytes 4 (SMap.getD d.counts key 0) ++
    leBytes 8 r.step ++ leBytes 4 r.unit ++ leBytes 8 r.value

/-- ImageState of a boot partition slot (R497). -/
def Boot.imageRecord (b : Boot) (i : Nat) : Bytes :=
  match SMap.find b.images i with
  | none => zeros 12
  | some g =>
    leBytes 4 (leAt g.bytes 4 4) ++ leBytes 1 g.state ++
      leBytes 1 (if SMap.getD b.state (i / 2) 0 = 3 ∧ SMap.find b.running (i / 2) = some (i % 2) then 1 else 0) ++ zeros 2 ++
      leBytes 4 (leAt g.bytes 8 4)

/-- An entry of BootLog (R497). -/
def BootEntry.record (e : BootEntry) : Bytes :=
  leBytes 1 e.die ++ leBytes 1 e.image ++ leBytes 1 e.result ++ zeros 1 ++ leBytes 4 e.release ++ leBytes 8 e.seconds

/-- DOMAIN and STR objects of identity, events, serving, content and start-up (R215, R328, R350, R382, R396, R478, R497). -/
def S8.recordBytes (s : S8) : List (Nat × Bytes) :=
  [(Obj.vendorName, [0x4A, 0x65, 0x6E, 0x64, 0x65, 0x74, 0x72, 0x61]),
   (Obj.partNumber, [0x4A, 0x44, 0x53, 0x38, 0x2D, 0x31, 0x43]),
   (Obj.identityRecord, Config.identityRecord),
   (Obj.pendingEvents, s.dict.flags.flatMap (fun e => s.dict.pendingRecord e.1 e.2)),
   (Obj.eventMaskList, s.dict.masked.flatMap (fun k =>
     leBytes 2 (k / 2 ^ 40) ++ leBytes 1 (k / 2 ^ 32) ++ zeros 1 ++ leBytes 4 k)),
   (Obj.laneActive, s.run.perPhase (fun p => laneBits (SMap.getD s.run.active p []))),
   (Obj.trackClosed, laneBits s.run.closed),
   (Obj.slotState, fields 8192 1 s.serve.slotCode),
   (Obj.refusalCount, fields 32 4 (s.dict.count Obj.refusalCount)),
   (Obj.flashSpareLeft, fields 8 4 s.cellar.spareLeft),
   (Obj.publisherKeys, s.dict.blob Obj.publisherKeys []),
   (Obj.wheelSources, s.dict.blob Obj.wheelSources defaultSources),
   (Obj.wheelTable, padTo 128 (s.wheels.table.flatMap s.wheelRecord)),
   (Obj.replicaDigest, padTo 320 (s.wheels.table.flatMap Wheel.digestRecord)),
   (Obj.replicaDigestExpected, s.dict.blob Obj.replicaDigestExpected (zeros 320)),
   (Obj.laneWheelStamp, s.run.perPhase (fun p => laneBits (SMap.getD s.run.stamps p []))),
   (Obj.cultureTable, padTo 8192 (s.cultures.table.flatMap Culture.record)),
   (Obj.laneCulturePlace, s.run.perPhase (fun p => fields 96 2 (fun l => SMap.getD s.run.lanePlace (128 * p + l) 0xFFFF))),
   (Obj.culturePlaceState, fields 512 1 s.cultures.placeState),
   (Obj.ripenJobState, (List.range 4).flatMap (fun i => s.jobRecord (i + 1))),
   (Obj.ripenActive, s.run.perPhase (fun p => laneBits (SMap.getD s.run.ripenActive p []))),
   (Obj.firmwareKeyDigest, padTo 32 Config.firmwareKeyDigest),
   (Obj.imageState, (List.range 16).flatMap s.boot.imageRecord),
   (Obj.preferredImage, fields 8 1 (fun d => SMap.getD s.boot.preferred d 0)),
   (Obj.bootState, fields 8 1 s.bootShown),
   (Obj.bootLog, s.boot.log.flatMap BootEntry.record)]

/-- The bytes of an object of type DOMAIN or STR; one that is not listed holds what was written to it. -/
def S8.objBytes (s : S8) (obj : Nat) : Bytes :=
  match (s.recordBytes ++ s.moduleBytes ++ s.dieBytes (objDie obj)).find? (fun e => e.1 = normObj obj) with
  | some e => e.2
  | none => s.dict.blob obj []

/-! ### Reading -/

/-- The bytes of an object's current value (R457). -/
def S8.valueBytes (s : S8) (obj : Nat) (i : ObjInfo) : Bytes :=
  if i.type.size = 0 then s.objBytes obj else leBytes i.type.size (s.objValue obj)

/-- Read an object: the status, and the value where it is OK (R456, R458). -/
def S8.readObject (s : S8) (obj : Nat) : Nat × Bytes :=
  match objInfo obj with
  | none => (statusNoObject, [])
  | some i => if i.access = .wo then (statusAccess, []) else (statusOk, s.valueBytes obj i)

/-- The 16-byte cell of the dictionary mirror (R31): the value of a fixed-size object, zero-extended; zero for STR and DOMAIN, for
no object, and for one that has no value to read. -/
def S8.mirrorCell (s : S8) (obj : Nat) : Bytes :=
  match objInfo obj with
  | none => zeros 16
  | some i => if i.access = .wo ∨ i.type.size = 0 then zeros 16 else padTo 16 (s.valueBytes obj i)

end Sys2Proof.Machine
end

