-- ==== Sys2Proof/Machine/Memory.lean ====
section
/-! DEFINITION. Accesses to module addresses (R25 to R32, R113, R114, R227, R235), the dictionary mirror (R31), scrub (R402),
the held copies of a make sheet (R401), and the retirement of rows and blocks at a step boundary (R399, R400). -/

namespace Sys2Proof.Machine

/-! ### The held copies of a sheet (R210, R401) -/

/-- The records of a section that lie, in part, in a row of the sheet. -/
def recordsInRow (b : Bytes) (kind row : Nat) : List Bytes :=
  match (sectionsOf b).find? (fun e => e.kind = kind) with
  | none => []
  | some e =>
    ((List.range e.count).filter (fun i =>
      512 * e.firstRow + e.size * i < 512 * row + 512 && 512 * row < 512 * e.firstRow + e.size * (i + 1))).map
      (fun i => bytesAt b (512 * e.firstRow + e.size * i) e.size)

/-- The logical vats of a die that a row of a sheet names. -/
def rowVats (b : Bytes) (row die : Nat) : List Nat :=
  (((recordsInRow b 2 row).map Binding.ofBytes).filter (fun v => v.die = die)).map (fun v => 2592 * v.die + 2304 * v.kind + v.num)

/-- The logical cores of a die that a row of a sheet names. -/
def rowCores (b : Bytes) (row die : Nat) : List Nat :=
  (((recordsInRow b 4 row).map (fun r => (Reduction.ofBytes r).outCore) ++
    (recordsInRow b 5 row).map (fun r => (CoreTask.ofBytes r).core) ++
    (recordsInRow b 8 row).map (fun r => (ExpertGroup.ofBytes r).core) ++
    (recordsInRow b 12 row).flatMap (fun r =>
      let a := AttentionRecord.ofBytes r
      a.queryCore :: a.outCore :: a.nodes)).filter (fun c => c.die = die)).map CoreRef.key

/-- Both copies of a row of a sheet have failed: the units of the die that it names are unbacked, and the die is lost at the next
boundary when it names any (R213, R401). -/
def S8.sheetRowLost (s : S8) (b : Bytes) (row die : Nat) : S8 :=
  let vats := rowVats b row die
  let cores := rowCores b row die
  if vats = [] ∧ cores = [] then s
  else
    cores.foldl S8.unbackCore (vats.foldl S8.unbackVat { s with run := s.run.lose die })

/-- One copy of a row of a sheet buffer meets words that do not decode: the other copy is read and the row rewritten from it, or
both have failed (R401). -/
def S8.sheetRow (s : S8) (half row : Nat) (n : Nat) (upset : Upsets) : S8 :=
  let twin := 4 * (half / 2) + 1 - half
  let own := workBase half + Config.sheetArea half n + 512 * row
  let other := workBase twin + Config.sheetArea twin n + 512 * row
  let s1 := s.meetWords other 512 upset
  if badIn s.mem upset other 512 = [] then
    { s1 with mem := { s1.mem with bad := s1.mem.bad.filter (fun w => !(own ≤ 16 * w && 16 * w < own + 512)) } }
  else s1.sheetRowLost (s.run.buffer n).bytes row (half / 2)

/-- The rows of a half's copy of a sheet buffer in which words lie. -/
def S8.sheetRowsOf (s : S8) (half n : Nat) (bad : List Nat) : List Nat :=
  let a := workBase half + Config.sheetArea half n
  ((bad.filter (fun w => a ≤ 16 * w && 16 * w < a + (s.run.buffer n).bytes.length)).map (fun w => (16 * w - a) / 512)).eraseDups

/-- Words of a half's working area do not decode: the sheet copies that hold them (R401). -/
def S8.sheetCopies (s : S8) (half : Nat) (bad : List Nat) (upset : Upsets) : S8 :=
  (s.run.buffers.map (·.1)).foldl (fun s n =>
    (s.sheetRowsOf half n bad).foldl (fun s row => s.sheetRow half row n upset) s) s

/-! ### Reading with the rules of each place (R398) -/

/-- What the words of a read that do not decode do, beyond their counts and marks, where they lie in a working area: ripening rows
(R395) and loaded sheets (R401). -/
def S8.meetArea (s : S8) (a : Nat) (bad : List Nat) (upset : Upsets) : S8 :=
  match placeOf a with
  | .working h => if bad = [] then s else (s.masterFault h bad).sheetCopies h bad upset
  | _ => s

/-- A scrub reads one word: its counts, and what an uncorrectable one does in its place (R398, R402). -/
def S8.scrubWord (s : S8) (word : Nat) (found : Option WordErr) : S8 :=
  let upset : Upsets := match found with | none => [] | some e => [(word, e)]
  let bad := badIn s.mem upset (16 * word) 16
  (s.meetWords (16 * word) 16 upset).meetArea (16 * word) bad upset

/-- Is a place in the SRAM? -/
def Place.isSram (p : Place) : Bool :=
  match p with
  | .scratchpad => true
  | .rindStore => true
  | .engineBuffer _ => true
  | .linkBuffer => true
  | _ => false

/-- Is a place in the DRAM tier? -/
def Place.isDram (p : Place) : Bool :=
  match p with
  | .hotPool => true
  | .working _ => true
  | _ => false

/-- SRAM_SCRUB (R402): scrub reads a word of the SRAM of a die in service. -/
def execSramScrub (word : Nat) (found : Option WordErr) (s : State) : Host.Outcome State Fault Refusal :=
  act (.sramScrub word found) s (fun c =>
    if (placeOf (16 * word)).isSram && c.dieServes (field (16 * word) 34 3) then c.scrubWord word found else c)

/-- DRAM_SCRUB (R402): scrub reads a word of the DRAM tier of a die in service. -/
def execDramScrub (word : Nat) (found : Option WordErr) (s : State) : Host.Outcome State Fault Refusal :=
  act (.dramScrub word found) s (fun c =>
    if (placeOf (16 * word)).isDram && c.dieServes (field (16 * word) 34 3) then c.scrubWord word found else c)

/-! ### Direct accesses (R27) -/

/-- The bytes of the dictionary mirror at an address (R31): [27:12] index, [11:4] subindex, [3:0] byte. -/
def S8.mirrorBytes (s : S8) (a n : Nat) : Bytes :=
  (List.range n).map (fun i =>
    let off := field (a + i) 0 28
    byteAt (s.mirrorCell (off / 16)) (off % 16))

/-- How an agent reaches memory. -/
def reachOf (g : Agent) : Reach :=
  match g with
  | .core c machine row =>
    { half := coreHalfKey c, unit := c.num.val, machine := machine, row := row.any (fun v => v.val % 4 = 0), engine := false
      attention := false }
  | .engine e => { half := e.val, unit := 36, machine := false, row := false, engine := false, attention := true }

/-- Does an agent issue accesses: a core that executes, an engine in service of a die in service? -/
def S8.issues (s : S8) (g : Agent) : Bool :=
  match g with
  | .core c _ _ => s.coreRuns (coreKey c)
  | .engine e => s.halfServes e.val && !(s.attn.retired.contains e.val)

/-- Record what an access answered. -/
def S8.answered (s : S8) (performed fault : Bool) (data : Bytes) : S8 :=
  { s with mem := { s.mem with last := { performed := performed, data := data, accessFault := fault } } }

/-- A core takes an exception for a memory access, with the address (R216, R231); an engine takes none. -/
def S8.takeFault (s : S8) (g : Agent) (cause a : Nat) : S8 :=
  match g with
  | .core c _ _ => { s with cores := s.cores.takeTrap (coreKey c) cause a }
  | .engine _ => s

/-- A whole-row vector load writes its 512 bytes to the register group of four (R227, R231). -/
def Cores.setGroup (c : Cores) (core v : Nat) (b : Bytes) : Cores :=
  (List.range 4).foldl (fun a i => a.setV core (v + i) (bytesAt b (128 * i) 128)) c

/-- What a load delivers to its agent's registers: the row of a whole-row vector load. -/
def S8.deliverLoad (s : S8) (g : Agent) (b : Bytes) : S8 :=
  match g with
  | .core c _ (some v) => { s with cores := s.cores.setGroup (coreKey c) v.val b }
  | _ => s

/-- Is a scalar access misaligned: one of 2, 4 or 8 bytes at an address that is no multiple of its size? It raises the
address-misaligned exception and is not emulated (R216). -/
def scalarMisaligned (x : Access) : Bool :=
  (match x.agent with | .core _ _ none => true | _ => false) && [2, 4, 8].contains x.len && decide (x.addr.toNat % x.len ≠ 0)

/-- Perform a permitted read. -/
def S8.load (s : S8) (g : Agent) (a n : Nat) (upset : Upsets) : S8 :=
  match placeOf a with
  | .mirror => s.answered true false (s.mirrorBytes a n)
  | p =>
    let bad := badIn s.mem upset a n
    let data := s.readBytes a n
    let s1 := (((s.meetWords a n upset).probeRead a n).meetArea a bad upset).deliverLoad g data
    let faults := bad ≠ [] && (p = .scratchpad || p.isDram) &&
      (match g with | .core _ _ _ => true | .engine _ => false)
    (if faults then s1.takeFault g 5 (16 * bad.headD 0) else s1).answered true faults data

/-- Perform an access, or refuse it: a refused read returns zero bytes, a refused write is discarded, and AddressFault is raised
(R27). A misaligned scalar access traps: cause 4 for a load, 6 for a store (R216). -/
def S8.access (s : S8) (x : Access) : S8 :=
  let a := x.addr.toNat
  if !(s.issues x.agent) then s
  else if scalarMisaligned x then (s.takeFault x.agent (if x.write then 6 else 4) a).answered false true []
  else if !(s.permits (reachOf x.agent) x.write a x.len) then
    (s.addressFault x.write a x.len).answered false false (if x.write then [] else zeros x.len)
  else if x.write then (s.storeBytes a x.data).answered true false []
  else s.load x.agent a x.len x.upset

/-- MEMORY_ACCESS (R27). -/
def execMemoryAccess (a : Access) (s : State) : Host.Outcome State Fault Refusal :=
  act (.memoryAccess a) s (fun c => c.access a)

/-! ### Retirement at a boundary (R399, R400) -/

/-- Bind a scratchpad row to a spare row of its bank; with none left its core's number moves away, and its physical core is to take
CoreState 4; where no spare is free the number is unbacked (R23). While another move of the half is in progress the row stays due. -/
def S8.retireRow (s : S8) (row : Nat) : S8 :=
  let a := 512 * row
  let core := 72 * field a 34 3 + field a 0 34 / 0x80000
  let bank := 8 * s.cores.physical core + row % 8
  if SMap.getD s.mem.sparesUsed bank 0 < 4 then
    S8.raise { s with mem := { s.mem with
      sparesUsed := SMap.modify s.mem.sparesUsed bank 0 (· + 1)
      rowsDue := eraseNat row s.mem.rowsDue
      hits := SMap.erase s.mem.hits row } } Obj.sramRowRetiredCount 0 1 (unitField 3 core) a
  else if core % 36 < 32 then
    if (SMap.find s.cores.moves (core / 36)).isSome then s
    else
      let moved := s.retireCore core
      { moved with mem := { moved.mem with rowsDue := eraseNat row moved.mem.rowsDue } }
  else
    S8.settleAgent (S8.coreGone { s with
      mem := { s.mem with rowsDue := eraseNat row s.mem.rowsDue }
      cores := { s.cores with states := SMap.insert s.cores.states (s.cores.physical core) 4 } } core) (core / 36)

/-- Rows and blocks that are due are retired (R399, R400); frames go when they become free (Attention.lean). -/
def S8.retireRows (s : S8) : S8 :=
  let s1 := s.mem.rowsDue.foldl (fun s r => s.retireRow r) s
  S8.raise { s1 with mem := { s1.mem with blocksDue := [] } } Obj.dramRowRetiredCount 0 s1.mem.blocksDue.length 0
    (65536 * s1.mem.blocksDue.headD 0)

end Sys2Proof.Machine
end

