-- ==== Sys2Proof/Machine/Dictionary.lean ====
section
/-! DEFINITION. The dictionary frames of chapter 18: reading and writing objects, segmented transfers, clearing and masking
events, saving and restoring settings (R456 to R478). -/

namespace Sys2Proof.Machine

/-! ### Events (R472, R475) -/

/-- Does an object element name an event counter? (R471) A U32 counter has element 0; EmptyAttentionCount has one for each attention
layer held, RefusalCount 32. -/
def S8.isEventCounter (s : S8) (obj element : Nat) : Bool :=
  match objInfo obj with
  | none => uncountedEvents.contains obj && decide (element = 0)
  | some i =>
    i.counter &&
      (if i.type = .domain then
        (if obj = Obj.refusalCount then element < 32 else element < s.run.layersHeld)
      else element = 0)

/-- The counter that the 12 bytes of EventClear or EventMask name: object and element. -/
def namedCounter (value : Bytes) : Nat × Nat := (leAt value 0 2 * 256 + leAt value 2 1, leAt value 4 4)

/-- EventClear (R472): the flag clears when the value written is the counter's; a flag already clear stays so. -/
def eventClearEffect : WriteEffect := fun s value =>
  let n := namedCounter value
  let key := objKey n.1 n.2
  if !(s.isEventCounter n.1 n.2) then (statusRange, s)
  else if (SMap.find s.dict.flags key).isNone then (statusOk, s)
  else if leAt value 8 4 = s.dict.count n.1 n.2 then
    (statusOk, { s with dict := { s.dict with flags := SMap.erase s.dict.flags key } })
  else (statusStale, s)

/-- EVENT_CLEAR (R472, R476). -/
def execEventClear (w : ObjWrite) (s : State) : Host.Outcome State Fault Refusal :=
  act (.eventClear w) s (fun c => c.performWrite w Obj.eventClear eventClearEffect)

/-- EventMask (R475): a mask bit is set or cleared; a non-maskable event may not be masked. -/
def eventMaskEffect : WriteEffect := fun s value =>
  let n := namedCounter value
  let key := objKey n.1 n.2
  if !(s.isEventCounter n.1 n.2) || 1 < leAt value 3 1 then (statusRange, s)
  else if leAt value 3 1 = 1 then
    if nonMaskable.contains n.1 then (statusAccess, s)
    else (statusOk, { s with dict := { s.dict with masked := insertNat key s.dict.masked } })
  else (statusOk, { s with dict := { s.dict with masked := eraseNat key s.dict.masked } })

/-- EVENT_MASK (R475). -/
def execEventMask (w : ObjWrite) (s : State) : Host.Outcome State Fault Refusal :=
  act (.eventMask w) s (fun c => c.performWrite w Obj.eventMask eventMaskEffect)

/-! ### Saved settings (R462) -/

/-- Is an object among those that ConfigSave writes: RW or RWB, at 0x2000 to 0x8FFF, and none of the three that are never saved? -/
def savedObject (obj : Nat) : Bool :=
  0x2000 ≤ obj / 256 && obj / 256 ≤ 0x8FFF && obj ≠ Obj.runStartStep && obj ≠ Obj.wheelDrainStep && obj ≠ Obj.halfClockControl &&
    (match (objInfo obj).map ObjInfo.access with
     | some .rw => true
     | some .rwb => true
     | _ => false)

/-- The copy that ConfigSave writes: current values, pending ones in place of those in effect. -/
def Dict.savedCopy (d : Dict) : SavedConfig :=
  { values := SMap.keep (fun k _ => savedObject (k / 2 ^ 32)) (d.pending.foldl (fun m e => SMap.insert m e.1 e.2) d.settings)
    blobs := SMap.keep (fun k _ => savedObject (k / 2 ^ 32)) d.blobs }

/-- ConfigSave (R462): 1 saves. -/
def configSaveEffect : WriteEffect := fun s value =>
  (statusOk, if valueOf value = 1 then { s with dict := { s.dict with saved := some (s.dict.savedCopy, true) } } else s)

/-- CONFIG_SAVE (R462, R478). -/
def execConfigSave (w : ObjWrite) (s : State) : Host.Outcome State Fault Refusal :=
  act (.configSave w) s (fun c => c.performWrite w Obj.configSave configSaveEffect)

/-- The RWB objects that ConfigSave writes. -/
def heldPending : List Nat := (catalogue.filter (fun i => decide (i.access = .rwb) && savedObject i.obj)).map (·.obj)

/-- Every saved object at its default: an RW object at once, an RWB object at the next boundary (R459, R462). -/
def Dict.defaults (d : Dict) : Dict :=
  let rwb := heldPending.filter (fun o => d.get o ≠ objDefault o || (SMap.find d.pending (objKey o 0)).isSome)
  { d with
    settings := SMap.keep (fun k _ => !(savedObject (k / 2 ^ 32)) || heldPending.contains (k / 2 ^ 32)) d.settings
    blobs := SMap.keep (fun k _ => !(savedObject (k / 2 ^ 32))) d.blobs
    pending := rwb.foldl (fun m o => SMap.insert m (objKey o 0) (objDefault o)) d.pending
    configState := 0 }

/-- ConfigRestoreDefaults (R462): 1 restores the defaults and leaves the saved copy. -/
def configDefaultsEffect : WriteEffect := fun s value =>
  (statusOk, if valueOf value = 1 then { s with dict := s.dict.defaults } else s)

/-- CONFIG_RESTORE_DEFAULTS (R462, R478). -/
def execConfigRestoreDefaults (w : ObjWrite) (s : State) : Host.Outcome State Fault Refusal :=
  act (.configRestoreDefaults w) s (fun c => c.performWrite w Obj.configRestoreDefaults configDefaultsEffect)

/-! ### The effect of writing any object -/

/-- RindMode (R120): 1 is refused while any sequence slot is occupied. -/
def rindModeEffect : WriteEffect := fun s value =>
  if valueOf value = 1 ∧ s.serve.slots ≠ [] then (statusState, s) else pendEffect Obj.rindMode s value

/-- JoinWait is held in the boot control block (R497). -/
def joinWaitEffect : WriteEffect := fun s value => (statusOk, { s with boot := { s.boot with joinWait := valueOf value } })

/-- The objects whose write does more than hold a value, with what it does; `die` is the die of one at 0x3n00 or 0x4n00. -/
def ownEffects (die : Nat) : List (Nat × WriteEffect) :=
  [(Obj.eventClear, eventClearEffect), (Obj.eventMask, eventMaskEffect), (Obj.configSave, configSaveEffect),
   (Obj.configRestoreDefaults, configDefaultsEffect), (Obj.rindMode, rindModeEffect), (Obj.joinWait, joinWaitEffect),
   (Obj.halfService, halfServiceEffect), (Obj.halfClockControl, halfClockEffect), (Obj.sensorOverride, overrideEffect),
   (Obj.diePowerCycle, diePowerCycleEffect), (Obj.firmwareLoadRequest, firmwareLoadEffect), (Obj.handoverStep, handoverEffect),
   (Obj.measStart, measStartEffect), (Obj.coreMoveRequest, coreMoveEffect die), (Obj.rewriteRequest, rewriteEffect die),
   (Obj.runDigestList, digestListEffect), (Obj.runLoadRequest, runLoadEffect), (Obj.ownerRelease, ownerReleaseEffect),
   (Obj.wheelManifest, wheelManifestEffect), (Obj.wheelPlacement, wheelPlacementEffect),
   (Obj.publisherKeys, publisherKeysEffect), (Obj.wheelLoadRequest, wheelLoadEffect), (Obj.wheelUnload, wheelUnloadEffect),
   (Obj.cultureLoadRequest, cultureLoadEffect), (Obj.cultureUnload, cultureUnloadEffect),
   (Obj.pauseKeyExtend, pauseKeyExtendEffect), (Obj.ripenJobRequest, ripenJobEffect), (Obj.ripenJobStop, ripenStopEffect),
   (Obj.ripenPublishStep, ripenPublishEffect), (Obj.testPackLoadRequest, testPackEffect)]

/-- The effect of writing an object (R458). -/
def objEffect (obj : Nat) : WriteEffect :=
  match (ownEffects (objDie obj)).find? (fun e => e.1 = normObj obj) with
  | some e => e.2
  | none => if (objInfo obj).map (·.access) = some .rwb then pendEffect obj else storeEffect obj

/-! ### Dictionary frames (R463 to R466) -/

/-- The object a dictionary frame names: Index·256 + Sub. -/
def FrameView.obj (v : FrameView) : Nat := v.at 4 2 * 256 + v.at 6 1

/-- An inline value holds at most 208 bytes (R463). -/
def inlineLimit : Nat := 208

/-- The number of transfers a port holds open (R468). -/
def Dict.openOn (d : Dict) (p : Port) : Nat := (d.transfers.filter (fun t => t.port = p)).length

/-- The next TransferId: one that no open transfer has, and never 0. -/
def Dict.transferId (d : Dict) : Nat :=
  (((List.range 16).map (fun i => (d.nextId - 1 + i) % 65535 + 1)).find? (fun n => !(d.transfers.any (fun t => t.id = n)))).getD 1

/-- Open a transfer. -/
def Dict.openTransfer (d : Dict) (t : DictTransfer) : Dict := { d with transfers := d.transfers ++ [t], nextId := t.id % 65535 + 1 }

/-- The segment frames of a value from an offset on (R468, R469): More on every one but the last. -/
def segmentFrames (id : Nat) (value : Bytes) (offset : Nat) : List UpFrame :=
  (List.range (ceilDiv (value.length - offset) inlineLimit)).map (fun i =>
    let o := offset + inlineLimit * i
    let n := min inlineLimit (value.length - o)
    { type := 0x12, handle := 0, flags := if o + n = value.length then 0 else 1,
      payload := leBytes 2 id ++ zeros 2 ++ leBytes 4 o ++ leBytes 2 n ++ zeros 6 ++ bytesAt value o n })

/-- Queue segment frames on a port, in place of those of the same transfer still waiting. -/
def S8.queueSegments (s : S8) (p : Port) (id : Nat) (frames : List UpFrame) : S8 :=
  { s with ports := s.ports.set p { s.ports.get p with
    segments := (s.ports.get p).segments.filter (fun u => leAt u.payload 0 2 ≠ id) ++ frames } }

/-- Answer a read (R464). -/
def S8.answerRead (s : S8) (p : Port) (requestId obj status : Nat) (id : Nat) (value : Bytes) : S8 :=
  let whole := value.length ≤ inlineLimit
  s.answer p (dictAnswer 0x10 requestId obj status (if status = statusNoObject then 0 else typeCodeOf obj)
    (s.dict.answerFlags obj (!whole)) id value.length (if whole then value else []))

/-- May an object be read while no firmware runs? (R486) -/
def readAtStart (obj : Nat) : Bool := obj / 256 = 0x1000 || obj / 256 = 0x9000

/-- Read an object over a port: inline, or as a snapshot sent in segments (R458, R464 to R469). -/
def S8.readFrame (s : S8) (p : Port) (v : FrameView) : S8 :=
  let id := v.at 0 4
  let r := s.readObject v.obj
  let refuse (status : Nat) : S8 := s.answerRead p id v.obj status 0 []
  if requestLimit ≤ (s.ports.get p).answers.length then refuse statusBusy
  else if !(s.boot.anyFirmware) && !(readAtStart v.obj) then refuse statusState
  else if v.at 7 1 ≠ 0 then refuse statusRange
  else if r.2.length ≤ inlineLimit then s.answerRead p id v.obj r.1 0 r.2
  else if 4 ≤ s.dict.openOn p then refuse statusBusy
  else
    let t : DictTransfer :=
      { id := s.dict.transferId, port := p, write := false, obj := v.obj, requestId := id, length := r.2.length, segments := [],
        snapshot := r.2, lastCycle := s.ports.cycle }
    S8.queueSegments ({ s with dict := s.dict.openTransfer t }.answerRead p id v.obj statusOk t.id r.2) p t.id
      (segmentFrames t.id r.2 0)

/-- DICT_READ (R458, R464, R466, R469). -/
def execDictRead (f : Frame) (s : State) : Host.Outcome State Fault Refusal :=
  act (.dictRead f) s (fun c => c.receive f 0x10 (fun c v => c.readFrame f.port v))

/-- The value an inline write carries. -/
def FrameView.value (v : FrameView) : Bytes := bytesAt v.payload 16 (v.at 8 4)

/-- The effect of an inline write; a value beyond 208 bytes does not fit the frame. -/
def inlineEffect (obj length : Nat) : WriteEffect := fun s value =>
  if inlineLimit < length then (statusLength, s) else objEffect obj s value

/-- An inline write frame (Op 0), or one with no meaning of its own (Op above 2), which is answered with RANGE. -/
def S8.writeFrame (s : S8) (p : Port) (v : FrameView) : S8 :=
  if v.at 7 1 = 0 then s.writeObject p (v.at 0 4) v.obj v.value (inlineEffect v.obj (v.at 8 4))
  else if 2 < v.at 7 1 then s.answerWrite p (v.at 0 4) v.obj statusRange (v.at 8 4) []
  else s

/-- The limit that a good write frame breaks and that the S8 does not check (R3). -/
def S8.frameBreaks (s : S8) (f : Frame) : Option Nat :=
  match frameData f.raw with
  | none => none
  | some d =>
    let v := FrameView.ofData d
    if v.cycle = s.ports.cycle % 2 ^ 24 ∧ v.type = 0x11 ∧ v.at 7 1 = 0 then s.brokenMust f.port v.obj v.value else none

/-- DICT_WRITE (R458 to R460, R464, R466, R467). -/
def execDictWrite (f : Frame) (s : State) : Host.Outcome State Fault Refusal :=
  actOr (.dictWrite f) s (fun c =>
    match c.frameBreaks f with
    | some r => .error (.undefinedByR3 r)
    | none => .ok (c.receive f 0x11 (fun c v => c.writeFrame f.port v)))

/-! ### Segmented writes (R468, R470) -/

/-- The check of an open: access, and Length against the object. A value of 208 bytes or less is written inline. -/
def openCheck (obj length : Nat) : Nat :=
  match objInfo obj with
  | none => statusNoObject
  | some i =>
    match i.access with
    | .const => statusAccess
    | .ro => statusAccess
    | _ =>
      if i.type ≠ .domain ∨ (i.length ≠ 0 ∧ length ≠ i.length) ∨ length ≤ inlineLimit ∨ 2 ^ 24 < length then statusLength
      else statusOk

/-- Open a segmented write (R468, R470). -/
def S8.openWrite (s : S8) (p : Port) (v : FrameView) : S8 :=
  let id := v.at 0 4
  let n := v.at 8 4
  let refuse (status : Nat) : S8 := s.answerWrite p id v.obj status n []
  if requestLimit ≤ (s.ports.get p).answers.length then refuse statusBusy
  else if !(s.boot.anyFirmware) then refuse statusState
  else if s.ports.owner ≠ p then refuse statusNotOwner
  else if openCheck v.obj n ≠ statusOk then refuse (openCheck v.obj n)
  else if 4 ≤ s.dict.openOn p then refuse statusBusy
  else
    let t : DictTransfer :=
      { id := s.dict.transferId, port := p, write := true, obj := v.obj, requestId := id, length := n, segments := [],
        snapshot := [], lastCycle := s.ports.cycle }
    S8.answer { s with dict := s.dict.openTransfer t } p
      (dictAnswer 0x11 id v.obj statusOk (typeCodeOf v.obj) (s.dict.answerFlags v.obj false) t.id n [])

/-- SEGMENTED_WRITE_OPEN (R468, R470): a write frame with Op 1. -/
def execSegmentedWriteOpen (f : Frame) (s : State) : Host.Outcome State Fault Refusal :=
  act (.segmentedWriteOpen f) s (fun c => c.receive f 0x11 (fun c v => if v.at 7 1 = 1 then c.openWrite f.port v else c))

/-- The open transfer of a port under a number. -/
def Dict.transfer (d : Dict) (p : Port) (id : Nat) : Option DictTransfer := d.transfers.find? (fun t => t.port = p && t.id = id)

/-- Change an open transfer. -/
def Dict.setTransfer (d : Dict) (t : DictTransfer) : Dict :=
  { d with transfers := d.transfers.map (fun u => if u.id = t.id ∧ u.port = t.port then t else u) }

/-- Every byte of a segmented write is held: the value is checked, takes effect, and the final answer is sent (R470). -/
def S8.finishWrite (s : S8) (t : DictTransfer) : S8 :=
  let value := assemble t.length t.segments
  let s1 := { s with dict := { s.dict with transfers := s.dict.transfers.filter (fun u => u.id ≠ t.id ∨ u.port ≠ t.port) } }
  let r := if writeCheck t.obj value = statusOk then objEffect t.obj s1 value else (writeCheck t.obj value, s1)
  r.2.answer t.port (dictAnswer 0x11 t.requestId t.obj r.1 (typeCodeOf t.obj) (r.2.dict.answerFlags t.obj false) t.id t.length [])

/-- A data segment: held when it lies within the value; one that names no open write of its port does nothing (R468, R470). -/
def S8.takeSegment (s : S8) (p : Port) (v : FrameView) : S8 :=
  let offset := v.at 4 4
  let count := v.at 8 2
  match s.dict.transfer p (v.at 0 2) with
  | none => s
  | some t =>
    if !t.write || count = 0 || inlineLimit < count || t.length < offset + count then s
    else
      let t1 := { t with segments := t.segments ++ [(offset, bytesAt v.payload 16 count)], lastCycle := s.ports.cycle }
      let s1 := { s with dict := s.dict.setTransfer t1 }
      if segmentsCover t1.length t1.segments then s1.finishWrite t1 else s1

/-- SEGMENT_DATA (R468, R470). -/
def execSegmentData (f : Frame) (s : State) : Host.Outcome State Fault Refusal :=
  act (.segmentData f) s (fun c => c.receive f 0x12 (fun c v => if v.at 2 1 = 0 then c.takeSegment f.port v else c))

/-- SEGMENT_ABORT (R468, R470): a segment frame with Op 1. -/
def execSegmentAbort (f : Frame) (s : State) : Host.Outcome State Fault Refusal :=
  act (.segmentAbort f) s (fun c => c.receive f 0x12 (fun c v =>
    match c.dict.transfer f.port (v.at 0 2) with
    | some t => if v.at 2 1 = 1 then c.endTransfer t statusAborted else c
    | none => c))

/-- A write frame with Op 2 (R463, R470): the transfer it names ends ABORTED, and the frame is answered OK; one that names no open
transfer is answered STATE. -/
def S8.abortFrame (s : S8) (p : Port) (v : FrameView) : S8 :=
  let answer (s : S8) (status : Nat) : S8 := s.answerWrite p (v.at 0 4) v.obj status (v.at 8 4) []
  if requestLimit ≤ (s.ports.get p).answers.length then answer s statusBusy
  else if !(s.boot.anyFirmware) then answer s statusState
  else if s.ports.owner ≠ p then answer s statusNotOwner
  else
    match s.dict.transfer p (v.at 12 2) with
    | none => answer s statusState
    | some t => answer (s.endTransfer t statusAborted) statusOk

/-- TRANSFER_ABORT (R463, R470). -/
def execTransferAbort (f : Frame) (s : State) : Host.Outcome State Fault Refusal :=
  act (.transferAbort f) s (fun c => c.receive f 0x11 (fun c v => if v.at 7 1 = 2 then c.abortFrame f.port v else c))

/-- SEGMENT_RESEND (R468, R469): a segment frame with Op 2; the segments of a read are sent again from Offset. -/
def execSegmentResend (f : Frame) (s : State) : Host.Outcome State Fault Refusal :=
  act (.segmentResend f) s (fun c => c.receive f 0x12 (fun c v =>
    match c.dict.transfer f.port (v.at 0 2) with
    | some t =>
      if v.at 2 1 = 2 ∧ t.write = false ∧ v.at 4 4 < t.length then
        S8.queueSegments { c with dict := c.dict.setTransfer { t with lastCycle := c.ports.cycle } } f.port t.id
          (segmentFrames t.id t.snapshot (v.at 4 4))
      else c
    | none => c))

/-- SEGMENTED_READ_CLOSE (R469): the last segment is sent and no resend has come for 64 cycles. -/
def execSegmentedReadClose (port : Port) (id : BitVec 16) (s : State) : Host.Outcome State Fault Refusal :=
  act (.segmentedReadClose port id) s (fun c =>
    match c.dict.transfer port id.toNat with
    | some t =>
      if t.write = false ∧ 64 ≤ c.ports.cycle - t.lastCycle ∧ (c.ports.get port).segments.all (fun u => leAt u.payload 0 2 ≠ t.id)
      then c.endTransfer t statusOk else c
    | none => c)

/-- SEGMENTED_WRITE_TIMEOUT (R470): no segment for 4,096 cycles. -/
def execSegmentedWriteTimeout (port : Port) (id : BitVec 16) (s : State) : Host.Outcome State Fault Refusal :=
  act (.segmentedWriteTimeout port id) s (fun c =>
    match c.dict.transfer port id.toNat with
    | some t => if t.write ∧ 4096 ≤ c.ports.cycle - t.lastCycle then c.endTransfer t statusTimeout else c
    | none => c)

end Sys2Proof.Machine
end

