-- ==== Sys2Proof/Machine/Boundary.lean ====
section
/-! DEFINITION. The step boundary (R22, R179 to R185, R210 to R214, R225, R369, R371, R459, R495): the end of the step, losses,
sheets that start, end and change, pending settings, and every change that a chapter schedules for the boundary. -/

namespace Sys2Proof.Machine

/-! ### The end of the step -/

/-- Does the step end? A step of a run ends at its release tick; an idle step, and a step of a module that is cut off from its
releases, ends at the step bound (R183, R262, R459). -/
def S8.stepEnds (s : S8) : Bool := s.run.running.isNone || s.run.release.isSome || s.fab.isolated

/-- The step at whose end a task of the running sheet must have ended (R225). -/
def Run.taskDue (r : Run) (index : Nat) (t : CoreTask) : Nat := SMap.getD r.atomicUntil index (r.step + (max 1 t.atomic - 1))

/-- Tasks still running at the boundary at which their Atomic span ends are ended and raise TaskOverrun, their cores' registers not
retained (R230); the others go on into the next step (R225). -/
def S8.endTasks (s : S8) : S8 :=
  match s.run.running with
  | none => s
  | some sh =>
    (sh.tasks.zipIdx.filter (fun e => !(s.run.tasksEnded.contains e.2))).foldl (fun a e =>
      if s.run.taskDue e.2 e.1 ≤ s.run.step then
        S8.raise (S8.forgetRegisters { a with run := { a.run with atomicUntil := SMap.erase a.run.atomicUntil e.2 } } e.1.core.key)
          Obj.taskOverrunCount 0 1 (unitField 3 e.1.core.key) e.2
      else { a with run := { a.run with atomicUntil := SMap.insert a.run.atomicUntil e.2 (s.run.taskDue e.2 e.1) } }) s

/-- The length of the step is reported (R215), and the step number advances. -/
def S8.advanceStep (s : S8) : S8 :=
  let length := (s.run.release).getD 65536
  { s with run := { s.run with
    lastTicks := length
    maxTicks := if s.run.running.isSome then max s.run.maxTicks length else s.run.maxTicks
    step := s.run.step + 1 } }

/-! ### Losses (R32, R213, R214, R327) -/

/-- What a die's vats hold is lost with it: work on them ends, and the blocks placed on them are to be read-verified again when the
die returns (R32, R495). -/
def S8.loseContent (s : S8) (die : Nat) : S8 :=
  let other (k : Nat) : Bool := vatDie k ≠ die
  let base (u : Wheel) : Wheel :=
    { u with
      ready := u.ready.filter (fun i => (u.placement[i]?.map (fun p => other (vatOfWord p.vat))).getD true)
      targets := ((s.wheels.holders s.vats u).filter (fun e => !(other e.2))).foldl (fun m e => SMap.insert m e.1 e.2) u.targets }
  { s with
    turn := { s.turn with
      quality := SMap.mapVal (fun k q => if other k then q else { q with calibrated := false }) s.turn.quality
      calibrations := SMap.keep (fun k _ => other k) s.turn.calibrations
      localisations := SMap.keep (fun k _ => other k) s.turn.localisations
      absorbing := SMap.keep (fun k _ => other k) s.turn.absorbing
      moving := SMap.keep (fun k _ => other k) s.turn.moving
      programming := s.turn.programming.filter other }
    wheels := { s.wheels with table := s.wheels.table.map base } }

/-- Dies are lost at the boundary: the tracks that touch them close, and the closed tracks of the run are those that the release flit
names; the sequences that newly closed tracks carry end, ripening jobs fail, and the die's degraded sheet is due in 64 steps (R32,
R213, R214, R327, R395). -/
def S8.takeLosses (s : S8) : S8 :=
  let losing := s.run.losing
  let closing := s.closingTracks
  let fresh := closing.filter (fun t => !(s.run.closed.contains t))
  let switchTo := match losing with
    | [d] =>
      if s.run.running.isSome && s.run.degradedDie = 0xFF && (SMap.find s.run.degraded d).isSome && s.run.switchTo.isNone
      then some (d, s.run.step + 64) else s.run.switchTo
    | _ => s.run.switchTo
  let s1 : S8 := { s with run := { s.run with
    lostDies := losing.foldl (fun l d => insertNat d l) s.run.lostDies
    closed := closing
    ownClosed := (s.run.ownClosed ++ s.losingTracks).eraseDups
    switchTo := switchTo } }
  let s2 := if losing = [] ∧ fresh = [] then s1 else s1.breakPromises fresh (losing ≠ [])
  let s3 := if losing = [] then s2 else s2.ripenDiesLost losing
  losing.foldl (fun s d => s.loseContent d) s3

/-- The coordinator and firmware at the boundary; when the coordinator changes, open segmented transfers end ABORTED (R489, R492). -/
def S8.firmwareBoundary (s : S8) : S8 :=
  let s1 := s.bootBoundary
  if s1.boot.coordinator = s.boot.coordinator then s1
  else s1.dict.transfers.foldl (fun a t => a.endTransfer t statusAborted) s1

/-! ### The end of a run, and the start of the next (R179, R210, R212, R369, R371) -/

/-- The run ends: its energy is reported and ripening stops (R371, R395, R440). -/
def S8.endRun (s : S8) : S8 :=
  let s1 := s.stopJobs
  { s1 with
    run := { s1.run with
      running := none, base := none, degraded := [], degradedDie := 0xFF, switchTo := none, oldSheet := none, closed := []
      ownClosed := [], farLost := [], atomicUntil := [] }
    power := { s1.power with lastRun := s1.power.run, run := 0 } }

/-- The drain of R371: at the end of step X the run ends, with every sequence in flight paused to the cellar. The step number has
already been advanced. -/
def S8.drain (s : S8) : S8 :=
  if s.dict.get Obj.wheelDrainStep = 0 ∨ s.run.step ≤ s.dict.get Obj.wheelDrainStep then s
  else
    let s1 : S8 := match s.run.running with
      | none => s
      | some sh => (s.pauseAll sh).endRun
    { s1 with dict := s1.dict.store Obj.wheelDrainStep 0 }

/-- RestorePagesPerStep of a sheet (R336): 84 GB/s × CellarRestoreShare × the shortest step in ns / 16,384 bytes. -/
def S8.restoreRate (s : S8) (sh : Sheet) : Nat :=
  84 * s.dict.get Obj.cellarRestoreShare * (sh.header.minDone + sh.header.barrierLead) / (100 * 16384)

/-- The last step in which the old mapping of a version switch at a step is used (R369). -/
def Sheet.lastOldStep (old : Sheet) (start : Nat) : Nat := start + old.header.phases - 2 + 63 * old.header.attentionPhases

/-- The loaded degraded sheets, by die (R210). -/
def Run.loadedDegraded (r : Run) : SMap Sheet :=
  (r.buffers.filterMap (fun e => if e.1 = 0 ∨ e.2.state ≠ 3 then none else e.2.sheet.map (fun sh => (e.1 - 1, sh))))

/-- The loaded run starts with the step (R210, R212, R293, R336, R369, R395, R440). -/
def S8.startRun (s : S8) (sh : Sheet) : S8 :=
  let m := s.run.step
  let keeps := (s.run.running.map (fun old => s.keepsRun (s.run.base.getD old) sh s.run.loadedDegraded)).getD false
  let s1 : S8 := match s.run.running with
    | none => s
    | some old => if keeps then s else s.pauseAll old
  let old := match s.run.running with
    | some o => if keeps && o.header.wheelVersion ≠ sh.header.wheelVersion then some (o, o.lastOldStep m) else none
    | none => none
  let lastRun := if s.run.running.isSome then s1.power.run else s1.power.lastRun
  let s2 := s1.stopJobs
  { s2 with
    run := { s2.run with
      running := some sh
      base := some sh
      degraded := s2.run.loadedDegraded
      degradedDie := 0xFF
      switchTo := none
      oldSheet := old
      moduleIndex := some sh.header.moduleIndex
      origin := if keeps then s2.run.origin else m
      closed := []
      ownClosed := []
      farLost := []
      lostChildren := []
      atomicUntil := []
      maxTicks := 0
      buffers := SMap.mapVal (fun _ b => { b with state := 0, reason := 0, record := 0, sheet := none }) s2.run.buffers
      windowSteps := 0
      windowEnergy := 0
      mismatches := [] }
    power := { s2.power with lastRun := lastRun, run := 0, scale := 65536 }
    cellar := { s2.cellar with restorePages := s2.restoreRate sh }
    fab := { s2.fab with isolated := false }
    attn := { s2.attn with blocks := s2.dict.get Obj.pageTableBlocks } }

/-! ### Degraded sheets and the return of a die (R214, R495) -/

/-- The re-home vats of a die leave service: State 0 now, free one step later (R22, R495). -/
def S8.retireRehomed (s : S8) (die : Nat) : S8 :=
  s.wheels.table.foldl (fun a u =>
    let gone := u.placement.zipIdx.filter (fun e => e.1.lostDie = die)
    let held := (s.wheels.holders s.vats u).filter (fun e => gone.any (fun g => g.2 = e.1))
    let a1 := held.foldl (fun a e => a.retireVat e.2) a
    { a1 with wheels := a1.wheels.set u.key (fun v => { v with
      ready := v.ready.filter (fun i => !(gone.any (fun g => g.2 = i)))
      targets := SMap.keep (fun i _ => !(gone.any (fun g => g.2 = i))) v.targets
      tries := SMap.keep (fun i _ => !(gone.any (fun g => g.2 = i))) v.tries }) }) s

/-- A die's engines join the stripe list, and the die no longer counts as rejoining (R495). -/
def S8.rejoined (s : S8) (die : Nat) : S8 :=
  { s with
    attn := { s.attn with retired := s.attn.retired.filter (fun e => e / 2 ≠ die) }
    boot := { s.boot with rejoining := eraseNat die s.boot.rejoining } }

/-- Degraded sheet `die` becomes the running sheet; the tracks it serves reopen (R214). -/
def S8.toDegraded (s : S8) (die : Nat) (sh : Sheet) : S8 :=
  { s with run := { s.run with
    running := some sh
    degradedDie := die
    switchTo := none
    atomicUntil := []
    closed := s.run.closed.filter (fun n => sh.tracks.any (fun t => t.number = n && field t.dieMask die 1 = 1))
    ownClosed := s.run.ownClosed.filter (fun n => sh.tracks.any (fun t => t.number = n && field t.dieMask die 1 = 1)) } }

/-- The base sheet becomes the running sheet again; the closed tracks reopen (R495). -/
def S8.toBase (s : S8) (sh : Sheet) : S8 :=
  let s1 : S8 := { s with run := { s.run with
    running := some sh, degradedDie := 0xFF, switchTo := none, atomicUntil := [], closed := [], ownClosed := [] } }
  (s1.boot.rejoining.filter s1.dieServes).foldl (fun a d => (a.rejoined d).retireRehomed d) s1

/-- The sheet that is due becomes the running sheet, at the first boundary by which its re-homed shards are READY (R214, R495). -/
def S8.switchSheet (s : S8) : S8 :=
  match s.run.switchTo with
  | none => s
  | some (which, due) =>
    if s.run.step < due ∨ !(s.rehomed which) then s
    else if which = 0xFF then (match s.run.base with | none => s | some sh => s.toBase sh)
    else (match SMap.find s.run.degraded which with | none => s | some sh => s.toDegraded which sh)

/-- The tables of the vats that hold content on a returning die are written from the golden partition (R490, R495). -/
def S8.restoreDie (s : S8) (die : Nat) : S8 :=
  (s.wheels.content.filter (fun e => vatDie e.1 = die && s.mem.vatState e.1 = 0)).foldl (fun a e => a.rebuildVat e.1 e.2.1) s

/-- A die that rejoined: its vats are restored; once the base sheet's blocks are read-verified and every unit it names is backed,
the base sheet is due in 64 steps; with no degraded sheet in use the die is back at once (R495). -/
def S8.rejoinDie (s : S8) (die : Nat) : S8 :=
  if !(s.dieServes die) then s
  else
    let s1 := s.restoreDie die
    let due := (s1.run.switchTo.map (fun e => e.1)).getD die
    if s1.run.degradedDie = die ∨ s1.run.switchTo.isSome then
      match s1.run.base with
      | none => s1
      | some sh =>
        if s1.rehomed 0xFF && (s1.checkUnits sh).isNone && (s1.checkTrees sh).isNone && decide (due = die) then
          { s1 with run := { s1.run with switchTo := some (0xFF, s1.run.step + 64) } }
        else s1
    else s1.rejoined die

/-- Which sheet runs in the step that begins: a drained or starting run, or a switch that is due. With another sheet, each half's agent
is settled anew (R234). -/
def S8.sheetBoundary (s : S8) : S8 :=
  let s1 := s.drain
  let s2 : S8 := match s1.startsAt s1.run.step with
    | some sh => s1.startRun sh
    | none => s1.switchSheet
  let s3 := s2.boot.rejoining.foldl (fun a d => a.rejoinDie d) s2
  let s4 := if s3.run.running = s.run.running then s3 else (halves.filter s3.halfServes).foldl (fun a h => a.settleAgent h) s3
  { s4 with run := { s4.run with
    oldSheet := s4.run.oldSheet.filter (fun e => s4.run.step ≤ e.2) } }

/-! ### Pending settings (R459) -/

/-- Does a pending value fail its object's condition at the boundary? (R120, R453, R459) -/
def S8.pendingFails (s : S8) (key value : Nat) : Bool :=
  (key = objKey Obj.halfService 0 && s.run.barsService value) ||
    (key = objKey Obj.rindMode 0 && value = 1 && decide (s.serve.slots ≠ []))

/-- Pending RWB values are checked again and take effect, or are discarded and counted (R459). -/
def S8.applyPending (s : S8) : S8 :=
  let bad := s.dict.pending.filter (fun e => s.pendingFails e.1 e.2)
  let good := s.dict.pending.filter (fun e => !(s.pendingFails e.1 e.2))
  S8.raise { s with dict := { s.dict with
    settings := good.foldl (fun m e => SMap.insert m e.1 e.2) s.dict.settings
    pending := [] } } Obj.rwbDiscardCount 0 bad.length 0 ((bad.map (fun e => e.1 / 2 ^ 32)).headD 0)

/-! ### What lasts for one step -/

/-- The vats' and rind units' work of the step is over; what was posted for the next step is its slots (R78, R80, R223). -/
def Vats.newStep (v : Vats) : Vats :=
  { v with
    posted := v.postedNext
    postedNext := v.postedLater, postedLater := [], granted := [], patched := [], flights := [], slotsDone := [], firsts := [], waiting := [], releasing := []
    decided := [], holds := [], sets := [], operands := [], outgoing := [], delivered := [], unitsPoisoned := []
    carried := v.savedNow.foldl (fun l k => insertNat k l) v.carried
    savedNow := []
    readsServed := [] }

/-- The barrier's and the step's own collections are empty (R182, R260). -/
def Run.newStep (r : Run) : Run :=
  { r with
    release := none, dones := [], halfDone := [], overrun := [], announced := [], closing := [], belowOverrun := false, losing := []
    farLost := (r.farLost ++ r.announced).eraseDups
    sentDone := false
    tasksEnded := [], transfersSent := [], transfersArrived := [], workTick := [] }

/-- Both. -/
def S8.newStep (s : S8) : S8 := { s with vats := s.vats.newStep, run := s.run.newStep }

/-! ### STEP_BOUNDARY -/

/-- Everything that ends with the step, up to the sheet that runs next. -/
def S8.closeStep (s : S8) : S8 := (s.powerBoundary.endTasks.advanceStep.takeLosses.firmwareBoundary.sheetBoundary.applyPending).newStep

/-- Every change that the chapters schedule for the boundary, in the order of the chapters; serving and its fetch windows come
last, because they read the maps and tables of the step that begins. A half to which the step gives no work is done with its slots
(R182). -/
def S8.openStep (s : S8) : S8 :=
  let s1 : S8 := { s with fab := s.fab.boundary }
  let s2 := s1.retireRows.coreBoundary.turnBoundary.wheelBoundary.cultureBoundary.ripenBoundary.trierBoundary.testBoundary
  s2.attentionBoundary.withdrawFrames.serveBoundary.ripenLanes.fetchBoundary.mirrorState.judge

/-- The step boundary: the next step starts at the release tick (R183). -/
def S8.stepBoundary (s : S8) : S8 := if s.stepEnds then s.closeStep.openStep else s

/-- STEP_BOUNDARY (R183). -/
def execStepBoundary (s : State) : Host.Outcome State Fault Refusal := act .stepBoundary s S8.stepBoundary

end Sys2Proof.Machine
end

