-- ==== Sys2Proof/Machine/Crossings.lean ====
section
/-! DEFINITION. The asynchronous crossings of a die (R13, R451 to R453): what a timeout ends, isolates and retires. -/

namespace Sys2Proof.Machine

/-- Does a transfer that a core has under way cross a seam crossing of a die, on its way to its source or to its destination? (R222,
R239) -/
def S8.crossesSeam (s : S8) (die row key : Nat) (t : RowTransfer) : Bool :=
  t.status.isNone && [t.source, t.dest].any (fun a => (s.crossingsTo (key / 16 / 36) (key / 16 % 36) a).contains (8 * die + row))

/-- End the row transfers that cross a seam crossing with status 1; a core that waits for one goes on (R222, R453). -/
def S8.seamLost (s : S8) (die row : Nat) : S8 :=
  (s.cores.transfers.filter (fun e => s.crossesSeam die row e.1 e.2)).foldl
    (fun a e => a.xferEnd (e.1 / 16) (e.1 % 16) 1 e.2) s

/-- The number under which a crossing is kept isolated (R452). -/
def crossingKey (x : Crossing) : Nat :=
  match x with
  | .seam d k => 8 * d.val + k.val
  | .bridge n => 64 + n.val
  | .core c => 128 + coreKey c
  | .rind u => 1024 + unitKey u
  | .engine e => 2048 + e.val

/-- A crossing times out (R452): it isolates itself and discards its words; a seam raises SeamTimeout, a bridge
BridgeFault, any other CrossingTimeout with the unit on its stopped side retired. -/
def S8.crossingLost (s : S8) (x : Crossing) : S8 :=
  let clock := { s.clock with isolated := insertNat (crossingKey x) s.clock.isolated }
  match x with
  | .seam d k =>
    S8.seamLost { s with
      clock := clock
      dict := s.dict.raise s.run.step Obj.seamTimeoutCount 0 1 (unitField 1 d.val) k.val } d.val k.val
  | .bridge n =>
    { s with
      clock := clock
      dict := s.dict.raise s.run.step Obj.bridgeFaultCount 0 1 (unitField 9 n.val) 0
      run := s.bridgeLoss n.val }
  | .core c =>
    let name := s.cores.nameOf (coreKey c)
    let s1 : S8 := { s with
      clock := clock
      cores := { s.cores with states := SMap.insert s.cores.states (coreKey c) 4 }
      dict := s.dict.raise s.run.step Obj.crossingTimeoutCount 0 1 (unitField 3 name) 0 }
    if name % 36 < 32 ∧ s.cores.physical name = coreKey c then s1.retireCore name else s1.settleAgent (coreKey c / 36)
  | .rind u =>
    { s with
      clock := clock
      dict := s.dict.raise s.run.step Obj.crossingTimeoutCount 0 1 (unitField 7 (unitKey u)) 0 }.retireUnit (unitKey u)
  | .engine e =>
    { s with
      clock := clock
      attn := { s.attn with retired := insertNat e.val s.attn.retired }
      dict := s.dict.raise s.run.step Obj.crossingTimeoutCount 0 1 (unitField 2 e.val) 0
      run := match s.run.running with
        | none => s.run
        | some sh => if sh.attention = [] then s.run else s.run.lose (e.val / 2) }

/-- CROSSING_TIMEOUT (R452). -/
def execCrossingTimeout (x : Crossing) (s : State) : Host.Outcome State Fault Refusal :=
  act (.crossingTimeout x) s (fun c =>
    if c.clock.isolated.contains (crossingKey x) then c else c.crossingLost x)

end Sys2Proof.Machine
end

