-- ==== Sys2Proof/Machine/Dispatch.lean ====
section
/-! DEFINITION. The effect of each command: one arm for each constructor of Instr, each a direct call of the command's
meaning. -/

namespace Sys2Proof.Machine

def exec (i : Instr) (s : State) : Host.Outcome State Fault Refusal :=
  match i with
  | .memoryAccess a => Sys2Proof.Machine.execMemoryAccess a s
  | .stepBoundary => Sys2Proof.Machine.execStepBoundary s
  | .stepOverrun die half => Sys2Proof.Machine.execStepOverrun die half s
  | .fetchWindow vat slot upset => Sys2Proof.Machine.execFetchWindow vat slot upset s
  | .highPour vat slot => Sys2Proof.Machine.execHighPour vat slot s
  | .lowPour vat slot => Sys2Proof.Machine.execLowPour vat slot s
  | .doublePour vat slot => Sys2Proof.Machine.execDoublePour vat slot s
  | .reversePour vat slot => Sys2Proof.Machine.execReversePour vat slot s
  | .pourCodesReachRind vat slot codes tick upset => Sys2Proof.Machine.execPourCodesReachRind vat slot codes tick upset s
  | .reserveDecision vat slot => Sys2Proof.Machine.execReserveDecision vat slot s
  | .unrepairedRelease vat lane tick upset => Sys2Proof.Machine.execUnrepairedRelease vat lane tick upset s
  | .reductionRead reduction tick mesh => Sys2Proof.Machine.execReductionRead reduction tick mesh s
  | .addNode reduction lane node tick mesh => Sys2Proof.Machine.execAddNode reduction lane node tick mesh s
  | .transferStart transfer => Sys2Proof.Machine.execTransferStart transfer s
  | .transferArrived lane transfer tick => Sys2Proof.Machine.execTransferArrived lane transfer tick s
  | .carrySave unit reduction lane => Sys2Proof.Machine.execCarrySave unit reduction lane s
  | .carryRestore unit reduction lane upset => Sys2Proof.Machine.execCarryRestore unit reduction lane upset s
  | .calibrationStart vat => Sys2Proof.Machine.execCalibrationStart vat s
  | .calibrationComplete vat roundA roundB => Sys2Proof.Machine.execCalibrationComplete vat roundA roundB s
  | .referenceCheck codes => Sys2Proof.Machine.execReferenceCheck codes s
  | .measStartEdge => Sys2Proof.Machine.execMeasStartEdge s
  | .measStart w => Sys2Proof.Machine.execMeasStart w s
  | .measConversionDone nanovolts => Sys2Proof.Machine.execMeasConversionDone nanovolts s
  | .measFirmwareHoldExpire => Sys2Proof.Machine.execMeasFirmwareHoldExpire s
  | .localisationStageDone vat group found => Sys2Proof.Machine.execLocalisationStageDone vat group found s
  | .absorbPulseVerify vat row col trueCell complementCell => Sys2Proof.Machine.execAbsorbPulseVerify vat row col trueCell complementCell s
  | .columnMoveDone vat col => Sys2Proof.Machine.execColumnMoveDone vat col s
  | .programmeVerifyDone vat off gainStep => Sys2Proof.Machine.execProgrammeVerifyDone vat off gainStep s
  | .rewriteRequest die w => Sys2Proof.Machine.execRewriteRequest die w s
  | .rewriteStart vat => Sys2Proof.Machine.execRewriteStart vat s
  | .wearCountSave => Sys2Proof.Machine.execWearCountSave s
  | .runLoadRequest w => Sys2Proof.Machine.execRunLoadRequest w s
  | .runLoadComplete => Sys2Proof.Machine.execRunLoadComplete s
  | .runStartStep w => Sys2Proof.Machine.execRunStartStep w s
  | .barrierDoneRx f => Sys2Proof.Machine.execBarrierDoneRx f s
  | .barrierReleaseRx f => Sys2Proof.Machine.execBarrierReleaseRx f s
  | .barrierIsolatedRx f => Sys2Proof.Machine.execBarrierIsolatedRx f s
  | .xferRow core machineMode rd rs1 rs2 => Sys2Proof.Machine.execXferRow core machineMode rd rs1 rs2 s
  | .xferWait core rd rs1 => Sys2Proof.Machine.execXferWait core rd rs1 s
  | .xferComplete core tag upset mesh => Sys2Proof.Machine.execXferComplete core tag upset mesh s
  | .pourPost core rd rs1 rs2 tick => Sys2Proof.Machine.execPourPost core rd rs1 rs2 tick s
  | .pourPatch core rd rs1 rs2 tick => Sys2Proof.Machine.execPourPatch core rd rs1 rs2 tick s
  | .accRd core rs1 rs2 => Sys2Proof.Machine.execAccRd core rs1 rs2 s
  | .accWr core rd rs1 rs2 => Sys2Proof.Machine.execAccWr core rd rs1 rs2 s
  | .taskEnd core rs1 tick => Sys2Proof.Machine.execTaskEnd core rs1 tick s
  | .stepWait core rd => Sys2Proof.Machine.execStepWait core rd s
  | .vencN8 core vd vs1 => Sys2Proof.Machine.execVencN8 core vd vs1 s
  | .vrndN8 core vd vs1 => Sys2Proof.Machine.execVrndN8 core vd vs1 s
  | .vrndW16 core vd vs1 => Sys2Proof.Machine.execVrndW16 core vd vs1 s
  | .valign core vd vs1 rs2 => Sys2Proof.Machine.execValign core vd vs1 rs2 s
  | .illegalCustom core machineMode word => Sys2Proof.Machine.execIllegalCustom core machineMode word s
  | .coreMoveRequest die w => Sys2Proof.Machine.execCoreMoveRequest die w s
  | .taskBuildPourVectors task lane => Sys2Proof.Machine.execTaskBuildPourVectors task lane s
  | .taskRound task lane => Sys2Proof.Machine.execTaskRound task lane s
  | .taskNormActivation task lane => Sys2Proof.Machine.execTaskNormActivation task lane s
  | .taskAttentionCombine layer lane node => Sys2Proof.Machine.execTaskAttentionCombine layer lane node s
  | .taskSample task lane => Sys2Proof.Machine.execTaskSample task lane s
  | .taskRoute group => Sys2Proof.Machine.execTaskRoute group s
  | .taskEmbed task lane => Sys2Proof.Machine.execTaskEmbed task lane s
  | .taskRipening job task lane => Sys2Proof.Machine.execTaskRipening job task lane s
  | .taskTrierCheck die half record core error => Sys2Proof.Machine.execTaskTrierCheck die half record core error s
  | .taskTransferStaging task lane => Sys2Proof.Machine.execTaskTransferStaging task lane s
  | .taskFirmware die half => Sys2Proof.Machine.execTaskFirmware die half s
  | .bulkFlitRx f => Sys2Proof.Machine.execBulkFlitRx f s
  | .creditFlitRx f => Sys2Proof.Machine.execCreditFlitRx f s
  | .nakRx f => Sys2Proof.Machine.execNakRx f s
  | .laneNoticeRx f => Sys2Proof.Machine.execLaneNoticeRx f s
  | .reductionTokenRx f => Sys2Proof.Machine.execReductionTokenRx f s
  | .reductionTokenTimeout lane transfer => Sys2Proof.Machine.execReductionTokenTimeout lane transfer s
  | .tickExchange tick16 => Sys2Proof.Machine.execTickExchange tick16 s
  | .tickFlitRx f arrival16 => Sys2Proof.Machine.execTickFlitRx f arrival16 s
  | .laneTraining lane peerModule peerDie peerLane latency16 => Sys2Proof.Machine.execLaneTraining lane peerModule peerDie peerLane latency16 s
  | .laneSignalLoss lane => Sys2Proof.Machine.execLaneSignalLoss lane s
  | .laneFail lane => Sys2Proof.Machine.execLaneFail lane s
  | .bridgeWireFail bridge => Sys2Proof.Machine.execBridgeWireFail bridge s
  | .attentionWalk engine layer lane upset => Sys2Proof.Machine.execAttentionWalk engine layer lane upset s
  | .admitRequest f => Sys2Proof.Machine.execAdmitRequest f s
  | .cancel f => Sys2Proof.Machine.execCancel f s
  | .pause f => Sys2Proof.Machine.execPause f s
  | .resume f => Sys2Proof.Machine.execResume f s
  | .idleFrame f => Sys2Proof.Machine.execIdleFrame f s
  | .controlCycleBoundary => Sys2Proof.Machine.execControlCycleBoundary s
  | .ownerRelease w => Sys2Proof.Machine.execOwnerRelease w s
  | .bulkPromptTokens f => Sys2Proof.Machine.execBulkPromptTokens f s
  | .bulkMakeSheet f => Sys2Proof.Machine.execBulkMakeSheet f s
  | .bulkWeightShard f => Sys2Proof.Machine.execBulkWeightShard f s
  | .bulkTestPack f => Sys2Proof.Machine.execBulkTestPack f s
  | .bulkCulture f => Sys2Proof.Machine.execBulkCulture f s
  | .bulkFirmware f => Sys2Proof.Machine.execBulkFirmware f s
  | .pauseImageWritten slot => Sys2Proof.Machine.execPauseImageWritten slot s
  | .restoreComplete slot read => Sys2Proof.Machine.execRestoreComplete slot read s
  | .cellarPageRead stripe die corrected uncorrectable retries => Sys2Proof.Machine.execCellarPageRead stripe die corrected uncorrectable retries s
  | .scrubPass stripe retries corrected read => Sys2Proof.Machine.execScrubPass stripe retries corrected read s
  | .cellarRebuild stripe => Sys2Proof.Machine.execCellarRebuild stripe s
  | .cellarSecond => Sys2Proof.Machine.execCellarSecond s
  | .pauseKeyExtend w => Sys2Proof.Machine.execPauseKeyExtend w s
  | .wheelLoadRequest w => Sys2Proof.Machine.execWheelLoadRequest w s
  | .shardReceived shard => Sys2Proof.Machine.execShardReceived shard s
  | .shardTimeout shard => Sys2Proof.Machine.execShardTimeout shard s
  | .shardRetryWait shard => Sys2Proof.Machine.execShardRetryWait shard s
  | .shardDataFlit f => Sys2Proof.Machine.execShardDataFlit f s
  | .shardRequestFlit f => Sys2Proof.Machine.execShardRequestFlit f s
  | .blockReadVerified vat => Sys2Proof.Machine.execBlockReadVerified vat s
  | .wheelUnload w => Sys2Proof.Machine.execWheelUnload w s
  | .wheelDrainStep w => Sys2Proof.Machine.execWheelDrainStep w s
  | .cultureLoadRequest w => Sys2Proof.Machine.execCultureLoadRequest w s
  | .cultureWriteComplete place verified => Sys2Proof.Machine.execCultureWriteComplete place verified s
  | .cultureUnload w => Sys2Proof.Machine.execCultureUnload w s
  | .ripenJobRequest w => Sys2Proof.Machine.execRipenJobRequest w s
  | .ripenJobStop w => Sys2Proof.Machine.execRipenJobStop w s
  | .ripenPublishStep w => Sys2Proof.Machine.execRipenPublishStep w s
  | .ripenUpdate job => Sys2Proof.Machine.execRipenUpdate job s
  | .ripenPartReady job => Sys2Proof.Machine.execRipenPartReady job s
  | .trierSample unit => Sys2Proof.Machine.execTrierSample unit s
  | .trierVerdictTimeout die half record => Sys2Proof.Machine.execTrierVerdictTimeout die half record s
  | .replicaDigestCheck => Sys2Proof.Machine.execReplicaDigestCheck s
  | .coreTestDue core => Sys2Proof.Machine.execCoreTestDue core s
  | .testOverdue core => Sys2Proof.Machine.execTestOverdue core s
  | .coreTestComplete core passed => Sys2Proof.Machine.execCoreTestComplete core passed s
  | .vatTest vat kernel codes recomputed => Sys2Proof.Machine.execVatTest vat kernel codes recomputed s
  | .routerTest die half position expected got => Sys2Proof.Machine.execRouterTest die half position expected got s
  | .testPackLoadRequest w => Sys2Proof.Machine.execTestPackLoadRequest w s
  | .sramScrub word found => Sys2Proof.Machine.execSramScrub word found s
  | .dramScrub word found => Sys2Proof.Machine.execDramScrub word found s
  | .capLoop average => Sys2Proof.Machine.execCapLoop average s
  | .powerMonitorCompare input rails => Sys2Proof.Machine.execPowerMonitorCompare input rails s
  | .estimateWindow measured => Sys2Proof.Machine.execEstimateWindow measured s
  | .droopTrip die half period => Sys2Proof.Machine.execDroopTrip die half period s
  | .droopRecover die half => Sys2Proof.Machine.execDroopRecover die half s
  | .droopFault die half => Sys2Proof.Machine.execDroopFault die half s
  | .thermalSample die half readings => Sys2Proof.Machine.execThermalSample die half readings s
  | .thermalModel die half sensor predicted => Sys2Proof.Machine.execThermalModel die half sensor predicted s
  | .sensorOverride w => Sys2Proof.Machine.execSensorOverride w s
  | .dieTrip die => Sys2Proof.Machine.execDieTrip die s
  | .diePowerCycle w => Sys2Proof.Machine.execDiePowerCycle w s
  | .diePowerRestore die => Sys2Proof.Machine.execDiePowerRestore die s
  | .energySave => Sys2Proof.Machine.execEnergySave s
  | .inletHigh temp => Sys2Proof.Machine.execInletHigh temp s
  | .inletNormal temp => Sys2Proof.Machine.execInletNormal temp s
  | .clockMonitorWindow die count => Sys2Proof.Machine.execClockMonitorWindow die count s
  | .missingEdge die => Sys2Proof.Machine.execMissingEdge die s
  | .oscDiscipline die deviation => Sys2Proof.Machine.execOscDiscipline die deviation s
  | .holdoverSteer die => Sys2Proof.Machine.execHoldoverSteer die s
  | .halfClockControl w => Sys2Proof.Machine.execHalfClockControl w s
  | .halfPllLocked die half => Sys2Proof.Machine.execHalfPllLocked die half s
  | .crossingTimeout x => Sys2Proof.Machine.execCrossingTimeout x s
  | .halfService w => Sys2Proof.Machine.execHalfService w s
  | .dictRead f => Sys2Proof.Machine.execDictRead f s
  | .dictWrite f => Sys2Proof.Machine.execDictWrite f s
  | .segmentedWriteOpen f => Sys2Proof.Machine.execSegmentedWriteOpen f s
  | .transferAbort f => Sys2Proof.Machine.execTransferAbort f s
  | .segmentData f => Sys2Proof.Machine.execSegmentData f s
  | .segmentAbort f => Sys2Proof.Machine.execSegmentAbort f s
  | .segmentResend f => Sys2Proof.Machine.execSegmentResend f s
  | .segmentedReadClose port id => Sys2Proof.Machine.execSegmentedReadClose port id s
  | .segmentedWriteTimeout port id => Sys2Proof.Machine.execSegmentedWriteTimeout port id s
  | .eventClear w => Sys2Proof.Machine.execEventClear w s
  | .eventMask w => Sys2Proof.Machine.execEventMask w s
  | .configSave w => Sys2Proof.Machine.execConfigSave w s
  | .configRestoreDefaults w => Sys2Proof.Machine.execConfigRestoreDefaults w s
  | .powerUp recordValid starterCore => Sys2Proof.Machine.execPowerUp recordValid starterCore s
  | .modReset => Sys2Proof.Machine.execModReset s
  | .carrierRailFault => Sys2Proof.Machine.execCarrierRailFault s
  | .inputVoltageStop => Sys2Proof.Machine.execInputVoltageStop s
  | .inputRecover => Sys2Proof.Machine.execInputRecover s
  | .bootAttempt die read => Sys2Proof.Machine.execBootAttempt die read s
  | .firmwareLoadRequest w => Sys2Proof.Machine.execFirmwareLoadRequest w s
  | .coordinatorChoice => Sys2Proof.Machine.execCoordinatorChoice s
  | .handoverStep w => Sys2Proof.Machine.execHandoverStep w s
  | .handoverHeartbeatTimeout => Sys2Proof.Machine.execHandoverHeartbeatTimeout s
  | .handoverConfirm => Sys2Proof.Machine.execHandoverConfirm s
  | .modResetRelease recordValid starterCore => Sys2Proof.Machine.execModResetRelease recordValid starterCore s
  | .carrierRailsRestored recordValid starterCore => Sys2Proof.Machine.execCarrierRailsRestored recordValid starterCore s
  | .windowFlagRx die reporter => Sys2Proof.Machine.execWindowFlagRx die reporter s
  | .starterRestart die => Sys2Proof.Machine.execStarterRestart die s
  | .machineModeTrap die half => Sys2Proof.Machine.execMachineModeTrap die half s

end Sys2Proof.Machine
end

