-- ==== Sys2Proof/Safety.lean ====
section
/-! DEFINITION. The terms in which claims about the block are stated: a run that meets no limit the manual leaves unchecked,
a write and a frame that pass every check common to all of them, and the part of the module that a command leaves alone. -/

namespace Sys2Proof.Machine

/-- A step of a safe run: the front command completes. -/
def State.safe (s : State) : Prop := ∃ t, step s = .next t

/-- An object write that passes every check that comes before the object's own effect (R458 to R467, R486): the port answers,
has room for an answer and owns the module, firmware runs (FirmwareLoadRequest needs none), and the object takes the value. -/
def S8.writeArrives (s : S8) (w : ObjWrite) (obj : Nat) : Prop :=
  s.portAnswers w.port = true ∧ (s.ports.get w.port).answers.length < requestLimit ∧
    (s.boot.anyFirmware = true ∨ normObj obj = Obj.firmwareLoadRequest) ∧ s.ports.owner = w.port ∧
    writeCheck obj w.value = statusOk

/-- The module after a write of an object was answered with OK, `c` being the module with the write's effect. -/
def S8.writeDone (c : S8) (w : ObjWrite) (obj : Nat) : S8 :=
  c.answerWrite w.port w.requestId.toNat obj statusOk w.value.length []

/-- A good frame of the current cycle that reads as `v` (R296, R297, R300). -/
def S8.frameArrives (s : S8) (f : Frame) (v : FrameView) : Prop :=
  f.raw.length = 256 ∧ s.portAnswers f.port = true ∧ (frameData f.raw).map FrameView.ofData = some v ∧
    v.cycle = s.ports.cycle % 2 ^ 24

/-- A request frame that reaches its decision: it lies in one of slots 0 to 7 (R295), its port owns the module (R303) and has done so
for more than two cycles (R304), and its RequestId is not that of a kept answer (R309). -/
def S8.requestDecides (s : S8) (f : Frame) (v : FrameView) : Prop :=
  f.slot.val < 8 ∧ s.ports.owner = f.port ∧ s.ports.justMoved = false ∧
    s.ports.kept.find? (fun k => k.1 = f.port && k.2.requestId = v.at 0 4) = none

/-- A core task of a kind works on a lane (R195, R205): it is one of the running sheet on a die in service, covers the lane, the
lane is active at its phase, and the task has not ended. -/
def S8.taskWorks (s : S8) (index kind lane : Nat) (sh : Sheet) (t : CoreTask) : Prop :=
  s.run.task index = some (sh, t) ∧ t.kind = kind ∧ s.dieServes t.core.die = true ∧ t.core.key ∉ s.cores.unbacked ∧
    t.firstLane ≤ lane ∧ lane < t.firstLane + t.laneCount ∧ s.run.laneActive t.phase lane = true ∧ index ∉ s.run.tasksEnded

/-- An address outside n consecutive rows of a scratchpad. -/
def rowsAvoid (core : CoreRef) (row n a : Nat) : Prop :=
  ∀ i < n, a < rowAddr core (row + i) ∨ rowAddr core (row + i) + 512 ≤ a

/-- A control flit that decodes as `v` on a lane in service (R252, R257). -/
def S8.flitArrives (s : S8) (f : Flit) (v : FlitView) : Prop :=
  f.raw.length = 64 ∧ (s.fab.lane f.lane.val).lit = true ∧ (flitData f.raw).map FlitView.ofData = some v

/-- The module after the corrected words of a flit that decodes were counted (R257). -/
def S8.countedFlit (s : S8) (f : Flit) : S8 :=
  s.raise Obj.flitCorrectedCount 0 (flitCorrected f.raw) (unitField 6 f.lane.val) 0

/-- The module after a flit that decodes was received, apart from the flit's own effect: it is one more received flit of its lane, a
slot passes, and its corrected words are counted (R252, R257, R265). -/
def S8.goodFlit (s : S8) (f : Flit) : S8 :=
  S8.countedFlit { s with fab := s.fab.setLane f.lane.val (s.fab.lane f.lane.val).gotFlit } f

/-- The object that a command writes, where the command is a write of one object. -/
def writeOf (i : Instr) : Option (ObjWrite × Nat) :=
  match i with
  | .measStart w => some (w, Obj.measStart)
  | .rewriteRequest die w => some (w, dieObj Obj.rewriteRequest die.val)
  | .runLoadRequest w => some (w, Obj.runLoadRequest)
  | .runStartStep w => some (w, Obj.runStartStep)
  | .coreMoveRequest die w => some (w, dieObj Obj.coreMoveRequest die.val)
  | .ownerRelease w => some (w, Obj.ownerRelease)
  | .pauseKeyExtend w => some (w, Obj.pauseKeyExtend)
  | .wheelLoadRequest w => some (w, Obj.wheelLoadRequest)
  | .wheelUnload w => some (w, Obj.wheelUnload)
  | .wheelDrainStep w => some (w, Obj.wheelDrainStep)
  | .cultureLoadRequest w => some (w, Obj.cultureLoadRequest)
  | .cultureUnload w => some (w, Obj.cultureUnload)
  | .ripenJobRequest w => some (w, Obj.ripenJobRequest)
  | .ripenJobStop w => some (w, Obj.ripenJobStop)
  | .ripenPublishStep w => some (w, Obj.ripenPublishStep)
  | .testPackLoadRequest w => some (w, Obj.testPackLoadRequest)
  | .sensorOverride w => some (w, Obj.sensorOverride)
  | .diePowerCycle w => some (w, Obj.diePowerCycle)
  | .halfClockControl w => some (w, Obj.halfClockControl)
  | .halfService w => some (w, Obj.halfService)
  | .eventClear w => some (w, Obj.eventClear)
  | .eventMask w => some (w, Obj.eventMask)
  | .configSave w => some (w, Obj.configSave)
  | .configRestoreDefaults w => some (w, Obj.configRestoreDefaults)
  | .firmwareLoadRequest w => some (w, Obj.firmwareLoadRequest)
  | .handoverStep w => some (w, Obj.handoverStep)
  | _ => none

end Sys2Proof.Machine
end

