-- ==== Sys2Proof/Certificates/Slice0/Obligations.lean ====
section
/-! DEFINITION. The statements about the S8 for the provers: what every command does, what it leaves alone, and rules of the whole
module. -/

open Sys2Proof Sys2Proof.Machine

/-! ### The queue and the outcomes -/

/-- A step takes the command at the front of the queue and performs it on the module with the rest of the queue. The queue is the
model's form of the block, log entry 1. -/
def Sys2Proof.Claims.StepPerformsFrontCommand : Prop :=
  ∀ (c : Instr) (rest : List Instr) (s : State), s.pending = c :: rest → step s = exec c { s with pending := rest }

/-- On an empty queue the block idles: nothing changes. Log entry 2 (DESIGN CHOICE). -/
def Sys2Proof.Claims.EmptyQueueIdles : Prop :=
  ∀ s : State, s.pending = [] → step s = .next s

/-- What a step does: it performs the command at the front of the queue, or idles on an empty one (the model's choice: log entries 1 and
2). -/
def Obligations.StepPerformsFrontCommand : Prop :=
  Claims.StepPerformsFrontCommand ∧ Claims.EmptyQueueIdles

/-- Every well-formed command completes and leaves the queue of waiting commands as it is, but for the five writes that can break a
limit the manual leaves unchecked (R3); and no command that is not well-formed does. Where the manual leaves a point open, the
choice is the model's: log entries 4 and 5. -/
def Sys2Proof.Claims.WellFormedCommandsComplete : Prop :=
  ∀ (i : Instr) (s : State),
    (WellFormed i = false → exec i s = .refused .illFormed) ∧
    (WellFormed i = true →
      (∀ w, i ≠ .runStartStep w) → (∀ w, i ≠ .halfClockControl w) → (∀ w, i ≠ .wheelDrainStep w) →
      (∀ w, i ≠ .ripenPublishStep w) → (∀ f, i ≠ .dictWrite f) →
        ∃ t, exec i s = .next t ∧ t.pending = s.pending)

/-- A step faults only where the manual leaves the behaviour undefined: a run started, a drain or a publication set too early (R210,
R371, R392), or clocks out of ratio (R450), by the object's own write or a dictionary write frame. Where the manual leaves a point
open, the choice is the model's: log entry 5. -/
def Sys2Proof.Claims.FaultsOnlyWhereUndefined : Prop :=
  ∀ (i : Instr) (s : State) (e : Fault), exec i s = .fault e →
    (∃ r, (r = 210 ∨ r = 371 ∨ r = 392 ∨ r = 450) ∧ e = .undefinedByR3 r) ∧
    ((∃ w, i = .runStartStep w) ∨ (∃ w, i = .halfClockControl w) ∨ (∃ w, i = .wheelDrainStep w) ∨
      (∃ w, i = .ripenPublishStep w) ∨ (∃ f, i = .dictWrite f))

/-- Every well-formed command completes, and a fault comes only from one of the four limits that the manual leaves unchecked (R3). -/
def Obligations.CommandsCompleteOrFaultByR3 : Prop :=
  Claims.WellFormedCommandsComplete ∧ Claims.FaultsOnlyWhereUndefined

/-- The values the manual gives for the state right after reset: port A holds ownership (R486), every object has its default (R461),
no flag is set and the queue of events is empty, every sequence slot is FREE at generation 1 (R315, R316), no run is loaded and
CurrentStep is 0 (R215), memory reads zero but for each Gain at 0x8000 (R108, R480, R481), every half's clock is 2,000 MHz (R236),
IdlePower and EstimateScale have their defaults (R441). Where the manual leaves a point open, the choice is the model's: log entry
9. -/
def Sys2Proof.Claims.ResetValues : Prop :=
  State.reset.pending = [] ∧ State.reset.chip.ports.owner = .a ∧ State.reset.chip.ports.cycle = 0 ∧
    State.reset.chip.dict.flags = [] ∧ State.reset.chip.dict.queue = [] ∧ State.reset.chip.dict.masked = [] ∧
    (∀ obj, State.reset.chip.dict.get obj = objDefault obj) ∧ (∀ obj e, State.reset.chip.dict.count obj e = 0) ∧
    State.reset.chip.serve.slots = [] ∧ State.reset.chip.run.running = none ∧ State.reset.chip.run.step = 0 ∧
    State.reset.chip.run.degradedDie = 0xFF ∧ (∀ a, State.reset.chip.mem.byte a = resetByte a) ∧
    State.reset.chip.power.idle = 520000 ∧ State.reset.chip.power.scale = 65536 ∧
    (∀ h, State.reset.chip.power.clock h = 2000) ∧ State.reset.chip.boot.joinWait = 10

/-- At reset memory has its canonical form. -/
def Sys2Proof.Claims.ResetMemoryCanonical : Prop := State.reset.chip.mem.wf = true

/-- The state right after reset. -/
def Obligations.ResetState : Prop :=
  Claims.ResetValues ∧ Claims.ResetMemoryCanonical

/-- Every step keeps memory in its canonical form: addresses strictly rising and no byte listed that an unlisted one reads as, so that
equal memories are equal data. -/
def Obligations.StepKeepsMemoryCanonical : Prop :=
  ∀ s t : State, step s = .next t → s.chip.mem.wf = true → t.chip.mem.wf = true

/-! ### Object writes -/

/-- A write on the port that does not hold ownership changes nothing in the module but the queue of answers of that port: it is
answered with NOT_OWNER (R303, R465). Where the manual leaves a point open, the choice is the model's: log entries 10 and 11. -/
def Sys2Proof.Claims.NonOwnerWriteChangesNothing : Prop :=
  ∀ (i : Instr) (w : ObjWrite) (obj : Nat) (s : State), writeOf i = some (w, obj) → WellFormed i = true →
    s.chip.portAnswers w.port = true → (s.chip.ports.get w.port).answers.length < requestLimit →
    s.chip.boot.anyFirmware = true → s.chip.ports.owner ≠ w.port →
      exec i s = .next { s with
        chip := s.chip.answerWrite w.port w.requestId.toNat obj statusNotOwner w.value.length [] }

/-- A write whose value has the wrong length or lies outside the object's range leaves the module as it was but for its answer
(R457, R460). Where the manual leaves a point open, the choice is the model's: log entry 10. -/
def Sys2Proof.Claims.BadValueChangesNothing : Prop :=
  ∀ (i : Instr) (w : ObjWrite) (obj : Nat) (s : State), writeOf i = some (w, obj) → WellFormed i = true →
    s.chip.portAnswers w.port = true → (s.chip.ports.get w.port).answers.length < requestLimit →
    s.chip.boot.anyFirmware = true → s.chip.ports.owner = w.port → writeCheck obj w.value ≠ statusOk →
      exec i s = .next { s with
        chip := s.chip.answerWrite w.port w.requestId.toNat obj (writeCheck obj w.value) w.value.length [] }

/-- A port that already holds 32 requests answers a further write with BUSY and performs nothing (R466). Where the manual leaves a
point open, the choice is the model's: log entry 10. -/
def Sys2Proof.Claims.ThirtyThirdRequestIsBusy : Prop :=
  ∀ (i : Instr) (w : ObjWrite) (obj : Nat) (s : State), writeOf i = some (w, obj) → WellFormed i = true →
    s.chip.portAnswers w.port = true → 32 ≤ (s.chip.ports.get w.port).answers.length →
      exec i s = .next { s with chip := s.chip.answerWrite w.port w.requestId.toNat obj 6 w.value.length [] }

/-- Object writes that are turned away leave the module as it was, but for their answer. -/
def Obligations.WritesAreScreened : Prop :=
  Claims.NonOwnerWriteChangesNothing ∧ Claims.BadValueChangesNothing ∧ Claims.ThirtyThirdRequestIsBusy

/-! ### Power, heat and the coolant inlet (chapter 16) -/

/-- The loops that watch the draw. CAP_LOOP sets each half's next clock move by R426 and moves no clock itself;
POWER_MONITOR_COMPARE takes the higher figure while the monitors differ by more than 10 % of the larger, and the fault clears at the
hundredth agreeing comparison (R424); ESTIMATE_WINDOW ends a window of 1,024 steps and starts a new one, and the eighth mismatching
window in a row sets EstimateScale to the largest ratio, not below 1 (R430); ENERGY_SAVE saves EnergyTotal (R440). None of them
changes anything else. Where the manual leaves a point open, the choice is the model's: log entry 51. Concluded to answer a next
state: capLoop, powerMonitorCompare, estimateWindow, energySave. -/
def Sys2Proof.Claims.DrawIsWatched : Prop :=
  (∀ (average : Nat) (s : State), ∃ t, exec (.capLoop average) s = .next t ∧
    t = { s with chip := { s.chip with power := t.chip.power, dict := t.chip.dict } } ∧
    t.chip.power.clocks = s.chip.power.clocks ∧ t.chip.power.uptime = s.chip.power.uptime + 1 ∧
    ∀ h < 16, SMap.find t.chip.power.clockMoves h = some
      (let clock := s.chip.power.clock h
       let permitted := s.chip.power.permitted h
       let cap := 1000 * s.chip.dict.get Obj.powerCap
       if permitted < clock then (-25 : Int)
       else if cap < average ∧ 1700 < clock then -25
       else if average + 1000 * s.chip.dict.get Obj.capMargin < cap ∧ clock < permitted then 25
       else 0)) ∧
  (∀ (input : Nat) (rails : List Nat) (figure : Nat) (s : State), rails.length = 51 →
    figure = rails.foldl (· + ·) 0 * 65536 / Config.railEfficiency (rails.foldl (· + ·) 0) →
    max input figure < 10 * (max input figure - min input figure) →
    exec (.powerMonitorCompare input rails) s = .next { s with chip := { s.chip with
      power := { s.chip.power with
        input := input, rails := rails, module := max input figure, agreeing := 0, monitorFault := true }
      dict := s.chip.dict.raise s.chip.run.step Obj.powerMonitorFaultCount 0 (if s.chip.power.monitorFault then 0 else 1) 0
        input } }) ∧
  (∀ (input : Nat) (rails : List Nat) (figure : Nat) (s : State), rails.length = 51 →
    figure = rails.foldl (· + ·) 0 * 65536 / Config.railEfficiency (rails.foldl (· + ·) 0) →
    10 * (max input figure - min input figure) ≤ max input figure →
    (s.chip.power.monitorFault = false ∨ 99 ≤ s.chip.power.agreeing) →
    exec (.powerMonitorCompare input rails) s = .next { s with chip := { s.chip with
      power := { s.chip.power with
        input := input, rails := rails, module := input, agreeing := s.chip.power.agreeing + 1, monitorFault := false } } }) ∧
  (∀ (measured : Nat) (s : State), s.chip.run.windowSteps ≠ 1024 → exec (.estimateWindow measured) s = .next s) ∧
  (∀ (measured : Nat) (s : State), s.chip.run.windowSteps = 1024 → ∃ t, exec (.estimateWindow measured) s = .next t ∧
    t = { s with chip := { s.chip with
      run := { s.chip.run with windowSteps := 0, windowEnergy := 0, mismatches := t.chip.run.mismatches }
      power := { s.chip.power with scale := t.chip.power.scale }
      dict := t.chip.dict } } ∧
    (s.chip.run.mismatches.length = 7 → s.chip.run.windowEnergy < 4 * (max measured s.chip.run.windowEnergy -
        min measured s.chip.run.windowEnergy) →
      t.chip.power.scale = (energyRatio measured s.chip.run.windowEnergy :: s.chip.run.mismatches).foldl max 65536 ∧
      t.chip.dict = s.chip.dict.raise s.chip.run.step Obj.estimateMismatchCount 0 1 0
        (energyRatio measured s.chip.run.windowEnergy)) ∧
    (s.chip.run.mismatches.length < 8 →
      4 * (max measured s.chip.run.windowEnergy - min measured s.chip.run.windowEnergy) ≤ s.chip.run.windowEnergy →
      t.chip.run.mismatches = [] ∧ t.chip.power.scale = s.chip.power.scale)) ∧
  (∀ s : State, exec .energySave s =
    .next { s with chip := { s.chip with power := { s.chip.power with saved := s.chip.power.total } } })

/-- EstimateScale never falls while the windows of a run go on (R430): a window's end leaves it, or raises it. Concluded to answer a
next state: estimateWindow. -/
def Sys2Proof.Claims.EstimateScaleNeverFalls : Prop :=
  ∀ (measured : Nat) (s t : State), exec (.estimateWindow measured) s = .next t →
    (s.chip.run.mismatches.length < 8 → s.chip.power.scale = 65536) → s.chip.power.scale ≤ t.chip.power.scale

/-- Power: the cap loop, the monitors and the estimate. -/
def Obligations.DrawIsWatched : Prop :=
  Claims.DrawIsWatched ∧ Claims.EstimateScaleNeverFalls

/-- Droop: a trip stretches the half's period to the given one and never beyond the floor period of 588.2 ps, and counts once; the
period returns when VL recovers (R431); a fault is raised and the die is to be lost at the next boundary (R432). Concluded to answer
a next state: droopTrip, droopRecover, droopFault. -/
def Sys2Proof.Claims.DroopStretchesOneHalf : Prop :=
  (∀ (d : Die) (h : Half) (period : Nat) (s : State),
    exec (.droopTrip d h period) s = .next { s with chip := { s.chip with
      power := { s.chip.power with droop := SMap.insert s.chip.power.droop (halfKey d h) (min period 5882) }
      dict := s.chip.dict.raise s.chip.run.step Obj.droopCount 0 1 (unitField 2 (halfKey d h)) 0 } }) ∧
  (∀ (d : Die) (h : Half) (s : State),
    exec (.droopRecover d h) s = .next { s with chip := { s.chip with
      power := { s.chip.power with droop := SMap.erase s.chip.power.droop (halfKey d h) } } }) ∧
  (∀ (d : Die) (h : Half) (s : State), ∃ t,
    exec (.droopFault d h) s = .next t ∧
    t = { s with chip := { s.chip with dict := t.chip.dict, run := { s.chip.run with losing := t.chip.run.losing } } } ∧
    t.chip.dict = s.chip.dict.raise s.chip.run.step Obj.droopFaultCount 0 1 (unitField 2 (halfKey d h)) 0 ∧
    ∀ e, e ∈ t.chip.run.losing ↔ e = d.val ∨ e ∈ s.chip.run.losing)

/-- The coolant inlet (R517): a reading above 40 °C raises InletHigh once a spell, and a reading at or below 40 °C ends the spell.
Nothing else changes. Concluded to answer a next state: inletHigh, inletNormal. -/
def Sys2Proof.Claims.InletSpells : Prop :=
  (∀ (temp : Int) (s : State), 400 < temp →
    exec (.inletHigh temp) s = .next { s with chip := { s.chip with
      power := { s.chip.power with inlet := temp, inletHigh := true }
      dict := if s.chip.power.inletHigh then s.chip.dict
        else s.chip.dict.raise s.chip.run.step Obj.inletHighCount 0 1 0 temp.toNat } }) ∧
  (∀ (temp : Int) (s : State), temp ≤ 400 →
    exec (.inletNormal temp) s = .next { s with chip := { s.chip with
      power := { s.chip.power with inlet := temp, inletHigh := false } } })

/-- Junction sensors: a sample stores the half's eight readings and no others (R433); a sensor out of range is broken at once, and
raises SensorFault when it breaks (R434); a valid override makes a broken sensor read its model value plus 3 °C until it expires
(R435). Where the manual leaves a point open, the choice is the model's: log entry 51. Concluded to answer a next state:
thermalSample, thermalModel, sensorOverride. -/
def Sys2Proof.Claims.SensorsAreJudged : Prop :=
  (∀ (d : Die) (h : Half) (readings : List Int) (s : State), readings.length = 8 → ∃ t,
    exec (.thermalSample d h readings) s = .next t ∧
    t = { s with chip := { s.chip with power := { s.chip.power with temps := t.chip.power.temps } } } ∧
    (∀ i < 8, t.chip.power.temp (halfKey d h) i = readings.getD i 0) ∧
    (∀ g i, g ≠ halfKey d h → i < 8 → t.chip.power.temp g i = s.chip.power.temp g i)) ∧
  (∀ (d : Die) (h : Half) (i : Fin 8) (predicted : Int) (s : State),
    (s.chip.power.temp (halfKey d h) i < -400 ∨ 1500 < s.chip.power.temp (halfKey d h) i) → ∃ t,
    exec (.thermalModel d h i predicted) s = .next t ∧
    t = { s with chip := { s.chip with power := t.chip.power, dict := t.chip.dict } } ∧
    (s.chip.power.sensorState (halfKey d h) i = 0 → t.chip.power.sensorState (halfKey d h) i = 1 ∧
      t.chip.taken (halfKey d h) i = 950) ∧
    t.chip.dict = s.chip.dict.raise s.chip.run.step Obj.sensorFaultCount 0
      (if s.chip.power.sensorState (halfKey d h) i = 0 then 1 else 0) (unitField 2 (halfKey d h)) i) ∧
  (∀ (w : ObjWrite) (s : State) (half sensor expiry : Nat), s.chip.writeArrives w Obj.sensorOverride →
    signedBy Config.serviceKey w.value = true → leAt w.value 0 8 = Config.serialNumber →
    half = 2 * leAt w.value 8 1 + leAt w.value 9 1 → half < 16 → sensor = leAt w.value 10 1 → sensor < 8 →
    expiry = leAt w.value 12 4 → s.chip.cellar.seconds < expiry → s.chip.power.sensorState half sensor ≠ 0 → ∃ c : S8,
    exec (.sensorOverride w) s = .next { s with chip := c.writeDone w Obj.sensorOverride } ∧
    c = { s.chip with power := { s.chip.power with sensors := c.power.sensors, overrides := c.power.overrides } } ∧
    c.taken half sensor = SMap.getD s.chip.power.model (sensorKey half sensor) 0 + 30)

/-- Droop, the inlet reading and the temperature sensors. -/
def Obligations.HeatAndDroopAreHandled : Prop :=
  Claims.DroopStretchesOneHalf ∧ Claims.InletSpells ∧ Claims.SensorsAreJudged

/-- Trips: the comparator's condition switches the die off, latches the trip and loses the die at once, and the barrier no longer
waits for it (R182, R437); DiePowerCycle, 10 s after the trip and with the inlet at or below 40 °C, clears the latch and leaves the
die unpowered (R438); its supplies' return starts the starter of a sound die, with its memory cleared, its clock on the crystal and
both halves at 1,700 MHz (R446, R480, R481). Where the manual leaves a point open, the choice is the model's: log entry 51.
Concluded to answer a next state: dieTrip, diePowerCycle, diePowerRestore. -/
def Obligations.TripsAndPowerCycles : Prop :=
  (∀ (d : Die) (s : State), s.chip.power.tripCondition d = true → SMap.find s.chip.power.tripped d = none → ∃ c : S8,
    exec (.dieTrip d) s = .next { s with chip := c.judge } ∧
    c = { s.chip with
      power := { s.chip.power with tripped := c.power.tripped }
      boot := { s.chip.boot with state := c.boot.state }
      run := { s.chip.run with lostDies := c.run.lostDies, losing := c.run.losing }
      dict := s.chip.dict.raise s.chip.run.step Obj.dieTripCount 0 1 (unitField 1 d) 0 } ∧
    SMap.find c.power.tripped d = some s.chip.power.uptime ∧ c.dieServes d = false ∧
    SMap.getD c.boot.state d 0 = 6 ∧ d.val ∈ c.run.losing) ∧
  (∀ (w : ObjWrite) (s : State) (since : Nat), s.chip.writeArrives w Obj.diePowerCycle →
    valueOf w.value ∈ s.chip.run.lostDies → SMap.find s.chip.power.tripped (valueOf w.value) = some since →
    10000 ≤ s.chip.power.uptime - since → s.chip.power.inlet ≤ 400 → ∃ c : S8,
    exec (.diePowerCycle w) s = .next { s with chip := c.writeDone w Obj.diePowerCycle } ∧
    c = { s.chip with
      power := { s.chip.power with tripped := SMap.erase s.chip.power.tripped (valueOf w.value), cycling := c.power.cycling }
      boot := { s.chip.boot with state := SMap.erase s.chip.boot.state (valueOf w.value) } } ∧
    ∀ e, e ∈ c.power.cycling ↔ e = valueOf w.value ∨ e ∈ s.chip.power.cycling) ∧
  (∀ (d : Die) (s : State), d.val ∈ s.chip.power.cycling → d.val ∉ s.chip.boot.badRecords → d.val ∉ s.chip.boot.noStarter → ∃ t,
    exec (.diePowerRestore d) s = .next t ∧ d.val ∉ t.chip.power.cycling ∧ SMap.getD t.chip.boot.state d 0 = 1 ∧
    t.chip.dict = s.chip.dict ∧ d.val ∈ t.chip.boot.rejoining ∧
    t.chip.clock.sourceOf d = 0 ∧ t.chip.power.clock (2 * d) = 1700 ∧ t.chip.power.clock (2 * d + 1) = 1700 ∧
    (∀ a, field a 34 3 = d → t.chip.mem.byte a = resetByte a) ∧
    (∀ a, field a 34 3 ≠ d → t.chip.mem.byte a = s.chip.mem.byte a))

/-! ### Memory (chapter 01) -/

/-- A permitted write stores its bytes from its address, reserved bits of a rind unit's tables as zero (R6), and leaves every other
byte as it was, but that the reserved bytes 24–31 of each root entry it touches are zero; of the rest of the module, only the root
directories to be published and the count of those replaced may change (R27, R275). Where the manual leaves a point open, the choice
is the model's: log entry 16. Concluded to answer a next state: memoryAccess. -/
def Sys2Proof.Claims.WriteStoresItsBytes : Prop :=
  ∀ (x : Access) (s : State), WellFormed (.memoryAccess x) = true → x.write = true → s.chip.issues x.agent = true →
    scalarMisaligned x = false → s.chip.permits (reachOf x.agent) true x.addr.toNat x.len = true → ∃ t,
      exec (.memoryAccess x) s = .next t ∧
      t = { s with chip := { s.chip with
        mem := { s.chip.mem with bytes := t.chip.mem.bytes, bad := t.chip.mem.bad, last := t.chip.mem.last }
        attn := { s.chip.attn with publishing := t.chip.attn.publishing }
        dict := t.chip.dict } } ∧
      t.chip.mem.last = { performed := true, data := [], accessFault := false } ∧
      (∀ e ∈ s.chip.rootsTouched x.addr.toNat x.len, ∀ a, e.2 + 24 ≤ a → a < e.2 + 32 → t.chip.mem.byte a = 0) ∧
      ∀ a, (∀ e ∈ s.chip.rootsTouched x.addr.toNat x.len, a < e.2 + 24 ∨ e.2 + 32 ≤ a) →
        t.chip.mem.byte a = if x.addr.toNat ≤ a ∧ a < x.addr.toNat + x.len
          then (tableBits x.addr.toNat x.data).getD (a - x.addr.toNat) 0 else s.chip.mem.byte a

/-- A permitted read answers the bytes at its address, of the dictionary mirror the mirror's, and changes no byte of memory (R27,
R31); a byte read of the hot pool finds memory's own byte. A whole-row vector load writes the row to the four registers of its group
and to no other (R227, R231). Where the manual leaves a point open, the choice is the model's: log entries 15 and 16. Concluded to
answer a next state: memoryAccess. -/
def Sys2Proof.Claims.ReadAnswersItsBytes : Prop :=
  (∀ (x : Access) (s : State), WellFormed (.memoryAccess x) = true → x.write = false → s.chip.issues x.agent = true →
    scalarMisaligned x = false → s.chip.permits (reachOf x.agent) false x.addr.toNat x.len = true → ∃ t,
      exec (.memoryAccess x) s = .next t ∧ t.chip.mem.last.performed = true ∧
      t.chip.mem.last.data = (if placeOf x.addr.toNat = .mirror then s.chip.mirrorBytes x.addr.toNat x.len
        else s.chip.readBytes x.addr.toNat x.len) ∧
      (placeOf x.addr.toNat = .hotPool → x.len = 1 → t.chip.mem.last.data = [s.chip.mem.byte x.addr.toNat]) ∧
      ∀ a, t.chip.mem.byte a = s.chip.mem.byte a) ∧
  (∀ (x : Access) (s : State) (core : Core) (machine : Bool) (v : Fin 32), WellFormed (.memoryAccess x) = true →
    x.agent = .core core machine (some v) → x.write = false → x.len = 512 → s.chip.issues x.agent = true →
    placeOf x.addr.toNat = .scratchpad → s.chip.permits (reachOf x.agent) false x.addr.toNat x.len = true → ∃ t,
      exec (.memoryAccess x) s = .next t ∧
      (∀ i < 4, t.chip.cores.vreg (coreKey core) (v + i) =
        bytesAt (s.chip.readBytes x.addr.toNat 512) (128 * i) 128) ∧
      (∀ c i, (c ≠ coreKey core ∨ i < v.val ∨ v.val + 4 ≤ i) → i < 32 → t.chip.cores.vreg c i = s.chip.cores.vreg c i))

/-- An access that is not permitted is refused: a read answers zeros, a write is discarded, AddressFault is raised with the address,
and no byte of memory changes (R27). So is every access to a die that is lost (R32), every access on whose way a crossing
has isolated itself, that to the other half's working area with all eight seams isolated among them (R452), and every scratchpad access
that is not a whole row (R29). A misaligned scalar access takes its exception, with the address, and touches no memory (R216). Where the manual leaves a
point open, the choice is the model's: log entry 13. Concluded to answer a next state: memoryAccess. -/
def Sys2Proof.Claims.ForbiddenAccessIsRefused : Prop :=
  (∀ (x : Access) (s : State), WellFormed (.memoryAccess x) = true → s.chip.issues x.agent = true → scalarMisaligned x = false →
    s.chip.permits (reachOf x.agent) x.write x.addr.toNat x.len = false → ∃ t,
      exec (.memoryAccess x) s = .next t ∧
      t = { s with chip := { s.chip with
        mem := { s.chip.mem with last := { performed := false, data := if x.write then [] else zeros x.len, accessFault := false } }
        dict := t.chip.dict } } ∧
      (SMap.find t.chip.dict.flags (objKey eventAddressFault 0)).map (·.value) = some x.addr.toNat) ∧
  (∀ (x : Access) (s : State) (core : Core) (machine : Bool), WellFormed (.memoryAccess x) = true →
    x.agent = .core core machine none → s.chip.issues x.agent = true → x.len ∈ [2, 4, 8] → x.addr.toNat % x.len ≠ 0 →
    exec (.memoryAccess x) s = .next { s with chip := { s.chip with
      cores := s.chip.cores.takeTrap (coreKey core) (if x.write then 6 else 4) x.addr.toNat
      mem := { s.chip.mem with last := { performed := false, data := [], accessFault := true } } } }) ∧
  (∀ (x : Access) (s : State), placeOf x.addr.toNat ≠ .mirror → s.chip.dieServes (field x.addr.toNat 34 3) = false →
    s.chip.permits (reachOf x.agent) x.write x.addr.toNat x.len = false) ∧
  (∀ (x : Access) (s : State) (k : Nat), k ∈ s.chip.crossingsTo (reachOf x.agent).half (reachOf x.agent).unit x.addr.toNat →
    k ∈ s.chip.clock.isolated → s.chip.permits (reachOf x.agent) x.write x.addr.toNat x.len = false) ∧
  (∀ (x : Access) (s : State) (core : Core) (machine : Bool) (row : Option (Fin 32)) (h : Nat), x.agent = .core core machine row →
    placeOf x.addr.toNat = .working h → h / 2 = core.die → h ≠ coreHalfKey core →
    (∀ k < 8, 8 * core.die.val + k ∈ s.chip.clock.isolated) →
    s.chip.permits (reachOf x.agent) x.write x.addr.toNat x.len = false) ∧
  (∀ (x : Access) (s : State), placeOf x.addr.toNat = .scratchpad → (x.addr.toNat % 512 ≠ 0 ∨ x.len ≠ 512) →
    s.chip.permits (reachOf x.agent) x.write x.addr.toNat x.len = false)

/-- Scrub of a word changes no byte of memory (R402). A corrected scratchpad or DRAM word counts once; an uncorrectable one counts,
is marked, and its scratchpad row, or its frame, is due to be retired (R398, R399, R400). A sound word changes nothing. Where the
manual leaves a point open, the choice is the model's: log entries 16 and 18. Concluded to answer a next state: sramScrub,
dramScrub. -/
def Sys2Proof.Claims.ScrubFindsWords : Prop :=
  (∀ (word : Nat) (s : State), placeOf (16 * word) = .scratchpad → s.chip.dieServes (field (16 * word) 34 3) = true →
    word ∉ s.chip.mem.bad →
    exec (.sramScrub word none) s = .next s ∧
    (∃ t, exec (.sramScrub word (some .corrected)) s = .next t ∧
      t = { s with chip := { s.chip with mem := t.chip.mem, dict := t.chip.dict } } ∧ t.chip.mem.bytes = s.chip.mem.bytes ∧
      t.chip.dict = s.chip.dict.raise s.chip.run.step Obj.scratchpadCorrectedCount 0 1 0 (16 * word)) ∧
    (∃ t, exec (.sramScrub word (some .uncorrectable)) s = .next t ∧
      t = { s with chip := { s.chip with mem := t.chip.mem, dict := t.chip.dict } } ∧ t.chip.mem.bytes = s.chip.mem.bytes ∧
      t.chip.dict = s.chip.dict.raise s.chip.run.step Obj.scratchpadUncorrectableCount 0 1 0 (16 * word) ∧
      word ∈ t.chip.mem.bad ∧ 16 * word / 512 ∈ t.chip.mem.rowsDue)) ∧
  (∀ (word : Nat) (s : State), placeOf (16 * word) = .hotPool → s.chip.dieServes (field (16 * word) 34 3) = true →
    word ∉ s.chip.mem.bad →
    exec (.dramScrub word none) s = .next s ∧
    (∃ t, exec (.dramScrub word (some .corrected)) s = .next t ∧
      t = { s with chip := { s.chip with mem := t.chip.mem, dict := t.chip.dict } } ∧ t.chip.mem.bytes = s.chip.mem.bytes ∧
      t.chip.dict = s.chip.dict.raise s.chip.run.step Obj.dramCorrectedCount 0 1 0 (16 * word)) ∧
    (∃ t, exec (.dramScrub word (some .uncorrectable)) s = .next t ∧
      t = { s with chip := { s.chip with mem := t.chip.mem, dict := t.chip.dict } } ∧ t.chip.mem.bytes = s.chip.mem.bytes ∧
      t.chip.dict = s.chip.dict.raise s.chip.run.step Obj.dramUncorrectableCount 0 1 0 (16 * word) ∧
      word ∈ t.chip.mem.bad ∧ t.chip.mem.framesDue ≠ []))

/-- Direct accesses to memory, and its scrubs. -/
def Obligations.MemoryAnswersAccesses : Prop :=
  Claims.WriteStoresItsBytes ∧ Claims.ReadAnswersItsBytes ∧ Claims.ForbiddenAccessIsRefused ∧ Claims.ScrubFindsWords

/-! ### Clocks and crossings (chapter 17) -/

/-- The clock monitor of a die (R443 to R445). A window within 20 of its 1,000 edges is not flagged; one beyond is, and is kept so
until the dies' flags have come. A window of zero edges on a die without OscillatorFault switches its reference to the oscillator,
notes when, and raises ClockSourceFail; with OscillatorFault standing the die is to be lost at the next boundary. A window that was
flagged on this die alone raises OscillatorFault when the next one ends, and the die keeps the crystal. A missing edge freezes the
loop. Another die's flag of the same window switches a flagged die too. Where the manual leaves a point open, the choice is the
model's: log entry 51. Concluded to answer a next state: clockMonitorWindow, missingEdge, windowFlagRx. -/
def Sys2Proof.Claims.ClockMonitorJudgesTheCrystal : Prop :=
  (∀ (d : Die) (count : Nat) (s : State), ∃ t, exec (.clockMonitorWindow d count) s = .next t ∧
    t = { s with chip := { s.chip with
      clock := t.chip.clock, dict := t.chip.dict, run := { s.chip.run with losing := t.chip.run.losing } } } ∧
    (d.val ∈ t.chip.clock.flagged ↔ count < 980 ∨ 1020 < count) ∧
    (980 ≤ count → count ≤ 1020 → t.chip.clock.source = s.chip.clock.source ∧ t.chip.run = s.chip.run) ∧
    (count = 0 → s.chip.clock.sourceOf d = 0 → d.val ∉ s.chip.clock.flagged → d.val ∉ s.chip.clock.oscFault →
      t.chip.clock.sourceOf d = 1 ∧ SMap.find t.chip.clock.switchedAt d = some s.chip.power.uptime ∧ t.chip.run = s.chip.run ∧
      t.chip.dict = s.chip.dict.raise s.chip.run.step Obj.clockSourceFailCount 0 1 (unitField 1 d) 0) ∧
    (count = 0 → s.chip.clock.sourceOf d = 0 → d.val ∈ s.chip.clock.oscFault → d.val ∈ t.chip.run.losing ∧
      t.chip.dict = s.chip.dict) ∧
    (count ≠ 0 → s.chip.clock.sourceOf d = 0 → d.val ∈ s.chip.clock.flagged → d.val ∉ s.chip.clock.oscFault →
      (∀ r, 8 * d.val ≤ r → r < 8 * d.val + 8 → r ∉ s.chip.clock.flagsSeen) →
      d.val ∈ t.chip.clock.oscFault ∧ t.chip.clock.sourceOf d = 0 ∧
      t.chip.dict = s.chip.dict.raise s.chip.run.step Obj.oscillatorFaultCount 0 1 (unitField 1 d) 0)) ∧
  (∀ (d r : Die) (s : State), d ≠ r → d.val ∉ s.chip.clock.flagged →
    exec (.windowFlagRx d r) s = .next { s with chip := { s.chip with
      clock := { s.chip.clock with flagsSeen := insertNat (8 * d.val + r.val) s.chip.clock.flagsSeen } } }) ∧
  (∀ (d r : Die) (s : State), d ≠ r → d.val ∈ s.chip.clock.flagged → s.chip.clock.sourceOf d = 0 →
    d.val ∉ s.chip.clock.oscFault → ∃ t, exec (.windowFlagRx d r) s = .next t ∧
      t = { s with chip := { s.chip with clock := t.chip.clock, dict := t.chip.dict } } ∧ t.chip.clock.sourceOf d = 1 ∧
      SMap.find t.chip.clock.switchedAt d = some s.chip.power.uptime ∧ d.val ∉ t.chip.clock.frozen ∧
      t.chip.dict = s.chip.dict.raise s.chip.run.step Obj.clockSourceFailCount 0 1 (unitField 1 d) 0) ∧
  (∀ (d : Die) (s : State), s.chip.clock.sourceOf d = 0 →
    exec (.missingEdge d) s = .next { s with chip := { s.chip with
      clock := { s.chip.clock with frozen := insertNat d s.chip.clock.frozen } } })

/-- The oscillator's trim (R442, R445, R446). Once a second, on the crystal and with no OscillatorFault, it moves one 0.05 ppm step
against the deviation, which is measured in 0.001 ppm, where that is more than half a step, and never otherwise. In holdover it does
not move in the first 10 s; from then on, a module with a tick parent moves it one step towards a correction of zero, and any other
leaves it frozen. Concluded to answer a next state: oscDiscipline, holdoverSteer. -/
def Sys2Proof.Claims.TrimFollowsItsReference : Prop :=
  (∀ (d : Die) (deviation : Int) (s : State), ∃ t, exec (.oscDiscipline d deviation) s = .next t ∧
    t = { s with chip := { s.chip with clock := { s.chip.clock with
      oscMoves := t.chip.clock.oscMoves, deviation := t.chip.clock.deviation } } } ∧
    (d.val = 0 → t.chip.clock.deviation = -deviation) ∧
    (∀ e, e ≠ d.val → SMap.getD t.chip.clock.oscMoves e 0 = SMap.getD s.chip.clock.oscMoves e 0) ∧
    (SMap.getD t.chip.clock.oscMoves d 0 = SMap.getD s.chip.clock.oscMoves d 0 +
      (if s.chip.clock.sourceOf d ≠ 0 ∨ d.val ∈ s.chip.clock.oscFault ∨ (-25 ≤ deviation ∧ deviation ≤ 25) then 0
       else if deviation < 0 then 1 else -1))) ∧
  (∀ (d : Die) (s : State) (since : Nat), SMap.find s.chip.clock.switchedAt d = some since → s.chip.power.uptime < since + 10000 →
    exec (.holdoverSteer d) s = .next s) ∧
  (∀ (d : Die) (s : State) (since : Nat), SMap.find s.chip.clock.switchedAt d = some since →
    since + 10000 ≤ s.chip.power.uptime → s.chip.clock.sourceOf d = 1 → ∃ t, exec (.holdoverSteer d) s = .next t ∧
      t = { s with chip := { s.chip with clock := { s.chip.clock with
        source := t.chip.clock.source, oscMoves := t.chip.clock.oscMoves } } } ∧
      (s.chip.dict.get Obj.tickParentLane = 0xFF → t.chip.clock.sourceOf d = 3 ∧ t.chip.clock.oscMoves = s.chip.clock.oscMoves) ∧
      (s.chip.dict.get Obj.tickParentLane ≠ 0xFF → t.chip.clock.sourceOf d = 2 ∧
        SMap.getD t.chip.clock.oscMoves d 0 = SMap.getD s.chip.clock.oscMoves d 0 +
          (if SMap.getD s.chip.clock.correction d 0 < 0 then -1
           else if 0 < SMap.getD s.chip.clock.correction d 0 then 1 else 0)))

/-- Clock sources: the monitors and the oscillator's trim. -/
def Obligations.ClocksAreKept : Prop :=
  Claims.ClockMonitorJudgesTheCrystal ∧ Claims.TrimFollowsItsReference

/-- The half clocks (R449, R453, R454). A HalfClockControl value with every divider in 1 to 16, none above 1 and no stop but on a
half that is retired, and within the ratios of R450, is taken: each half it stops is stopped, a stopped half it runs is locking, and
any other runs, divided or not, and the object's reserved bits read as zero (R6); a half that starts again has the crossings of its
seam out of isolation. A locked half runs, divided as its control byte says. HalfService is pended, unless the running sheet names a
unit of a half it retires. Where the manual leaves a point open, the choice is the model's: log entry 5. Concluded to answer a next
state: halfClockControl, halfPllLocked, halfService. -/
def Sys2Proof.Claims.HalfClocksStopAndStart : Prop :=
  (∀ (w : ObjWrite) (s : State), s.chip.writeArrives w Obj.halfClockControl →
    (∀ h < 16, 1 ≤ controlDivider (byteAt w.value h) ∧ controlDivider (byteAt w.value h) ≤ 16) →
    (∀ h < 16, (controlDivider (byteAt w.value h) = 1 ∧ controlStop (byteAt w.value h) = false) ∨
      field (s.chip.dict.get Obj.halfService) h 1 = 0) →
    breaksRatio w.value = false → ∃ c : S8,
      exec (.halfClockControl w) s = .next { s with chip := c.writeDone w Obj.halfClockControl } ∧
      c = { s.chip with
        dict := { s.chip.dict with blobs := c.dict.blobs }
        clock := { s.chip.clock with halfState := c.clock.halfState, isolated := c.clock.isolated } } ∧
      c.dict.halfControl = (padTo 16 w.value).map (fun b => b &&& 0x9F) ∧
      (∀ h < 16, SMap.getD c.clock.halfState h 0 =
        (if controlStop (byteAt w.value h) then 2
         else if SMap.getD s.chip.clock.halfState h 0 = 2 ∨ SMap.getD s.chip.clock.halfState h 0 = 3 then 3
         else if controlDivider (byteAt w.value h) = 1 then 0 else 1)) ∧
      (∀ h < 16, SMap.getD s.chip.clock.halfState h 0 = 2 → controlStop (byteAt w.value h) = false →
        ∀ k < 8, 8 * (h / 2) + k ∉ c.clock.isolated)) ∧
  (∀ (w : ObjWrite) (s : State), s.chip.writeArrives w Obj.halfClockControl → breaksRatio w.value = true →
    (∀ h < 16, 1 ≤ controlDivider (byteAt w.value h) ∧ controlDivider (byteAt w.value h) ≤ 16) →
    (∀ h < 16, (controlDivider (byteAt w.value h) = 1 ∧ controlStop (byteAt w.value h) = false) ∨
      field (s.chip.dict.get Obj.halfService) h 1 = 0) →
    s.chip.boot.anyFirmware = true →
      exec (.halfClockControl w) s = .fault (.undefinedByR3 450)) ∧
  (∀ (d : Die) (h : Half) (s : State), SMap.getD s.chip.clock.halfState (halfKey d h) 0 = 3 → ∃ t,
    exec (.halfPllLocked d h) s = .next t ∧
    t = { s with chip := { s.chip with clock := { s.chip.clock with halfState := t.chip.clock.halfState } } } ∧
    SMap.getD t.chip.clock.halfState (halfKey d h) 0 =
      (if controlDivider (byteAt s.chip.dict.halfControl (halfKey d h)) = 1 then 0 else 1) ∧
    ∀ g, g ≠ halfKey d h → SMap.getD t.chip.clock.halfState g 0 = SMap.getD s.chip.clock.halfState g 0) ∧
  (∀ (w : ObjWrite) (s : State), s.chip.writeArrives w Obj.halfService →
    (∀ sh, s.chip.run.running = some sh → ∀ h < 16, sh.namesHalf h = true → field (valueOf w.value) h 1 = 1) → ∃ c : S8,
      exec (.halfService w) s = .next { s with chip := c.writeDone w Obj.halfService } ∧
      c = { s.chip with dict := { s.chip.dict with pending := c.dict.pending } } ∧
      SMap.find c.dict.pending (objKey Obj.halfService 0) = some (valueOf w.value)) ∧
  (∀ (w : ObjWrite) (s : State) (sh : Sheet) (h : Nat), s.chip.writeArrives w Obj.halfService → s.chip.run.running = some sh →
    h < 16 → sh.namesHalf h = true → field (valueOf w.value) h 1 = 0 →
      exec (.halfService w) s = .next { s with
        chip := s.chip.answerWrite w.port w.requestId.toNat Obj.halfService statusState w.value.length [] })

/-- A crossing that times out isolates itself (R452). A seam raises SeamTimeout and ends the row transfers that cross it with status
1, and a core that waits for one goes on with it (R453); a bridge raises BridgeFault and loses the die it joins when the running
sheet names it (R246); a core's crossing retires the core, at once or after the move of its number, and the event names that number
(R8); a rind unit's retires the unit, and an attention engine's the engine. A crossing already isolated does nothing more. Concluded
to answer a next state: crossingTimeout. -/
def Sys2Proof.Claims.CrossingsIsolateThemselves : Prop :=
  (∀ (x : Crossing) (s : State), crossingKey x ∉ s.chip.clock.isolated → ∃ t, exec (.crossingTimeout x) s = .next t ∧
    t.pending = s.pending ∧ t.chip.mem = s.chip.mem ∧
    t.chip.clock = { s.chip.clock with isolated := insertNat (crossingKey x) s.chip.clock.isolated } ∧
    (∀ d k, x = .seam d k → t.chip.run = s.chip.run ∧
      (SMap.find t.chip.dict.flags (objKey Obj.seamTimeoutCount 0)) =
        some { step := s.chip.run.step, unit := unitField 1 d, value := k } ∧
      (∀ key r, SMap.find s.chip.cores.transfers key = some r → s.chip.crossesSeam d k key r = true →
        SMap.find s.chip.cores.xferStalls (key / 16) = none →
        (SMap.find t.chip.cores.transfers key).bind (·.status) = some 1) ∧
      (∀ key r rd, SMap.find s.chip.cores.transfers key = some r → s.chip.crossesSeam d k key r = true →
        SMap.find s.chip.cores.xferStalls (key / 16) = some (rd, key % 16) → SMap.find s.chip.cores.tagStalls (key / 16) = none →
        rd ≠ 0 → rd < 32 → SMap.find t.chip.cores.xferStalls (key / 16) = none ∧ t.chip.cores.xreg (key / 16) rd = 1)) ∧
    (∀ n, x = .bridge n → t.chip.cores = s.chip.cores ∧
      t.chip.dict = s.chip.dict.raise s.chip.run.step Obj.bridgeFaultCount 0 1 (unitField 9 n) 0 ∧
      ((∃ sh, s.chip.run.running = some sh ∧ sh.namesBridge n = true) → bridgeHighDie n ∈ t.chip.run.losing)) ∧
    (∀ c, x = .core c → t.chip.vats = s.chip.vats ∧ (SMap.find t.chip.cores.states (coreKey c) = some 4 ∨
        (SMap.find t.chip.cores.states (coreKey c) = some 5 ∧ ∃ m, SMap.find t.chip.cores.moves (coreKey c / 36) = some m ∧
          m.source = coreKey c ∧ m.sourceState = 4)) ∧
      (SMap.find t.chip.dict.flags (objKey Obj.crossingTimeoutCount 0)).map (·.unit) =
        some (unitField 3 (s.chip.cores.nameOf (coreKey c)))) ∧
    (∀ u, x = .rind u → unitKey u ∈ t.chip.vats.unitsRetired ∧ t.chip.cores = s.chip.cores) ∧
    (∀ e, x = .engine e → e.val ∈ t.chip.attn.retired ∧ t.chip.cores = s.chip.cores ∧
      t.chip.dict = s.chip.dict.raise s.chip.run.step Obj.crossingTimeoutCount 0 1 (unitField 2 e) 0)) ∧
  (∀ (x : Crossing) (s : State), crossingKey x ∈ s.chip.clock.isolated → exec (.crossingTimeout x) s = .next s)

/-- Half clocks and clock crossings. -/
def Obligations.HalfClocksAndCrossings : Prop :=
  Claims.HalfClocksStopAndStart ∧ Claims.CrossingsIsolateThemselves

/-! ### The dictionary (chapter 18) -/

/-- A good read frame with room for its answer is answered on its port with the object's value, in the answer frame of R464: inline
where the value has at most 208 bytes (R466), otherwise as a snapshot under a new TransferId, whose segments follow, in ascending
Offset, with More on each but the last (R469). The only other change is that the port received a good frame. A port that already
holds four transfers answers BUSY (R468). Where the manual leaves a point open, the choice is the model's: log entry 12. Concluded
to answer a next state: dictRead. -/
def Obligations.ReadIsAnswered : Prop :=
  (∀ (f : Frame) (v : FrameView) (s : State) (c : S8), s.chip.frameArrives f v → v.type = 0x10 → v.at 7 1 = 0 →
    (s.chip.ports.get f.port).answers.length < 32 → s.chip.boot.anyFirmware = true → c = s.chip.goodFrame f.port →
    (c.readObject v.obj).2.length ≤ 208 →
      exec (.dictRead f) s = .next { s with
        chip := c.answerRead f.port (v.at 0 4) v.obj (c.readObject v.obj).1 0 (c.readObject v.obj).2 }) ∧
  (∀ (f : Frame) (v : FrameView) (s : State) (c : S8), s.chip.frameArrives f v → v.type = 0x10 → v.at 7 1 = 0 →
    (s.chip.ports.get f.port).answers.length < 32 → s.chip.boot.anyFirmware = true → c = s.chip.goodFrame f.port →
    208 < (c.readObject v.obj).2.length → c.dict.openOn f.port < 4 → ∃ t, exec (.dictRead f) s = .next t ∧
      t = { s with chip := { s.chip with
        ports := t.chip.ports
        dict := { s.chip.dict with transfers := t.chip.dict.transfers, nextId := t.chip.dict.nextId } } } ∧
      (∃ id, t.chip.dict.transfers = s.chip.dict.transfers ++
        [{ id := id, port := f.port, write := false, obj := v.obj, requestId := v.at 0 4, length := (c.readObject v.obj).2.length,
           segments := [], snapshot := (c.readObject v.obj).2, lastCycle := s.chip.ports.cycle }] ∧
        (t.chip.ports.get f.port).segments = (s.chip.ports.get f.port).segments.filter (fun u => leAt u.payload 0 2 ≠ id) ++
          segmentFrames id (c.readObject v.obj).2 0) ∧
      (t.chip.ports.get f.port).answers.length = (s.chip.ports.get f.port).answers.length + 1 ∧
      t.chip.ports.get (otherPort f.port) = s.chip.ports.get (otherPort f.port)) ∧
  (∀ (f : Frame) (v : FrameView) (s : State) (c : S8), s.chip.frameArrives f v → v.type = 0x10 → v.at 7 1 = 0 →
    (s.chip.ports.get f.port).answers.length < 32 → s.chip.boot.anyFirmware = true → c = s.chip.goodFrame f.port →
    208 < (c.readObject v.obj).2.length → 4 ≤ c.dict.openOn f.port →
      exec (.dictRead f) s = .next { s with chip := c.answerRead f.port (v.at 0 4) v.obj 6 0 [] })

/-- A good inline write frame on the owner port, with room for its answer and a value that its object takes, performs that object's
effect and answers with its status, on its port only. Where it would break a limit that the manual leaves unchecked, it faults
instead (R3). An object with no effect of its own holds the value: an RW object of fixed size at once (R458), an RWB object pending
(R459). Where the manual leaves a point open, the choice is the model's: log entries 5 and 10. Concluded to answer a next state:
dictWrite. -/
def Obligations.WritePerformsItsObject : Prop :=
  (∀ (f : Frame) (v : FrameView) (s : State) (c : S8), s.chip.frameArrives f v → v.type = 0x11 → v.at 7 1 = 0 → v.at 8 4 ≤ 208 →
    (s.chip.ports.get f.port).answers.length < 32 → s.chip.boot.anyFirmware = true → s.chip.ports.owner = f.port →
    c = s.chip.goodFrame f.port → writeCheck v.obj v.value = statusOk → s.chip.frameBreaks f = none →
      exec (.dictWrite f) s = .next { s with
        chip := (objEffect v.obj c v.value).2.answerWrite f.port (v.at 0 4) v.obj (objEffect v.obj c v.value).1 v.value.length
          (c.dict.answerValue v.obj v.value) }) ∧
  (∀ (f : Frame) (s : State) (r : Nat), f.raw.length = 256 → s.chip.frameBreaks f = some r →
    exec (.dictWrite f) s = .fault (.undefinedByR3 r)) ∧
  (∀ (obj : Nat) (i : ObjInfo) (c : S8) (value : Bytes), objInfo obj = some i →
    (ownEffects (objDie obj)).find? (fun e => e.1 = normObj obj) = none →
    (i.access = .rwb → (objEffect obj c value).1 = statusOk ∧ (objEffect obj c value).2.dict.get obj = c.dict.get obj ∧
      SMap.find (objEffect obj c value).2.dict.pending (objKey obj 0) = some (valueOf value)) ∧
    (i.access = .rw → i.type ≠ .domain → (objEffect obj c value).1 = statusOk ∧
      (objEffect obj c value).2.dict.get obj = valueOf value ∧
      (objEffect obj c value).2.dict.pending = c.dict.pending))

/-- Segmented writes (R468, R470). An open that passes its checks, on the owner port with fewer than four transfers, opens one that
holds no byte yet. A data segment inside the value is kept in the transfer, and while some byte is missing nothing else happens; the
segment that completes the value ends the transfer and answers. A data segment may come again: the later one overwrites. A transfer
that is aborted, or that meets no segment for 4,096 cycles, ends with no effect on any object: it is counted in
DictTransferAbortCount, and answered. Where the manual leaves a point open, the choice is the model's: log entry 12. Concluded to
answer a next state: segmentedWriteOpen, transferAbort, segmentData, segmentAbort, segmentedWriteTimeout. -/
def Sys2Proof.Claims.SegmentedWrites : Prop :=
  (∀ (f : Frame) (v : FrameView) (s : State), s.chip.frameArrives f v → v.type = 0x11 → v.at 7 1 = 1 →
    (s.chip.ports.get f.port).answers.length < 32 → s.chip.boot.anyFirmware = true → s.chip.ports.owner = f.port →
    openCheck v.obj (v.at 8 4) = statusOk → s.chip.dict.openOn f.port < 4 → ∃ t, exec (.segmentedWriteOpen f) s = .next t ∧
      t = { s with chip := { s.chip with
        ports := t.chip.ports
        dict := { s.chip.dict with transfers := t.chip.dict.transfers, nextId := t.chip.dict.nextId } } } ∧
      (∃ id, t.chip.dict.transfers = s.chip.dict.transfers ++
        [{ id := id, port := f.port, write := true, obj := v.obj, requestId := v.at 0 4, length := v.at 8 4, segments := [],
           snapshot := [], lastCycle := s.chip.ports.cycle }]) ∧
      (t.chip.ports.get f.port).answers.length = (s.chip.ports.get f.port).answers.length + 1) ∧
  (∀ (f : Frame) (v : FrameView) (s : State) (w : DictTransfer), s.chip.frameArrives f v → v.type = 0x12 → v.at 2 1 = 0 →
    s.chip.dict.transfer f.port (v.at 0 2) = some w → w.write = true → 0 < v.at 8 2 → v.at 8 2 ≤ 208 →
    v.at 4 4 + v.at 8 2 ≤ w.length → segmentsCover w.length (w.segments ++ [(v.at 4 4, bytesAt v.payload 16 (v.at 8 2))]) = false →
      exec (.segmentData f) s = .next { s with chip := { s.chip.goodFrame f.port with
        dict := s.chip.dict.setTransfer { w with
          segments := w.segments ++ [(v.at 4 4, bytesAt v.payload 16 (v.at 8 2))], lastCycle := s.chip.ports.cycle } } }) ∧
  (∀ (f : Frame) (v : FrameView) (s : State) (w x : DictTransfer), s.chip.frameArrives f v → v.type = 0x12 → v.at 2 1 = 0 →
    s.chip.dict.transfer f.port (v.at 0 2) = some w → w.write = true → 0 < v.at 8 2 → v.at 8 2 ≤ 208 →
    v.at 4 4 + v.at 8 2 ≤ w.length →
    x = { w with segments := w.segments ++ [(v.at 4 4, bytesAt v.payload 16 (v.at 8 2))], lastCycle := s.chip.ports.cycle } →
    segmentsCover x.length x.segments = true →
      exec (.segmentData f) s = .next { s with
        chip := ({ s.chip.goodFrame f.port with dict := s.chip.dict.setTransfer x } : S8).finishWrite x }) ∧
  (∀ (c : S8) (w : DictTransfer), writeCheck w.obj (assemble w.length w.segments) ≠ statusOk → ∃ u : UpFrame,
    c.finishWrite w = ({ c with dict := { c.dict with
      transfers := c.dict.transfers.filter (fun u => u.id ≠ w.id ∨ u.port ≠ w.port) } } : S8).answer w.port u ∧
    leAt u.payload 7 1 = writeCheck w.obj (assemble w.length w.segments)) ∧
  (∀ (f : Frame) (v : FrameView) (s : State) (w : DictTransfer), s.chip.frameArrives f v → v.type = 0x11 → v.at 7 1 = 2 →
    (s.chip.ports.get f.port).answers.length < 32 → s.chip.boot.anyFirmware = true → s.chip.ports.owner = f.port →
    s.chip.dict.transfer f.port (v.at 12 2) = some w →
      exec (.transferAbort f) s = .next { s with
        chip := ((s.chip.goodFrame f.port).endTransfer w statusAborted).answerWrite f.port (v.at 0 4) v.obj statusOk (v.at 8 4) [] }) ∧
  (∀ (f : Frame) (v : FrameView) (s : State) (w : DictTransfer), s.chip.frameArrives f v → v.type = 0x12 → v.at 2 1 = 1 →
    s.chip.dict.transfer f.port (v.at 0 2) = some w →
      exec (.segmentAbort f) s = .next { s with chip := (s.chip.goodFrame f.port).endTransfer w statusAborted }) ∧
  (∀ (p : Port) (id : BitVec 16) (s : State) (w : DictTransfer), s.chip.dict.transfer p id.toNat = some w → w.write = true →
    w.lastCycle + 4096 ≤ s.chip.ports.cycle →
      exec (.segmentedWriteTimeout p id) s = .next { s with chip := s.chip.endTransfer w statusTimeout }) ∧
  (∀ (c : S8) (w : DictTransfer) (status : Nat), c.endTransfer w status = { c with
      ports := (c.endTransfer w status).ports
      dict := ({ c.dict with transfers := c.dict.transfers.filter (fun u => u.id ≠ w.id ∨ u.port ≠ w.port) } : Dict).raise
        c.run.step Obj.dictTransferAbortCount 0 (if w.write then 1 else 0) 0 w.id })

/-- Segmented reads (R469): a resend queues the snapshot's segments from its Offset again; the transfer closes once its last segment
has been sent and no resend has come for 64 cycles, and then it is no longer among the port's transfers. Where the manual leaves a
point open, the choice is the model's: log entry 12. Concluded to answer a next state: segmentResend, segmentedReadClose. -/
def Sys2Proof.Claims.SegmentedReads : Prop :=
  (∀ (f : Frame) (v : FrameView) (s : State) (r : DictTransfer), s.chip.frameArrives f v → v.type = 0x12 → v.at 2 1 = 2 →
    s.chip.dict.transfer f.port (v.at 0 2) = some r → r.write = false → v.at 4 4 < r.length → ∃ t,
      exec (.segmentResend f) s = .next t ∧
      t = { s with chip := { s.chip with
        ports := t.chip.ports, dict := { s.chip.dict with transfers := t.chip.dict.transfers } } } ∧
      t.chip.dict.transfers = s.chip.dict.transfers.map (fun u =>
        if u.id = r.id ∧ u.port = r.port then { r with lastCycle := s.chip.ports.cycle } else u) ∧
      (t.chip.ports.get f.port).segments = (s.chip.ports.get f.port).segments.filter (fun u => leAt u.payload 0 2 ≠ r.id) ++
        segmentFrames r.id r.snapshot (v.at 4 4)) ∧
  (∀ (p : Port) (id : BitVec 16) (s : State) (r : DictTransfer), s.chip.dict.transfer p id.toNat = some r → r.write = false →
    r.lastCycle + 64 ≤ s.chip.ports.cycle → (∀ u ∈ (s.chip.ports.get p).segments, leAt u.payload 0 2 ≠ r.id) → ∃ t,
      exec (.segmentedReadClose p id) s = .next t ∧
      t = { s with chip := { s.chip with
        ports := t.chip.ports
        dict := { s.chip.dict with transfers := s.chip.dict.transfers.filter (fun u => u.id ≠ r.id ∨ u.port ≠ r.port) } } } ∧
      (t.chip.ports.get p).answers = (s.chip.ports.get p).answers ∧ t.chip.dict.transfer p id.toNat = none) ∧
  (∀ (id : Nat) (value : Bytes) (offset i : Nat), i < (segmentFrames id value offset).length →
    leAt (((segmentFrames id value offset).map UpFrame.payload).getD i []) 4 4 = (offset + 208 * i) % 2 ^ 32)

/-- Segmented transfers. -/
def Obligations.SegmentedTransfersRun : Prop :=
  Claims.SegmentedWrites ∧ Claims.SegmentedReads

/-- Flags and masks (R472, R475). A clear that names an event counter, with the value that the counter has, clears its flag and
nothing else; with another value, the flag stays and the answer is STALE with the counter; a clear of a flag already clear has no
effect and is answered OK, and one that names no event counter has none and is answered RANGE. A raise moves the counter on and sets
the flag at once, so a clear with the value read before it fails. A mask bit is set or cleared; masking a non-maskable event, one of
six, is answered ACCESS, and naming no event counter, or a mask byte above 1, RANGE. A masked event counts and sets its flag, but
queues no frame. Concluded to answer a next state: eventClear, eventMask. -/
def Obligations.FlagsClearAndMask : Prop :=
  (∀ (w : ObjWrite) (s : State) (obj element : Nat), s.chip.writeArrives w Obj.eventClear → (obj, element) = namedCounter w.value →
    s.chip.isEventCounter obj element = true → leAt w.value 8 4 = s.chip.dict.count obj element → ∃ c : S8,
      exec (.eventClear w) s = .next { s with
        chip := c.answerWrite w.port w.requestId.toNat Obj.eventClear statusOk w.value.length
          (leBytes 4 (s.chip.dict.count obj element)) } ∧
      c = { s.chip with dict := { s.chip.dict with flags := c.dict.flags } } ∧
      SMap.find c.dict.flags (objKey obj element) = none ∧
      ∀ k, k ≠ objKey obj element → SMap.find c.dict.flags k = SMap.find s.chip.dict.flags k) ∧
  (∀ (w : ObjWrite) (s : State) (obj element : Nat) (r : Raise), s.chip.writeArrives w Obj.eventClear →
    (obj, element) = namedCounter w.value → s.chip.isEventCounter obj element = true →
    SMap.find s.chip.dict.flags (objKey obj element) = some r → leAt w.value 8 4 ≠ s.chip.dict.count obj element →
      exec (.eventClear w) s = .next { s with
        chip := s.chip.answerWrite w.port w.requestId.toNat Obj.eventClear 10 w.value.length
          (leBytes 4 (s.chip.dict.count obj element)) }) ∧
  (∀ (w : ObjWrite) (s : State) (obj element : Nat), s.chip.writeArrives w Obj.eventMask → (obj, element) = namedCounter w.value →
    s.chip.isEventCounter obj element = true → leAt w.value 3 1 ≤ 1 → (leAt w.value 3 1 = 1 → obj ∉ nonMaskable) → ∃ c : S8,
      exec (.eventMask w) s = .next { s with chip := c.writeDone w Obj.eventMask } ∧
      c = { s.chip with dict := { s.chip.dict with masked := c.dict.masked } } ∧
      ∀ k, k ∈ c.dict.masked ↔ (if k = objKey obj element then leAt w.value 3 1 = 1 else k ∈ s.chip.dict.masked)) ∧
  (∀ (w : ObjWrite) (s : State), s.chip.writeArrives w Obj.eventMask →
    (s.chip.isEventCounter (namedCounter w.value).1 (namedCounter w.value).2 = false ∨ 1 < leAt w.value 3 1) →
      exec (.eventMask w) s = .next { s with
        chip := s.chip.answerWrite w.port w.requestId.toNat Obj.eventMask statusRange w.value.length [] }) ∧
  (∀ (w : ObjWrite) (s : State), s.chip.writeArrives w Obj.eventMask → (namedCounter w.value).1 ∈ nonMaskable →
    s.chip.isEventCounter (namedCounter w.value).1 (namedCounter w.value).2 = true → leAt w.value 3 1 = 1 →
      exec (.eventMask w) s = .next { s with
        chip := s.chip.answerWrite w.port w.requestId.toNat Obj.eventMask statusAccess w.value.length [] }) ∧
  (∀ (w : ObjWrite) (s : State) (obj element : Nat), s.chip.writeArrives w Obj.eventClear → (obj, element) = namedCounter w.value →
    s.chip.isEventCounter obj element = true → SMap.find s.chip.dict.flags (objKey obj element) = none →
      exec (.eventClear w) s = .next { s with
        chip := s.chip.answerWrite w.port w.requestId.toNat Obj.eventClear statusOk w.value.length
          (leBytes 4 (s.chip.dict.count obj element)) }) ∧
  (∀ (w : ObjWrite) (s : State) (obj element : Nat), s.chip.writeArrives w Obj.eventClear → (obj, element) = namedCounter w.value →
    s.chip.isEventCounter obj element = false → ∃ value,
      exec (.eventClear w) s = .next { s with
        chip := s.chip.answerWrite w.port w.requestId.toNat Obj.eventClear statusRange w.value.length value }) ∧
  (∀ (d : Dict) (step obj element amount unit value : Nat), 0 < amount → amount < 2 ^ 32 →
    objKey obj element ≠ objKey Obj.eventQueueOverflowCount 0 →
      (d.raise step obj element amount unit value).count obj element = (d.count obj element + amount) % 2 ^ 32 ∧
      (SMap.find (d.raise step obj element amount unit value).flags (objKey obj element)).isSome = true ∧
      (d.count obj element < 2 ^ 32 → (d.raise step obj element amount unit value).count obj element ≠ d.count obj element) ∧
      (objKey obj element ∈ d.masked → obj ∉ nonMaskable → (d.raise step obj element amount unit value).queue = d.queue)) ∧
  (∀ obj : Nat, obj ∈ nonMaskable ↔ obj = Obj.clockSourceFailCount ∨ obj = Obj.stepOverrunCount ∨ obj = Obj.barrierIsolatedCount ∨
    obj = Obj.droopFaultCount ∨ obj = Obj.thermalCriticalCount ∨ obj = Obj.dieTripCount)

/-- The event queue (R474). It holds at most 256 frames, maskable ones at most 240. A maskable event that finds no entry it may use drops
its frame; a non-maskable one that finds all in use takes the place of the oldest maskable frame, and its frame is dropped where there is
none. Whenever a frame is dropped EventQueueOverflowCount rises by one, with no frame of its own, and the next frame sent says so. -/
def Sys2Proof.Claims.EventQueueKeepsItsLimits : Prop :=
  (∀ (d e : Dict) (f : EventFrame) (maskable : Dict → Nat), maskable = (fun x => (x.queue.filter (fun g => !g.nonMaskable)).length) →
    e = d.enqueue f → d.queue.length ≤ 256 → maskable d ≤ 240 →
    e.queue.length ≤ 256 ∧ maskable e ≤ 240 ∧
    (d.queue.length < 256 → (f.nonMaskable = true ∨ maskable d < 240) → e = { d with queue := d.queue ++ [f] }) ∧
    ((256 ≤ d.queue.length ∨ (f.nonMaskable = false ∧ 240 ≤ maskable d)) →
      e.dropped = true ∧
      e.count Obj.eventQueueOverflowCount 0 = (d.count Obj.eventQueueOverflowCount 0 + 1) % 2 ^ 32 ∧
      (f.nonMaskable = false → e.queue = d.queue) ∧
      (f.nonMaskable = true → maskable d = 0 → e.queue = d.queue) ∧
      ∀ before oldest after, f.nonMaskable = true → d.queue = before ++ oldest :: after → (∀ g ∈ before, g.nonMaskable = true) →
        oldest.nonMaskable = false → e.queue = before ++ after ++ [f])) ∧
  (∀ (c : S8) (p : Port) (e : EventFrame) (rest : List EventFrame), c.dict.queue.take c.eventRoom = e :: rest → c.ports.live p = true →
    c.sendEvents.dict.dropped = false ∧ ∃ more,
      (c.sendEvents.ports.get p).events = (c.ports.get p).events ++ eventFrame e c.dict.dropped :: more) ∧
  (∀ (e : EventFrame) (dropped : Bool), field (leAt (eventFrame e dropped).payload 3 1) 1 1 = (if dropped then 1 else 0))

/-- Raising an event adds its amount to its counter modulo 2^32 and sets its flag (R471); it changes no other counter but, where the
queue of frames is full, EventQueueOverflowCount, and never takes the queue beyond 256 frames (R474). -/
def Sys2Proof.Claims.RaiseCountsAndFlags : Prop :=
  ∀ (d : Dict) (step obj element amount unit value : Nat), 0 < amount →
    objKey obj element ≠ objKey Obj.eventQueueOverflowCount 0 →
    (d.raise step obj element amount unit value).count obj element = (d.count obj element + amount) % 2 ^ 32 ∧
    (SMap.find (d.raise step obj element amount unit value).flags (objKey obj element)).isSome = true ∧
    (d.queue.length ≤ 256 → (d.raise step obj element amount unit value).queue.length ≤ 256) ∧
    ∀ o e, objKey o e ≠ objKey obj element → objKey o e ≠ objKey Obj.eventQueueOverflowCount 0 →
      (d.raise step obj element amount unit value).count o e = d.count o e ∧
      SMap.find (d.raise step obj element amount unit value).flags (objKey o e) = SMap.find d.flags (objKey o e)

/-- Events: raising one, and the queue of their frames. -/
def Obligations.EventsAreRaisedAndQueued : Prop :=
  Claims.EventQueueKeepsItsLimits ∧ Claims.RaiseCountsAndFlags

/-- Saving and restoring settings (R462). ConfigSave keeps a copy in which a pending value stands for the value in effect, and
neither RunStartStep, WheelDrainStep nor HalfClockControl stands; ConfigRestoreDefaults sets every RW object so saved to its default
at once, holds the default of an RWB object pending, and leaves the saved copy. Where the manual leaves a point open, the choice is
the model's: log entry 12. Concluded to answer a next state: configSave, configRestoreDefaults. -/
def Obligations.SettingsAreSavedAndRestored : Prop :=
  (∀ (w : ObjWrite) (s : State), s.chip.writeArrives w Obj.configSave → valueOf w.value = 1 → ∃ c : S8,
    exec (.configSave w) s = .next { s with chip := c.writeDone w Obj.configSave } ∧
    ∃ copy : SavedConfig, c = { s.chip with dict := { s.chip.dict with saved := some (copy, true) } } ∧
      (∀ obj, savedObject obj = false → SMap.find copy.values (objKey obj 0) = none ∧ SMap.find copy.blobs (objKey obj 0) = none) ∧
      (∀ obj, savedObject obj = true → s.chip.dict.pending = [] →
        SMap.find copy.values (objKey obj 0) = SMap.find s.chip.dict.settings (objKey obj 0)) ∧
      savedObject Obj.runStartStep = false ∧ savedObject Obj.wheelDrainStep = false ∧ savedObject Obj.halfClockControl = false) ∧
  (∀ (w : ObjWrite) (s : State), s.chip.writeArrives w Obj.configRestoreDefaults → valueOf w.value = 1 → ∃ c : S8,
    exec (.configRestoreDefaults w) s = .next { s with chip := c.writeDone w Obj.configRestoreDefaults } ∧
    c = { s.chip with dict := { s.chip.dict with
      settings := c.dict.settings, blobs := c.dict.blobs, pending := c.dict.pending, configState := 0 } } ∧
    (∀ obj i, objInfo obj = some i → i.access = .rw → savedObject obj = true → c.dict.get obj = objDefault obj) ∧
    (∀ obj, savedObject obj = false → c.dict.get obj = s.chip.dict.get obj))

/-! ### Start-up, firmware and handover (chapter 19, R502, R506) -/

/-- Losing power. MOD_RESET_N low, a fault of the carrier's rails and a stop of the input stage each leave memory reading zero,
every sequence gone, no run, every counter and flag clear and every object at its default (R480, R481), port A with ownership (R486)
and no firmware running; what is kept is the vats' binding, the column maps that the Catalogue holds (R490), the golden shards, the
saved settings, the events' log, the firmware images and Preferred, JoinWait and the energy last saved (R440, R490, R491). Each
holds the module off in its own way. Where the manual leaves a point open, the choice is the model's: log entry 52. Concluded to
answer a next state: modReset, carrierRailFault, inputVoltageStop, inputRecover. -/
def Sys2Proof.Claims.PowerLossKeepsWhatLasts : Prop :=
  (∀ (i : Instr) (s : State), i = .modReset ∨ i = .carrierRailFault ∨ i = .inputVoltageStop → ∃ t, exec i s = .next t ∧
    t.pending = s.pending ∧ (∀ a, t.chip.mem.byte a = resetByte a) ∧ t.chip.serve.slots = [] ∧ t.chip.run.running = none ∧
    t.chip.run.step = 0 ∧ t.chip.dict.counts = [] ∧ t.chip.dict.flags = [] ∧ t.chip.dict.settings = [] ∧
    t.chip.dict.pending = [] ∧ t.chip.ports.owner = .a ∧ t.chip.boot.anyFirmware = false ∧ t.chip.boot.coordinator = 0xFF ∧
    t.chip.dict.saved = s.chip.dict.saved ∧ t.chip.dict.logged = s.chip.dict.logged ∧ t.chip.vats.map = s.chip.vats.map ∧
    t.chip.turn.columnMaps = s.chip.catalogueMaps ∧ t.chip.cellar.golden = s.chip.cellar.golden ∧
    t.chip.boot.images = s.chip.boot.images ∧ t.chip.boot.preferred = s.chip.boot.preferred ∧
    t.chip.boot.joinWait = s.chip.boot.joinWait ∧ t.chip.power.total = s.chip.power.saved ∧
    t.chip.turn.rowWrites = s.chip.turn.savedWrites) ∧
  (∀ s : State, ∃ t, exec .modReset s = .next t ∧ t.chip.boot.resetLow = true ∧ t.chip.boot.railsGood = s.chip.boot.railsGood) ∧
  (∀ s : State, ∃ t, exec .carrierRailFault s = .next t ∧ t.chip.boot.pwrGood = false ∧ t.chip.boot.railsGood = false ∧
    t.chip.boot.resetLow = s.chip.boot.resetLow) ∧
  (∀ s : State, ∃ t, exec .inputVoltageStop s = .next t ∧ t.chip.boot.pwrGood = false ∧ t.chip.boot.inputGood = false ∧
    t.chip.boot.stopped = true) ∧
  (∀ s : State, exec .inputRecover s = .next { s with
    chip := { s.chip with boot := { s.chip.boot with inputGood := true, stopped := false } } })

/-- Starting. With the input good and MOD_RESET_N high, POWER_UP from off, the release of MOD_RESET_N and the return of the
carrier's rails run the power-up sequence (R480): PWR_GOOD rises, every die with a sound test record and a core that passes the
ROM's check has its starter running (R484) with both its halves at 1,700 MHz (R446), and each die whose test record has no valid
copy counts one TestRecordFault (R483). Nothing else changes. A release while the input is not good only releases the pin. Where the
manual leaves a point open, the choice is the model's: log entry 52. Concluded to answer a next state: powerUp, modResetRelease,
carrierRailsRestored. -/
def Sys2Proof.Claims.PowerUpStartsTheStarters : Prop :=
  (∀ (i : Instr) (records cores : List Bool) (s : State), records.length = 8 → cores.length = 8 → s.chip.boot.inputGood = true →
    s.chip.boot.handoverState ≠ 4 →
    (i = .powerUp records cores ∧ s.chip.boot.resetLow = false ∧ s.chip.boot.pwrGood = false) ∨
      (i = .modResetRelease records cores ∧ s.chip.boot.resetLow = true) ∨
      (i = .carrierRailsRestored records cores ∧ s.chip.boot.resetLow = false ∧ s.chip.boot.railsGood = false) → ∃ t,
    exec i s = .next t ∧
    t = { s with chip := { s.chip with
      boot := t.chip.boot, dict := t.chip.dict, power := { s.chip.power with clocks := t.chip.power.clocks } } } ∧
    (∀ h < 16, t.chip.power.clock h = 1700) ∧
    t.chip.boot = { s.chip.boot with
      badRecords := t.chip.boot.badRecords, noStarter := t.chip.boot.noStarter, railsGood := true, pwrGood := true,
      resetLow := false, state := t.chip.boot.state } ∧
    (∀ d < 8, records.getD d false = true → cores.getD d false = true → SMap.getD t.chip.boot.state d 0 = 1) ∧
    (∀ d < 8, d ∈ t.chip.boot.badRecords ↔ records.getD d false = false) ∧
    t.chip.dict = s.chip.dict.raise s.chip.run.step Obj.testRecordFaultCount 0 t.chip.boot.badRecords.length
      (unitField 1 (t.chip.boot.badRecords.headD 0)) 0) ∧
  (∀ (records cores : List Bool) (s : State), records.length = 8 → cores.length = 8 → s.chip.boot.inputGood = false →
    exec (.modResetRelease records cores) s = .next { s with
      chip := { s.chip with boot := { s.chip.boot with resetLow := false } } })

/-- Losing power and starting. -/
def Obligations.PowerComesAndGoes : Prop :=
  Claims.PowerLossKeepsWhatLasts ∧ Claims.PowerUpStartsTheStarters

/-- A boot attempt (R485). It reads the Preferred slot on even attempts and the other on odd ones. In a reachable cellar (R15) a
readable image of the right length and revision, and signed, is started: the die's firmware runs from that slot, and every service
number of the die is backed by a healthy unit or unbacked (R8, R21). Any other attempt is logged with why, counts in
BootAttemptCount, and the starter waits; from the fourth failure in a row it drives ALERT_N low. Other dies are left alone. Where
the manual leaves a point open, the choice is the model's: log entry 52. Concluded to answer a next state: bootAttempt. -/
def Sys2Proof.Claims.BootAttemptStartsFirmware : Prop :=
  (∀ (d : Die) (read : ReadResult) (s : State) (slot : Nat), (SMap.getD s.chip.boot.state d 0 = 1 ∨ SMap.getD s.chip.boot.state d 0 = 2) →
    slot = s.chip.boot.attemptSlot d → read = .readable → imageResult (s.chip.boot.imageBytes d slot) = 0 →
    s.chip.boot.coordinator = 0xFF → s.chip.cellarReachable d = true → ∃ t, exec (.bootAttempt d read) s = .next t ∧
      t = { s with chip := { s.chip with
        boot := t.chip.boot, dict := t.chip.dict
        vats := { s.chip.vats with map := t.chip.vats.map, unbacked := t.chip.vats.unbacked }
        cores := { s.chip.cores with
          map := t.chip.cores.map, states := t.chip.cores.states, unbacked := t.chip.cores.unbacked } } } ∧
      (∀ k : Nat, k / 2592 = d.val → isServiceVat k = true → k ∈ t.chip.vats.unbacked ∨ Config.vatBad (t.chip.vats.physical k) = false) ∧
      (∀ k : Nat, k / 72 = d.val → k % 36 < 32 → k ∈ t.chip.cores.unbacked ∨ t.chip.cores.stateOf (t.chip.cores.physical k) ≠ 4) ∧
      (t.chip.vats.unbacked = s.chip.vats.unbacked → t.chip.cores.unbacked = s.chip.cores.unbacked →
        t.chip.dict = s.chip.dict) ∧
      SMap.getD t.chip.boot.state d 0 = 3 ∧ SMap.find t.chip.boot.running d = some slot ∧
      SMap.getD t.chip.boot.failures d 0 = 0 ∧ d.val ∉ t.chip.boot.starterAlert ∧
      (∀ e, e ≠ d.val → SMap.getD t.chip.boot.state e 0 = SMap.getD s.chip.boot.state e 0)) ∧
  (∀ (d : Die) (read : ReadResult) (s : State) (slot : Nat), (SMap.getD s.chip.boot.state d 0 = 1 ∨ SMap.getD s.chip.boot.state d 0 = 2) →
    slot = s.chip.boot.attemptSlot d →
    (read = .failed ∨ s.chip.cellarReachable d = false ∨ imageResult (s.chip.boot.imageBytes d slot) ≠ 0) → ∃ t,
      exec (.bootAttempt d read) s = .next t ∧
      t = { s with chip := { s.chip with
        boot := t.chip.boot
        dict := s.chip.dict.raise s.chip.run.step Obj.bootAttemptCount 0 1 (unitField 1 d) slot } } ∧
      SMap.getD t.chip.boot.state d 0 = 2 ∧
      SMap.getD t.chip.boot.attempts d 0 = SMap.getD s.chip.boot.attempts d 0 + 1 ∧
      (d.val ∈ t.chip.boot.starterAlert ↔ d.val ∈ s.chip.boot.starterAlert ∨ 3 ≤ SMap.getD s.chip.boot.failures d 0)) ∧
  (∀ (b : Boot) (die : Nat), b.attemptSlot die = (if SMap.getD b.attempts die 0 % 2 = 0 then SMap.getD b.preferred die 0
    else 1 - SMap.getD b.preferred die 0)) ∧
  (∀ image : Bytes, imageResult image = 0 ↔ 4096 ≤ leAt image 12 4 ∧ leAt image 12 4 ≤ 268435456 ∧
    leAt image 2 2 = Config.hardwareRevision ∧ signedBy Config.firmwareKey (image.take (leAt image 12 4)) = true)

/-- Loading firmware (R487). FirmwareLoadRequest begins receiving an image of its length, whether or not firmware runs. A data frame
that lies within the image is kept; the one that completes it has the image checked: a good one is written to the slot that is not
running of every reachable die, and LoadState is 3; a bad one changes no slot, and LoadState is 4 with its reason. Concluded to
answer a next state: bulkFirmware, firmwareLoadRequest. -/
def Sys2Proof.Claims.FirmwareIsLoaded : Prop :=
  (∀ (w : ObjWrite) (s : State), s.chip.writeArrives w Obj.firmwareLoadRequest → ∃ c : S8,
    exec (.firmwareLoadRequest w) s = .next { s with chip := c.writeDone w Obj.firmwareLoadRequest } ∧
    c = { s.chip with boot := { s.chip.boot with
      loadLength := valueOf w.value, segments := [], loadState := 1, loadReason := 0 } }) ∧
  (∀ (f : Frame) (v : FrameView) (s : State) (segments : List (Nat × Bytes)), s.chip.frameArrives f v → v.type = 0x30 →
    v.at 0 1 = 6 → s.chip.ports.owner = f.port → s.chip.boot.loadState = 1 → 0 < v.at 8 2 → v.at 8 2 ≤ 208 →
    v.at 4 4 + v.at 8 2 ≤ s.chip.boot.loadLength →
    segments = s.chip.boot.segments ++ [(v.at 4 4, bytesAt v.payload 16 (v.at 8 2))] →
    (segmentsCover s.chip.boot.loadLength segments = false →
      exec (.bulkFirmware f) s = .next { s with
        chip := { s.chip.goodFrame f.port with boot := { s.chip.boot with segments := segments } } }) ∧
    (segmentsCover s.chip.boot.loadLength segments = true → ∃ t, exec (.bulkFirmware f) s = .next t ∧
      t = { s with chip := { s.chip.goodFrame f.port with boot := t.chip.boot } } ∧
      (imageResult (assemble s.chip.boot.loadLength segments) = 0 →
        leAt (assemble s.chip.boot.loadLength segments) 12 4 = s.chip.boot.loadLength →
          t.chip.boot.loadState = 3 ∧ ∀ d < 8, s.chip.cellarReachable d = true → SMap.getD s.chip.boot.state d 0 = 3 →
            SMap.getD s.chip.boot.running d 0 ≤ 1 →
            SMap.find t.chip.boot.images (2 * d + (1 - SMap.getD s.chip.boot.running d 0)) =
              some { state := 1, bytes := assemble s.chip.boot.loadLength segments }) ∧
      (imageResult (assemble s.chip.boot.loadLength segments) ≠ 0 →
        t.chip.boot.images = s.chip.boot.images ∧ t.chip.boot.loadState = 4)))

/-- Boot attempts, and loading firmware. -/
def Obligations.FirmwareIsStartedAndLoaded : Prop :=
  Claims.BootAttemptStartsFirmware ∧ Claims.FirmwareIsLoaded

/-- The coordinator (R488, R489). It is the lowest die whose firmware runs, both of whose halves are in service and whose cellar is
reachable; the next such die is its deputy, which holds a mirror of the settings, and a die without running firmware is treated as
lost. A die that runs another release than the coordinator's, both cellars reachable, takes the coordinator's image into the slot
that is not running, and its starter restarts on it; what is left of the step is judged without it (R32, R182). Where the manual
leaves a point open, the choice is the model's: log entry 52. Concluded to answer a next state: coordinatorChoice,
starterRestart. -/
def Sys2Proof.Claims.CoordinatorIsChosen : Prop :=
  (∀ (s : State) (die : Nat) (rest : List Nat), s.chip.boot.coordinator = 0xFF → s.chip.coordinators = die :: rest → ∃ t,
    exec .coordinatorChoice s = .next t ∧ t.pending = s.pending ∧ t.chip.boot.coordinator = die ∧
    t.chip.boot.deputy = rest.headD 0xFF ∧
    t.chip.boot.mirror = { values := t.chip.dict.settings, blobs := t.chip.dict.blobs } ∧
    (∀ d < 8, d ∈ t.chip.run.lostDies ↔ SMap.getD s.chip.boot.state d 0 ≠ 3)) ∧
  (∀ (s : S8) (die : Nat) (rest : List Nat), s.coordinators = die :: rest → s.mayCoordinate die = true ∧ die < 8 ∧
    (∀ d < die, s.mayCoordinate d = false) ∧ SMap.getD s.boot.state die 0 = 3) ∧
  (∀ (d : Die) (s : State) (k slot target : Nat), k = s.chip.boot.coordinator → k < 8 → SMap.getD s.chip.boot.state d 0 = 3 →
    slot = SMap.getD s.chip.boot.running k 0 → target = 1 - SMap.getD s.chip.boot.running d 0 →
    s.chip.boot.release d (SMap.getD s.chip.boot.running d 0) ≠ s.chip.boot.release k slot →
    s.chip.cellarReachable k = true → s.chip.cellarReachable d = true → ∃ c : S8,
      exec (.starterRestart d) s = .next { s with chip := c.judge } ∧
      c = { s.chip with
        boot := { s.chip.boot with
          images := c.boot.images, state := c.boot.state, attempts := c.boot.attempts, rejoining := c.boot.rejoining }
        run := { s.chip.run with lostDies := c.run.lostDies } } ∧
      SMap.find c.boot.images (2 * d + target) = some { state := 1, bytes := s.chip.boot.imageBytes k slot } ∧
      SMap.getD c.boot.state d 0 = 1 ∧ d.val ∈ c.run.lostDies ∧ d.val ∈ c.boot.rejoining)

/-- Live handover (R492 to R494). A HandoverStep that passes the checks of R493 is held until its step; any other is refused with
STATE and its reason, and changes nothing more. While the new agents run, a missing heartbeat, or a machine-mode trap from 64 steps
before H, fails the handover, with HandoverState 4 and one HandoverFail. HandoverConfirmSteps after H without a failure, Preferred
names the slots that run, and no failure is counted. Where the manual leaves a point open, the choice is the model's: log entry 52.
Concluded to answer a next state: handoverStep, handoverHeartbeatTimeout, handoverConfirm, machineModeTrap. -/
def Sys2Proof.Claims.HandoverIsConfirmedOrFails : Prop :=
  (∀ (w : ObjWrite) (s : State), s.chip.writeArrives w Obj.handoverStep →
    (s.chip.handoverRefusal (valueOf w.value) = 0 → ∃ c : S8,
      exec (.handoverStep w) s = .next { s with chip := c.writeDone w Obj.handoverStep } ∧
      c = { s.chip with boot := { s.chip.boot with
        handoverStep := valueOf w.value, handoverState := 1, handoverReason := 0, switchedAt := none } }) ∧
    (s.chip.handoverRefusal (valueOf w.value) ≠ 0 → ∃ c : S8,
      exec (.handoverStep w) s = .next { s with
        chip := c.answerWrite w.port w.requestId.toNat Obj.handoverStep statusState w.value.length [] } ∧
      c = { s.chip with boot := { s.chip.boot with
        handoverState := 5, handoverReason := s.chip.handoverRefusal (valueOf w.value) } })) ∧
  (∀ (i : Instr) (s : State), (i = .handoverHeartbeatTimeout ∧ s.chip.boot.handoverState = 2) ∨
      (∃ d h, i = .machineModeTrap d h ∧ (s.chip.boot.handoverState = 2 ∨
        (s.chip.boot.handoverState = 1 ∧ s.chip.boot.handoverStep ≤ s.chip.run.step + 64))) →
    exec i s = .next { s with chip := { s.chip with
      boot := { s.chip.boot with handoverState := 4, handoverStep := 0, switchedAt := none }
      dict := s.chip.dict.raise s.chip.run.step Obj.handoverFailCount 0 1 0 0 } }) ∧
  (∀ (s : State) (h : Nat), s.chip.boot.switchedAt = some h → s.chip.boot.handoverState = 2 →
    h + s.chip.dict.get Obj.handoverConfirmSteps ≤ s.chip.run.step → ∃ t, exec .handoverConfirm s = .next t ∧
      t = { s with chip := { s.chip with boot := { s.chip.boot with
        handoverState := 3, switchedAt := none, preferred := t.chip.boot.preferred } } } ∧
      ∀ d < 8, SMap.find t.chip.boot.preferred d = some (SMap.getD s.chip.boot.running d 0))

/-- The coordinator, and the handover to new firmware. -/
def Obligations.CoordinatorAndHandover : Prop :=
  Claims.CoordinatorIsChosen ∧ Claims.HandoverIsConfirmedOrFails

/-! ### Steps and runs (chapters 08, 09) -/

/-- A step boundary closes the step and opens the next, where the step ends at all: with no run, with a release tick, or cut off
from its releases (R183, R262, R459); otherwise it changes nothing. As it closes, CurrentStep advances by one and the length of the
step is the release tick, or 65,536 (R215); every die to be lost is lost (R213); and each pending value takes effect, unless its
object's condition now fails, when it is discarded and counts in RwbDiscardCount (R459). Where the manual leaves a point open, the
choice is the model's: log entries 36 and 53. Concluded to answer a next state: stepBoundary. -/
def Obligations.BoundaryClosesAndOpensSteps : Prop :=
  (∀ s : State, s.chip.stepEnds = true → exec .stepBoundary s = .next { s with chip := s.chip.closeStep.openStep }) ∧
  (∀ s : State, s.chip.stepEnds = false → exec .stepBoundary s = .next s) ∧
  (∀ c : S8, c.stepEnds = true ↔ c.run.running = none ∨ c.run.release ≠ none ∨ c.fab.isolated = true) ∧
  (∀ c : S8, c.advanceStep.run.step = c.run.step + 1 ∧ c.advanceStep.run.lastTicks = c.run.release.getD 65536 ∧
    c.advanceStep = { c with run := { c.run with
      lastTicks := c.advanceStep.run.lastTicks, maxTicks := c.advanceStep.run.maxTicks, step := c.run.step + 1 } }) ∧
  (∀ c : S8, c.applyPending.dict.pending = [] ∧
    c.applyPending.dict.settings = (c.dict.pending.filter (fun e => !(c.pendingFails e.1 e.2))).foldl
      (fun m e => SMap.insert m e.1 e.2) c.dict.settings ∧
    ((∀ e ∈ c.dict.pending, c.pendingFails e.1 e.2 = false) → c.applyPending.dict.counts = c.dict.counts)) ∧
  (∀ c : S8, c.closeStep.run.dones = [] ∧ c.closeStep.run.release = none ∧ c.closeStep.run.halfDone = [] ∧
    c.closeStep.run.losing = [] ∧ c.closeStep.vats.sets = [] ∧ c.closeStep.vats.slotsDone = [])

/-- A half that is not done when the tick of R185 comes is marked, its die is lost at the next boundary and StepOverrun is raised
with the step; an overrun half is marked once. Concluded to answer a next state: stepOverrun. -/
def Sys2Proof.Claims.OverrunLosesTheDie : Prop :=
  (∀ (d : Die) (h : Half) (s : State), s.chip.run.running ≠ none → s.chip.halfServes (halfKey d h) = true →
    SMap.find s.chip.run.halfDone (halfKey d h) = none → halfKey d h ∉ s.chip.run.overrun → ∃ t,
      exec (.stepOverrun d h) s = .next t ∧
      t = { s with chip := { s.chip with
        run := { s.chip.run with
          overrun := insertNat (halfKey d h) s.chip.run.overrun, losing := insertNat d s.chip.run.losing
          dones := t.chip.run.dones, release := t.chip.run.release, sentDone := t.chip.run.sentDone }
        fab := t.chip.fab
        dict := s.chip.dict.raise s.chip.run.step Obj.stepOverrunCount 0 1 (unitField 2 (halfKey d h)) s.chip.run.step } }) ∧
  (∀ (d : Die) (h : Half) (s : State), (s.chip.run.running = none ∨ s.chip.halfServes (halfKey d h) = false ∨
      SMap.find s.chip.run.halfDone (halfKey d h) ≠ none ∨ halfKey d h ∈ s.chip.run.overrun) →
    exec (.stepOverrun d h) s = .next s)

/-- Tasks end, and cores wait (R219, R225). A task ended by its own core counts as ended and leaves its core's lane status, and the
core's registers, and no other core's, take free values (R230); other tasks stay as they were. A core in step.wait is waiting with
the register that is to take the step number. At a boundary each waiting core's register holds the new step number, and none waits.
Where the manual leaves a point open, the choice is the model's: log entry 38. Concluded to answer a next state: taskEnd,
stepWait. -/
def Sys2Proof.Claims.TasksEndAndCoresWait : Prop :=
  (∀ (core : Core) (rs1 : Fin 32) (tick index : Nat) (s : State) (sh : Sheet) (task : CoreTask),
    s.chip.coreRuns (coreKey core) = true → index = s.chip.cores.xreg (coreKey core) rs1 → s.chip.run.running = some sh →
    sh.tasks[index]? = some task → task.core.key = coreKey core → index ∉ s.chip.run.tasksEnded → ∃ t,
      exec (.taskEnd core rs1 tick) s = .next t ∧
      t = { s with chip := { s.chip with
        run := { s.chip.run with
          tasksEnded := t.chip.run.tasksEnded, atomicUntil := SMap.erase s.chip.run.atomicUntil index
          workTick := t.chip.run.workTick, halfDone := t.chip.run.halfDone, dones := t.chip.run.dones
          release := t.chip.run.release, sentDone := t.chip.run.sentDone }
        fab := t.chip.fab
        free := t.chip.free
        cores := { s.chip.cores with
          taskStatus := SMap.erase s.chip.cores.taskStatus (coreKey core)
          x := t.chip.cores.x, f := t.chip.cores.f, v := t.chip.cores.v } } } ∧
      (∀ r, 0 < r → r < 32 → t.chip.cores.xreg (coreKey core) r =
        BitVec.toNat (BitVec.ofNat 64 (Config.freeValue (s.chip.free + (r - 1))))) ∧
      (∀ k r, k ≠ coreKey core → r < 32 → t.chip.cores.xreg k r = s.chip.cores.xreg k r ∧
        t.chip.cores.vreg k r = s.chip.cores.vreg k r) ∧
      ∀ n, n ∈ t.chip.run.tasksEnded ↔ n = index ∨ n ∈ s.chip.run.tasksEnded) ∧
  (∀ (core : Core) (rd : Fin 32) (s : State), s.chip.coreRuns (coreKey core) = true →
    exec (.stepWait core rd) s = .next { s with chip := { s.chip with
      cores := { s.chip.cores with waiting := SMap.insert s.chip.cores.waiting (coreKey core) rd } } }) ∧
  (∀ (c : Cores) (step : Nat), (c.wake step).waiting = [])

/-- The end of work in a step. -/
def Obligations.WorkEndsOrOverruns : Prop :=
  Claims.OverrunLosesTheDie ∧ Claims.TasksEndAndCoresWait

/-- A run is sent, checked and started (R210, R211). Sheet data goes into its buffer at its offset, and the buffer is receiving. A
load request puts its buffer under check; at the check's end it is loaded, or refused with the reason and record of the first fault;
a base sheet that loads may refuse a degraded sheet loaded before it, and no other buffer changes. A start step at least 64 steps
ahead is held; an earlier one breaks a limit that the manual leaves unchecked (R3). Where the manual leaves a point open, the choice
is the model's: log entries 5, 33 and 34. Concluded to answer a next state: runLoadRequest, runLoadComplete, runStartStep,
bulkMakeSheet. -/
def Obligations.RunsAreLoadedAndStarted : Prop :=
  (∀ (f : Frame) (v : FrameView) (s : State), s.chip.frameArrives f v → v.type = 0x30 → v.at 0 1 = 2 →
    s.chip.ports.owner = f.port → v.at 1 1 ≤ 8 → 0 < v.at 8 2 → v.at 8 2 ≤ 208 → v.at 4 4 + v.at 8 2 ≤ 268435456 → ∃ t,
      exec (.bulkMakeSheet f) s = .next t ∧
      t = { s with chip := { s.chip.goodFrame f.port with run := { s.chip.run with buffers := t.chip.run.buffers } } } ∧
      (t.chip.run.buffer (v.at 1 1)).state = 1 ∧
      (∀ i < v.at 8 2, (t.chip.run.buffer (v.at 1 1)).bytes.getD (v.at 4 4 + i) 0 = byteAt v.payload (16 + i)) ∧
      (∀ n, n ≠ v.at 1 1 → t.chip.run.buffer n = s.chip.run.buffer n)) ∧
  (∀ (w : ObjWrite) (s : State), s.chip.writeArrives w Obj.runLoadRequest → ∃ c : S8,
    exec (.runLoadRequest w) s = .next { s with chip := c.writeDone w Obj.runLoadRequest } ∧
    c = { s.chip with run := { s.chip.run with buffers := c.run.buffers, loadBuffer := valueOf w.value } } ∧
    c.run.buffer (valueOf w.value) = { s.chip.run.buffer (valueOf w.value) with state := 2, reason := 0, record := 0, sheet := none } ∧
    (∀ n, n ≠ valueOf w.value → c.run.buffer n = s.chip.run.buffer n)) ∧
  (∀ (s : State) (n : Nat) (b : SheetBuffer), n = s.chip.run.loadBuffer → b = s.chip.run.buffer n → b.state = 2 → ∃ t,
    exec .runLoadComplete s = .next t ∧
    t = { s with chip := { s.chip with run := { s.chip.run with buffers := t.chip.run.buffers } } } ∧
    (s.chip.loadFault n b.bytes (Sheet.ofBytes b.bytes) = none →
      t.chip.run.buffer n = { b with state := 3, sheet := some (Sheet.ofBytes b.bytes) }) ∧
    (∀ reason record, s.chip.loadFault n b.bytes (Sheet.ofBytes b.bytes) = some (reason, record) →
      t.chip.run.buffer n = { b with state := 4, reason := reason, record := record % 65536 }) ∧
    ∀ m, m ≠ n → t.chip.run.buffer m = s.chip.run.buffer m ∨
      (n = 0 ∧ (s.chip.run.buffer m).state = 3 ∧ (t.chip.run.buffer m).state = 4 ∧
        s.chip.loadFault n b.bytes (Sheet.ofBytes b.bytes) = none)) ∧
  (∀ (w : ObjWrite) (s : State), s.chip.writeArrives w Obj.runStartStep → s.chip.run.step + 64 ≤ valueOf w.value → ∃ c : S8,
    exec (.runStartStep w) s = .next { s with chip := c.writeDone w Obj.runStartStep } ∧
    c = { s.chip with dict := { s.chip.dict with settings := c.dict.settings } } ∧
    c.dict.get Obj.runStartStep = valueOf w.value) ∧
  (∀ (w : ObjWrite) (s : State), s.chip.writeArrives w Obj.runStartStep → valueOf w.value < s.chip.run.step + 64 →
    exec (.runStartStep w) s = .fault (.undefinedByR3 210))

/-! ### Pours (chapters 03 and 05) -/

/-- What the module judges after work ended in a step (R182, R183): only the done ticks of the halves, the collector's dones and
release, its done flit, and the barrier flits it sends can change. -/
def Sys2Proof.Claims.JudgingTouchesTheBarrierOnly : Prop :=
  ∀ c : S8, c.judge = { c with
    run := { c.run with
      halfDone := c.judge.run.halfDone, dones := c.judge.run.dones, release := c.judge.run.release
      sentDone := c.judge.run.sentDone }
    fab := c.judge.fab }

/-- A slot starts its pour (R67, R69, R79, R90). The slot's instruction, of the command's kind, whose lane is not idle and whose vat
is backed, is in flight with the rows of its fetch register on the physical vat, and is counted; memory is left alone. A malformed
instruction raises PourFault instead, with its tag kept, and its slot is over with no pour; so is the second slot of a malformed
reverse pour, which raises nothing more. Where the manual leaves a point open, the choice is the model's: log entry 22. Concluded to
answer a next state: highPour, lowPour, doublePour, reversePour. -/
def Sys2Proof.Claims.PoursStartInTheirSlots : Prop :=
  (∀ (i : Instr) (kind : PourKind) (vat : Vat) (slot : PourSlot) (p : PourInstr) (s : State),
    (i = .highPour vat slot ∧ kind = .high) ∨ (i = .lowPour vat slot ∧ kind = .low) ∨
      (i = .doublePour vat slot ∧ kind = .double) ∨ (i = .reversePour vat slot ∧ kind = .reverse) →
    s.chip.performed (vatKey vat) slot = some p → p.kind = kind → (p.slotKind = 0 → s.chip.laneIdle (vatKey vat) p = false) →
    vatKey vat ∉ s.chip.vats.unbacked → s.chip.malformedNow (vatKey vat) p.slot p = false → ∃ c : S8,
      exec i s = .next { s with chip := c.judge } ∧
      c = { s.chip with
        vats := { s.chip.vats with
          flights := SMap.insert s.chip.vats.flights (slotKey (vatKey vat) slot)
            { instr := p, fetched := s.chip.fetchedOf (vatKey vat) slot p, physical := s.chip.vats.physical (vatKey vat) } }
        dict := s.chip.dict.countPour (vatDie (vatKey vat)) p kind (p.slot = slot) (isCulture (vatKey vat)) }) ∧
  (∀ (i : Instr) (kind : PourKind) (vat : Vat) (slot : PourSlot) (p : PourInstr) (s : State),
    (i = .highPour vat slot ∧ kind = .high) ∨ (i = .lowPour vat slot ∧ kind = .low) ∨
      (i = .doublePour vat slot ∧ kind = .double) ∨ (i = .reversePour vat slot ∧ kind = .reverse) →
    s.chip.performed (vatKey vat) slot = some p → p.kind = kind → (p.slotKind = 0 → s.chip.laneIdle (vatKey vat) p = false) →
    vatKey vat ∉ s.chip.vats.unbacked → s.chip.malformedNow (vatKey vat) p.slot p = true → ∃ c : S8,
      exec i s = .next { s with chip := c.judge } ∧
      c = { s.chip with
        vats := { s.chip.vats with faultTag := c.vats.faultTag, slotsDone := c.vats.slotsDone }
        dict := s.chip.dict.raise s.chip.run.step (dieObj Obj.pourFaultCount (vatDie (vatKey vat))) 0
          (if p.slot = slot then 1 else 0) (unitOfVatKey (p.target (vatDie (vatKey vat)))) p.tag } ∧
      (p.slot = slot → SMap.getD c.vats.faultTag (vatDie (vatKey vat)) 0 = p.tag) ∧ slotKey (vatKey vat) slot ∈ c.vats.slotsDone) ∧
  (∀ p : PourInstr, p.kind = (if p.direction ≠ 0 then .reverse else if p.phase = 1 then .low
    else if p.average ≠ 0 then .double else .high))

/-- Pours start, and what is judged after work ended in a step. -/
def Obligations.PoursStart : Prop :=
  Claims.JudgingTouchesTheBarrierOnly ∧ Claims.PoursStartInTheirSlots

/-- A slot's fetch window reads its vector's rows from the scratchpad into the slot's fetch register (R68), poisoned where a word
does not decode or a mesh flit brings one (R231, R241), and changes no byte of memory. A vector that trips its lane makes the lane
wait for a reserve slot, or, after the last reserve slot's decision, be released (R122, R124), and counts in FallbackTripCount. A
slot with no instruction fetches nothing. Where the manual leaves a point open, the choice is the model's: log entry 22. Concluded
to answer a next state: fetchWindow. -/
def Obligations.FetchWindowReadsTheVector : Prop :=
  (∀ (vat : Vat) (slot : PourSlot) (upset : FetchUpsets) (p : PourInstr) (a n : Nat) (s : State),
    WellFormed (.fetchWindow vat slot upset) = true → s.chip.aheadSlot (vatKey vat) slot = false →
    s.chip.slotEntry (vatKey vat) slot = some p → (p.slotKind = 0 → s.chip.laneIdle (vatKey vat) p = false) →
    a = p.vectorAddr (vatDie (vatKey vat)) → n = 512 * vectorRows (s.chip.vats.physical (vatKey vat)) → ∃ t,
      exec (.fetchWindow vat slot upset) s = .next t ∧ t.pending = s.pending ∧
      (∃ f, SMap.find t.chip.vats.fetched (slotKey (vatKey vat) slot) = some f ∧ f.rows = s.chip.mem.read a n ∧
        f.vector = PourVector.ofBytes f.rows (dataColumns (s.chip.vats.physical (vatKey vat))) ∧
        (f.poisoned = true ↔ badIn s.chip.mem upset.words a n ≠ [] ∨ upset.mesh.flits ≠ []) ∧
        (trips p f = true → (slotKey (vatKey vat) p.lane ∈ t.chip.vats.releasing ∨
          (p.lane, slot.val) ∈ SMap.getD t.chip.vats.waiting (vatKey vat) [])) ∧
        (trips p f = false → t.chip.vats.waiting = s.chip.vats.waiting ∧ t.chip.vats.releasing = s.chip.vats.releasing)) ∧
      slotKey (vatKey vat) slot ∈ t.chip.vats.windows ∧ ∀ b, t.chip.mem.byte b = s.chip.mem.byte b) ∧
  (∀ (vat : Vat) (slot : PourSlot) (upset : FetchUpsets) (s : State), WellFormed (.fetchWindow vat slot upset) = true →
    s.chip.aheadSlot (vatKey vat) slot = false → s.chip.slotEntry (vatKey vat) slot = none →
      exec (.fetchWindow vat slot upset) s = .next { s with
        chip := { s.chip with
          vats := { s.chip.vats with windows := insertNat (slotKey (vatKey vat) slot) s.chip.vats.windows } } })

/-- The codes of a pour in flight reach its rind unit (R82): the pour is no longer in flight, its slot is over (R182), and no step
passes. A lane's high pour with Accumulate 0 that is not to be held opens its unit's set, and each column holds the contribution of
the limited high result, rounded and limited (R80, R82, R96). A reserve slot's decision (R124, R436) is taken once: where the half
is not throttled and a lane waits whose slot is earlier, the lowest is granted the slot with a low pour of its own vector; at
throttle stage 2 or 3 no slot is granted, and every lane that waits for it is released. Where the manual leaves a point open, the
choice is the model's: log entry 24. Concluded to answer a next state: pourCodesReachRind, reserveDecision. -/
def Sys2Proof.Claims.CodesArriveAndReservesAreGranted : Prop :=
  (∀ (vat : Vat) (slot : PourSlot) (codes : List (BitVec 10)) (tick : Nat) (upset : Upsets) (fl : Flight) (s : State),
    WellFormed (.pourCodesReachRind vat slot codes tick upset) = true →
    SMap.find s.chip.vats.flights (slotKey (vatKey vat) slot) = some fl → ∃ t,
      exec (.pourCodesReachRind vat slot codes tick upset) s = .next t ∧
      SMap.find t.chip.vats.flights (slotKey (vatKey vat) slot) = none ∧
      slotKey (vatKey vat) slot ∈ t.chip.vats.slotsDone ∧ t.chip.run.step = s.chip.run.step ∧ t.pending = s.pending) ∧
  (∀ (vat : Vat) (slot : PourSlot) (codes : List (BitVec 10)) (tick : Nat) (upset : Upsets) (fl : Flight) (sh : Sheet) (r : Reduction)
      (input : PourInput) (c : Contribution) (s : State),
    WellFormed (.pourCodesReachRind vat slot codes tick upset) = true →
    SMap.find s.chip.vats.flights (slotKey (vatKey vat) slot) = some fl →
    correctedIn upset (unitBase (unitOfVat fl.physical)) 0x550000 = [] →
    badIn s.chip.mem upset (unitBase (unitOfVat fl.physical)) 0x550000 = [] →
    fl.instr.direction = 0 → fl.instr.phase = 0 → fl.instr.average = 0 → fl.instr.slotKind = 0 → fl.instr.accumulate = 0 →
    fl.instr.reduction ≠ 0xFFF → s.chip.run.running = some sh → sh.reduction fl.instr.reduction = some r →
    toBeHeld fl.instr fl.fetched = false → input = s.chip.pourInput fl (codes.map BitVec.toNat) →
    c = { vat := fl.physical, reverse := false, reduction := r, lane := fl.instr.lane,
          exponent := max 1 fl.fetched.vector.exponent, halved := false, poison := false, status := 0,
          p := (limitResult false (highResult s.chip.mem fl.physical fl.fetched.vector input.rindOff false input.columns)).1 } → ∃ t,
      exec (.pourCodesReachRind vat slot codes tick upset) s = .next t ∧
      (t.chip.vats.set (setKey (unitOfVat fl.physical) r.number fl.instr.lane)).opened = true ∧
      ∀ i, i < r.width → i < c.p.length →
        ((t.chip.vats.set (setKey (unitOfVat fl.physical) r.number fl.instr.lane)).cols.getD i {}).value =
          clampInt (-accMax) accMax ((Contribution.column s.chip.mem c i).1 * 2 ^ (r.grid + 48).toNat)) ∧
  (∀ (vat : Vat) (slot : PourSlot) (s : State) (p : PourInstr) (lane from' : Nat) (rest : List (Nat × Nat)),
    s.chip.kindOfSlot (vatKey vat) slot = 1 → slotKey (vatKey vat) slot ∉ s.chip.vats.decided →
    s.chip.power.stageOf (vatHalf (vatKey vat)) < 2 →
    (SMap.getD s.chip.vats.waiting (vatKey vat) []).filter (fun e => e.2 < slot.val) = (lane, from') :: rest →
    s.chip.slotEntry (vatKey vat) from' = some p → ∃ t,
      exec (.reserveDecision vat slot) s = .next t ∧
      t = { s with chip := { s.chip with
        vats := { s.chip.vats with
          decided := insertNat (slotKey (vatKey vat) slot) s.chip.vats.decided
          waiting := t.chip.vats.waiting, releasing := t.chip.vats.releasing
          granted := SMap.insert s.chip.vats.granted (slotKey (vatKey vat) slot) (grantEntry p slot) }
        dict := s.chip.dict.tally (dieObj Obj.lowPourGrantCount (vatDie (vatKey vat))) 1 } }) ∧
  (∀ (vat : Vat) (slot : PourSlot) (s : State), s.chip.kindOfSlot (vatKey vat) slot = 1 →
    slotKey (vatKey vat) slot ∉ s.chip.vats.decided → 2 ≤ s.chip.power.stageOf (vatHalf (vatKey vat)) → ∃ t,
      exec (.reserveDecision vat slot) s = .next t ∧ t.chip.vats.granted = s.chip.vats.granted ∧
      (∀ e ∈ SMap.getD s.chip.vats.waiting (vatKey vat) [], e.2 < slot.val →
        slotKey (vatKey vat) e.1 ∈ t.chip.vats.releasing) ∧
      t.chip.dict = s.chip.dict.tally (dieObj Obj.reserveIdleCount (vatDie (vatKey vat))) 1)

/-- A held result whose lane is to be released, and gets no low pour, leaves the holds: it is released once (R98, R125), counted in
UnrepairedCount, and read and delivered without changing a byte of memory. Where the manual leaves a point open, the choice is the
model's: log entry 24. Concluded to answer a next state: unrepairedRelease. -/
def Sys2Proof.Claims.HeldResultIsReleased : Prop :=
  ∀ (vat : Vat) (lane : Lane) (tick : Nat) (upset : Upsets) (h : Hold) (s : State),
    WellFormed (.unrepairedRelease vat lane tick upset) = true → slotKey (vatKey vat) lane ∈ s.chip.vats.releasing →
    s.chip.vats.holds.find? (fun g => g.vat = vatKey vat ∧ g.instr.lane = lane.val) = some h → ∃ t,
      exec (.unrepairedRelease vat lane tick upset) s = .next t ∧ h ∉ t.chip.vats.holds ∧
      (∀ g ∈ s.chip.vats.holds, g ≠ h → g ∈ t.chip.vats.holds) ∧ slotKey (vatKey vat) lane ∉ t.chip.vats.releasing ∧
      (∀ a, t.chip.mem.byte a = s.chip.mem.byte a) ∧ t.pending = s.pending

/-- Codes, reserve slots and held results. -/
def Obligations.CodesArriveAndHoldsAreReleased : Prop :=
  Claims.CodesArriveAndReservesAreGranted ∧ Claims.HeldResultIsReleased

/-- A contribution is added exactly (R53, R54, R80, R132): the set of its unit, reduction and lane is open afterwards, and each of its
columns holds the sum of what it held, or zero where the set was closed, and of the rounded and limited contribution, as a multiple
of 2^(grid + 48), kept within the accumulator's range. Memory is left alone, and so is every other set. -/
def Sys2Proof.Claims.ContributionIsAddedExactly : Prop :=
  ∀ (s : S8) (c : Contribution) (key : Nat) (base : List Acc), key = setKey (unitOfVat c.vat) c.reduction.number c.lane →
    base = (if (s.vats.set key).opened then (s.vats.set key).cols else emptyCols c.reduction.width) →
    ((s.addContribution c).vats.set key).opened = true ∧
    (∀ i, i < base.length → i < c.p.length → i < c.reduction.width →
      (((s.addContribution c).vats.set key).cols.getD i {}).value =
        clampInt (-accMax) accMax ((base.getD i {}).value + (Contribution.column s.mem c i).1 * 2 ^ (c.reduction.grid + 48).toNat)) ∧
    (∀ k, k ≠ key → (s.addContribution c).vats.set k = s.vats.set k) ∧ (s.addContribution c).mem = s.mem ∧
    (s.addContribution c).run = s.run ∧
    ∀ i, (Contribution.column s.mem c i).1.natAbs ≤ c.reduction.limit

/-- Rounding, limiting and adding in the rind (R51, R54, R93, R95): a whole result lies within the pour unit's limits, twice them in half
units; a stage-4 value within 48 bits, and zero where the vector's exponent is zero; the sum of two accumulators within the
accumulator's range, exact where it does not saturate. -/
def Sys2Proof.Claims.RindValuesStayInRange : Prop :=
  (∀ (p : List Int) (y : Int), y ∈ (limitResult false p).1 → -pourUnitMax ≤ y ∧ y ≤ pourUnitMax) ∧
  (∀ (p : List Int) (y : Int), y ∈ (limitResult true p).1 → -(2 * pourUnitMax) ≤ y ∧ y ≤ 2 * pourUnitMax) ∧
  (∀ (i : PourInput) (p : Nat), -(2 ^ 47) ≤ i.stage4 p ∧ i.stage4 p ≤ 2 ^ 47 - 1) ∧
  (∀ x y : Acc, -accMax ≤ (x.add y).value ∧ (x.add y).value ≤ accMax ∧
    (x.saturates y = false → (x.add y).value = x.value + y.value ∧ (x.add y).saturated = (x.saturated || y.saturated)) ∧
    (x.saturates y = true → (x.add y).saturated = true) ∧ (x.add y).poison = (x.poison || y.poison)) ∧
  (∀ (i : PourInput) (p : Nat), i.exponent = 0 → i.stage4 p = 0)

/-! ### Reductions (chapter 05) -/

/-- The leaves of a reduction without Carry are read at its ReadTick for every active lane, into their parents' operands or outgoing
partials; memory and the sets are left alone (R134). A root whose operands have all arrived adds them in order, writes the sum at
its lane's output rows, and counts as delivered; an add node passes its sum on (R134, R240). A mesh flit with an uncorrectable word
poisons its four containers and the lane status, and both kinds of word are counted (R241). Where the manual leaves a point open,
the choice is the model's: log entries 16 and 27. Concluded to answer a next state: reductionRead, addNode. -/
def Sys2Proof.Claims.TreesAddUp : Prop :=
  (∀ (reduction : BitVec 12) (tick : Nat) (mesh : List (RindUnit × Lane × MeshErr)) (s : State) (sh : Sheet) (r : Reduction),
    s.chip.run.running = some sh → sh.reduction reduction.toNat = some r → r.carry = false → ∃ c : S8,
      exec (.reductionRead reduction tick mesh) s = .next { s with chip := c.judge } ∧
      c = { s.chip with
        vats := { s.chip.vats with
          operands := c.vats.operands, outgoing := c.vats.outgoing
          readsServed := insertNat reduction.toNat s.chip.vats.readsServed }
        run := { s.chip.run with workTick := c.run.workTick }
        dict := c.dict }) ∧
  (∀ (reduction : BitVec 12) (tick : Nat) (mesh : List (RindUnit × Lane × MeshErr)) (s : State) (sh : Sheet) (r : Reduction)
      (t parent : TreeEntry) (lane : Nat), s.chip.run.running = some sh → sh.reduction reduction.toNat = some r → r.carry = false →
    ((sh.treeOf r).map (·.2)).filter (fun t => t.kind = 1 && !(s.chip.passedOver t)) = [t] →
    s.chip.run.activeLanes r.phase = [lane] → sh.treeEntry r t.parent = some parent → parent.kind ≠ 4 → ∃ u,
      exec (.reductionRead reduction tick mesh) s = .next u ∧
      SMap.find u.chip.vats.operands (operandKey r.number lane t.parent t.slot) =
        some ((s.chip.vats.leafPartial t.leafUnit r lane).cross (meshAt mesh t.leafUnit lane))) ∧
  (∀ (reduction : BitVec 12) (lane : Lane) (node tick : Nat) (mesh : MeshErr) (s : State) (sh : Sheet) (r : Reduction)
      (t : TreeEntry) (ops : List Partial), s.chip.run.running = some sh → sh.reduction reduction.toNat = some r →
    sh.treeEntry r node = some t → t.kind = 3 → s.chip.passedOver t = false → s.chip.run.laneActive r.phase lane = true →
    s.chip.operandsOf sh r lane node = some ops → ∃ c : S8,
      exec (.addNode reduction lane node tick mesh) s = .next { s with chip := c.judge } ∧
      c = { s.chip with
        vats := { s.chip.vats with operands := c.vats.operands, delivered := c.vats.delivered }
        mem := s.chip.mem.writeRows r.outCore (r.outRow + resultRows r.width * lane)
          ((((sumPartials r.width ops).1.mark (sumPartials r.width ops).2).cross mesh).rows r.width)
        run := s.chip.run.worked (2 * t.die + t.half) tick
        dict := ((s.chip.dict.raise s.chip.run.step Obj.accSatCount 0 (sumPartials r.width ops).2 (unitField 1 t.die)
          reduction.toNat).raise s.chip.run.step Obj.fabricCorrectedCount 0 mesh.corrected (unitField 1 t.die) 0).raise
            s.chip.run.step Obj.fabricUncorrectableCount 0 mesh.flits.length (unitField 1 t.die) 0 } ∧
      reduction.toNat * 128 + lane.val ∈ c.vats.delivered) ∧
  (∀ (p : Partial) (e : MeshErr), (e.flits = [] → p.cross e = p) ∧
    (∀ i < p.cols.length, ((p.cross e).col i).poison = ((p.col i).poison || e.flits.contains (i / 4)) ∧
      ((p.cross e).col i).value = (p.col i).value) ∧
    (e.flits ≠ [] → field (p.cross e).status 4 1 = 1)) ∧
  (∀ (width : Nat) (x y z : Partial), (sumPartials width []).1 = Partial.zero width ∧ sumPartials width [x] = (x, 0) ∧
    (sumPartials width [x, y, z]).1 = (x.add y).add z)

/-- Sums: contributions, the rind's ranges and reduction trees. -/
def Obligations.ReductionTreesAddUp : Prop :=
  Claims.ContributionIsAddedExactly ∧ Claims.RindValuesStayInRange ∧ Claims.TreesAddUp

/-- A carried set comes back as it was saved (R137 to R139): CARRY_SAVE writes a lane's set, whose values lie in the accumulator's
range, to its save rows and nothing else to memory, and from the next step the set is one that can come back; a CARRY_RESTORE in a
step in which its reduction has pours, with the rows as they were written and decodable, opens the set with the same accumulators
and status. Where the manual leaves a point open, the choice is the model's: log entry 26. Concluded to answer a next state:
carrySave, carryRestore. -/
def Sys2Proof.Claims.CarriedSetComesBack : Prop :=
  (∀ (unit : RindUnit) (reduction : BitVec 12) (lane : Lane) (s : State) (sh : Sheet) (r : Reduction),
    s.chip.run.running = some sh → sh.reduction reduction.toNat = some r → r.carry = true →
    s.chip.run.laneActive r.phase lane = true → ∃ c : S8,
      exec (.carrySave unit reduction lane) s = .next { s with chip := c.judge } ∧
      c = { s.chip with
        mem := s.chip.mem.write (sh.saveAddr r (unitKey unit) lane)
          ((s.chip.vats.leafPartial (unitKey unit) r lane).saveBytes r.width)
        vats := { s.chip.vats with savedNow := insertNat (setKey (unitKey unit) reduction.toNat lane) s.chip.vats.savedNow }
        dict := s.chip.dict.tally (dieObj Obj.carrySaveCount (unitKey unit / 36)) 1 }) ∧
  (∀ (v : Vats) (key : Nat), key ∈ v.newStep.carried ↔ key ∈ v.savedNow ∨ key ∈ v.carried) ∧
  (∀ (unit : RindUnit) (reduction : BitVec 12) (lane : Lane) (s : State) (sh : Sheet) (r : Reduction) (p : Partial) (key : Nat),
    s.chip.run.running = some sh → sh.reduction reduction.toNat = some r →
    key = setKey (unitKey unit) reduction.toNat lane → key ∈ s.chip.vats.carried →
    s.chip.run.laneActive r.phase lane = true → s.chip.hasPours sh reduction.toNat = true → p.cols.length = r.width → r.width ≤ 2048 → p.status < 2 ^ 16 →
    (∀ a ∈ p.cols, -accMax ≤ a.value ∧ a.value ≤ accMax) →
    s.chip.mem.read (sh.saveAddr r (unitKey unit) lane) (65 * 512) = p.saveBytes r.width → s.chip.mem.bad = [] → ∃ t,
      exec (.carryRestore unit reduction lane []) s = .next t ∧
      (t.chip.vats.set key).opened = true ∧ (t.chip.vats.set key).cols = p.cols ∧ (t.chip.vats.set key).status = p.status ∧
      key ∉ t.chip.vats.carried ∧ t.chip.mem.bytes = s.chip.mem.bytes)

/-- Transfers between modules and dies (R252, R255, R256, R259). A transfer that this module sends starts once: its outgoing partial
is taken, and over a die bridge it is sent with the start. A whole transfer that has arrived with no mesh flit upset is written, or
a partial passed on in its tree, and counts as arrived. Where the manual leaves a point open, the choice is the model's: log entry
27. Concluded to answer a next state: transferStart, transferArrived. -/
def Obligations.TransfersStartAndArrive : Prop :=
  (∀ (v : Carried) (s : State) (sh : Sheet) (x : Transfer), s.chip.run.running = some sh → sh.transfers[v.record]? = some x →
    s.chip.run.sends x = true → v.record ∉ s.chip.run.transfersSent → x.bridge = true → ∃ c : S8,
      exec (.transferStart v) s = .next { s with chip := c.judge } ∧
      c = { s.chip with
        vats := { s.chip.vats with outgoing := SMap.erase s.chip.vats.outgoing v.record }
        dict := c.dict
        fab := { s.chip.fab with arriving := c.fab.arriving }
        run := { s.chip.run with transfersSent := insertNat v.record s.chip.run.transfersSent } } ∧
      (x.kind ≠ 0 → v.mesh.flits = [] → ∃ n, SMap.find c.fab.arriving (72 * 65536 + v.record) =
        some ((s.chip.mem.readRows x.source (sh.stagedRow x) (ceilDiv x.length 512)).take x.length, n, true, some n))) ∧
  (∀ (v : Carried) (s : State) (sh : Sheet) (x : Transfer), s.chip.run.running = some sh → sh.transfers[v.record]? = some x →
    s.chip.run.sends x = true → v.record ∉ s.chip.run.transfersSent → x.bridge = false → ∃ t,
      exec (.transferStart v) s = .next t ∧ SMap.find t.chip.vats.outgoing v.record = none ∧ t.chip.mem = s.chip.mem ∧
      t.pending = s.pending) ∧
  (∀ (lane : LinkLane) (v : Carried) (tick key next : Nat) (last : Bool) (payload : Bytes) (s : State) (sh : Sheet) (x : Transfer),
    s.chip.run.running = some sh → sh.transfers[v.record]? = some x → (x.bridge = true ∨ s.chip.run.receives x = true) →
    key = (if x.bridge then 72 else s.chip.fab.logicalLane lane) * 65536 + v.record →
    SMap.find s.chip.fab.arriving key = some (payload, next, last, some next) → (last = true ∨ next = 0) →
    v.record ∉ s.chip.run.transfersArrived → v.mesh.flits = [] →
    (x.kind ≠ 0 → ∃ c : S8,
      exec (.transferArrived lane v tick) s = .next { s with chip := c.judge } ∧
      c = { s.chip with
        fab := { s.chip.fab with arriving := SMap.erase s.chip.fab.arriving key }
        mem := s.chip.mem.writeRows x.dest x.destRow (arrivedRows x.format (payload.take x.length))
        dict := c.dict
        run := { s.chip.run.worked x.dest.halfKey tick with
          transfersArrived := insertNat v.record s.chip.run.transfersArrived } }) ∧
    (∀ (r : Reduction) (e : Nat × TreeEntry), x.kind = 0 → next ≠ 0 → sh.reductionOf 5 v.record = some (r, e) → ∃ c : S8,
      exec (.transferArrived lane v tick) s = .next { s with chip := c.judge } ∧
      c = { s.chip with
        fab := { s.chip.fab with arriving := SMap.erase s.chip.fab.arriving key }
        vats := s.chip.vats.passOn sh r x.lane e.2 (Partial.ofWire r.grid r.width payload)
        dict := c.dict
        run := { s.chip.run.worked x.dest.halfKey tick with
          transfersArrived := insertNat v.record s.chip.run.transfersArrived } }))

/-! ### Turning (chapter 06) -/

/-- The measurement converter and the reference check (R148, R150, R151, R508). A start, by edge while PWR_GOOD is high or by
writing 1, latches channel, mux bank and ConvSelect; one that comes while a conversion runs is ignored and counted. A conversion's
end holds the code of its voltage, to the nearest of 65,536 in 2.5 V and within the range, and the next sequence number. The hold
ends when it expires. A reference check uses 51 conversions, and holds a trim move of 2 steps for each generator off by more than
0.02 %; where REFIN looks wrong, it holds none, and raises RefInFault once. Where the manual leaves a point open, the choice is the
model's: log entries 21 and 28. Concluded to answer a next state: referenceCheck, measStartEdge, measStart, measConversionDone,
measFirmwareHoldExpire. -/
def Sys2Proof.Claims.MeasurementsConvert : Prop :=
  (∀ s : State, s.chip.boot.pwrGood = true → s.chip.turn.converting = none →
    exec .measStartEdge s = .next { s with chip := { s.chip with turn := { s.chip.turn with
      converting := some (s.chip.dict.get Obj.measChannel, s.chip.dict.get Obj.measMuxBank, s.chip.dict.get Obj.measConvSelect) } } }) ∧
  (∀ (w : ObjWrite) (s : State), s.chip.writeArrives w Obj.measStart → valueOf w.value = 1 → s.chip.turn.converting = none → ∃ c : S8,
    exec (.measStart w) s = .next { s with chip := c.writeDone w Obj.measStart } ∧
    c = { s.chip with turn := { s.chip.turn with
      converting := some (s.chip.dict.get Obj.measChannel, s.chip.dict.get Obj.measMuxBank, s.chip.dict.get Obj.measConvSelect) } }) ∧
  (∀ s : State, s.chip.boot.pwrGood = true → s.chip.turn.converting ≠ none →
    exec .measStartEdge s = .next { s with chip := { s.chip with
      dict := s.chip.dict.raise s.chip.run.step Obj.measStartIgnoredCount 0 1 0 0 } }) ∧
  (∀ (nanovolts : Int) (s : State) (channel bank conv : Nat), s.chip.turn.converting = some (channel, bank, conv) → ∃ t,
    exec (.measConversionDone nanovolts) s = .next t ∧
    t = { s with chip := { s.chip with turn := { s.chip.turn with
      converting := none, conversions := s.chip.turn.conversions + 1, measResult := t.chip.turn.measResult } } } ∧
    field t.chip.turn.measResult 0 16 = measCode nanovolts ∧
    (0 ≤ nanovolts → nanovolts < 2499961853 →
      2 * (measCode nanovolts * 2500000000 - nanovolts * 65536).natAbs ≤ 2500000000)) ∧
  (∀ s : State, exec .measFirmwareHoldExpire s = .next { s with
    chip := { s.chip with dict := s.chip.dict.store Obj.measFirmwareHold 0 } }) ∧
  (∀ (codes : List (BitVec 16)) (s : State), WellFormed (.referenceCheck codes) = true →
    s.chip.dict.get Obj.measFirmwareHold = 0 → s.chip.turn.converting = none → ∃ t, exec (.referenceCheck codes) s = .next t ∧
      t = { s with chip := { s.chip with
        turn := { s.chip.turn with
          conversions := s.chip.turn.conversions + 51, measResult := t.chip.turn.measResult, refFault := t.chip.turn.refFault
          trimMoves := t.chip.turn.trimMoves }
        dict := t.chip.dict } } ∧
      (t.chip.turn.refFault = true → t.chip.turn.trimMoves = []) ∧
      (t.chip.turn.refFault = s.chip.turn.refFault → t.chip.dict = s.chip.dict) ∧
      (t.chip.turn.refFault = false → ∀ gen < 3, ∀ half < 16,
        5000 * (100 * ((codes.map BitVec.toNat).getD (readingIndex gen half) 0) - nominalCode gen) > nominalCode gen →
          SMap.find t.chip.turn.trimMoves (3 * half + gen) = some (-2)))

/-- Calibration (R146, R152, R156 to R159). A due vat starts when its turn has come, unless 8 of its unit are calibrating, it is
calibrating already, or its half's agent starves (R234). Two rounds that agree in every usable pair and every reference are
accepted: the vat is no longer calibrating, its quality is calibrated with its retries cleared, and its tables are staged for the
boundary where it is in service; no byte of a table in service changes before. Rounds that disagree count in CalReject, and below
the limit of tries the calibration begins again. Rounds of which a probe was lost are measured again (R146). Where the manual leaves
a point open, the choice is the model's: log entries 28 and 29. Concluded to answer a next state: calibrationStart,
calibrationComplete. -/
def Sys2Proof.Claims.CalibrationIsJudged : Prop :=
  (∀ (vat : Vat) (s : State) (k : Nat), k = vatKey vat → s.chip.calibrationTurn k = true → vatHalf k ∉ s.chip.cores.starved → ∃ t,
    exec (.calibrationStart vat) s = .next t ∧
    t = { s with chip := { s.chip with turn := { s.chip.turn with
      quality := t.chip.turn.quality
      calibrations := SMap.insert s.chip.turn.calibrations k (s.chip.newCalibration k s.chip.run.step) } } } ∧
    (t.chip.turn.qualityOf k).calDue = false) ∧
  (∀ (vat : Vat) (s : State), (8 ≤ s.chip.calibrating (unitOfVat (vatKey vat)) ∨ s.chip.calibrationDue (vatKey vat) = false ∨
      SMap.find s.chip.turn.calibrations (vatKey vat) ≠ none ∨ vatHalf (vatKey vat) ∈ s.chip.cores.starved) →
    exec (.calibrationStart vat) s = .next s) ∧
  (∀ (vat : Vat) (roundA roundB : List ProbeCodes) (s : State) (entry : Calibration) (g : Golden) (a b : RoundValues) (k : Nat),
    WellFormed (.calibrationComplete vat roundA roundB) = true → k = vatKey vat →
    SMap.find s.chip.turn.calibrations k = some entry → s.chip.goldenOf k = some g →
    entry.spoilt = false → vatHalf k ∉ s.chip.cores.starved → s.chip.mem.committed (unitOfVat k) = false →
    a = s.chip.roundValues k g entry.answers (roundA.map (fun p => p.map BitVec.toNat)) →
    b = s.chip.roundValues k g entry.answers (roundB.map (fun p => p.map BitVec.toNat)) →
    disagreeing k a b = [] → referencesAgree k a b = true → s.chip.turn.rewriteOf k = none →
    (∀ p < dataColumns k + mapSlots k, usableGain (a.pairGains.getD p 0) = true ∧ usableGain (b.pairGains.getD p 0) = true) →
    s.chip.mem.vatState k = 2 → ∃ t,
      exec (.calibrationComplete vat roundA roundB) s = .next t ∧ SMap.find t.chip.turn.calibrations k = none ∧
      (t.chip.turn.qualityOf k).calibrated = true ∧ (t.chip.turn.qualityOf k).retries = 0 ∧
      t.chip.turn.staged = s.chip.turn.staged ++ s.chip.advancing k (s.chip.calibrationWrites k a b [] true) ∧
      t.chip.mem = s.chip.mem ∧
      t.chip.dict = s.chip.dict) ∧
  (∀ (vat : Vat) (roundA roundB : List ProbeCodes) (s : State) (entry : Calibration) (g : Golden) (a b : RoundValues) (k : Nat),
    WellFormed (.calibrationComplete vat roundA roundB) = true → k = vatKey vat →
    SMap.find s.chip.turn.calibrations k = some entry → s.chip.goldenOf k = some g →
    entry.spoilt = false → vatHalf k ∉ s.chip.cores.starved →
    a = s.chip.roundValues k g entry.answers (roundA.map (fun p => p.map BitVec.toNat)) →
    b = s.chip.roundValues k g entry.answers (roundB.map (fun p => p.map BitVec.toNat)) →
    (disagreeing k a b ≠ [] ∨ referencesAgree k a b = false) →
    (s.chip.turn.qualityOf k).retries + 1 < s.chip.dict.get Obj.calibrationRetryLimit → ∃ t,
      exec (.calibrationComplete vat roundA roundB) s = .next t ∧
      SMap.find t.chip.turn.calibrations k = some (s.chip.newCalibration k (s.chip.run.step + 1)) ∧
      (t.chip.turn.qualityOf k).retries = (s.chip.turn.qualityOf k).retries + 1 ∧ t.chip.mem = s.chip.mem ∧
      t.chip.dict = s.chip.dict.raise s.chip.run.step Obj.calRejectCount 0 1 (s.chip.vatUnit k) (disagreeing k a b).length) ∧
  (∀ (vat : Vat) (roundA roundB : List ProbeCodes) (s : State) (entry : Calibration) (g : Golden) (k : Nat),
    WellFormed (.calibrationComplete vat roundA roundB) = true → k = vatKey vat →
    SMap.find s.chip.turn.calibrations k = some entry → s.chip.goldenOf k = some g → entry.spoilt = true →
    vatHalf k ∉ s.chip.cores.starved →
      exec (.calibrationComplete vat roundA roundB) s = .next { s with chip := { s.chip with turn := { s.chip.turn with
        calibrations := SMap.insert s.chip.turn.calibrations k { entry with spoilt := false } } } })

/-- Measurements and calibrations. -/
def Obligations.MeasurementsAndCalibrations : Prop :=
  Claims.MeasurementsConvert ∧ Claims.CalibrationIsJudged

/-- Localisation and repair (R165, R168 to R170), of a half whose agent does not starve (R234). A column stage that finds columns of
the group beyond three times the vat's error goes on to blocks with them; one that finds nothing is a transient and ends. A block
stage that finds nothing ends. As a localisation ends the vat is due for calibration and the next flagged group is taken up (R158).
An absorbed weight within half a step is done; one too far from zero whose partner is in range is pulsed on; any other is done too,
and counts in AbsorbOutOfRangeCount. A column moved is mapped to its redundant pair from the next boundary, or at once where the vat
is not in service (R115). A vat programmed, for which the pool has a place, has its tables written and is no longer being
programmed. Where the manual leaves a point open, the choice is the model's: log entry 31. Concluded to answer a next state:
localisationStageDone, absorbPulseVerify, columnMoveDone, programmeVerifyDone. -/
def Sys2Proof.Claims.FaultsAreLocatedAndRepaired : Prop :=
  (∀ (vat : Vat) (group : Fin 16) (errs : List (Nat × Nat)) (sumErr : Nat) (s : State) (l : Localisation) (k : Nat),
    k = vatKey vat → SMap.find s.chip.turn.localisations k = some l → l.group = group.val → l.stage = 1 →
    vatHalf k ∉ s.chip.cores.starved →
    (∀ c e, (c, e) ∈ errs → c / 128 = l.group → 3 * (s.chip.turn.qualityOf k).normError < e →
      ∃ t, exec (.localisationStageDone vat group (.column errs sumErr)) s = .next t ∧
        t = { s with chip := { s.chip with turn := { s.chip.turn with localisations := t.chip.turn.localisations } } } ∧
        ∃ m, SMap.find t.chip.turn.localisations k = some m ∧ m.stage = 2 ∧ c ∈ m.columns) ∧
    ((∀ c e, (c, e) ∈ errs → c / 128 = l.group → e ≤ 3 * (s.chip.turn.qualityOf k).normError) →
      sumErr ≤ 3 * (s.chip.turn.qualityOf k).normError →
      ∃ t, exec (.localisationStageDone vat group (.column errs sumErr)) s = .next t ∧
        SMap.find t.chip.turn.localisations k = (match l.waiting with
          | [] => none
          | n :: rest => some { Localisation.begin n with waiting := rest }) ∧
        (t.chip.turn.qualityOf k).calDue = true ∧ t.chip.mem = s.chip.mem ∧
        t.chip.dict = s.chip.dict.raise s.chip.run.step Obj.checksumTransientCount 0 1 (s.chip.vatUnit k) l.group)) ∧
  (∀ (vat : Vat) (group : Fin 16) (errs : List (Nat × Nat × Nat)) (s : State) (l : Localisation) (k : Nat), k = vatKey vat →
    SMap.find s.chip.turn.localisations k = some l → l.group = group.val → l.stage = 2 → vatHalf k ∉ s.chip.cores.starved →
    (∀ c b e, (c, b, e) ∈ errs → c ∈ l.columns → e ≤ 224) → ∃ t,
      exec (.localisationStageDone vat group (.block errs)) s = .next t ∧
      t = { s with chip := { s.chip with turn := { s.chip.turn with
        localisations := t.chip.turn.localisations, quality := t.chip.turn.quality } } } ∧
      SMap.find t.chip.turn.localisations k = (match l.waiting with
        | [] => none
        | n :: rest => some { Localisation.begin n with waiting := rest }) ∧ (t.chip.turn.qualityOf k).calDue = true) ∧
  (∀ (vat : Vat) (row col : Fin 2048) (x y : Nat) (s : State) (g : Golden) (k : Nat), k = vatKey vat →
    s.chip.goldenOf k = some g → (row.val, col.val) ∈ SMap.getD s.chip.turn.absorbing k [] →
    vatHalf k ∉ s.chip.cores.starved → 2 ≤ s.chip.turningSlotsLeft k →
    (((x : Int) - y - 256 * g.target row col).natAbs ≤ 128 → ∃ t,
      exec (.absorbPulseVerify vat row col x y) s = .next t ∧ t.pending = s.pending ∧
      (row.val, col.val) ∉ SMap.getD t.chip.turn.absorbing k []) ∧
    (128 < ((x : Int) - y - 256 * g.target row col).natAbs → 256 * (g.target row col).natAbs < ((x : Int) - y).natAbs →
      (if 256 * g.target row col < (x : Int) - y then (x : Int) - 256 * g.target row col else y + 256 * g.target row col) ≤ 40960 → ∃ t,
      exec (.absorbPulseVerify vat row col x y) s = .next t ∧ (row.val, col.val) ∈ SMap.getD t.chip.turn.absorbing k []) ∧
    (128 < ((x : Int) - y - 256 * g.target row col).natAbs → ((x : Int) - y).natAbs ≤ 256 * (g.target row col).natAbs → ∃ t,
      exec (.absorbPulseVerify vat row col x y) s = .next t ∧
      t = { s with chip := { s.chip with
        turn := { s.chip.turn with absorbing := t.chip.turn.absorbing, slotsUsed := t.chip.turn.slotsUsed }
        dict := s.chip.dict.raise s.chip.run.step Obj.absorbOutOfRangeCount 0 1 (s.chip.vatUnit k) (2048 * col + row) } } ∧
      (row.val, col.val) ∉ SMap.getD t.chip.turn.absorbing k [])) ∧
  (∀ (vat : Vat) (col : Fin 2048) (pair : Nat) (s : State) (g : Golden) (k : Nat), k = vatKey vat →
    (SMap.getD s.chip.turn.moving k []).find? (fun e => e.1 = col.val) = some (col.val, pair) → s.chip.goldenOf k = some g →
    vatHalf k ∉ s.chip.cores.starved → pair < 65536 → ∃ t,
      exec (.columnMoveDone vat col) s = .next t ∧ t.pending = s.pending ∧
      (col.val, pair) ∈ (if s.chip.mem.vatState k = 2 then t.chip.seen else t.chip.mem).columnMap k ∧
      pair ∈ SMap.getD t.chip.turn.usedPairs k [] ∧ (∀ p, (col.val, p) ∉ SMap.getD t.chip.turn.moving k [])) ∧
  (∀ (vat : Vat) (off : List (Nat × Nat × Int)) (gainStep : Fin 4) (s : State) (g : Golden) (key block : Nat)
      (place : Nat × Nat × Nat) (k : Nat), WellFormed (.programmeVerifyDone vat off gainStep) = true → k = vatKey vat →
    k ∈ s.chip.turn.programming → s.chip.engineServes k = true → vatHalf k ∉ s.chip.cores.starved →
    s.chip.goldenOf k = some g → SMap.find s.chip.wheels.content k = some (key, block) →
    s.chip.poolPlace k g = some place → off = [] → ∃ t,
      exec (.programmeVerifyDone vat off gainStep) s = .next t ∧ k ∉ t.chip.turn.programming ∧
      SMap.find t.chip.vats.gainStep k = some gainStep.val ∧
      t.chip.mem = s.chip.mem.writeTables k g (contentFields k key).1 (contentFields k key).2 place [] ∧
      t.chip.dict = s.chip.dict ∧ t.pending = s.pending)

/-- Live rewrite (R172, R174 to R176). A request for a service number that is backed, and not being rewritten, is queued, with its
status; one for a number being rewritten is answered with STATE, and changes only what RewriteStatus reports. A rewrite that is due,
of a charge-trap or a culture vat, takes a spare of the half and starts to erase and programme it: the spare's State is 1, it holds
the source's content, and its wear goes up by one cycle. Saving wear keeps each vat's cycles and rows written. Where the manual
leaves a point open, the choice is the model's: log entry 31. Concluded to answer a next state: rewriteRequest, rewriteStart,
wearCountSave. -/
def Sys2Proof.Claims.RewritesProceed : Prop :=
  (∀ (die : Die) (w : ObjWrite) (s : State) (service source : Nat), s.chip.writeArrives w (dieObj Obj.rewriteRequest die) →
    service = 2592 * die.val + valueOf w.value → source = s.chip.vats.physical service → s.chip.dieServes die = true →
    valueOf w.value ≤ 2303 → isServiceVat service = true → service ∉ s.chip.vats.unbacked →
    (SMap.find s.chip.turn.rewrites source = none → ∃ c : S8,
      exec (.rewriteRequest die w) s = .next { s with chip := c.writeDone w (dieObj Obj.rewriteRequest die) } ∧
      c = { s.chip with turn := { s.chip.turn with
        rewrites := c.turn.rewrites, status := c.turn.status, requested := c.turn.requested } } ∧
      ∃ r, SMap.find c.turn.rewrites source = some r ∧ r.state = 1 ∧ r.service = service ∧ r.tries = 0) ∧
    (∀ r, SMap.find s.chip.turn.rewrites source = some r → ∃ c : S8,
      exec (.rewriteRequest die w) s = .next { s with
        chip := c.answerWrite w.port w.requestId.toNat (dieObj Obj.rewriteRequest die) statusState w.value.length [] } ∧
      c = { s.chip with turn := { s.chip.turn with status := c.turn.status, requested := c.turn.requested } })) ∧
  (∀ (vat : Vat) (s : State) (r : Rewrite) (g : Golden) (content : Nat × Nat) (spare : Nat) (k : Nat), k = vatKey vat →
    s.chip.rewriteDue k = some r → isServiceVat k = true → s.chip.dieServes (vatDie k) = true →
    (s.chip.turn.programming.filter (fun p => vatHalf p = vatHalf k)).length <
      s.chip.dict.get Obj.rewriteConcurrency → vatHalf k ∉ s.chip.cores.starved →
    s.chip.goldenOf r.source = some g → SMap.find s.chip.wheels.content r.source = some content →
    s.chip.rewriteSpares r g = [spare] → ∃ t,
      exec (.rewriteStart vat) s = .next t ∧ spare ∈ t.chip.turn.programming ∧
      SMap.find t.chip.wheels.content spare = some content ∧ t.chip.mem = s.chip.mem.setState spare 1 ∧
      (isCulture spare = false → (t.chip.turn.qualityOf spare).cycles = (s.chip.turn.qualityOf spare).cycles + 1) ∧
      SMap.find t.chip.turn.rewrites r.source = some { r with spare := spare, state := 3 } ∧ t.chip.dict = s.chip.dict) ∧
  (∀ s : State, exec .wearCountSave s = .next { s with
    chip := { s.chip with turn := { s.chip.turn with
      savedCycles := (s.chip.turn.quality.map (fun e => (e.1, e.2.cycles))).filter (fun e => e.2 ≠ 0)
      savedWrites := s.chip.turn.rowWrites } } })

/-- Turning: localisation, repair and rewriting. -/
def Obligations.FaultsAreRepairedAndVatsRewritten : Prop :=
  Claims.FaultsAreLocatedAndRepaired ∧ Claims.RewritesProceed

/-! ### Host-class cores (chapter 10) -/

/-- Row transfers (R219, R222). xfer.row on a core that executes takes a free tag, writes it to rd, and starts the transfer of the
rows it names; with no free tag the core stalls and keeps the transfer. The transfer's end copies every row, in ascending order, and
leaves its status for xfer.wait, which writes it to rd and frees the tag; xfer.wait of a transfer still under way stalls the core
with rd, and of an unknown tag answers 3. Where the manual leaves a point open, the choice is the model's: log entries 6 and 16.
Concluded to answer a next state: xferRow, xferWait, xferComplete. -/
def Sys2Proof.Claims.RowTransfersRun : Prop :=
  (∀ (core : Core) (machine : Bool) (rd rs1 rs2 : Fin 32) (s : State) (k a b : Nat) (x : RowTransfer), k = coreKey core →
    s.chip.coreRuns k = true → a = s.chip.cores.xreg k rs1 → b = s.chip.cores.xreg k rs2 →
    x = { source := a, dest := field b 0 48, rows := field b 48 10 + 1, status := none, machineMode := machine } →
    s.chip.cores.freeTags k ≠ [] → s.chip.xferPermitted k x = true → ∃ t tag,
      exec (.xferRow core machine rd rs1 rs2) s = .next t ∧ tag ∈ s.chip.cores.freeTags k ∧
      t = { s with chip := { s.chip with free := s.chip.free + 1, cores := t.chip.cores } } ∧
      SMap.find t.chip.cores.transfers (16 * k + tag) = some x ∧ (rd.val ≠ 0 → t.chip.cores.xreg k rd = tag)) ∧
  (∀ (core : Core) (machine : Bool) (rd rs1 rs2 : Fin 32) (s : State) (k a b : Nat) (x : RowTransfer), k = coreKey core →
    s.chip.coreRuns k = true → a = s.chip.cores.xreg k rs1 → b = s.chip.cores.xreg k rs2 →
    x = { source := a, dest := field b 0 48, rows := field b 48 10 + 1, status := none, machineMode := machine } →
    s.chip.cores.freeTags k = [] →
      exec (.xferRow core machine rd rs1 rs2) s = .next { s with chip := { s.chip with
        cores := { s.chip.cores with tagStalls := SMap.insert s.chip.cores.tagStalls k (rd.val, x) } } }) ∧
  (∀ (c : Cores) (core tag rd : Nat) (x : RowTransfer), SMap.find c.tagStalls core = some (rd, x) → ∃ d,
    c.tagFreed core tag = d ∧ SMap.find d.tagStalls core = none ∧ SMap.find d.transfers (16 * core + tag) = some x ∧
    (rd ≠ 0 → rd < 32 → tag < 16 → d.xreg core rd = tag)) ∧
  (∀ (core : Core) (rd rs1 : Fin 32) (s : State) (k tag status : Nat) (x : RowTransfer), k = coreKey core →
    s.chip.coreRuns k = true → tag = s.chip.cores.xreg k rs1 → tag < 16 →
    SMap.find s.chip.cores.transfers (16 * k + tag) = some x → x.status = some status → status ≤ 2 → ∃ t,
      exec (.xferWait core rd rs1) s = .next t ∧ t = { s with chip := { s.chip with cores := t.chip.cores } } ∧
      SMap.find t.chip.cores.transfers (16 * k + tag) = none ∧ (rd.val ≠ 0 → t.chip.cores.xreg k rd = status)) ∧
  (∀ (core : Core) (rd rs1 : Fin 32) (s : State) (k tag : Nat) (x : RowTransfer), k = coreKey core →
    s.chip.coreRuns k = true → tag = s.chip.cores.xreg k rs1 → tag < 16 →
    SMap.find s.chip.cores.transfers (16 * k + tag) = some x → x.status = none →
      exec (.xferWait core rd rs1) s = .next { s with chip := { s.chip with
        cores := { s.chip.cores with xferStalls := SMap.insert s.chip.cores.xferStalls k (rd.val, tag) } } }) ∧
  (∀ (core : Core) (tag : Fin 16) (s : State) (k : Nat) (x : RowTransfer), k = coreKey core →
    SMap.find s.chip.cores.transfers (16 * k + tag) = some x → x.status = none → x.rows = 1 → s.chip.xferPermitted k x = true →
    SMap.find s.chip.cores.xferStalls k = none → badIn s.chip.mem [] x.source 512 = [] → ∃ t,
      exec (.xferComplete core tag [] { corrected := 0, flits := [] }) s = .next t ∧ t.pending = s.pending ∧
      SMap.find t.chip.cores.transfers (16 * k + tag) = some { x with status := some 0 } ∧
      (∀ a, (∀ e ∈ s.chip.rootsTouched x.dest 512, a < e.2 + 24 ∨ e.2 + 32 ≤ a) →
        t.chip.mem.byte a = if x.dest ≤ a ∧ a < x.dest + 512 then
          (tableBits x.dest (s.chip.readBytes x.source 512)).getD (a - x.dest) 0 else s.chip.mem.byte a))

/-- Posting and patching pours (R198, R223). A well-formed maintenance instruction of the core's own half, posted to a maintenance
slot whose fetch window has not begun, is the slot's entry of this step, and rd is 0; after its window has begun it is the next
step's, and rd is 1, and where that step's window has begun too, the one's after it. A slot of another kind refuses it with 3. A
patch before its group's deadline puts the lane and the row into the expert's slot, and rd is 0. Where the manual leaves a point
open, the choice is the model's: log entry 38. Concluded to answer a next state: pourPost, pourPatch. -/
def Obligations.PoursArePostedAndPatched : Prop :=
  (∀ (core : Core) (rd rs1 rs2 : Fin 32) (tick : Nat) (s : State) (k vat : Nat) (p : PourInstr), k = coreKey core →
    s.chip.coreRuns k = true → p = PourInstr.ofWord (s.chip.cores.xreg k rs1 + 2 ^ 64 * s.chip.cores.xreg k rs2) →
    vat = p.target core.die →
    p.malformedForm s.chip.run.running core.die 2 (s.chip.kindAfter vat p.slot) p.slot false = false →
    vatHalf vat = coreHalfKey core → vat ∉ s.chip.vats.unbacked →
    s.chip.statePermits (s.chip.vats.physical vat) p = true →
    (s.chip.kindOfSlot vat p.slot = 2 → s.chip.windowBegun vat p.slot tick = false →
      exec (.pourPost core rd rs1 rs2 tick) s = .next { s with chip := { s.chip with
        vats := { s.chip.vats with posted := SMap.insert s.chip.vats.posted (slotKey vat p.slot) p }
        cores := s.chip.cores.setX k rd 0 } }) ∧
    (s.chip.kindOfSlot vat p.slot = 2 → s.chip.windowBegun vat p.slot tick = true →
      s.chip.vats.ahead.contains (slotKey vat p.slot) = true →
      exec (.pourPost core rd rs1 rs2 tick) s = .next { s with chip := { s.chip with
        vats := { s.chip.vats with postedLater := SMap.insert s.chip.vats.postedLater (slotKey vat p.slot) p }
        cores := s.chip.cores.setX k rd 1 } }) ∧
    (s.chip.kindOfSlot vat p.slot = 2 → s.chip.windowBegun vat p.slot tick = true →
      s.chip.vats.ahead.contains (slotKey vat p.slot) = false →
      exec (.pourPost core rd rs1 rs2 tick) s = .next { s with chip := { s.chip with
        vats := { s.chip.vats with postedNext := SMap.insert s.chip.vats.postedNext (slotKey vat p.slot) p }
        cores := s.chip.cores.setX k rd 1 } }) ∧
    (s.chip.kindOfSlot vat p.slot ≠ 2 →
      exec (.pourPost core rd rs1 rs2 tick) s = .next { s with chip := { s.chip with cores := s.chip.cores.setX k rd 3 } })) ∧
  (∀ (core : Core) (rd rs1 rs2 : Fin 32) (tick : Nat) (s : State) (k a b : Nat) (sh : Sheet) (g : ExpertGroup), k = coreKey core →
    s.chip.coreRuns k = true → a = s.chip.cores.xreg k rs1 → b = s.chip.cores.xreg k rs2 → s.chip.run.running = some sh →
    sh.groups = [g] → g.core.key = k → tick < g.deadline → field a 0 8 < g.experts →
    (sh.expertSlots g (field a 0 8)).any (fun x => x.2.contains (field a 8 7)) = true →
    sh.patchMalformed g (field a 0 8) (field a 8 7) (field b 0 7) (field b 16 10) = false →
      exec (.pourPatch core rd rs1 rs2 tick) s = .next { s with chip := { s.chip with
        vats := s.chip.vats.patch sh g (field a 0 8) (field a 8 7) (field b 0 7) (field b 16 10)
        cores := s.chip.cores.setX k rd 0 } })

/-- Accumulator sets (R137, R224). acc.rd copies a set to the 65 rows it names of the core's own scratchpad and changes no other
byte, nor the set; a set that is not open reads as zeros. acc.wr opens a closed set with the values of 65 rows and answers 0; an
open one it leaves, and answers 1. A row known bad poisons the set. Where the manual leaves a point open, the choice is the model's:
log entry 38. Concluded to answer a next state: accRd, accWr. -/
def Sys2Proof.Claims.AccumulatorSetsAreReadAndWritten : Prop :=
  (∀ (core : Core) (rs1 rs2 : Fin 32) (s : State) (k key : Nat), k = coreKey core → s.chip.coreRuns k = true →
    s.chip.cores.accSetKey core rs1 = some key → (s.chip.vats.set key).opened = false → ∃ t,
      exec (.accRd core rs1 rs2) s = .next t ∧
      t = { s with chip := { s.chip with mem := { s.chip.mem with bytes := t.chip.mem.bytes, bad := t.chip.mem.bad } } } ∧
      (∀ a ∈ s.chip.cores.accRows core rs2, ∀ i < 512, t.chip.mem.byte (a + i) = 0) ∧
      (∀ b, (∀ a ∈ s.chip.cores.accRows core rs2, b < a ∨ a + 512 ≤ b) → t.chip.mem.byte b = s.chip.mem.byte b)) ∧
  (∀ (core : Core) (rd rs1 rs2 : Fin 32) (s : State) (k key : Nat), k = coreKey core → s.chip.coreRuns k = true →
    s.chip.cores.accSetKey core rs1 = some key →
    ((s.chip.vats.set key).opened = true →
      exec (.accWr core rd rs1 rs2) s = .next { s with chip := { s.chip with cores := s.chip.cores.setX k rd 1 } }) ∧
    ((s.chip.vats.set key).opened = false → (∃ a ∈ s.chip.cores.accRows core rs2, badIn s.chip.mem [] a 512 ≠ []) →
      ∃ t, exec (.accWr core rd rs1 rs2) s = .next t ∧ (t.chip.vats.set key).opened = true ∧
        field (t.chip.vats.set key).status 4 1 = 1) ∧
    ((s.chip.vats.set key).opened = false → (∀ a ∈ s.chip.cores.accRows core rs2, badIn s.chip.mem [] a 512 = []) →
      ∃ t, exec (.accWr core rd rs1 rs2) s = .next t ∧
      t = { s with chip := { s.chip with
        cores := s.chip.cores.setX k rd 0, vats := { s.chip.vats with sets := t.chip.vats.sets } } } ∧
      (t.chip.vats.set key).opened = true ∧
      (t.chip.vats.set key).status = leAt (s.chip.mem.read ((s.chip.cores.accRows core rs2).getD 64 0) 512) 0 2 ∧
      ∀ other, other ≠ key → t.chip.vats.set other = s.chip.vats.set other))

/-- Accumulator sets. -/
def Obligations.SetsAreCarriedReadAndWritten : Prop :=
  Claims.CarriedSetComesBack ∧ Claims.AccumulatorSetsAreReadAndWritten

/-- The encoding and rounding instructions (R219). On a core that executes, each writes its vector register and nothing else but its
task status and the counters of its conversion: bytes that the table does not give are zero. venc.n8 and vrnd.n8 write the N8
encoding of their 32 values with its flags, valign each code aligned to the exponent, or zero where its bit of the mask is set.
vrnd.w16 counts nothing; with no poisoned container its task status stays as it was and byte 64 is 0. Concluded to answer a next
state: vencN8, vrndN8, vrndW16, valign. -/
def Sys2Proof.Claims.VectorInstructionsWriteOneRegister : Prop :=
  (∀ (i : Instr) (core : Core) (vd vs1 rs2 : Fin 32) (s : State), s.chip.coreRuns (coreKey core) = true →
    i = .vencN8 core vd vs1 ∨ (i = .vrndN8 core vd vs1 ∧ vs1.val % 4 = 0) ∨ (i = .vrndW16 core vd vs1 ∧ vs1.val % 4 = 0) ∨
      i = .valign core vd vs1 rs2 → ∃ t, exec i s = .next t ∧
      t = { s with chip := { s.chip with
        cores := { s.chip.cores with v := t.chip.cores.v, taskStatus := t.chip.cores.taskStatus }
        dict := t.chip.dict } } ∧
      (∀ c r, 32 * c + r ≠ 32 * coreKey core + vd.val → t.chip.cores.vreg c r = s.chip.cores.vreg c r) ∧
      (t.chip.cores.vreg (coreKey core) vd).length = 128 ∧
      (∀ n, 65 ≤ n → n < 128 → (t.chip.cores.vreg (coreKey core) vd).getD n 0 = 0) ∧
      ((i = .vencN8 core vd vs1 ∨ i = .vrndN8 core vd vs1 ∨ i = .valign core vd vs1 rs2) →
        ∀ n, 34 ≤ n → n < 128 → (t.chip.cores.vreg (coreKey core) vd).getD n 0 = 0) ∧
      (i = .vrndW16 core vd vs1 → t.chip.dict = s.chip.dict)) ∧
  (∀ (core : Core) (vd vs1 : Fin 32) (s : State), s.chip.coreRuns (coreKey core) = true → vs1.val % 4 = 0 →
    (∀ a ∈ s.chip.cores.accGroup (coreKey core) vs1, a.poison = false) → ∃ t, exec (.vrndW16 core vd vs1) s = .next t ∧
      (∀ n < 32, leAt (t.chip.cores.vreg (coreKey core) vd) (2 * n) 2 =
        ((s.chip.cores.accGroup (coreKey core) vs1).map Acc.roundW16).getD n 0 % 65536) ∧
      (t.chip.cores.vreg (coreKey core) vd).getD 64 1 = 0) ∧
  (∀ (core : Core) (vd vs1 : Fin 32) (s : State) (r : Block × Tally), s.chip.coreRuns (coreKey core) = true →
    r = encodeN8 ((List.range 32).map (fun i => exact32 (leAt (s.chip.cores.vreg (coreKey core) vs1) (4 * i) 4))) → ∃ t,
      exec (.vencN8 core vd vs1) s = .next t ∧
      t.chip.cores.vreg (coreKey core) vd = padTo 128 (encodedBytes r.1 r.2) ∧
      t.chip.dict = s.chip.dict.countTally s.chip.run.step (unitField 3 (coreKey core)) r.2) ∧
  (∀ (core : Core) (vd vs1 : Fin 32) (s : State) (r : Block × Tally), s.chip.coreRuns (coreKey core) = true → vs1.val % 4 = 0 →
    r = encodeN8 ((s.chip.cores.accGroup (coreKey core) vs1).map Acc.exact) → ∃ t,
      exec (.vrndN8 core vd vs1) s = .next t ∧
      t.chip.cores.vreg (coreKey core) vd = padTo 128 (encodedBytes r.1 r.2) ∧
      t.chip.dict = s.chip.dict.countTally s.chip.run.step (unitField 3 (coreKey core)) r.2) ∧
  (∀ (core : Core) (vd vs1 rs2 : Fin 32) (s : State) (k x : Nat) (v : Bytes) (b : Block), k = coreKey core →
    s.chip.coreRuns k = true → v = s.chip.cores.vreg k vs1 → x = s.chip.cores.xreg k rs2 →
    b = Block.ofBytes (byteAt v 32) (bytesAt v 0 32) → ∃ t,
      exec (.valign core vd vs1 rs2) s = .next t ∧
      ∀ i < 32, byteAt (t.chip.cores.vreg k vd) i = BitVec.ofInt 8
        (if field x (8 + i) 1 = 1 then 0 else (alignCode (field x 0 8) b.scale (b.codes.getD i 0)).1))

/-- An illegal extension instruction (R220) of a core that executes raises the illegal-instruction exception with its word, counts
in IllegalCustomCount, and does nothing else: a word that R219's table does not list, one that its mode may not execute, and vrnd.n8
or vrnd.w16 with a vs1 that is not a multiple of 4. Where the manual leaves a point open, the choice is the model's: log entry 19.
Concluded to answer a next state: vrndN8, vrndW16, illegalCustom. -/
def Sys2Proof.Claims.IllegalExtensionInstructionsTrap : Prop :=
  (∀ (core : Core) (machine : Bool) (word : BitVec 32) (s : State), s.chip.coreRuns (coreKey core) = true →
    (field word.toNat 0 7 = 0x0B ∧
        ¬(field word.toNat 12 3 = 0 ∧ field word.toNat 25 7 ≤ 1) ∧ ¬(field word.toNat 12 3 = 3 ∧ field word.toNat 25 7 ≤ 1) ∧
        ¬(field word.toNat 12 3 = 1 ∧ field word.toNat 25 7 = 1) ∧
        ¬(machine = true ∧ field word.toNat 12 3 = 1 ∧ field word.toNat 25 7 = 0) ∧
        ¬(machine = true ∧ field word.toNat 12 3 = 2 ∧ field word.toNat 25 7 ≤ 1)) ∨
      (field word.toNat 0 7 = 0x2B ∧ (field word.toNat 12 3 ≠ 0 ∨ 3 < field word.toNat 25 7 ∨
        ((field word.toNat 25 7 = 1 ∨ field word.toNat 25 7 = 2) ∧ field word.toNat 15 5 % 4 ≠ 0))) →
      exec (.illegalCustom core machine word) s = .next { s with chip := { s.chip with
        cores := s.chip.cores.takeTrap (coreKey core) 2 word.toNat
        dict := s.chip.dict.raise s.chip.run.step Obj.illegalCustomCount 0 1 (unitField 3 (coreKey core)) word.toNat } }) ∧
  (∀ (i : Instr) (core : Core) (vd vs1 : Fin 32) (s : State), s.chip.coreRuns (coreKey core) = true → vs1.val % 4 ≠ 0 →
    i = .vrndN8 core vd vs1 ∨ i = .vrndW16 core vd vs1 → ∃ word, exec i s = .next { s with chip := { s.chip with
      cores := s.chip.cores.takeTrap (coreKey core) 2 word
      dict := s.chip.dict.raise s.chip.run.step Obj.illegalCustomCount 0 1 (unitField 3 (coreKey core)) word } })

/-- Register x0 of every core reads as zero and keeps what it reads when written; another register reads as written (R216). -/
def Sys2Proof.Claims.ZeroRegisterReadsZero : Prop :=
  ∀ (c : Cores) (core r v : Nat), c.xreg core 0 = 0 ∧ c.setX core 0 v = c ∧
    (r ≠ 0 → r < 32 → (c.setX core r v).xreg core r = v % 2 ^ 64) ∧
    (∀ core' r', 32 * core' + r' ≠ 32 * core + r → (c.setX core r v).xreg core' r' = c.xreg core' r')

/-- The cores' extension instructions. -/
def Obligations.CoreInstructionsWriteTheirRegister : Prop :=
  Claims.VectorInstructionsWriteOneRegister ∧ Claims.IllegalExtensionInstructionsTrap ∧ Claims.ZeroRegisterReadsZero

/-- A move of a logical core (R232, R233, R236) that passes its checks begins: source and target take CoreState 5, its status says
that it copies, and no core's contents change. One that is refused reports its reason, and changes nothing else. Where the manual
leaves a point open, the choice is the model's: log entry 39. Concluded to answer a next state: coreMoveRequest. -/
def Sys2Proof.Claims.CoreMovesBegin : Prop :=
  ∀ (die : Die) (w : ObjWrite) (s : State) (half logical spare : Nat), s.chip.writeArrives w (dieObj Obj.coreMoveRequest die) →
    half = 2 * die.val + field (valueOf w.value) 13 1 → logical = field (valueOf w.value) 6 6 → spare = field (valueOf w.value) 0 6 →
    (s.chip.moveRefusal half logical spare = 0 → ∃ c : S8,
      exec (.coreMoveRequest die w) s = .next { s with chip := c.writeDone w (dieObj Obj.coreMoveRequest die) } ∧
      c = { s.chip with cores := { s.chip.cores with
        moveStatus := c.cores.moveStatus, states := c.cores.states, moves := c.cores.moves } } ∧
      SMap.find c.cores.states (s.chip.cores.physical (36 * half + logical)) = some 5 ∧
      SMap.find c.cores.states (s.chip.cores.physical (36 * half + spare)) = some 5 ∧
      SMap.find c.cores.moves half ≠ none) ∧
    (s.chip.moveRefusal half logical spare ≠ 0 → ∃ c : S8,
      exec (.coreMoveRequest die w) s = .next { s with chip := c.writeDone w (dieObj Obj.coreMoveRequest die) } ∧
      c = { s.chip with cores := { s.chip.cores with moveStatus := c.cores.moveStatus } } ∧
      SMap.getD c.cores.moveStatus die 0 = moveWord 5 (s.chip.moveRefusal half logical spare) 0)

/-- Row transfers between scratchpads, and moves of cores. -/
def Obligations.RowTransfersAndCoreMoves : Prop :=
  Claims.RowTransfersRun ∧ Claims.CoreMovesBegin

/-! ### Core tasks (chapters 02, 07, 08, 12) -/

/-- Pour vectors, rounding, routines and staging (R45, R48, R57, R205, R206). A task of each kind that works on a lane, and whose
input rows decode, writes the lane's output rows; it changes no other byte of memory, and otherwise only counters and the status of
the lane's token. Its output: for kind 0 the pour vector of its source blocks; for kind 1 the N8 blocks or W16 values of the
reduction's columns; for kinds 2 and 6 what the wheel's routine gives of its input and of the combinations of double words it makes;
for kind 9 the payload in the transfer's format. Where the manual leaves a point open, the choice is the model's: log entries 8 and
26. Concluded to answer a next state: taskBuildPourVectors, taskRound, taskNormActivation, taskEmbed, taskTransferStaging. -/
def Obligations.TasksWriteTheirLanesRows : Prop :=
  (∀ (task : Nat) (lane : Lane) (s : State) (sh : Sheet) (t : CoreTask) (n : Nat) (lifted : List Nat) (b : Bytes),
    s.chip.taskWorks task 0 lane sh t → n = sh.vectorRowsOf t → s.chip.mem.badRows t.core (t.inRow n lane) n = [] →
    lifted = ((s.chip.vectorVat sh t.core t.phase (t.outRow n lane) lane).map s.chip.mem.liftedRows).getD [] →
    b = s.chip.mem.readRows t.core (t.inRow n lane) n → ∃ u, exec (.taskBuildPourVectors task lane) s = .next u ∧
      u = { s with chip := { s.chip with
        mem := s.chip.mem.writeRows t.core (t.outRow n lane)
          ((buildPourVector (splitBlocks b (if n = 3 then 1024 else 2048)) lifted (s.chip.dict.get Obj.fallbackZThreshold)
            (s.chip.dict.get Obj.fallbackSThreshold)).1.toBytes n)
        dict := u.chip.dict } }) ∧
  (∀ (task : Nat) (lane : Lane) (s : State) (sh : Sheet) (t : CoreTask) (r : Reduction) (n : Nat) (accs : List Acc),
    s.chip.taskWorks task 1 lane sh t → sh.resultAt t = some r → n = resultRows r.width →
    s.chip.mem.badRows t.core (t.inRow n lane) n = [] →
    accs = (List.range r.width).map (fun i =>
      Acc.ofBytes (bytesAt (s.chip.mem.readRows t.core (t.inRow n lane) n) (16 * i) 16)) → ∃ u rows,
      exec (.taskRound task lane) s = .next u ∧
      u = { s with chip := { s.chip with
        mem := s.chip.mem.writeRows t.core (t.outRow (rows.length / 512) lane) rows
        serve := { s.chip.serve with slots := u.chip.serve.slots }, dict := u.chip.dict } } ∧
      (Config.roundsToW16 t.routine (s.chip.run.argumentOf task t lane) = false →
        rows = toSplit ((roundN8 accs r.width).map (·.1))) ∧
      (Config.roundsToW16 t.routine (s.chip.run.argumentOf task t lane) = true → u.chip.dict = s.chip.dict ∧
        ∀ i < r.width, leAt rows (2 * i) 2 = (accs.map Acc.roundW16).getD i 0 % 65536)) ∧
  (∀ (task : Nat) (lane : Lane) (s : State) (sh : Sheet) (t : CoreTask) (arg n out : Nat), s.chip.taskWorks task 2 lane sh t →
    arg = s.chip.run.argumentOf task t lane → n = Config.routineInputs 2 t.routine arg →
    out = Config.routineOutputs 2 t.routine arg → s.chip.mem.badRows t.core (t.inRow n lane) n = [] → ∃ u,
      exec (.taskNormActivation task lane) s = .next u ∧
      u = { s with chip := { s.chip with
        mem := s.chip.mem.writeRows t.core (t.outRow out lane)
          (padTo (512 * out) (Config.routineRows 2 t.routine arg (s.chip.mem.readRows t.core (t.inRow n lane) n)
            (routineStatistics 2 t.routine arg (s.chip.mem.readRows t.core (t.inRow n lane) n)).1))
        serve := { s.chip.serve with slots := u.chip.serve.slots }, dict := u.chip.dict } }) ∧
  (∀ (task : Nat) (lane : Lane) (s : State) (sh : Sheet) (t : CoreTask) (arg out token : Nat), s.chip.taskWorks task 6 lane sh t →
    arg = s.chip.run.argumentOf task t lane → out = Config.routineOutputs 6 t.routine arg →
    s.chip.enteringToken lane = some token → ∃ u,
      exec (.taskEmbed task lane) s = .next u ∧
      u = { s with chip := { s.chip with
        mem := s.chip.mem.writeRows t.core (t.outRow out lane)
          (padTo (512 * out) (Config.routineRows 6 t.routine arg (leBytes 4 token)
            (routineStatistics 6 t.routine arg (leBytes 4 token)).1))
        serve := { s.chip.serve with slots := u.chip.serve.slots }, dict := u.chip.dict } }) ∧
  (∀ (task : Nat) (lane : Lane) (s : State) (sh : Sheet) (t : CoreTask) (x : Transfer) (n out : Nat),
    s.chip.taskWorks task 9 lane sh t →
    sh.transfers.find? (fun x => x.kind = 1 && x.source = t.core && x.lane = lane.val) = some x →
    n = stagedInputRows x.format x.length → out = ceilDiv x.length 512 →
    s.chip.mem.badRows t.core (t.inRow n lane) n = [] → ∃ u,
      exec (.taskTransferStaging task lane) s = .next u ∧
      u = { s with chip := { s.chip with
        mem := s.chip.mem.writeRows t.core (t.outRow out lane)
          (padTo (512 * out) (stagedBytes x.format x.length (s.chip.mem.readRows t.core (t.inRow n lane) n)).1)
        serve := { s.chip.serve with slots := u.chip.serve.slots }, dict := u.chip.dict } }) ∧
  (∀ (m : Mem) (core : CoreRef) (row : Nat) (b : Bytes) (a : Nat), rowsAvoid core row (ceilDiv b.length 512) a →
    (m.writeRows core row b).byte a = m.byte a)

/-- The pour vector (R45, R48): its exponent is at most 0xFA; it is poisoned by any poison block; an element of a lifted row is driven
at zero; the lane falls back exactly when a block trips, and a block trips at either threshold. -/
def Obligations.PourVectorsAlign : Prop :=
  ∀ (blocks : List Block) (lifted : List Nat) (zT sT : Nat) (v : PourVector), v = (buildPourVector blocks lifted zT sT).1 →
    v.exponent ≤ 0xFA ∧ v.codes.length = 32 * blocks.length ∧
    (v.poison = true ↔ ∃ b ∈ blocks, b.scale = 0xFF) ∧
    (∀ r ∈ lifted, r < 32 * blocks.length → v.codes.getD r 1 = 0) ∧
    (∀ b < blocks.length, ∀ i < 32, 32 * b + i ∉ lifted → v.codes.getD (32 * b + i) 0 =
      (alignCode v.exponent (blocks.getD b Block.zero).scale ((blocks.getD b Block.zero).codes.getD i 0)).1) ∧
    (∀ b, b ∈ v.tripMap ↔ b < blocks.length ∧ (zT ≤ v.z.getD b 0 ∨ sT ≤ v.s.getD b 0)) ∧
    (v.fallback = true ↔ v.tripMap ≠ []) ∧
    (∀ (p scale : Nat) (x : Int), (alignCode p scale x).2 = true →
      p < scale ∧ ((alignCode p scale x).1 = 127 ∨ (alignCode p scale x).1 = -127))

/-- Routing (R198, R199). The route task changes only what expert slots hold and the two counters. A lane takes no expert beyond its
capacity; every one of its TopK choices is either placed or dropped; and what earlier lanes placed stays placed. Where the manual
leaves a point open, the choice is the model's: log entry 8. Concluded to answer a next state: taskRoute. -/
def Obligations.RoutingRespectsCapacity : Prop :=
  (∀ (group : Nat) (s : State) (sh : Sheet) (g : ExpertGroup) (t : CoreTask) (r : Routing), s.chip.run.running = some sh →
    sh.groups[group]? = some g → sh.tasks.find? (fun t => t.kind = 5 && t.core = g.core && t.phase = g.phase) = some t →
    s.chip.dieServes g.core.die = true →
    (∀ l ∈ s.chip.run.activeLanes g.phase, t.firstLane ≤ l → l < t.firstLane + t.laneCount →
      s.chip.mem.badRows t.core (t.inRow (ceilDiv (4 * g.experts) 512) l) (ceilDiv (4 * g.experts) 512) = []) →
    r = ((s.chip.run.activeLanes g.phase).filter (fun l => t.firstLane ≤ l && l < t.firstLane + t.laneCount)).foldl
      (fun a l => a.lane g l (rankExperts (s.chip.scoresOf g t l))) { load := [], placed := [], overflow := 0, dropped := 0 } →
    exec (.taskRoute group) s = .next { s with chip := { s.chip with
      vats := r.placed.foldl (fun v e => v.place sh g e) s.chip.vats
      dict := (s.chip.dict.raise s.chip.run.step Obj.expertOverflowCount 0 r.overflow (unitField 3 g.core.key) group).raise
        s.chip.run.step Obj.expertDropCount 0 r.dropped (unitField 3 g.core.key) group } }) ∧
  (∀ (r : Routing) (g : ExpertGroup) (lane : Nat) (ranked : List Nat),
    (∀ e, SMap.getD r.load e 0 ≤ g.capacity.getD e 0) → ∀ e, SMap.getD (r.lane g lane ranked).load e 0 ≤ g.capacity.getD e 0) ∧
  (∀ (r : Routing) (g : ExpertGroup) (lane : Nat) (ranked : List Nat), ∃ taken : List (Nat × Nat × Nat),
    (r.lane g lane ranked).placed = r.placed ++ taken ∧ taken.length + (r.lane g lane ranked).dropped = g.topK + r.dropped ∧
    ∀ e ∈ taken, e.2.2 = lane ∧ e.1 ∈ ranked.take (g.topK + g.depth)) ∧
  (∀ (v : Vats) (sh : Sheet) (g : ExpertGroup) (e : Nat × Nat × Nat), v.place sh g e = { v with patched := (v.place sh g e).patched })

/-- Sampling (R322, R323). The token due on a lane is sampled once: its sequence gains one sampled token with the position and step,
has one fewer left, and its draw count rises only when a draw was made; nothing else changes. A poisoned token or a logit that is
not finite gives identifier 0, Poison and the log-probability 0x7FC00000; Temperature 0 makes no draw; the token is always an
identifier of the vocabulary. The kind-255 task does its half's management work. Where the manual leaves a point open, the choice is
the model's: log entry 8. Concluded to answer a next state: taskSample, taskFirmware. -/
def Obligations.TokensAreSampled : Prop :=
  (∀ (task : Nat) (lane : Lane) (s : State) (sh : Sheet) (t : CoreTask) (slot : Nat) (q : Sequence) (e : EntryMade) (v n : Nat),
    s.chip.run.task task = some (sh, t) → t.kind = 4 → sh.samples = true → s.chip.dieServes t.core.die = true →
    t.core.key ∉ s.chip.cores.unbacked → t.firstLane ≤ lane → lane.val < t.firstLane + t.laneCount → task ∉ s.chip.run.tasksEnded →
    s.chip.dueOnLane sh lane s.chip.run.step = some (slot, q, e) → q.ended = false →
    q.lastToken.map (fun x => x.2) ≠ some (q.base + e.entry + 1) → v = s.chip.vocabulary sh → n = ceilDiv (2 * v) 512 →
    s.chip.mem.badRows t.core (t.inRow n lane) n = [] → ∃ u d,
      exec (.taskSample task lane) s = .next u ∧
      u = { s with chip := { s.chip with serve := { s.chip.serve with
        slots := SMap.insert s.chip.serve.slots slot { q with
          sampled := q.sampled ++ [d], lastToken := some (d.token, q.base + e.entry + 1), left := q.left - 1
          draws := (q.sample e s.chip.run.step ((List.range v).map (fun i =>
            bfloat16.decode (leAt (s.chip.mem.readRows t.core (t.inRow n lane) n) (2 * i) 2)))).draws
          inFlight := 0 } } } } ∧
      d.position = q.base + e.entry + 1 ∧ d.step = s.chip.run.step ∧ d.lane = e.lane ∧
      (d.last = true ↔ d.token ∈ q.req.stops ∨ q.left ≤ 1)) ∧
  (∀ (z : List Fp) (poison : Bool) (temperature topP seed draws : Nat) (d : Draw),
    d = sampleToken z poison temperature topP seed draws →
    ((poison = true ∨ ∃ x ∈ z, x.nonFinite = true) →
      d = { token := 0, logProb := 0x7FC00000, poison := true, drawn := false }) ∧
    (temperature % 2 ^ 31 = 0 → d.drawn = false) ∧ (d.drawn = true → d.poison = false) ∧ (z ≠ [] → d.token < z.length)) ∧
  (∀ (die : Die) (half : Half) (s : State) (h : Nat), h = halfKey die half → s.chip.run.firmwareTasks h = true →
    s.chip.halfServes h = true →
    exec (.taskFirmware die half) s = .next { s with chip := { s.chip with cores := { s.chip.cores with
      firmwareRan := insertNat h s.chip.cores.firmwareRan, starved := eraseNat h s.chip.cores.starved } } })

/-! ### Attention (chapter 10) -/

/-- Walks and combination (R140, R280, R283, R285, R286). A walk of a lane of span 1 ends in its one step with a partial at its
engine, and changes no open walk of another; the engine writes no frame when its request does not ask for a record. Two partials
combine head by head, and count together; an empty head takes the other's. At an inner node of two sources in service the combined
partial takes their place; at the root the result stands in the lane's rows. Where the manual leaves a point open, the choice is the
model's: log entry 41. Concluded to answer a next state: taskAttentionCombine, attentionWalk. -/
def Obligations.AttentionWalksAndCombines : Prop :=
  (∀ (engine : EngineId) (layer : Nat) (lane : Lane) (upset : Upsets) (s : State) (sh : Sheet) (a : AttentionRecord),
    s.chip.run.running = some sh → sh.attention.find? (fun a => a.layer = layer) = some a →
    s.chip.walkIndex sh a.phase lane = some (0, 1) → engine.val ∈ s.chip.stripeList → s.chip.run.laneActive a.phase lane = true →
    s.chip.attn.opened engine < 64 → ∃ u, exec (.attentionWalk engine layer lane upset) s = .next u ∧
      u = { s with chip := { s.chip with
        mem := u.chip.mem, dict := u.chip.dict
        attn := { s.chip.attn with
          framesRead := u.chip.attn.framesRead, mismatch := u.chip.attn.mismatch, partials := u.chip.attn.partials
          walks := u.chip.attn.walks } } } ∧
      (∃ p, SMap.find u.chip.attn.partials (partialKey layer lane engine) = some p ∧ p.heads.length = a.heads) ∧
      SMap.find u.chip.attn.walks ((layer * 128 + lane) * 16 + engine) = none ∧
      (∀ k, k ≠ (layer * 128 + lane.val) * 16 + engine.val → SMap.find u.chip.attn.walks k = SMap.find s.chip.attn.walks k) ∧
      (∀ k, k ≠ partialKey layer lane engine → SMap.find u.chip.attn.partials k = SMap.find s.chip.attn.partials k) ∧
      (field (leAt (s.chip.requestBlock a lane) 21 1) 0 1 = 0 → u.chip.mem.bytes = s.chip.mem.bytes)) ∧
  (∀ (layer : Nat) (lane : Lane) (node : Fin 15) (s : State) (sh : Sheet) (a : AttentionRecord) (x y : LanePartial),
    s.chip.run.running = some sh → sh.attention.find? (fun a => a.layer = layer) = some a →
    s.chip.run.laneActive a.phase lane = true → s.chip.dieServes (a.nodeCore node).die = true →
    (a.nodeCore node).key ∉ s.chip.cores.unbacked →
    (∀ e ∈ halves, SMap.find s.chip.attn.walks ((layer * 128 + lane) * 16 + e) = none) →
    s.chip.sourceServes (nodeOperands node).1 = true → s.chip.sourceServes (nodeOperands node).2 = true →
    SMap.find s.chip.attn.partials (partialKey a.layer lane (nodeOperands node).1) = some x →
    SMap.find s.chip.attn.partials (partialKey a.layer lane (nodeOperands node).2) = some y → ∃ u,
      exec (.taskAttentionCombine layer lane node) s = .next u ∧
      (node.val < 14 → u = { s with chip := { s.chip with
          attn := { s.chip.attn with partials := u.chip.attn.partials } } } ∧
        SMap.find u.chip.attn.partials (partialKey a.layer lane (16 + node)) = some (x.combine y)) ∧
      (node.val = 14 → u = { s with chip := { s.chip with
          mem := s.chip.mem.writeRows a.outCore
            (a.outRow + ceilDiv (rootRows (x.combine y) a.w16).1.length 512 * lane + lane)
            (padTo (roundUp 512 (rootRows (x.combine y) a.w16).1.length) (rootRows (x.combine y) a.w16).1 ++
              statusRow (orStatus (orStatus (x.combine y).status (rootRows (x.combine y) a.w16).2.1.status)
                ((if (x.combine y).heads.all (fun h => h.count = 0) then statusEmpty else 0) +
                  (if (rootRows (x.combine y) a.w16).2.2 = 0 then 0 else statusPoison))))
          serve := { s.chip.serve with slots := u.chip.serve.slots }
          attn := { s.chip.attn with partials := u.chip.attn.partials }, dict := u.chip.dict } })) ∧
  (∀ (a b : HeadPartial), (a.combine b).count = a.count + b.count ∧ (a.count = 0 → a.combine b = b) ∧
    (a.count ≠ 0 → b.count = 0 → a.combine b = a)) ∧
  (∀ (x y : LanePartial), (x.combine y).heads = List.zipWith HeadPartial.combine x.heads y.heads ∧
    ∀ bit < 5, field (x.combine y).status bit 1 = max (field x.status bit 1) (field y.status bit 1))

/-! ### Ripening (chapter 15) -/

/-- Jobs (R383 to R385, R392, R395). A request of 64 bytes for a job 1 to 4 that is not under way defines that job: waiting for its
start, or failed with its reason (2 for a field out of its range or a CultureId that another live job has). A stop is held until the
next boundary, where the job's passes and its entry go. A publish step at least 64 steps ahead, for the part that is ready, is held;
for any other version or a step past it is refused and the job reports reason 7. Where the manual leaves a point open, the choice is
the model's: log entry 49. Concluded to answer a next state: ripenJobRequest, ripenJobStop, ripenPublishStep. -/
def Obligations.JobsAreDefinedStoppedAndPublished : Prop :=
  (∀ (w : ObjWrite) (s : State) (n : Nat) (j : Job), s.chip.writeArrives w Obj.ripenJobRequest → w.value.length = 64 →
    n = leAt w.value 0 1 → 1 ≤ n → n ≤ 4 → (∀ k : Job, SMap.find s.chip.ripen.jobs n = some k → k.live = false) →
    j = Job.ofRequest w.value →
      exec (.ripenJobRequest w) s = .next { s with
        chip := ({ s.chip with ripen := { s.chip.ripen with
          jobs := SMap.insert s.chip.ripen.jobs n
            (if s.chip.jobReason j = 0 then j else { j with state := 5, reason := s.chip.jobReason j }) } }).writeDone w
              Obj.ripenJobRequest }) ∧
  (∀ (c : S8) (j : Job), (j.inRange c.run.step = false ∨ ∃ e ∈ c.ripen.jobs, e.2.live = true ∧ e.2.culture = j.culture) →
    c.jobReason j = 2) ∧
  (∀ (w : ObjWrite) (s : State) (n : Nat), s.chip.writeArrives w Obj.ripenJobStop → n = valueOf w.value → 1 ≤ n → n ≤ 4 →
    exec (.ripenJobStop w) s = .next { s with
      chip := (s.chip.setJob n (fun j => { j with stopping := true })).writeDone w Obj.ripenJobStop }) ∧
  (∀ (c : S8) (n : Nat) (j : Job), SMap.find c.ripen.jobs n = some j → j.stopping = true →
    SMap.find (c.jobBoundary n j).ripen.jobs n = none ∧ ∀ p ∈ (c.jobBoundary n j).ripen.passes, p.job ≠ n) ∧
  (∀ (w : ObjWrite) (s : State) (n v p : Nat) (j : Job), s.chip.writeArrives w Obj.ripenPublishStep → w.value.length = 12 →
    n = leAt w.value 0 1 → v = leAt w.value 2 2 → p = leAt w.value 4 8 → 1 ≤ n → n ≤ 4 →
    SMap.find s.chip.ripen.jobs n = some j →
    (j.state = 4 → j.part = v → s.chip.run.step + 64 ≤ p →
      exec (.ripenPublishStep w) s = .next { s with
        chip := (s.chip.setJob n (fun j => { j with publish := some (v, p) })).writeDone w Obj.ripenPublishStep }) ∧
    (j.state = 4 → j.part = v → s.chip.run.step < p → p < s.chip.run.step + 64 →
      exec (.ripenPublishStep w) s = .fault (.undefinedByR3 392)) ∧
    ((j.state ≠ 4 ∨ j.part ≠ v ∨ p ≤ s.chip.run.step) →
      exec (.ripenPublishStep w) s = .next { s with
        chip := (s.chip.setJob n (fun j => { j with reason := 7 })).answerWrite w.port w.requestId.toNat Obj.ripenPublishStep statusState
          w.value.length [] }))

/-- Updates and parts (R391, R392, R395). A due update moves each weight's momentum and master weight by one binary32 operation
after another, and sets the gradient sums to 0. One that is neither the last before a part nor divergent does nothing else. A master
weight that is not finite fails the job with reason 5. After every PublishUpdates updates the job writes a part, one version above
the highest held or stored, and its image is stored. A part whose place is read-verified is ready. Where the manual leaves a point
open, the choice is the model's: log entry 49. Concluded to answer a next state: ripenUpdate, ripenPartReady. -/
def Sys2Proof.Claims.UpdatesFollowTheirFormula : Prop :=
  (∀ (j : Job), j.update.gradient = [] ∧ j.update.updates = j.updates + 1 ∧
    ∀ k, let mom := binary32.add (binary32.mul j.beta (binary32.decode (SMap.getD j.momentum k 0)))
           (binary32.mul j.clipFactor (binary32.decode (SMap.getD j.gradient k 0)))
      (k ∈ j.keys → SMap.getD j.update.momentum k 0 = binary32.encode mom ∧
        SMap.getD j.update.master k 0 =
          binary32.encode (binary32.sub (binary32.decode (SMap.getD j.master k 0)) (binary32.mul j.learningRate mom))) ∧
      (k ∉ j.keys → SMap.getD j.update.momentum k 0 = SMap.getD j.momentum k 0 ∧
        SMap.getD j.update.master k 0 = SMap.getD j.master k 0)) ∧
  (∀ (job : Fin 4) (s : State) (n : Nat) (j : Job), n = job.val + 1 → SMap.find s.chip.ripen.jobs n = some j →
    j.updateDue s.chip.run.step = true →
    (j.update.diverged = false → j.update.updates % j.publishUpdates ≠ 0 →
      exec (.ripenUpdate job) s = .next { s with chip := s.chip.setJob n (fun _ => j.update) }) ∧
    (j.update.diverged = true → ∃ t k, exec (.ripenUpdate job) s = .next t ∧ t.pending = s.pending ∧
      SMap.find t.chip.ripen.jobs n = some k ∧ k.state = 5 ∧ k.reason = 5 ∧ k.published = j.published ∧ k.master = []) ∧
    (j.update.diverged = false → j.update.updates % j.publishUpdates = 0 → s.chip.nextVersion j.culture ≤ 0xFFFF → ∃ t k,
      exec (.ripenUpdate job) s = .next t ∧ t.pending = s.pending ∧
      SMap.find t.chip.ripen.jobs n = some k ∧ k.state = 3 ∧ k.part = s.chip.nextVersion j.culture ∧ k.publish = none ∧
      k.master = j.update.master)) ∧
  (∀ (job : Fin 4) (s : State) (n : Nat) (j : Job) (v : Culture), n = job.val + 1 → SMap.find s.chip.ripen.jobs n = some j →
    j.state = 3 → s.chip.cultures.find (j.keyOf j.part) = some v → v.part = true → v.state = 3 → v.verified = true →
    exec (.ripenPartReady job) s = .next { s with chip := s.chip.setJob n (fun j => { j with state := 4 }) })

/-- The kind-7 tasks (R388 to R390). On a ripening track, such a task keeps its input rows in the activation store for the training
sequence's token. Where it reads the logits of a loss position it writes the loss gradient, in N8. On the companion lane of a pass
it writes the gradient's rows, and as the last of its phase it adds to the gradient sums, never to a master weight. It changes no
memory but its output rows. Where the manual leaves a point open, the choice is the model's: log entries 8 and 49. Concluded to
answer a next state: taskRipening. -/
def Sys2Proof.Claims.RipeningTasksCarryGradients : Prop :=
  (∀ (job : Fin 4) (task : Nat) (lane : Lane) (s : State) (sh : Sheet) (t : CoreTask) (n slot rows : Nat) (j : Job) (q : Sequence)
      (k : Track), n = job.val + 1 → SMap.find s.chip.ripen.jobs n = some j → j.runs = true → s.chip.taskWorks task 7 lane sh t →
    sh.track lane = some k → k.ripen = true → sh.readsLogits t = false →
    SMap.find s.chip.run.carrying (128 * t.phase + lane) = some slot → SMap.find s.chip.serve.slots slot = some q →
    q.req.ripenJob = n → rows = Config.routineInputs 7 t.routine (s.chip.run.argumentOf task t lane) →
    s.chip.mem.badRows t.core (t.inRow rows lane) rows = [] →
      exec (.taskRipening job task lane) s = .next { s with chip := { s.chip with ripen := { s.chip.ripen with
        store := SMap.insert s.chip.ripen.store (storeKey slot t.phase task)
          (s.chip.mem.readRows t.core (t.inRow rows lane) rows) } } }) ∧
  (∀ (job : Fin 4) (task : Nat) (lane : Lane) (s : State) (sh : Sheet) (t : CoreTask) (n v rows : Nat) (j : Job) (k : Track)
      (p : Pass), n = job.val + 1 → SMap.find s.chip.ripen.jobs n = some j → j.runs = true → s.chip.taskWorks task 7 lane sh t →
    sh.track lane = some k → k.ripen = true → sh.readsLogits t = true →
    s.chip.ripen.passes.find? (fun p => p.job = n && p.lane = lane.val && p.sampling = s.chip.run.step) = some p →
    v = s.chip.vocabulary sh → rows = ceilDiv (2 * v) 512 → s.chip.mem.badRows t.core (t.inRow rows lane) rows = [] → ∃ u b,
      exec (.taskRipening job task lane) s = .next u ∧
      u = { s with chip := { s.chip with
        mem := s.chip.mem.writeRows t.core (t.outRow (b.length / 512) lane) b, dict := u.chip.dict } } ∧
      b = toSplit ((lossGradient ((List.range v).map (fun i =>
        bfloat16.decode (leAt (s.chip.mem.readRows t.core (t.inRow rows lane) rows) (2 * i) 2))) p.target).map (·.1))) ∧
  (∀ (job : Fin 4) (task : Nat) (lane : Lane) (s : State) (sh : Sheet) (t : CoreTask) (n arg rows out : Nat) (j : Job) (p : Pass),
    n = job.val + 1 → SMap.find s.chip.ripen.jobs n = some j → j.runs = true → s.chip.taskWorks task 7 lane sh t →
    ((sh.track lane).map (·.ripen)).getD false = false →
    s.chip.ripen.passes.find? (fun p => p.job = n && p.lane + 1 = lane.val && p.phase sh s.chip.run.step = some t.phase) = some p →
    arg = s.chip.run.argumentOf task t lane → rows = Config.routineInputs 7 t.routine arg →
    out = Config.routineOutputs 7 t.routine arg → s.chip.mem.badRows t.core (t.inRow rows lane) rows = [] → ∃ u,
      exec (.taskRipening job task lane) s = .next u ∧
      u = { s with chip := { s.chip with
        mem := s.chip.mem.writeRows t.core (t.outRow out lane)
          (padTo (512 * out) (Config.gradientRows t.routine arg (s.chip.mem.readRows t.core (t.inRow rows lane) rows)
            (s.chip.ripen.entry p.slot t.phase) j.master))
        ripen := { s.chip.ripen with jobs := u.chip.ripen.jobs, passes := u.chip.ripen.passes } } } ∧
      (sh.lastRipening task lane t = false → u.chip.ripen = s.chip.ripen) ∧
      ∃ k, SMap.find u.chip.ripen.jobs n = some k ∧ k = { j with gradient := k.gradient, lossTokens := k.lossTokens })

/-- Ripening: updates and backward tasks. -/
def Obligations.RipeningUpdatesAndGradients : Prop :=
  Claims.UpdatesFollowTheirFormula ∧ Claims.RipeningTasksCarryGradients

/-! ### The trier and in-field tests (chapter 16) -/

/-- Samples, checks and verdicts (R403 to R407, R410). In its step of the interval, a unit takes the next vat of its rotation: where
the lane's result was retained, a record is free and the vat may be sampled, it keeps the record, with the temperature and age of
the step; otherwise it skips, and counts. The first core to check a record computes the reference itself: where the results agree
within the tolerance, the verdict is agree and the record is free; otherwise the record stays, with the core and its result. A
record without a verdict after TrierVerdictSteps is abandoned and counted. Where the manual leaves a point open, the choice is the
model's: log entry 50. Concluded to answer a next state: taskTrierCheck, trierSample, trierVerdictTimeout. -/
def Sys2Proof.Claims.SamplesAreCheckedAndJudged : Prop :=
  (∀ (unit : RindUnit) (s : State) (u k interval : Nat), u = unitKey unit → interval = s.chip.dict.get Obj.trierInterval →
    s.chip.dieServes (u / 36) = true → u ∉ s.chip.vats.unitsRetired →
    s.chip.run.step % interval = sampleOffset interval u →
    nextOf (s.chip.rotationOf u) (SMap.find s.chip.trier.rotation u) = some k →
    (∀ r i, s.chip.retained k (s.chip.run.step / interval % 96) = some r → s.chip.freeRecord (vatHalf k) = some i →
      s.chip.sampleable k r = true → ∃ t, exec (.trierSample unit) s = .next t ∧
        t = { s with chip := { s.chip with
          mem := t.chip.mem
          trier := { s.chip.trier with
            rotation := SMap.insert s.chip.trier.rotation u k
            records := SMap.insert s.chip.trier.records (recordKey (vatHalf k) i)
              { r with temp := s.chip.meanTemp (vatHalf k), seconds := s.chip.cellar.seconds } }
          dict := s.chip.dict.tally Obj.trierSampleCount 1 } }) ∧
    ((s.chip.retained k (s.chip.run.step / interval % 96) = none ∨ s.chip.freeRecord (vatHalf k) = none ∨
      (∃ r, s.chip.retained k (s.chip.run.step / interval % 96) = some r ∧ s.chip.sampleable k r = false)) →
      exec (.trierSample unit) s = .next { s with chip := { s.chip with
        trier := { s.chip.trier with rotation := SMap.insert s.chip.trier.rotation u k }
        dict := s.chip.dict.raise s.chip.run.step Obj.trierSkipCount 0 1 (s.chip.vatUnit k) 0 } })) ∧
  (∀ (die : Die) (half : Half) (record : Fin 64) (core : Core) (s : State) (key : Nat) (r r' : TrierRecord) (g : Golden)
      (got : List Int), key = recordKey (halfKey die half) record → SMap.find s.chip.trier.records key = some r →
    r.reference = [] → r.computed = [] → r.cores = [] → s.chip.goldenOf r.physical = some g →
    s.chip.mayCompute r (coreKey core) = true →
    got = g.reference r.physical r.form (PourVector.ofBytes r.rows (dataColumns r.physical)) →
    r' = { r with
      cores := [coreKey core], computed := [got]
      tolerance := tolerance (s.chip.dict.get Obj.trierToleranceSigma) r.temp r.seconds (rmsOf got) } →
    (disagreements r'.tolerance r.results got = [] → ∃ t, exec (.taskTrierCheck die half record core []) s = .next t ∧
      t = { s with chip := { s.chip with
        mem := s.chip.mem.write (recordAddr (key / 64) (key % 64) 0) (s.chip.recordHead r' 1)
        trier := { s.chip.trier with records := SMap.erase s.chip.trier.records key } } }) ∧
    (disagreements r'.tolerance r.results got ≠ [] → ∃ t, exec (.taskTrierCheck die half record core []) s = .next t ∧
      t = { s with chip := { s.chip with
        mem := s.chip.mem.write (recordAddr (key / 64) (key % 64) 0) (s.chip.recordHead r' 0)
        trier := { s.chip.trier with records := SMap.insert s.chip.trier.records key r' }
        dict := s.chip.dict.raise s.chip.run.step Obj.trierDisagreeCount 0 1 (unitOfVatKey r.vat) r.lane } })) ∧
  (∀ (sigma seconds : Nat) (temp : Int) (rho : Fp), 16 ≤ tolerance sigma temp seconds rho) ∧
  (∀ (die : Die) (half : Half) (record : Fin 64) (s : State) (key : Nat) (r : TrierRecord),
    key = recordKey (halfKey die half) record → SMap.find s.chip.trier.records key = some r →
    (r.step + s.chip.dict.get Obj.trierVerdictSteps ≤ s.chip.run.step →
      exec (.trierVerdictTimeout die half record) s = .next { s with chip := { s.chip with
        mem := s.chip.mem.write (recordAddr (key / 64) (key % 64) 0) (s.chip.recordHead r 6)
        trier := { s.chip.trier with records := SMap.erase s.chip.trier.records key }
        dict := s.chip.dict.raise s.chip.run.step Obj.trierAbandonedCount 0 1 (unitOfVatKey r.vat) r.lane } }) ∧
    (s.chip.run.step < r.step + s.chip.dict.get Obj.trierVerdictSteps →
      exec (.trierVerdictTimeout die half record) s = .next s))

/-- Digests (R412, R413). A READY version whose blocks are all held reports the digest of its golden blocks; one that differs from a
digest that is expected counts in ReplicaMismatchCount, and is served on. A vat in service whose tables do not match their digest,
or whose header names another block, becomes a REWRITE candidate and counts. Where the manual leaves a point open, the choice is the
model's: log entry 47. Concluded to answer a next state: replicaDigestCheck. -/
def Sys2Proof.Claims.DigestsAreRecomputed : Prop :=
  (∀ (s : State) (u : Wheel), s.chip.wheels.table = [u] → u.state = 2 → (∀ n ∈ u.needed, s.chip.shardHeld u n = true) →
    (∀ k ∈ s.chip.servingVats, s.chip.tablesMatch k = true) →
      exec .replicaDigestCheck s = .next { s with chip := { s.chip with
        wheels := { s.chip.wheels with table := [{ u with digest := s.chip.replicaDigest u }] }
        dict := s.chip.dict.raise s.chip.run.step Obj.replicaMismatchCount 0
          (if s.chip.dict.expectedDigest u ≠ zeros 32 ∧ s.chip.dict.expectedDigest u ≠ s.chip.replicaDigest u then 1 else 0)
          (unitField 11 u.wheelId) u.version } }) ∧
  (∀ (s : State) (k : Nat), s.chip.wheels.table = [] → s.chip.servingVats.filter (fun k => !(s.chip.tablesMatch k)) = [k] → ∃ t,
    exec .replicaDigestCheck s = .next t ∧
    t = { s with chip := { s.chip with
      turn := { s.chip.turn with quality := t.chip.turn.quality }
      dict := s.chip.dict.raise s.chip.run.step Obj.tableDigestMismatchCount 0 1 (s.chip.vatUnit k) 0 } } ∧
    (t.chip.turn.qualityOf k).candidate = true)

/-- The trier, and the digests of replicas. -/
def Obligations.TrierJudgesAndDigestsAgree : Prop :=
  Claims.SamplesAreCheckedAndJudged ∧ Claims.DigestsAreRecomputed

/-- In-field tests (R414 to R418, R420). A test pack's request begins its reception, or is refused for its length; a part of it is
kept until the pack is whole. A spare core that is due is tested in place; a core in service falls due, and its half's test is
blocked while no healthy spare is left; a core 64 steps overdue is marked so once and counted. A core that passes has its scratchpad
cleared and its result kept; one that fails is tested once more, and at its second failure it is unbacked, out of service and
counted, and its die is lost at the next boundary when the running sheet names it. A vat whose replay differs retires its unit; one
within its limits passes. A router whose sums differ is retired and counted. Where the manual leaves a point open, the choice is the
model's: log entry 50. Concluded to answer a next state: bulkTestPack, coreTestDue, testOverdue, coreTestComplete, vatTest,
routerTest, testPackLoadRequest. -/
def Obligations.InFieldTestsRun : Prop :=
  (∀ (w : ObjWrite) (s : State), s.chip.writeArrives w Obj.testPackLoadRequest → ∃ c : S8,
    exec (.testPackLoadRequest w) s = .next { s with chip := c.writeDone w Obj.testPackLoadRequest } ∧
    (valueOf w.value % 2 ^ 32 ≤ packLimit → c = { s.chip with trier := { s.chip.trier with
      packId := valueOf w.value / 2 ^ 32, packLength := valueOf w.value % 2 ^ 32, segments := [], packState := 1, packReason := 0
      packNext := none } }) ∧
    (packLimit < valueOf w.value % 2 ^ 32 → c.trier.packState = 4 ∧ c.trier.packReason = 5 ∧ c.trier.pack = s.chip.trier.pack)) ∧
  (∀ (f : Frame) (v : FrameView) (s : State) (segments : List (Nat × Bytes)), s.chip.frameArrives f v → v.type = 0x30 →
    v.at 0 1 = 4 → s.chip.ports.owner = f.port → s.chip.trier.packState = 1 → v.at 4 4 = s.chip.trier.packId → v.handle = 0 →
    0 < v.at 12 2 → v.at 12 2 ≤ 208 → v.at 8 4 + v.at 12 2 ≤ s.chip.trier.packLength →
    segments = s.chip.trier.segments ++ [(v.at 8 4, bytesAt v.payload 16 (v.at 12 2))] →
    segmentsCover s.chip.trier.packLength segments = false →
      exec (.bulkTestPack f) s = .next { s with chip := { s.chip.goodFrame f.port with
        trier := { s.chip.trier with segments := segments } } }) ∧
  (∀ (core : Core) (s : State) (k : Nat), k = coreKey core → s.chip.dieServes (k / 36 / 2) = true → s.chip.testDue k = true →
    s.chip.halfTests (k / 36) = false →
    (s.chip.coreState k = 1 → exec (.coreTestDue core) s = .next { s with chip := { s.chip with
      cores := { s.chip.cores with states := SMap.insert s.chip.cores.states k 3 } } }) ∧
    (s.chip.coreState k = 0 → s.chip.healthySpares (k / 36) = [] → exec (.coreTestDue core) s = .next { s with chip := { s.chip with
      trier := { s.chip.trier with blocked := insertNat (k / 36) s.chip.trier.blocked }
      dict := s.chip.dict.raise s.chip.run.step Obj.testBlockedCount 0 (if s.chip.trier.blocked.contains (k / 36) then 0 else 1)
        (unitField 2 (k / 36)) 0 } }) ∧
    (s.chip.coreState k = 0 → s.chip.healthySpares (k / 36) ≠ [] → ∃ t, exec (.coreTestDue core) s = .next t ∧
      t = { s with chip := { s.chip with cores := t.chip.cores, trier := t.chip.trier } } ∧
      (t.chip.trier.coreTest k).due = true ∧ (t.chip.trier.coreTest k).deferral = 0)) ∧
  (∀ (core : Core) (s : State) (k : Nat), k = coreKey core → (s.chip.trier.coreTest k).due = true →
    (s.chip.trier.coreTest k).overdue = false → 64 ≤ (s.chip.trier.coreTest k).deferral → s.chip.coreState k = 0 →
    (s.chip.healthySpares (k / 36) ≠ [] ∨ s.chip.halfTests (k / 36) = true) → ∃ t,
      exec (.testOverdue core) s = .next t ∧
      t = { s with chip := { s.chip with
        cores := t.chip.cores, trier := t.chip.trier
        dict := s.chip.dict.raise s.chip.run.step Obj.testOverdueCount 0 1 (unitField 3 k) (s.chip.trier.coreTest k).deferral } } ∧
      t.chip.trier.coreTest k = { s.chip.trier.coreTest k with overdue := true }) ∧
  (∀ (core : Core) (passed : Bool) (s : State) (k : Nat), k = coreKey core → s.chip.coreState k = 3 →
    (∀ e ∈ s.chip.cores.moves, e.2.source ≠ k ∧ e.2.target ≠ k) → ∃ t, exec (.coreTestComplete core passed) s = .next t ∧
      t = { s with chip := { s.chip with
        mem := t.chip.mem, cores := t.chip.cores, trier := { s.chip.trier with cores := t.chip.trier.cores }
        run := { s.chip.run with losing := t.chip.run.losing }, dict := t.chip.dict } } ∧
      (passed = true ∨ (s.chip.trier.coreTest k).failures = 0 → t.chip.run = s.chip.run) ∧
      (passed = true → (t.chip.trier.coreTest k).lastStep = s.chip.run.step ∧ (t.chip.trier.coreTest k).failures = 0 ∧
        (t.chip.trier.coreTest k).result = (if (s.chip.trier.coreTest k).failures = 0 then 1 else 2) ∧
        (t.chip.coreState k = 1 ∨ t.chip.coreState k = 2)) ∧
      (passed = false → (s.chip.trier.coreTest k).failures = 0 → t.chip.cores = s.chip.cores ∧
        t.chip.trier.coreTest k = { s.chip.trier.coreTest k with failures := 1 }) ∧
      (passed = false → (s.chip.trier.coreTest k).failures ≠ 0 → t.chip.coreState k = 4 ∧
        (t.chip.trier.coreTest k).result = 3 ∧ ∀ l, s.chip.cores.logicalOf k = some l → l ∈ t.chip.cores.unbacked ∧
          ∀ sh, s.chip.run.running = some sh → sh.namesCore l = true → l / 72 ∈ t.chip.run.losing)) ∧
  (∀ (vat : Vat) (kernel : Nat) (codes : List (BitVec 10)) (recomputed : List Int) (s : State) (k : Nat) (pack body : Bytes)
      (v : PourVector) (input : PourInput), WellFormed (.vatTest vat kernel codes recomputed) = true → k = vatKey vat →
    pack = s.chip.trier.activePack → kernel < leAt pack 2 2 → (kernelEntry pack kernel).kind = 1 →
    s.chip.dieServes (vatDie k) = true → unitOfVat k ∉ s.chip.vats.unitsRetired → codes.length = pairCount k →
    body = (pack.drop (kernelEntry pack kernel).offset).take (kernelEntry pack kernel).length →
    v = PourVector.ofBytes body (dataColumns k) →
    input = { s.chip.probeInput s.chip.mem k (codes.map BitVec.toNat) (highDrives v) with
      exponent := v.exponent, rindOff := s.chip.dict.get Obj.rindMode = 1
      nominal := Config.nominalGain (vatDie k) (SMap.getD s.chip.vats.gainStep k 0) } →
    (recomputed ≠ (List.range (pairCount k)).map input.stage4 → ∃ t, exec (.vatTest vat kernel codes recomputed) s = .next t ∧
      t.pending = s.pending ∧ unitOfVat k ∈ t.chip.vats.unitsRetired) ∧
    (recomputed = (List.range (pairCount k)).map input.stage4 →
      (∀ p ∈ s.chip.comparedPairs k, (input.stage4 p - expectedAt body p).natAbs ≤ (kernelEntry pack kernel).limit) → ∃ t,
      exec (.vatTest vat kernel codes recomputed) s = .next t ∧
      t = { s with chip := { s.chip with
        mem := t.chip.mem, dict := t.chip.dict, turn := t.chip.turn
        vats := { s.chip.vats with
          probeNext := t.chip.vats.probeNext, probeUnread := t.chip.vats.probeUnread, probeVats := t.chip.vats.probeVats }
        trier := { s.chip.trier with vatFails := eraseNat k s.chip.trier.vatFails } } } ∧
      (SMap.getD s.chip.vats.probeUnread (unitOfVat k) 0 ≠ 3 → t.chip.turn = s.chip.turn))) ∧
  (∀ (die : Die) (half : Half) (position : Fin 40) (expected got : List Int) (s : State) (key : Nat),
    expected.length = got.length → key = 80 * die.val + 40 * halfBit half + position.val → s.chip.halfServes (halfKey die half) = true →
    s.chip.routerRetired key = false → s.chip.nodeAt die.val (halfBit half) position.val = false →
    (expected = got → exec (.routerTest die half position expected got) s = .next s) ∧
    (expected ≠ got → ∃ t, exec (.routerTest die half position expected got) s = .next t ∧
      t = { s with chip := { s.chip with
        fab := { s.chip.fab with routers := insertNat key s.chip.fab.routers }, run := t.chip.run, dict := t.chip.dict } }))

/-! ### Helca links (chapter 09) -/

/-- Flits (R251, R252, R254 to R257, R265). A bulk flit in order is taken by its lane, whose next number, freed buffers and count of
flits rise by one, and its payload is put to its transfer; one out of order, or while the lane discards and it is no replay, is only
one more flit of its lane; a later replay that shows the awaited one lost is answered by NAK. A bulk flit that does not decode makes
its lane discard and send NAK, and is counted. A credit flit gives its credits and frees what it acknowledges, and a NAK sends the
rest again, marked as replays, before what waits; a lane never has more than 512 flits without credit or unacknowledged. A lane
notice fails the lane it names. A token of the step gives its transfer the count of its flits; one whose transfer has not arrived
1,024 ticks later is answered by NAK and counted. Where the manual leaves a point open, the choice is the model's: log entry 40.
Concluded to answer a next state: bulkFlitRx, creditFlitRx, nakRx, laneNoticeRx, reductionTokenRx, reductionTokenTimeout. -/
def Obligations.FlitsAreReceived : Prop :=
  (∀ (f : Flit) (v : FlitView) (s : State), s.chip.flitArrives f v → v.kind = kindBulk →
    (v.seq = (s.chip.fab.lane f.lane).expected → ((s.chip.fab.lane f.lane).discarding = false ∨ v.replay = true) → ∃ t,
      exec (.bulkFlitRx f) s = .next t ∧
      t = { s with chip := { s.chip.countedFlit f with
        fab := { s.chip.fab with lanes := t.chip.fab.lanes, arriving := t.chip.fab.arriving } } } ∧
      t.chip.fab.lane f.lane = LinkLaneState.passSlot { s.chip.fab.lane f.lane with
        expected := (v.seq + 1) % 4096, discarding := false, missed := false
        freed := ((s.chip.fab.lane f.lane).freed + 1) % 2 ^ 32
        received := (s.chip.fab.lane f.lane).received + 1, replays := 0 } ∧
      (∀ n, n ≠ f.lane.val → t.chip.fab.lane n = s.chip.fab.lane n) ∧
      (v.transfer = 0xFFFF → t.chip.fab.arriving = s.chip.fab.arriving) ∧
      (v.transfer ≠ 0xFFFF → v.flit = 0 →
        SMap.find s.chip.fab.arriving (s.chip.fab.logicalLane f.lane * 65536 + v.transfer) = none →
        SMap.find t.chip.fab.arriving (s.chip.fab.logicalLane f.lane * 65536 + v.transfer) = some (v.payload, 1, v.last, none))) ∧
    ((v.seq ≠ (s.chip.fab.lane f.lane).expected ∨ ((s.chip.fab.lane f.lane).discarding = true ∧ v.replay = false)) →
      ¬(v.replay = true ∧ (s.chip.fab.lane f.lane).discarding = true ∧ (s.chip.fab.lane f.lane).missed = true) →
      exec (.bulkFlitRx f) s = .next { s with chip := s.chip.goodFlit f }) ∧
    (v.seq ≠ (s.chip.fab.lane f.lane).expected → v.replay = true → (s.chip.fab.lane f.lane).discarding = true →
      (s.chip.fab.lane f.lane).missed = true → ∃ t, exec (.bulkFlitRx f) s = .next t ∧ t.pending = s.pending ∧
      t.chip.mem = s.chip.mem ∧ (t.chip.fab.lane f.lane).discarding = true ∧
      (t.chip.fab.lane f.lane).replays = (s.chip.fab.lane f.lane).replays + 1)) ∧
  (∀ (f : Flit) (s : State), f.raw.length = 64 → (s.chip.fab.lane f.lane).lit = true → flitData f.raw = none → ∃ t,
    exec (.bulkFlitRx f) s = .next t ∧ t.pending = s.pending ∧ t.chip.mem = s.chip.mem ∧
    (t.chip.fab.lane f.lane).discarding = true ∧ (t.chip.fab.lane f.lane).expected = (s.chip.fab.lane f.lane).expected ∧
    (t.chip.fab.lane f.lane).received = (s.chip.fab.lane f.lane).received + 1) ∧
  (∀ (f : Flit) (v : FlitView) (s : State), s.chip.flitArrives f v → v.kind = kindCredit → ∃ c : S8,
    exec (.creditFlitRx f) s = .next { s with chip := c.judge } ∧
    (field (leAt v.payload 6 1) 0 1 = 1 → exec (.nakRx f) s = .next { s with chip := c.judge }) ∧
    (field (leAt v.payload 6 1) 0 1 = 0 → exec (.nakRx f) s = .next { s with chip := s.chip.goodFlit f }) ∧
    c = { s.chip.goodFlit f with
      fab := { s.chip.fab with lanes := c.fab.lanes }
      run := { s.chip.run with transfersSent := c.run.transfersSent } } ∧
    (∀ n, n ≠ f.lane.val → c.fab.lane n = s.chip.fab.lane n) ∧
    (c.fab.lane f.lane).credits = ((s.chip.fab.lane f.lane).takeCredit v.payload).credits ∧
    ∃ sent, (c.fab.lane f.lane).unacked = afterAck (s.chip.fab.lane f.lane).unacked (leAt v.payload 4 2 % 4096) ++ sent) ∧
  (∀ (l : LinkLaneState) (p : Bytes),
    l.credits ≤ (l.takeCredit p).credits ∧ (l.takeCredit p).credits < l.credits + 2 ^ 32 ∧
    (l.takeCredit p).credits % 2 ^ 32 = leAt p 0 4 % 2 ^ 32 ∧
    (field (leAt p 6 1) 0 1 = 0 → (l.takeCredit p).queue = l.queue) ∧
    (field (leAt p 6 1) 0 1 = 1 → (l.takeCredit p).queue =
      (afterAck l.unacked (leAt p 4 2 % 4096)).filterMap asReplay ++ l.queue.filter (fun d => !(FlitView.ofData d).replay)) ∧
    (l.sent - l.credits ≤ 512 → l.unacked.length ≤ 512 →
      l.pumpAll.sent - l.pumpAll.credits ≤ 512 ∧ l.pumpAll.unacked.length ≤ 512)) ∧
  (∀ (f : Flit) (v : FlitView) (s : State) (n : Nat), s.chip.flitArrives f v → v.kind = kindCredit →
    field (leAt v.payload 6 1) 1 1 = 1 → leAt v.payload 7 1 ≤ 8 → n = 9 * (f.lane / 9) + leAt v.payload 7 1 →
    (s.chip.fab.lane n).state ≠ 3 → ∃ t, exec (.laneNoticeRx f) s = .next t ∧
      t = { s with chip := { s.chip.goodFlit f with
        fab := { s.chip.fab with lanes := t.chip.fab.lanes }
        dict := (s.chip.goodFlit f).dict.raise s.chip.run.step Obj.laneFailCount 0 1 (unitField 6 n) 0 } } ∧
      (t.chip.fab.lane n).state = 3 ∧ (t.chip.fab.lane n).control = [] ∧
      ∀ m, m / 9 ≠ f.lane.val / 9 → t.chip.fab.lane m = s.chip.fab.lane m) ∧
  (∀ (f : Flit) (v : FlitView) (s : State) (key : Nat), s.chip.flitArrives f v → v.kind = kindToken →
    key = s.chip.fab.logicalLane f.lane * 65536 + leAt v.payload 0 2 →
    (leAt v.payload 4 8 = s.chip.run.step → ∃ held, exec (.reductionTokenRx f) s = .next { s with chip := { s.chip.goodFlit f with
        fab := { (s.chip.goodFlit f).fab with arriving := SMap.insert s.chip.fab.arriving key held } } } ∧
      held.2.2.2 = some (leAt v.payload 2 2)) ∧
    (leAt v.payload 4 8 ≠ s.chip.run.step → exec (.reductionTokenRx f) s = .next { s with chip := s.chip.goodFlit f })) ∧
  (∀ (lane : LinkLane) (transfer : Nat) (s : State) (b : Bytes) (next count : Nat) (last : Bool),
    SMap.find s.chip.fab.arriving (s.chip.fab.logicalLane lane * 65536 + transfer) = some (b, next, last, some count) →
    ((next ≠ count ∨ (last = false ∧ count ≠ 0)) →
      exec (.reductionTokenTimeout lane transfer) s = .next { s with chip := { s.chip with
        fab := s.chip.fab.setLane lane (s.chip.fab.lane lane).sendNak
        dict := s.chip.dict.raise s.chip.run.step Obj.flitReplayCount 0 1 (unitField 6 lane) 0 } }) ∧
    (next = count → (last = true ∨ count = 0) → exec (.reductionTokenTimeout lane transfer) s = .next s))

/-- Barrier flits and the time base (R183, R214, R252, R260, R262 to R264, R448). A done flit of this step on the trunk of a child
is collected with its tick, the tracks it closes and what it announces; a release flit of this step, on a module that is not the
root and has no release, names the release tick and closes its tracks; an isolated flit cuts the module off, is counted and loses
every die, and changes nothing while all are lost. A tick exchange puts one tick flit, in a 64th control slot, on each lit lane. A
tick flit's own time and arrival are kept for the echo; the tick parent's sets offset, latency and correction, which stays within 50
ppm. Where the manual leaves a point open, the choice is the model's: log entry 40. Concluded to answer a next state: barrierDoneRx,
barrierReleaseRx, barrierIsolatedRx, tickExchange, tickFlitRx. -/
def Obligations.BarrierAndTickFlitsAreTaken : Prop :=
  (∀ (f : Flit) (v : FlitView) (s : State) (b : BarrierFlit) (r : BarrierRecord), s.chip.flitArrives f v → v.kind = kindBarrier →
    b = BarrierFlit.ofPayload v.payload → b.direction = 0 → b.step = s.chip.run.step → s.chip.run.barrier = some r →
    (∃ l ∈ r.lanes, l / 9 = f.lane / 9) → ∃ t,
      exec (.barrierDoneRx f) s = .next t ∧
      t = { s with chip := { s.chip.goodFlit f with
        fab := { s.chip.fab with lanes := t.chip.fab.lanes }
        run := { s.chip.run with
          dones := SMap.insert s.chip.run.dones (f.lane / 9) b.tick, belowOverrun := s.chip.run.belowOverrun || b.overrun
          closing := (s.chip.run.closing ++ b.closed).eraseDups
          announced := (s.chip.run.announced ++ b.announce).eraseDups
          release := t.chip.run.release, sentDone := t.chip.run.sentDone } } } ∧
      (s.chip.run.release ≠ none ∨ s.chip.run.sentDone = true → t.chip.fab = (s.chip.goodFlit f).fab ∧
        t.chip.run.release = s.chip.run.release ∧ t.chip.run.sentDone = s.chip.run.sentDone)) ∧
  (∀ (f : Flit) (v : FlitView) (s : State) (b : BarrierFlit), s.chip.flitArrives f v → v.kind = kindBarrier →
    b = BarrierFlit.ofPayload v.payload → b.direction = 1 → b.step = s.chip.run.step → s.chip.run.isRoot = false →
    s.chip.run.release = none → ∃ t,
      exec (.barrierReleaseRx f) s = .next t ∧
      t = { s with chip := { s.chip.goodFlit f with
        fab := { s.chip.fab with lanes := t.chip.fab.lanes, isolated := false }
        run := { s.chip.run with
          release := some b.tick, closing := (s.chip.run.closing ++ b.closed).eraseDups
          announced := (s.chip.run.announced ++ b.announce).eraseDups } } }) ∧
  (∀ (f : Flit) (v : FlitView) (s : State), s.chip.flitArrives f v → v.kind = kindBarrier →
    (BarrierFlit.ofPayload v.payload).direction = 2 →
    (s.chip.fab.isolated = true → s.chip.run.lostDies.length = 8 →
      exec (.barrierIsolatedRx f) s = .next { s with chip := s.chip.goodFlit f }) ∧
    (s.chip.fab.isolated = false ∨ s.chip.run.lostDies.length ≠ 8 → ∃ t, exec (.barrierIsolatedRx f) s = .next t ∧
      t = { s with chip := { s.chip.goodFlit f with
        fab := { s.chip.fab with lanes := t.chip.fab.lanes, isolated := true }
        run := { s.chip.run with lostDies := t.chip.run.lostDies, losing := t.chip.run.losing }
        dict := (s.chip.goodFlit f).dict.raise s.chip.run.step Obj.barrierIsolatedCount 0 1 0 0 } } ∧
      ∀ d < 8, t.chip.dieServes d = false)) ∧
  (∀ (tick16 : Nat) (s : State), ∃ t, exec (.tickExchange tick16) s = .next t ∧
    t = { s with chip := { s.chip with fab := { s.chip.fab with lanes := t.chip.fab.lanes } } } ∧
    (s.chip.tickLanes = [] → t = s) ∧
    ((∀ m ∈ s.chip.tickLanes, (s.chip.fab.lane m).lit = true) → ∀ n ∈ s.chip.tickLanes, (s.chip.fab.lane n).control = [] →
      ∃ slot, slot % 2048 = 0 ∧ (slot, encodeFlit (s.chip.tickFlit n tick16)) ∈ (t.chip.fab.lane n).line)) ∧
  (∀ (f : Flit) (v : FlitView) (arrival16 : Nat) (s : State), s.chip.flitArrives f v → v.kind = kindTick →
    ((s.chip.hasTickParent = false ∨ s.chip.dict.get Obj.tickParentLane ≠ f.lane.val ∨ leAt v.payload 12 8 = 0) →
      exec (.tickFlitRx f arrival16) s = .next { s with chip := { s.chip.goodFlit f with
        fab := (s.chip.goodFlit f).fab.setLane f.lane { (s.chip.goodFlit f).fab.lane f.lane with
          echoSend := leAt v.payload 0 8, echoReceive := arrival16 } } }) ∧
    (s.chip.hasTickParent = true → s.chip.dict.get Obj.tickParentLane = f.lane.val → leAt v.payload 12 8 ≠ 0 → ∃ t,
      exec (.tickFlitRx f arrival16) s = .next t ∧
      t = { s with chip := { s.chip with
        fab := { s.chip.fab with
          lanes := t.chip.fab.lanes, offset := t.chip.fab.offset, offsetSum := s.chip.fab.offsetSum + t.chip.fab.offset
          aligned := t.chip.fab.aligned, tickSet := t.chip.fab.tickSet }
        clock := { s.chip.clock with correction := t.chip.clock.correction }
        dict := t.chip.dict } } ∧
      (t.chip.fab.aligned = true ↔ -2000 ≤ t.chip.fab.offset ∧ t.chip.fab.offset ≤ 2000))) ∧
  (∀ o sum : Int, -50000 ≤ steering o sum ∧ steering o sum ≤ 50000)

/-- Lanes and bridges (R21, R23, R213, R246, R250, R262, R265, R266). A lane that trains has exchanged nothing; it enters service
where its peer is its trunk's, lane n to lane n, and the far end agrees, the trunk's ninth lane as the spare; it trains on while the
far end does not agree, and is held out of service and counted when its peer differs. A lane whose signal is lost, or that fails,
has failed, once: it is counted once. A lane whose trunk has a spare is bound to it from the next boundary on, and one without is
unbacked, its die lost at the next boundary where the running sheet names the lane; a spare that fails leaves the lane it replaces
unbacked. A failed wire of a bridge uses a spare group; with none left the bridge has failed. Where the manual leaves a point open,
the choice is the model's: log entry 40. Concluded to answer a next state: laneTraining, laneSignalLoss, laneFail,
bridgeWireFail. -/
def Obligations.LanesTrainAndFail : Prop :=
  (∀ (lane : LinkLane) (peer : PeerReport) (peerDie : Die) (peerLane : Fin 9) (latency16 : Nat) (s : State), ∃ t,
    exec (.laneTraining lane peer peerDie peerLane latency16) s = .next t ∧
    t = { s with chip := { s.chip with
      fab := { s.chip.fab with
        lanes := t.chip.fab.lanes, unbacked := t.chip.fab.unbacked, trunksLost := t.chip.fab.trunksLost }
      run := { s.chip.run with farLost := t.chip.run.farLost }, dict := t.chip.dict } } ∧
    (∀ n, n ≠ lane.val → t.chip.fab.lane n = s.chip.fab.lane n) ∧
    t.chip.fab.lane lane = { LinkLaneState.fresh with
      state := (t.chip.fab.lane lane).state, peerModule := peer.number, peerDie := peerDie.val, latency := latency16 } ∧
    (peerLane.val ≠ lane.val % 9 → (t.chip.fab.lane lane).state = 5) ∧
    (peerLane.val = lane.val % 9 → (∀ n ∈ trunkLanes (lane / 9), n ≠ lane.val → (s.chip.fab.lane n).lit = true →
        (s.chip.fab.lane n).peerModule = peer.number ∧ (s.chip.fab.lane n).peerDie = peerDie.val) →
      t.chip.dict = s.chip.dict ∧
      (peer.agreed = false → (t.chip.fab.lane lane).state = 4 ∧ t.chip.fab.unbacked = s.chip.fab.unbacked ∧
        t.chip.run = s.chip.run) ∧
      (peer.agreed = true → (t.chip.fab.lane lane).state = (if lane.val % 9 = 8 then 1 else 0) ∧
        lane.val ∉ t.chip.fab.unbacked ∧ lane.val / 9 ∉ t.chip.fab.trunksLost ∧
        (peer.number, peerDie.val) ∉ t.chip.run.farLost))) ∧
  (∀ (lane : LinkLane) (s : State),
    ((s.chip.fab.lane lane).state = 3 → exec (.laneSignalLoss lane) s = .next s) ∧
    ((s.chip.fab.lane lane).state ≠ 3 → ∃ t, exec (.laneSignalLoss lane) s = .next t ∧
      t = { s with chip := { s.chip with
        fab := { s.chip.fab with lanes := t.chip.fab.lanes }
        dict := s.chip.dict.raise s.chip.run.step Obj.laneFailCount 0 1 (unitField 6 lane) 0 } } ∧
      (t.chip.fab.lane lane).state = 3)) ∧
  (∀ (lane : LinkLane) (s : State) (spare : Nat), spare = 9 * (lane.val / 9) + 8 → lane.val ≠ spare →
    (s.chip.fab.lane lane).state ≠ 3 → (∀ e ∈ s.chip.fab.laneChanges, e.2 ≠ spare) → (s.chip.fab.lane spare).state = 1 → ∃ t,
      exec (.laneFail lane) s = .next t ∧
      t = { s with chip := { s.chip with
        fab := { s.chip.fab with lanes := t.chip.fab.lanes, laneChanges := s.chip.fab.laneChanges ++ [(lane.val, spare)] }
        run := { s.chip.run with transfersSent := t.chip.run.transfersSent }
        dict := s.chip.dict.raise s.chip.run.step Obj.laneFailCount 0 1 (unitField 6 lane) 0 } } ∧
      (t.chip.fab.lane lane).state = 3) ∧
  (∀ (lane : LinkLane) (s : State) (spare : Nat), spare = 9 * (lane.val / 9) + 8 → (s.chip.fab.lane lane).state ≠ 3 →
    lane.val ≠ spare → (∀ e ∈ s.chip.fab.laneChanges, e.2 ≠ spare) → (s.chip.fab.lane spare).state = 2 →
    (s.chip.fab.lane spare).replaces ≠ lane.val + 1 → lane.val ∉ s.chip.fab.unbacked → ∃ t,
      exec (.laneFail lane) s = .next t ∧
      t = { s with chip := { s.chip with
        fab := { s.chip.fab with lanes := t.chip.fab.lanes, unbacked := insertNat lane.val s.chip.fab.unbacked }
        run := { s.chip.run with losing := t.chip.run.losing }
        dict := (s.chip.dict.raise s.chip.run.step Obj.laneFailCount 0 1 (unitField 6 lane) 0).note s.chip.run.step
          eventUnitUnbacked (unitField 6 lane) lane } } ∧
      (t.chip.fab.lane lane).state = 3 ∧
      ((s.chip.run.running.map (fun sh => sh.namesLane lane)).getD false = true → lane.val / 9 ∈ t.chip.run.losing) ∧
      ((s.chip.run.running.map (fun sh => sh.namesLane lane)).getD false = false → t.chip.run = s.chip.run)) ∧
  (∀ (lane : LinkLane) (s : State) (k : Nat), lane.val % 9 = 8 → (s.chip.fab.lane lane).replaces = k + 1 → ∃ t,
    exec (.laneFail lane) s = .next t ∧ t.pending = s.pending ∧ t.chip.mem = s.chip.mem ∧ k ∈ t.chip.fab.unbacked) ∧
  (∀ (bridge : Fin 10) (s : State) (used : Nat), bridge.val ∉ s.chip.fab.bridgesFailed →
    used = SMap.getD s.chip.fab.groupsUsed bridge 0 + (s.chip.fab.groupDue.filter (fun b => b = bridge.val)).length →
    (used < Config.bridgeSpares bridge → exec (.bridgeWireFail bridge) s = .next { s with chip := { s.chip with
      fab := { s.chip.fab with groupDue := s.chip.fab.groupDue ++ [bridge.val] } } }) ∧
    (Config.bridgeSpares bridge ≤ used → ∃ t, exec (.bridgeWireFail bridge) s = .next t ∧
      t = { s with chip := { s.chip with
        fab := { s.chip.fab with bridgesFailed := insertNat bridge s.chip.fab.bridgesFailed }
        run := { s.chip.run with losing := t.chip.run.losing }
        dict := s.chip.dict.raise s.chip.run.step Obj.bridgeFaultCount 0 1 (unitField 9 bridge) 0 } }))

/-! ### Serving (chapter 11) -/

/-- Admit and resume requests (R305, R307, R308, R315, R343, R344, R376). One that is accepted takes a slot, which holds the
sequence of its request, counts in AdmitCount, pins its culture version, and is answered with the acceptance, which is kept; a
resume's pause index entry goes to State 3, and a resume without a residue queues no restore. One that is refused changes nothing
but its answer, which is kept, and RefusalCount by its reason. Where the manual leaves a point open, the choice is the model's: log
entries 6 and 42. Concluded to answer a next state: admitRequest, resume. -/
def Sys2Proof.Claims.RequestsAreAcceptedOrRefused : Prop :=
  (∀ (f : Frame) (v : FrameView) (s : State) (i : Instr) (kind slot : Nat) (c : S8) (sh : Sheet) (placing : Option Placing)
    (r : Request) (named : Option (Nat × PauseEntry)),
    (i = .admitRequest f ∧ kind = 1) ∨ (i = .resume f ∧ kind = 6) → s.chip.frameArrives f v → v.type = kind →
    s.chip.requestDecides f v → c = s.chip.goodFrame f.port → slot = c.pick c.freeSlots → r = Request.ofView v →
    named = (if kind = 6 then c.cellar.named r.pauseKey else none) →
    s.chip.run.running = some sh → c.decideRequest kind slot r v = .accept placing → ∃ t,
      exec i s = .next t ∧
      t = { s with chip := { s.chip with
        ports := t.chip.ports
        serve := { s.chip.serve with slots := t.chip.serve.slots, completed := t.chip.serve.completed }
        cultures := t.chip.cultures
        cellar := { s.chip.cellar with index := t.chip.cellar.index, restores := t.chip.cellar.restores }
        dict := s.chip.dict.raise s.chip.run.step Obj.admitCount 0 1 (unitField 10 (s.chip.serve.handle slot)) r.requestId
        free := s.chip.free + 1 } } ∧
      SMap.find t.chip.serve.slots slot = some (c.newSequence sh slot f.port r named placing) ∧
      (∀ n, n ≠ slot → SMap.find t.chip.serve.slots n = SMap.find s.chip.serve.slots n) ∧
      t.chip.cultures = s.chip.cultures.pin (c.newSequence sh slot f.port r named placing).cultureId
        (c.newSequence sh slot f.port r named placing).cultureVersion 1 ∧
      (named = none → t.chip.cellar = s.chip.cellar) ∧
      (∀ n e, named = some (n, e) → SMap.find t.chip.cellar.index n = some { e with state := 3 } ∧
        (∀ m, m ≠ n → SMap.find t.chip.cellar.index m = SMap.find s.chip.cellar.index m) ∧
        t.chip.cellar.restores = s.chip.cellar.restores ++ (if placing.isSome then [(slot, 64 * e.pages)] else [])) ∧
      (t.chip.ports.get f.port).records = (s.chip.ports.get f.port).records ++ [c.acceptance f.slot kind slot r placing] ∧
      t.chip.ports.kept.head? = some (f.port, c.acceptance f.slot kind slot r placing) ∧
      t.chip.ports.get (otherPort f.port) = s.chip.ports.get (otherPort f.port)) ∧
  (∀ (f : Frame) (v : FrameView) (s : State) (i : Instr) (kind reason : Nat) (c : S8) (a : AnswerRecord),
    (i = .admitRequest f ∧ kind = 1) ∨ (i = .resume f ∧ kind = 6) → s.chip.frameArrives f v → v.type = kind →
    s.chip.requestDecides f v → c = s.chip.goodFrame f.port →
    c.decideRequest kind (c.pick c.freeSlots) (Request.ofView v) v = .refuse reason →
    a = refusalRecord f.slot kind (v.at 0 4) 0 reason → ∃ t,
      exec i s = .next t ∧
      t = { s with chip := { s.chip with
        ports := t.chip.ports, dict := s.chip.dict.raise s.chip.run.step Obj.refusalCount reason 1 0 (v.at 0 4) } } ∧
      (t.chip.ports.get f.port).records = (s.chip.ports.get f.port).records ++ [a] ∧
      t.chip.ports.kept = ((f.port, a) :: s.chip.ports.kept).take 256 ∧
      t.chip.ports.get (otherPort f.port) = s.chip.ports.get (otherPort f.port))

/-- Request frames that reach no decision (R300, R303, R304, R309). One outside slots 0 to 7 is counted in RequestSlotErrorCount and
not answered; one on the port that does not own the module is refused with NOT_OWNER, one within two cycles of a move with
OWNER_CHANGED, and a RequestId whose answer is kept gets that answer again; none of these changes anything else. Where the manual
leaves a point open, the choice is the model's: log entries 42 and 44. Concluded to answer a next state: admitRequest, cancel,
pause, resume. -/
def Obligations.RequestsAreScreened : Prop :=
  ∀ (f : Frame) (v : FrameView) (s : State) (i : Instr) (kind named : Nat),
    (i = .admitRequest f ∧ kind = 1 ∧ named = 0) ∨ (i = .cancel f ∧ kind = 4 ∧ named = v.handle) ∨
      (i = .pause f ∧ kind = 5 ∧ named = v.handle) ∨ (i = .resume f ∧ kind = 6 ∧ named = 0) →
    s.chip.frameArrives f v → v.type = kind →
    (8 ≤ f.slot.val → exec i s = .next { s with
      chip := (s.chip.goodFrame f.port).raise Obj.requestSlotErrorCount 0 1 0 0 }) ∧
    (f.slot.val < 8 → s.chip.ports.owner ≠ f.port → exec i s = .next { s with
      chip := (s.chip.goodFrame f.port).answerRecord f.port (refusalRecord f.slot kind (v.at 0 4) named 0x07) }) ∧
    (f.slot.val < 8 → s.chip.ports.owner = f.port → s.chip.ports.justMoved = true → exec i s = .next { s with
      chip := (s.chip.goodFrame f.port).answerRecord f.port (refusalRecord f.slot kind (v.at 0 4) named 0x08) }) ∧
    (∀ k, f.slot.val < 8 → s.chip.ports.owner = f.port → s.chip.ports.justMoved = false →
      s.chip.ports.kept.find? (fun k => k.1 = f.port && k.2.requestId = v.at 0 4) = some k → exec i s = .next { s with
        chip := (s.chip.goodFrame f.port).placeRecord f.port { k.2 with downSlot := f.slot } })

/-- Cancel and pause (R308, R316, R317, R326, R338). A cancel of a sequence that is not DRAINING or PAUSING gives it a CANCELLED
record, a RUNNING one draining from then on. A pause of a RUNNING sequence with none asked, the cellar having room, holds a free
pause index entry for its next segment boundary. A pause of a PARKED one whose image is stored gives it its PAUSED record with the
image's key. A handle that names no sequence changes nothing but the answer: ALREADY_COMPLETE where it completed and the cancel
asks, else NO_SUCH_HANDLE. Where the manual leaves a point open, the choice is the model's: log entry 43. Concluded to answer a next
state: cancel, pause. -/
def Obligations.CancelAndPauseTakeEffect : Prop :=
  (∀ (f : Frame) (v : FrameView) (s : State) (slot : Nat) (q : Sequence), s.chip.frameArrives f v → v.type = 4 →
    s.chip.requestDecides f v → handleRequestOk v = true → s.chip.serve.named v.handle = some (slot, q) →
    q.state ≠ .draining → q.state ≠ .pausing → ∃ t,
      exec (.cancel f) s = .next t ∧
      t = { s with chip := { s.chip with ports := t.chip.ports, serve := { s.chip.serve with slots := t.chip.serve.slots } } } ∧
      SMap.find t.chip.serve.slots slot = some q.cancel ∧
      (∀ n, n ≠ slot → SMap.find t.chip.serve.slots n = SMap.find s.chip.serve.slots n) ∧
      (t.chip.ports.get f.port).records = (s.chip.ports.get f.port).records ++ [heededRecord f.slot 4 (v.at 0 4) v.handle]) ∧
  (∀ q : Sequence, q.completion = none → q.cancel.completion = some (Completion.plain 1 0 false) ∧
    (q.state = .running → q.cancel.state = .draining ∧ q.cancel.cancelled = true) ∧
    (q.state ≠ .running → q.cancel.state = q.state)) ∧
  (∀ (f : Frame) (v : FrameView) (s : State) (slot : Nat) (q : Sequence), s.chip.frameArrives f v → v.type = 5 →
    s.chip.requestDecides f v → handleRequestOk v = true → s.chip.serve.named v.handle = some (slot, q) →
    q.state = .running → q.pauseAsked = none → q.completion = none → s.chip.cellarFull q = false → ∃ t,
      exec (.pause f) s = .next t ∧
      t = { s with chip := { s.chip with
        ports := t.chip.ports, serve := { s.chip.serve with slots := t.chip.serve.slots }
        cellar := { s.chip.cellar with index := t.chip.cellar.index }, free := s.chip.free + 1 } } ∧
      (∃ n e, SMap.find t.chip.serve.slots slot = some { q with pauseAsked := some n } ∧
        SMap.find s.chip.cellar.index n = none ∧ SMap.find t.chip.cellar.index n = some e ∧ e.state = 1 ∧
        (∀ m, m ≠ n → SMap.find t.chip.cellar.index m = SMap.find s.chip.cellar.index m)) ∧
      (∀ n, n ≠ slot → SMap.find t.chip.serve.slots n = SMap.find s.chip.serve.slots n)) ∧
  (∀ (f : Frame) (v : FrameView) (s : State) (slot n : Nat) (q : Sequence) (e : PauseEntry), s.chip.frameArrives f v → v.type = 5 →
    s.chip.requestDecides f v → handleRequestOk v = true → s.chip.serve.named v.handle = some (slot, q) →
    q.state = .parked → q.pauseAsked = none → q.completion = none → s.chip.cellarFull q = false →
    q.entry = some n → SMap.find s.chip.cellar.index n = some e → e.state ≠ 1 → ∃ t,
      exec (.pause f) s = .next t ∧
      t = { s with chip := { s.chip with
        ports := t.chip.ports, serve := { s.chip.serve with slots := t.chip.serve.slots }
        cellar := { s.chip.cellar with index := SMap.insert s.chip.cellar.index n { e with
          state := 2, expiry := s.chip.cellar.seconds + s.chip.dict.get Obj.pauseTimeToLive } } } } ∧
      SMap.find t.chip.serve.slots slot = some { q with
        entry := none
        completion := some { outcome := 2, error := 0, promiseBroken := false, pauseKey := pauseKey n e.nonce, digest := e.image.digest } }) ∧
  (∀ (f : Frame) (v : FrameView) (s : State) (i : Instr) (kind : Nat) (a : AnswerRecord),
    (i = .cancel f ∧ kind = 4) ∨ (i = .pause f ∧ kind = 5) → s.chip.frameArrives f v → v.type = kind → s.chip.requestDecides f v →
    handleRequestOk v = true → s.chip.serve.named v.handle = none →
    a = refusalRecord f.slot kind (v.at 0 4) v.handle (if kind = 4 ∧ v.handle ∈ s.chip.serve.completed then 0x10 else 0x11) →
      exec i s = .next { s with chip := { (s.chip.goodFrame f.port).answerRecord f.port a with
        ports := ((s.chip.goodFrame f.port).answerRecord f.port a).ports.keep f.port a } })

/-- The promise (R311). Its earliest entry before the first output token lies `lead` steps ahead at the least, its last prompt entry
falls on the residue of the track, within a stride of the earliest step that it may, and F_0 follows by the turnaround. Where the
manual leaves a point open, the choice is the model's: log entry 42. -/
def Sys2Proof.Claims.PromiseMeetsItsResidue : Prop :=
  ∀ (s : S8) (sh : Sheet) (n lead fill residue back : Nat) (t : Track) (p : Placing), p = s.promise sh n lead fill t residue →
    residue < t.stride → s.run.origin ≤ s.run.step → back = t.span * ((n - 1) % t.fill fill) →
    s.run.step + lead ≤ p.first ∧ p.first < s.run.step + lead + t.stride ∧
    (p.first + back - s.run.origin) % t.stride = residue ∧
    p.last = p.first + back + t.stride * (ceilDiv n (t.fill fill) - 1) ∧
    p.firstToken + 1 = max 1 (p.last + sh.turnaround t.span)

/-- Admission: the decision, and the promise. -/
def Obligations.RequestsAreDecided : Prop :=
  Claims.RequestsAreAcceptedOrRefused ∧ Claims.PromiseMeetsItsResidue

/-- Frames that carry no request (R299 to R302, R304). An idle frame marks its port as live and does nothing else; a frame that does
not decode, or carries another cycle's number, is counted as lost. Prompt tokens from the owner go to the sequence their handle
names: a token whose entry was already made is ignored and counted, every other is held by its index; a token outside the vocabulary
ends the sequence with BAD_PROMPT; a frame whose handle names no sequence, or whose tokens lie outside the prompt, is counted as
lost. Where the manual leaves a point open, the choice is the model's: log entry 43. Concluded to answer a next state: idleFrame,
bulkPromptTokens. -/
def Obligations.FramesBringPromptTokens : Prop :=
  (∀ (f : Frame) (v : FrameView) (s : State), s.chip.frameArrives f v → v.type = 0x3F →
    exec (.idleFrame f) s = .next { s with chip := s.chip.goodFrame f.port }) ∧
  (∀ (f : Frame) (s : State), f.raw.length = 256 → s.chip.portAnswers f.port = true →
    (frameData f.raw = none ∨ ∃ d, frameData f.raw = some d ∧ (FrameView.ofData d).cycle ≠ s.chip.ports.cycle % 2 ^ 24 ∧
      isRequestType (FrameView.ofData d).type = false) →
    exec (.idleFrame f) s = .next { s with chip := s.chip.frameLost }) ∧
  (∀ (f : Frame) (v : FrameView) (s : State) (sh : Sheet) (slot first count shift : Nat) (q : Sequence) (tokens : List Nat),
    s.chip.frameArrives f v → v.type = 0x30 → v.at 0 1 = 1 → s.chip.ports.owner = f.port →
    s.chip.serve.named v.handle = some (slot, q) → (q.state = .admitted ∨ q.state = .running) → first = v.at 4 4 → count = v.at 8 2 →
    0 < count → count ≤ 53 → first + count ≤ q.req.promptLength → tokens = (List.range count).map (fun i => v.at (12 + 4 * i) 4) →
    s.chip.run.running = some sh → shift = (if q.pendingToken.isSome then 1 else 0) →
    ((∀ t ∈ tokens, t < (s.chip.goodFrame f.port).vocabulary sh) → ∃ t,
      exec (.bulkPromptTokens f) s = .next t ∧
      t = { s with chip := { s.chip.goodFrame f.port with
        serve := { s.chip.serve with slots := t.chip.serve.slots }
        dict := s.chip.dict.raise s.chip.run.step Obj.promptIgnoredCount 0
          ((List.range count).filter (fun i => first + i + shift < q.entered)).length (unitField 10 (s.chip.serve.handle slot)) first } } ∧
      (∃ prompt, SMap.find t.chip.serve.slots slot = some { q with prompt := prompt } ∧
        (∀ i < count, q.entered ≤ first + i + shift → SMap.find prompt (first + i) = tokens[i]?) ∧
        (∀ n, (n < first ∨ first + count ≤ n ∨ n + shift < q.entered) → SMap.find prompt n = SMap.find q.prompt n)) ∧
      (∀ n, n ≠ slot → SMap.find t.chip.serve.slots n = SMap.find s.chip.serve.slots n)) ∧
    ((∃ t ∈ tokens, (s.chip.goodFrame f.port).vocabulary sh ≤ t) → q.completion = none → ∃ t,
      exec (.bulkPromptTokens f) s = .next t ∧
      t = { s with chip := { s.chip.goodFrame f.port with serve := { s.chip.serve with slots := t.chip.serve.slots } } } ∧
      SMap.find t.chip.serve.slots slot = some { q with completion := some (Completion.plain 3 3 false) })) ∧
  (∀ (f : Frame) (v : FrameView) (s : State), s.chip.frameArrives f v → v.type = 0x30 → v.at 0 1 = 1 →
    (s.chip.ports.owner ≠ f.port ∨ s.chip.serve.named v.handle = none) →
    exec (.bulkPromptTokens f) s = .next { s with chip := (s.chip.goodFrame f.port).frameLost })

/-- The cycle boundary and ownership (R295, R304, R320, R324). OwnerRelease asks for the move. At the boundary the cycle number
rises by one, ownership goes to the other port where the owner asked for it or was silent for 64 cycles while the other port is
live, the answers of the cycle leave, every ended sequence's record is sent, and memory and the run stay as they were. Where the
manual leaves a point open, the choice is the model's: log entry 44. Concluded to answer a next state: controlCycleBoundary,
ownerRelease. -/
def Obligations.CyclesTurn : Prop :=
  (∀ (w : ObjWrite) (s : State), s.chip.writeArrives w Obj.ownerRelease → valueOf w.value = 1 → ∃ c : S8,
    exec (.ownerRelease w) s = .next { s with chip := c.writeDone w Obj.ownerRelease } ∧
    c = { s.chip with ports := { s.chip.ports with releaseAsked := true } }) ∧
  (∀ s : State, ∃ t, exec .controlCycleBoundary s = .next t ∧ t.pending = s.pending ∧
    t.chip.ports.cycle = s.chip.ports.cycle + 1 ∧
    t.chip.ports.owner = (if s.chip.ports.moves then otherPort s.chip.ports.owner else s.chip.ports.owner) ∧
    t.chip.ports.releaseAsked = false ∧ t.chip.mem = s.chip.mem ∧ t.chip.run = s.chip.run ∧ t.chip.vats = s.chip.vats ∧
    t.chip.serve.finished = [] ∧ t.chip.serve.commitStep = s.chip.run.step ∧
    (∀ p, s.chip.portAnswers p = true → (t.chip.ports.get p).records = [])) ∧
  (∀ (p : Ports), p.moves = true ↔ (p.releaseAsked = true ∨ (p.silent p.owner = true ∧ p.live (otherPort p.owner) = true)))

/-! ### The cellar (chapter 12) -/

/-- A pause image (R337, R339). Its header holds the SHA-256 of its stored bytes with the digest field zero, and the count of its
positions; its frames are stored without handle and generation. Where the manual leaves a point open, the choice is the model's: log
entries 35 and 46. -/
def Sys2Proof.Claims.ImagesCarryTheirDigest : Prop :=
  (∀ (s : S8) (slot : Nat) (q : Sequence), (s.imageOf slot q).digest = sha256 (s.imageOf slot q).stored) ∧
  (∀ (s : S8) (slot : Nat) (q : Sequence), (s.imageOf slot q).length = (q.held + 1) % 2 ^ 32 ∧
    (s.imageOf slot q).frames.length = s.run.layersHeld * framesFor q.held ∧ (s.imageOf slot q).header.length = 16384) ∧
  (∀ b : Bytes, b.length = 10240 → leAt (storedFrame b) 0 4 = 0 ∧ leAt (storedFrame b) 16 4 = 0 ∧ (storedFrame b).length = 10240 ∧
    (storedFrame b).drop 20 = b.drop 20 ∧ bytesAt (storedFrame b) 4 12 = bytesAt b 4 12)

/-- PAUSE_IMAGE_WRITTEN (R317, R318, R339, R340). The image of a sequence that gives way is stored under the entry it took, which
goes to State 2 with the running sheet's LayerTag; a PAUSING sequence gets its PAUSED record, with the entry's key and the image's
digest, and gives the entry up; a PARKED one keeps it. While a token of the sequence is in flight nothing happens. Where the manual
leaves a point open, the choice is the model's: log entries 6 and 46. Concluded to answer a next state: pauseImageWritten. -/
def Sys2Proof.Claims.PauseImagesReachTheCellar : Prop :=
  (∀ (slot : SeqSlot) (s : State) (q : Sequence) (n : Nat) (e : PauseEntry), SMap.find s.chip.serve.slots slot = some q →
    q.entry = some n → SMap.find s.chip.cellar.index n = some e → s.chip.mayWrite q e = true → ∃ t,
      exec (.pauseImageWritten slot) s = .next t ∧
      t = { s with chip := { s.chip with
        serve := { s.chip.serve with slots := t.chip.serve.slots }
        cellar := { s.chip.cellar with
          index := t.chip.cellar.index, nextStripe := t.chip.cellar.nextStripe, narrow := t.chip.cellar.narrow
          written := t.chip.cellar.written, days := t.chip.cellar.days }
        free := s.chip.free + 1 } } ∧
      (∃ x, SMap.find t.chip.cellar.index n = some x ∧ x.state = 2 ∧ x.nonce = nonceOf s.chip.free ∧ x.length = q.held + 1 ∧
        x.layerTag = s.chip.run.tag ∧ x.image = s.chip.imageOf slot q ∧ (q.state = .parked → x.expiry = 0xFFFFFFFF)) ∧
      (∀ m, m ≠ n → SMap.find t.chip.cellar.index m = SMap.find s.chip.cellar.index m) ∧
      (q.state = .parked → t.chip.serve.slots = s.chip.serve.slots) ∧
      (q.state = .pausing → SMap.find t.chip.serve.slots slot = some { q with
        entry := none
        completion := some
          { outcome := 2, error := 0, promiseBroken := false, pauseKey := pauseKey n (nonceOf s.chip.free),
            digest := (s.chip.imageOf slot q).digest } })) ∧
  (∀ (slot : SeqSlot) (s : State) (q : Sequence) (sh : Sheet), SMap.find s.chip.serve.slots slot = some q →
    s.chip.run.running = some sh → (sh.stillFlying q s.chip.run.step).isEmpty = false →
      exec (.pauseImageWritten slot) s = .next s)

/-- Pause images. -/
def Obligations.PauseImagesAreStored : Prop :=
  Claims.ImagesCarryTheirDigest ∧ Claims.PauseImagesReachTheCellar

/-- Pause keys (R341). A key holds the entry number in bits [15:0], zero in bits [31:16] and the Nonce in bits [63:32]; it names an image
exactly where its entry's State is 2 and the Nonce matches. The Nonce is never zero, so no key is 0. -/
def Obligations.PauseKeysNameStoredImages : Prop :=
  (∀ n nonce : Nat, n < 2 ^ 16 → nonce < 2 ^ 32 → field (pauseKey n nonce) 0 16 = n ∧ field (pauseKey n nonce) 16 16 = 0 ∧
    field (pauseKey n nonce) 32 32 = nonce ∧ pauseKey n nonce < 2 ^ 64) ∧
  (∀ (c : Cellar) (key n : Nat) (e : PauseEntry), c.named key = some (n, e) ↔
    n = field key 0 16 ∧ field key 16 16 = 0 ∧ field key 32 32 = e.nonce ∧ SMap.find c.index n = some e ∧ e.state = 2) ∧
  (∀ n : Nat, 0 < nonceOf n ∧ nonceOf n < 2 ^ 32) ∧
  (∀ (s : S8) (slot n : Nat) (q : Sequence), ∃ e, SMap.find (s.storeImage slot q n).cellar.index n = some e ∧ 0 < e.nonce ∧
    e.nonce < 2 ^ 32 ∧ e.state = 2) ∧
  (∀ n nonce : Nat, 0 < nonce → pauseKey n nonce ≠ 0)

/-- RESTORE_COMPLETE (R15, R335, R345, R347). A restore at the head of a queue ends. Read soundly, its pages go back to the
sequence, whose restore is over, and its pause index entry is free; while table blocks are short it goes on. A read that fails, or
of which two dies' cellars cannot be reached, counted in CellarDataLost, and an image whose bytes do not have its digest end the
sequence with CELLAR_LOSS, its promise broken. Where the manual leaves a point open, the choice is the model's: log entry 45.
Concluded to answer a next state: restoreComplete. -/
def Sys2Proof.Claims.RestoresEnd : Prop :=
  (∀ (slot : SeqSlot) (s : State) (q : Sequence) (n : Nat) (e : PauseEntry),
    slot.val ∈ s.chip.cellar.reading → SMap.find s.chip.serve.slots slot = some q → q.entry = some n →
    SMap.find s.chip.cellar.index n = some e → sha256 e.image.stored = e.image.digest → s.chip.cellarsAway.length < 2 →
    (s.chip.blocksSuffice e.image = false → exec (.restoreComplete slot .readable) s = .next s) ∧
    (s.chip.blocksSuffice e.image = true → ∃ t,
      exec (.restoreComplete slot .readable) s = .next t ∧
      t = { s with chip := { s.chip with
        mem := t.chip.mem, dict := t.chip.dict, attn := { s.chip.attn with publishing := t.chip.attn.publishing }
        serve := { s.chip.serve with slots := t.chip.serve.slots }
        cellar := { s.chip.cellar with
          index := t.chip.cellar.index
          restores := s.chip.cellar.restores.filter (fun r => r.1 ≠ slot.val)
          parkedRestores := s.chip.cellar.parkedRestores.filter (fun r => r.1 ≠ slot.val) } } } ∧
      SMap.find t.chip.serve.slots slot = some { q with restoring := false, entry := none } ∧
      (∀ m, m ≠ slot.val → SMap.find t.chip.serve.slots m = SMap.find s.chip.serve.slots m) ∧
      SMap.find t.chip.cellar.index n = none ∧
      (∀ m, m ≠ n → SMap.find t.chip.cellar.index m = SMap.find s.chip.cellar.index m) ∧
      (s.chip.run.layersHeld = 0 → t.chip.mem = s.chip.mem))) ∧
  (∀ (slot : SeqSlot) (read : ReadResult) (s : State) (q : Sequence) (n : Nat) (e : PauseEntry),
    slot.val ∈ s.chip.cellar.reading → SMap.find s.chip.serve.slots slot = some q → q.entry = some n →
    SMap.find s.chip.cellar.index n = some e →
    (read = .failed ∨ 2 ≤ s.chip.cellarsAway.length ∨ sha256 e.image.stored ≠ e.image.digest) → ∃ t,
      exec (.restoreComplete slot read) s = .next t ∧ t.pending = s.pending ∧ t.chip.mem = s.chip.mem ∧ t.chip.run = s.chip.run ∧
      SMap.find t.chip.serve.slots slot = none ∧
      t.chip.serve.finished = s.chip.serve.finished ++ [(s.chip.serve.handle slot, q, Completion.plain 3 4 true)] ∧
      t.chip.dict.count Obj.promiseBrokenCount 0 = (s.chip.dict.count Obj.promiseBrokenCount 0 + 1) % 2 ^ 32) ∧
  (∀ (b : Bytes) (handle generation : Nat), b.length = 10240 → leAt (restoredFrame b handle generation) 0 4 = handle % 2 ^ 32 ∧
    leAt (restoredFrame b handle generation) 16 4 = generation % 2 ^ 32 ∧
    leAt (restoredFrame b handle generation) 7 1 = leAt b 7 1 ||| 2 ∧ (restoredFrame b handle generation).drop 20 = b.drop 20)

/-- Pages and stripes (R329 to R331, R347 to R349). Any page of a full stripe is the XOR of the other seven. A page of a reachable
cellar that decodes is counted by its corrected words and changes nothing else. One that stays uncorrectable, the stripe's other
pages being there, has its stripe rewritten to fresh blocks, is counted in CellarRebuild and retires its block; if another page of
the stripe is missing too, it is lost and recorded so, and a stored image on the stripe that no sequence awaits is lost with it. A
scrub that meets more than two retries or 64 corrected words rewrites the stripe, another leaves it; a stripe that lacks a returned
die's page is rewritten. Where the manual leaves a point open, the choice is the model's: log entry 45. Concluded to answer a next
state: cellarPageRead, scrubPass, cellarRebuild. -/
def Sys2Proof.Claims.StripesAreKeptSound : Prop :=
  (∀ (stripe corrected retries : Nat) (die : Die) (s : State), s.chip.cellarReachable die = true →
    die.val ∉ SMap.getD s.chip.cellar.narrow stripe [] →
    exec (.cellarPageRead stripe die corrected 0 retries) s = .next { s with
      chip := s.chip.raise Obj.cellarCorrectedCount 0 corrected (unitField 1 die) stripe }) ∧
  (∀ (stripe corrected uncorrectable retries : Nat) (die : Die) (s : State), s.chip.cellarReachable die = true → 0 < uncorrectable →
    die.val ∉ SMap.getD s.chip.cellar.narrow stripe [] →
    (s.chip.missingPages stripe die = [] → ∃ t,
      exec (.cellarPageRead stripe die corrected uncorrectable retries) s = .next t ∧
      t = { s with chip := { s.chip with
        dict := t.chip.dict
        cellar := { s.chip.cellar with
          narrow := t.chip.cellar.narrow, lostPages := t.chip.cellar.lostPages, written := t.chip.cellar.written
          days := t.chip.cellar.days, spareUsed := t.chip.cellar.spareUsed } } } ∧
      SMap.getD t.chip.cellar.narrow stripe [] = s.chip.cellarsAway ∧ SMap.find t.chip.cellar.lostPages stripe = none ∧
      SMap.getD t.chip.cellar.spareUsed die 0 = SMap.getD s.chip.cellar.spareUsed die 0 + Config.flashBlock ∧
      t.chip.dict.count Obj.cellarRebuildCount 0 = (s.chip.dict.count Obj.cellarRebuildCount 0 + 1) % 2 ^ 32) ∧
    (∀ (n : Nat) (e : PauseEntry), s.chip.missingPages stripe die ≠ [] → firstPauseStripe ≤ stripe →
      s.chip.cellar.index.find? (fun x => x.2.holds stripe) = some (n, e) → s.chip.serve.ownerOf n = none → ∃ t,
        exec (.cellarPageRead stripe die corrected uncorrectable retries) s = .next t ∧
        t = { s with chip := { s.chip with
          dict := t.chip.dict
          cellar := { s.chip.cellar with index := t.chip.cellar.index, lostPages := t.chip.cellar.lostPages } } } ∧
        SMap.find t.chip.cellar.index n = some { e with state := 4 } ∧ die.val ∈ SMap.getD t.chip.cellar.lostPages stripe [] ∧
        t.chip.dict.count Obj.cellarDataLostCount 0 = (s.chip.dict.count Obj.cellarDataLostCount 0 + 1) % 2 ^ 32)) ∧
  (∀ (stripe retries corrected : Nat) (s : State), ∃ t,
    exec (.scrubPass stripe retries corrected .readable) s = .next t ∧
    t = { s with chip := { s.chip with
      cellar := t.chip.cellar, dict := s.chip.dict.raise s.chip.run.step Obj.cellarCorrectedCount 0 corrected 0 stripe } } ∧
    (retries ≤ 2 → corrected ≤ 64 → t.chip.cellar = s.chip.cellar) ∧
    (2 < retries ∨ 64 < corrected → t.chip.cellar = (s.chip.rewriteStripe stripe).cellar)) ∧
  (∀ (stripe : Nat) (s : State), SMap.getD s.chip.cellar.narrow stripe [] ≠ [] →
    (∀ d ∈ SMap.getD s.chip.cellar.narrow stripe [], d ∉ s.chip.cellarsAway) → SMap.getD s.chip.cellar.lostPages stripe [] = [] → ∃ t,
      exec (.cellarRebuild stripe) s = .next t ∧
      t = { s with chip := { s.chip with cellar := { s.chip.cellar with
        narrow := t.chip.cellar.narrow, lostPages := t.chip.cellar.lostPages, written := t.chip.cellar.written
        days := t.chip.cellar.days } } } ∧
      SMap.getD t.chip.cellar.narrow stripe [] = s.chip.cellarsAway ∧
      t.chip.cellar.written = (s.chip.cellar.written + 18432 * (8 - s.chip.cellarsAway.length)) % 2 ^ 64) ∧
  (∀ (n stripe die : Nat) (data : List Bytes), data.length = 7 → (∀ p ∈ data, p.length = n) → die < 8 →
    rebuildPage n (stripePages n stripe data) die = (stripePages n stripe data).getD die [])

/-- Cellar seconds and keys (R178, R342, R343). While firmware runs a second adds one to the count, which is saved each minute,
takes one from MeasFirmwareHold, and frees each stored entry that has expired, each counted in PauseExpired; without firmware
nothing happens. PauseKeyExtend of a key that names a stored, unexpired image sets its expiry that far ahead; of any other key it
only reports so. Concluded to answer a next state: cellarSecond, pauseKeyExtend. -/
def Sys2Proof.Claims.SecondsExpireKeys : Prop :=
  (∀ s : State, s.chip.boot.anyFirmware = true → ∃ t, exec .cellarSecond s = .next t ∧
    t = { s with chip := { s.chip with
      cellar := { s.chip.cellar with
        index := t.chip.cellar.index, seconds := (s.chip.cellar.seconds + 1) % 2 ^ 32
        savedSeconds := t.chip.cellar.savedSeconds, days := t.chip.cellar.days }
      dict := t.chip.dict } } ∧
    t.chip.dict.get Obj.measFirmwareHold = s.chip.dict.get Obj.measFirmwareHold - 1 ∧
    t.chip.cellar.savedSeconds =
      (if (s.chip.cellar.seconds + 1) % 2 ^ 32 % 60 = 0 then (s.chip.cellar.seconds + 1) % 2 ^ 32 else s.chip.cellar.savedSeconds) ∧
    (SMap.sorted s.chip.cellar.index = true → ∀ n, SMap.find t.chip.cellar.index n =
      (SMap.find s.chip.cellar.index n).filter (fun e =>
        !(e.state = 2 && e.expiry ≠ 0xFFFFFFFF && e.expiry ≤ (s.chip.cellar.seconds + 1) % 2 ^ 32)))) ∧
  (∀ s : State, s.chip.boot.anyFirmware = false → exec .cellarSecond s = .next s) ∧
  (∀ (w : ObjWrite) (s : State) (n : Nat) (e : PauseEntry), s.chip.writeArrives w Obj.pauseKeyExtend → w.value.length = 12 →
    s.chip.cellar.named (leAt w.value 0 8) = some (n, e) → s.chip.cellar.expired e = false → ∃ c : S8,
      exec (.pauseKeyExtend w) s = .next { s with chip := c.writeDone w Obj.pauseKeyExtend } ∧
      c = { s.chip with cellar := { s.chip.cellar with index := c.cellar.index, extendStatus := 0 } } ∧
      SMap.find c.cellar.index n = some { e with expiry := (s.chip.cellar.seconds + leAt w.value 8 4) % 2 ^ 32 } ∧
      ∀ m, m ≠ n → SMap.find c.cellar.index m = SMap.find s.chip.cellar.index m) ∧
  (∀ (w : ObjWrite) (s : State), s.chip.writeArrives w Obj.pauseKeyExtend → w.value.length = 12 →
    (s.chip.cellar.named (leAt w.value 0 8) = none ∨ ∃ x, s.chip.cellar.named (leAt w.value 0 8) = some x ∧
      s.chip.cellar.expired x.2 = true) → ∃ c : S8,
      exec (.pauseKeyExtend w) s = .next { s with chip := c.writeDone w Obj.pauseKeyExtend } ∧
      c = { s.chip with cellar := { s.chip.cellar with extendStatus := 1 } })

/-- The cellar: restores, stripes, seconds and keys. -/
def Obligations.CellarIsKept : Prop :=
  Claims.RestoresEnd ∧ Claims.StripesAreKeptSound ∧ Claims.SecondsExpireKeys

/-! ### Wheels (chapter 13) -/

/-- WheelLoadRequest and WheelUnload (R351 to R353, R357, R358, R365, R366). A load begins only for a manifest that a key of
PublisherKeys signed, whose fields are in range, and a placement table that obeys R357: its version then stands in the table with
that manifest and placement. Any other request counts in WheelLoadFailCount with its reason, and leaves every held version as it
was. Unloading gives up a load with reason 7, is refused with STATE and counted for a version in use, and otherwise takes a READY
version out of use. Where the manual leaves a point open, the choice is the model's: log entry 47. Concluded to answer a next state:
wheelLoadRequest, wheelUnload. -/
def Obligations.WheelsAreLoadedAndUnloaded : Prop :=
  (∀ (w : ObjWrite) (s : State) (id version : Nat), s.chip.writeArrives w Obj.wheelLoadRequest → id = field (valueOf w.value) 32 8 →
    version = field (valueOf w.value) 0 32 → s.chip.loadReason id version = 0 → ∃ c : S8,
      exec (.wheelLoadRequest w) s = .next { s with chip := c.writeDone w Obj.wheelLoadRequest } ∧
      c.run = { s.chip.run with transfersSent := c.run.transfersSent } ∧ c.serve = s.chip.serve ∧
      c.cultures = s.chip.cultures ∧ c.ports = s.chip.ports ∧ c.power = s.chip.power ∧ ∃ u ∈ c.wheels.table, u.wheelId = id ∧ u.version = version ∧ (u.state = 1 ∨ (u.state = 3 ∧ u.reason = 6)) ∧
        u.manifest = Manifest.ofBytes s.chip.wheels.manifest ∧ u.placement = placementOf s.chip.wheels.placement) ∧
  (∀ (w : ObjWrite) (s : State) (id version : Nat), s.chip.writeArrives w Obj.wheelLoadRequest → id = field (valueOf w.value) 32 8 →
    version = field (valueOf w.value) 0 32 → s.chip.loadReason id version ≠ 0 → ∃ c : S8,
      exec (.wheelLoadRequest w) s = .next { s with chip := c.writeDone w Obj.wheelLoadRequest } ∧
      c = { s.chip with
        wheels := { s.chip.wheels with table := c.wheels.table }
        dict := s.chip.dict.raise s.chip.run.step Obj.wheelLoadFailCount 0 1 (unitField 11 id) (s.chip.loadReason id version) } ∧
      c.wheels.held = s.chip.wheels.held) ∧
  (∀ (s : S8) (id version : Nat), s.loadReason id version = 0 →
    (∃ key, s.dict.publisherKey (leAt s.wheels.manifest 3 1) = some key ∧ signedBy key s.wheels.manifest = true) ∧
    manifestInRange s.wheels.manifest id version = true ∧ s.wheels.held.length < 8 ∧
    (∀ u ∈ s.wheels.held, u.wheelId ≠ id ∨ u.version ≠ version) ∧
    s.placementGood s.wheels.placement id version (leAt s.wheels.manifest 12 4) = true) ∧
  (∀ (w : ObjWrite) (s : State) (u : Wheel), s.chip.writeArrives w Obj.wheelUnload →
    s.chip.wheels.find (field (valueOf w.value) 0 40) = some u →
    (u.state = 1 → ∃ c : S8, exec (.wheelUnload w) s = .next { s with chip := c.writeDone w Obj.wheelUnload } ∧
      c.run = s.chip.run ∧ c.serve = s.chip.serve ∧ c.cellar = s.chip.cellar ∧
      (∃ x ∈ c.wheels.table, x.key = u.key ∧ x.state = 3 ∧ x.reason = 7 ∧ x.fetching = [] ∧ x.targets = []) ∧
      c.dict = s.chip.dict.raise s.chip.run.step Obj.wheelLoadFailCount 0 1 (unitField 11 u.wheelId) 7 ∧
      (∀ e ∈ u.targets, SMap.find c.wheels.content e.2 = none ∧ e.2 ∉ c.turn.programming)) ∧
    (u.state = 2 → s.chip.run.usesWheel u = true → exec (.wheelUnload w) s = .next { s with
      chip := (s.chip.raise Obj.unloadRefusedCount 0 1 (unitField 11 u.wheelId) u.version).answerWrite w.port w.requestId.toNat
        Obj.wheelUnload statusState w.value.length [] }) ∧
    (u.state = 2 → s.chip.run.usesWheel u = false → ∃ c : S8,
      exec (.wheelUnload w) s = .next { s with chip := c.writeDone w Obj.wheelUnload } ∧
      c = { s.chip with wheels := { s.chip.wheels with table := s.chip.wheels.table.map (fun v =>
        if v.key = field (valueOf w.value) 0 40 then { v with state := 4, fetching := [] } else v) } }))

/-- Shards arriving (R301, R360 to R363). Bytes of a shard that is being fetched are held at their offset, whether the control
node's frame or a trunk's flit brings them. A shard of the manifest's digest is written to the golden partition; another is
discarded, counted, and asked of the next source. The flits of a shard that a peer asks for wait until the lane has sent the
transfers placed on it in the step. A shard that times out is counted and asked of the next source, its bytes kept; past the last
source the round ends, and after its wait, which doubles up to 64 s, the next begins. Where the manual leaves a point open, the
choice is the model's: log entry 47. Concluded to answer a next state: bulkWeightShard, shardReceived, shardTimeout, shardRetryWait,
shardDataFlit, shardRequestFlit. -/
def Sys2Proof.Claims.ShardsAreFetched : Prop :=
  (∀ (f : Frame) (v : FrameView) (s : State) (u : Wheel) (g : ShardFetch), s.chip.frameArrives f v → v.type = 0x30 →
    v.at 0 1 = 3 → s.chip.ports.owner = f.port →
    s.chip.wheels.fetcher (v.at 4 4) (fun u g => decide (u.wheelId = v.at 1 1) && !g.idle) = some (u, g) → v.handle = 0 →
    0 < v.at 12 2 → v.at 12 2 ≤ 208 → v.at 8 4 + v.at 12 2 ≤ u.shardLength (v.at 4 4) → ∃ t,
      exec (.bulkWeightShard f) s = .next t ∧
      t = { s with chip := { s.chip.goodFrame f.port with wheels := { s.chip.wheels with table := t.chip.wheels.table } } } ∧
      ∃ x ∈ t.chip.wheels.table, x.key = u.key ∧ SMap.find x.fetching (v.at 4 4) =
        some { g with segments := g.segments ++ [(v.at 8 4, bytesAt v.payload 16 (v.at 12 2))] }) ∧
  (∀ (f : Flit) (v : FlitView) (s : State) (n : Nat) (u : Wheel) (g : ShardFetch), s.chip.flitArrives f v → v.kind = kindBulk →
    v.seq = (s.chip.fab.lane f.lane).expected → (s.chip.fab.lane f.lane).discarding = false → v.transfer = 0xFFFF →
    field (leAt v.payload 0 4) 28 4 = 0 → n = field (leAt v.payload 0 4) 0 28 →
    s.chip.wheels.fetcher n (fun _ g => !g.idle && s.chip.dict.sources[g.source]? = some (256 + f.lane / 9)) = some (u, g) → ∃ t,
      exec (.shardDataFlit f) s = .next t ∧
      t = { s with chip := { s.chip.countedFlit f with
        fab := s.chip.fab.setLane f.lane (s.chip.fab.lane f.lane).tookBulk
        wheels := { s.chip.wheels with table := t.chip.wheels.table } } } ∧
      ∃ x ∈ t.chip.wheels.table, x.key = u.key ∧ SMap.find x.fetching n = some { g with
        segments := g.segments ++
          [(leAt v.payload 4 4, (bytesAt v.payload 8 40).take (u.shardLength n - leAt v.payload 4 4))] }) ∧
  (∀ (f : Flit) (v : FlitView) (s : State) (n lane : Nat) (shard : Bytes) (l x : LinkLaneState), s.chip.flitArrives f v → v.kind = kindBulk →
    v.seq = (s.chip.fab.lane f.lane).expected → (s.chip.fab.lane f.lane).discarding = false → v.transfer = 0xFFFF →
    field (leAt v.payload 0 4) 28 4 = 1 → n = field (leAt v.payload 0 4) 0 28 →
    SMap.find s.chip.cellar.golden ((leAt v.payload 4 1 * 2 ^ 32 + leAt v.payload 8 4) * 65536 + n) = some shard →
    (trunkLanes (f.lane / 9)).find? (fun m => (s.chip.fab.lane m).state = 0) = some lane →
    l = (s.chip.fab.setLane f.lane (s.chip.fab.lane f.lane).tookBulk).lane lane →
    x = { l with background := l.background ++ (shardDataPayloads n shard).map (fun p => FlitView.toData {
      kind := kindBulk, seq := 0, transfer := 0xFFFF, flit := 0, last := false, replay := false, payload := p }) } → ∃ t,
      exec (.shardRequestFlit f) s = .next t ∧
      t = { s with chip := { s.chip.countedFlit f with
        fab := { s.chip.fab with lanes := t.chip.fab.lanes }
        run := { s.chip.run with transfersSent := t.chip.run.transfersSent } } } ∧
      t.chip.fab.lane lane = (if s.chip.placedSent lane then x.pumpAll.idleSlots.pumpAll else x.pumpAll) ∧
      (∀ m, m ≠ lane → m ≠ f.lane.val → t.chip.fab.lane m = s.chip.fab.lane m)) ∧
  (∀ (n : Nat) (b : Bytes), (shardDataPayloads n b).length = ceilDiv b.length 40 ∧
    ∀ i p, (shardDataPayloads n b)[i]? = some p → p.length = 48 ∧ leAt p 0 4 = n % 2 ^ 32 ∧ leAt p 4 4 = (40 * i) % 2 ^ 32 ∧
      ∀ j < 40, byteAt p (8 + j) = byteAt b (40 * i + j)) ∧
  (∀ (n : Nat) (s : State) (u : Wheel) (g : ShardFetch) (shard : Bytes),
    s.chip.wheels.fetcher n (fun u f => !f.idle && u.whole n f) = some (u, g) → shard = assemble (u.shardLength n) g.segments →
    (sha256 shard = (u.manifest.shards.getD n (0, [])).2 → ∃ t, exec (.shardReceived n) s = .next t ∧ t.pending = s.pending ∧
      SMap.find t.chip.cellar.golden (u.key * 65536 + n) = some shard ∧ t.chip.run = { s.chip.run with transfersSent := t.chip.run.transfersSent } ∧
      t.chip.serve = s.chip.serve ∧ t.chip.ports = s.chip.ports ∧ t.chip.cultures = s.chip.cultures) ∧
    (sha256 shard ≠ (u.manifest.shards.getD n (0, [])).2 → g.source + 1 < s.chip.dict.sources.length → ∃ t,
      exec (.shardReceived n) s = .next t ∧ t.pending = s.pending ∧ t.chip.cellar = s.chip.cellar ∧ t.chip.mem = s.chip.mem ∧
      t.chip.dict.count Obj.shardCorruptCount 0 = (s.chip.dict.count Obj.shardCorruptCount 0 + 1) % 2 ^ 32 ∧
      ∃ x ∈ t.chip.wheels.table, x.key = u.key ∧
        SMap.find x.fetching n = some { g with segments := [], source := g.source + 1, idle := false })) ∧
  (∀ (n : Nat) (s : State) (u : Wheel) (g : ShardFetch),
    s.chip.wheels.fetcher n (fun u f => !f.idle && !(u.whole n f)) = some (u, g) → ∃ t,
      exec (.shardTimeout n) s = .next t ∧ t.pending = s.pending ∧ t.chip.cellar = s.chip.cellar ∧ t.chip.mem = s.chip.mem ∧
      t.chip.dict.count Obj.shardTimeoutCount 0 = (s.chip.dict.count Obj.shardTimeoutCount 0 + 1) % 2 ^ 32 ∧
      ∃ x ∈ t.chip.wheels.table, x.key = u.key ∧ SMap.find x.fetching n =
        some (if s.chip.dict.sources.length ≤ g.source + 1 then { g with source := 0, idle := true }
          else { g with source := g.source + 1, idle := false })) ∧
  (∀ (n : Nat) (s : State) (u : Wheel) (g : ShardFetch), s.chip.wheels.fetcher n (fun _ f => f.idle) = some (u, g) →
    s.chip.dict.sources ≠ [] → ∃ t,
      exec (.shardRetryWait n) s = .next t ∧ t.pending = s.pending ∧ t.chip.cellar = s.chip.cellar ∧ t.chip.mem = s.chip.mem ∧
      ∃ x ∈ t.chip.wheels.table, x.key = u.key ∧
        SMap.find x.fetching n = some { g with source := 0, wait := min (2 * g.wait) 64, idle := false })

/-- Blocks and the drain (R160, R364, R365, R371). A block whose vat's first calibration ended within its bound counts towards
READY; one whose vat did not meet it is tried on another vat, the vat set aside, and the third failure ends its load. WheelDrainStep
closes every track to admission from then on. A step earlier than 64 steps ahead breaks R371. Where the manual leaves a point open,
the choice is the model's: log entry 47. Concluded to answer a next state: blockReadVerified, wheelDrainStep. -/
def Sys2Proof.Claims.BlocksAreVerifiedAndWheelsDrained : Prop :=
  (∀ (vat : Vat) (s : State) (u : Wheel) (i : Nat), s.chip.wheels.entryOn (vatKey vat) = some (u, i) →
    s.chip.calibrationEnded (vatKey vat) = true → s.chip.readVerified (vatKey vat) = true → ∃ t,
      exec (.blockReadVerified vat) s = .next t ∧ t.pending = s.pending ∧ t.chip.run = s.chip.run ∧ t.chip.serve = s.chip.serve ∧
      t.chip.ports = s.chip.ports ∧ t.chip.cultures = s.chip.cultures ∧
      ∃ x ∈ t.chip.wheels.table, x.key = u.key ∧ (x.state = 3 ∨ i ∈ x.ready)) ∧
  (∀ (vat : Vat) (s : State) (u : Wheel) (i : Nat), s.chip.wheels.entryOn (vatKey vat) = some (u, i) →
    s.chip.calibrationEnded (vatKey vat) = true → s.chip.readVerified (vatKey vat) = false → ∃ t,
      exec (.blockReadVerified vat) s = .next t ∧ t.pending = s.pending ∧ t.chip.run = s.chip.run ∧ t.chip.serve = s.chip.serve ∧
      t.chip.ports = s.chip.ports ∧ t.chip.cultures = s.chip.cultures ∧
      (t.chip.turn.qualityOf (vatKey vat)).candidate = true ∧
      ∃ x ∈ t.chip.wheels.table, x.key = u.key ∧ SMap.find x.tries i = some (SMap.getD u.tries i 0 + 1) ∧
        (2 ≤ SMap.getD u.tries i 0 → u.state = 1 → x.state = 3 ∧ x.reason = 8)) ∧
  (∀ (vat : Vat) (s : State), (s.chip.wheels.entryOn (vatKey vat) = none ∨ s.chip.calibrationEnded (vatKey vat) = false) →
    exec (.blockReadVerified vat) s = .next s) ∧
  (∀ (w : ObjWrite) (s : State), s.chip.writeArrives w Obj.wheelDrainStep →
    (valueOf w.value = 0 ∨ s.chip.run.step + 64 ≤ valueOf w.value) → ∃ c : S8,
      exec (.wheelDrainStep w) s = .next { s with chip := c.writeDone w Obj.wheelDrainStep } ∧
      c = { s.chip with dict := { s.chip.dict with settings := c.dict.settings } } ∧
      (∀ obj, c.dict.get obj = (if obj = Obj.wheelDrainStep then valueOf w.value else s.chip.dict.get obj)) ∧
      (valueOf w.value ≠ 0 → ∀ sh, c.openTracks sh = [])) ∧
  (∀ (w : ObjWrite) (s : State), s.chip.writeArrives w Obj.wheelDrainStep → valueOf w.value ≠ 0 →
    valueOf w.value < s.chip.run.step + 64 → exec (.wheelDrainStep w) s = .fault (.undefinedByR3 371))

/-- Wheels: shards, blocks and the drain. -/
def Obligations.ShardsAndBlocksAreVerified : Prop :=
  Claims.ShardsAreFetched ∧ Claims.BlocksAreVerifiedAndWheelsDrained

/-! ### Cultures (chapter 13) -/

/-- Loading cultures (R374, R375, R379, R393). A request that nothing bars puts its version in the table, receiving; one with
CultureId or Version 0, a length that no image has, or a version not above every one held or stored is in the table as failed, with
its reason, and counted. A frame's bytes are held at their offset; the image that they complete is kept in the culture partition
where it has the request's digest, is well formed and has a shape the running sheet has a place for, and the load fails with its
reason otherwise. Where the manual leaves a point open, the choice is the model's: log entry 48. Concluded to answer a next state:
bulkCulture, cultureLoadRequest. -/
def Sys2Proof.Claims.CulturesAreReceived : Prop :=
  (∀ (w : ObjWrite) (s : State) (v : Culture), s.chip.writeArrives w Obj.cultureLoadRequest → w.value.length = 44 →
    (s.chip.cultures.table.filter (fun u => u.state ≠ 6)).length < 512 → v = Culture.ofRequest w.value →
    (∀ u ∈ s.chip.cultures.table, u.key = v.key → u.state = 6) →
    (s.chip.cultureReason v (leAt w.value 4 1) = 0 → field (leAt w.value 4 1) 1 1 = 0 → ∃ c : S8,
      exec (.cultureLoadRequest w) s = .next { s with chip := c.writeDone w Obj.cultureLoadRequest } ∧
      c = { s.chip with cultures := { s.chip.cultures with table := c.cultures.table } } ∧
      c.cultures.table.getLast? = some v ∧
      (∀ u ∈ s.chip.cultures.table, u.state ≠ 6 → u ∈ c.cultures.table)) ∧
    (s.chip.cultureReason v (leAt w.value 4 1) ≠ 0 → ∃ c : S8,
      exec (.cultureLoadRequest w) s = .next { s with chip := c.writeDone w Obj.cultureLoadRequest } ∧
      c = { s.chip with
        cultures := { s.chip.cultures with table := c.cultures.table }
        dict := s.chip.dict.raise s.chip.run.step Obj.cultureLoadFailCount 0 1 (unitField 11 v.cultureId)
          (s.chip.cultureReason v (leAt w.value 4 1)) } ∧
      ∃ u ∈ c.cultures.table, u.key = v.key ∧ u.state = 6 ∧ u.reason = s.chip.cultureReason v (leAt w.value 4 1))) ∧
  (∀ (s : S8) (v : Culture), (v.cultureId = 0 ∨ v.version = 0 → s.cultureReason v 0 = 2) ∧
    (0 < v.cultureId → 0 < v.version → imageLengthOk v.length = true →
      ((∃ n, (n ∈ s.versionsHeld v.cultureId ∨ n ∈ s.versionsStored v.cultureId) ∧ v.version ≤ n) ↔ s.cultureReason v 0 = 3))) ∧
  (∀ (f : Frame) (v : FrameView) (s : State) (u now : Culture), s.chip.frameArrives f v → v.type = 0x30 → v.at 0 1 = 5 →
    s.chip.ports.owner = f.port → s.chip.cultures.find (v.at 2 2 * 65536 + v.at 4 2) = some u → u.state = 1 → v.handle = 0 →
    0 < v.at 12 2 → v.at 12 2 ≤ 208 → v.at 8 4 + v.at 12 2 ≤ u.length →
    now = { u with segments := u.segments ++ [(v.at 8 4, bytesAt v.payload 16 (v.at 12 2))] } →
    (segmentsCover now.length now.segments = false → ∃ t, exec (.bulkCulture f) s = .next t ∧
      t = { s with chip := { s.chip.goodFrame f.port with cultures := { s.chip.cultures with table := t.chip.cultures.table } } } ∧
      t.chip.cultures.find u.key = some now) ∧
    (∀ image, segmentsCover now.length now.segments = true → image = assemble now.length now.segments →
      (sha256 image = u.sha → cultureMalformed image u.cultureId u.version = false →
        (∃ p ∈ s.chip.run.places, p.shape = leAt image 8 4) → ∃ t, exec (.bulkCulture f) s = .next t ∧ t.pending = s.pending ∧
          t.chip.run = s.chip.run ∧ SMap.find t.chip.cellar.images u.key = some image) ∧
      (∀ reason, (sha256 image ≠ u.sha ∧ reason = 1) ∨ (sha256 image = u.sha ∧ cultureMalformed image u.cultureId u.version = true ∧
          reason = 5) ∨ (sha256 image = u.sha ∧ cultureMalformed image u.cultureId u.version = false ∧
          (∀ p ∈ s.chip.run.places, p.shape ≠ leAt image 8 4) ∧ reason = 4) → ∃ t,
        exec (.bulkCulture f) s = .next t ∧ t.pending = s.pending ∧ t.chip.cellar = s.chip.cellar ∧ t.chip.run = s.chip.run ∧
        t.chip.dict = s.chip.dict.raise s.chip.run.step Obj.cultureLoadFailCount 0 1 (unitField 11 u.cultureId) reason ∧
        ∃ x ∈ t.chip.cultures.table, x.key = u.key ∧ x.state = 6 ∧ x.reason = reason)))

/-- Writing and unloading cultures (R364, R374, R375, R378, R380). When every role of a place has been written and calibrated once,
a version whose vats are all read-verified is so marked, to be READY at the next boundary; when a role has not met its bound, its
vats are set aside and the third failure ends the load with reason 6; before, nothing happens. CultureUnload of a version without
pins takes its image out of the culture partition, and a version that is READY or retiring retires; with pins, or while it is
written, the unload is refused with STATE and counted. Where the manual leaves a point open, the choice is the model's: log entry
48. Concluded to answer a next state: cultureWriteComplete, cultureUnload. -/
def Sys2Proof.Claims.CulturesAreWrittenAndUnloaded : Prop :=
  (∀ (place : Fin 512) (s : State) (v : Culture) (p : PlaceRecord),
    s.chip.cultures.table.find? (fun v => v.state = 3 && v.place = some place.val && !v.verified) = some v →
    s.chip.run.placeRecord place = some p → (∀ e ∈ v.targets, s.chip.calibrationEnded e.2 = true) →
    ((∀ e ∈ v.targets, s.chip.readVerified e.2 = true) →
      exec (.cultureWriteComplete place true) s = .next { s with chip := { s.chip with
        cultures := s.chip.cultures.set v.key (fun u => { u with verified := true }) } }) ∧
    (∀ verified : Bool, (verified = false ∨ ∃ e ∈ v.targets, s.chip.readVerified e.2 = false) → ∃ t,
      exec (.cultureWriteComplete place verified) s = .next t ∧ t.pending = s.pending ∧ t.chip.run = s.chip.run ∧
      t.chip.serve = s.chip.serve ∧ t.chip.cellar = s.chip.cellar ∧
      ∃ x ∈ t.chip.cultures.table, x.key = v.key ∧ x.tries = v.tries + 1 ∧
        (2 ≤ v.tries → x.state = 6 ∧ x.reason = 6))) ∧
  (∀ (place : Fin 512) (verified : Bool) (s : State) (v : Culture),
    s.chip.cultures.table.find? (fun v => v.state = 3 && v.place = some place.val && !v.verified) = some v →
    (∃ e ∈ v.targets, s.chip.calibrationEnded e.2 = false) → exec (.cultureWriteComplete place verified) s = .next s) ∧
  (∀ (w : ObjWrite) (s : State) (v : Culture), s.chip.writeArrives w Obj.cultureUnload →
    s.chip.cultures.find (valueOf w.value) = some v →
    (v.pins = 0 → (v.state = 4 ∨ v.state = 5) → ∃ c : S8,
      exec (.cultureUnload w) s = .next { s with chip := c.writeDone w Obj.cultureUnload } ∧
      c = { s.chip with
        cultures := { s.chip.cultures with table := c.cultures.table, places := c.cultures.places }
        cellar := { s.chip.cellar with images := SMap.erase s.chip.cellar.images (valueOf w.value) } } ∧
      c.cultures.find (valueOf w.value) = some { v with state := 5 } ∧
      (∀ n, v.place = some n → c.cultures.placeState n = 3)) ∧
    ((0 < v.pins ∨ v.state = 3) → exec (.cultureUnload w) s = .next { s with
      chip := (s.chip.raise Obj.unloadRefusedCount 0 1 (unitField 11 v.cultureId) v.version).answerWrite w.port w.requestId.toNat
        Obj.cultureUnload statusState w.value.length [] }))

/-- Cultures. -/
def Obligations.CulturesAreKept : Prop :=
  Claims.CulturesAreReceived ∧ Claims.CulturesAreWrittenAndUnloaded

/-! ### Encodings -/

/-- A word of the hoop code (R397): data with their check symbols decode to themselves, and with any one of at most 32 symbols changed
they still do, the change reported as corrected. -/
def Obligations.HoopCodeCorrectsOneSymbol : Prop :=
  (∀ d : Bytes, 0 < d.length → d.length ≤ 30 → hoopDecode (d ++ hoopCheck d) = .good d) ∧
  (∀ (d : Bytes) (i : Nat) (e : Byte), 0 < d.length → d.length ≤ 30 → i < d.length + 2 → e ≠ 0 →
    hoopDecode ((d ++ hoopCheck d).modify i (fun x => x ^^^ e)) = .corrected d)

/-- Frames and flits (R251, R254, R296, R297): what the module sends decodes to the fields it was made of, every field at every value
that its width admits. -/
def Obligations.FramesAndFlitsRoundTrip : Prop :=
  (∀ d : Bytes, d.length = 240 → frameData (encodeFrame d) = some d ∧ (encodeFrame d).length = 256) ∧
  (∀ d : Bytes, d.length = 56 → flitData (encodeFlit d) = some d ∧ (encodeFlit d).length = 64 ∧ flitCorrected (encodeFlit d) = 0) ∧
  (∀ (u : UpFrame) (cycle slot : Nat), u.type < 2 ^ 8 → cycle < 2 ^ 24 → u.handle < 2 ^ 32 → u.flags < 2 ^ 16 → u.payload.length ≤ 224 →
    (frameData (u.raw cycle slot)).map FrameView.ofData = some
      { type := u.type, cycle := cycle, handle := u.handle, length := u.payload.length, flags := u.flags
        payload := padTo 224 u.payload }) ∧
  (∀ v : FlitView, v.kind < 2 ^ 4 → v.seq < 2 ^ 12 → v.transfer < 2 ^ 16 → v.flit < 2 ^ 16 → v.payload.length = 48 →
    (flitData v.raw).map FlitView.ofData = some v) ∧
  (∀ b : BarrierFlit, b.direction < 2 ^ 8 → b.step < 2 ^ 64 → b.tick < 2 ^ 32 → b.lostChildren < 2 ^ 8 → b.closed.Pairwise (· < ·) →
    (∀ t ∈ b.closed, t < 96) → b.sender < 2 ^ 16 → b.announce.length ≤ 4 → (∀ a ∈ b.announce, a.1 < 0xFFFF ∧ a.2 < 2 ^ 8) →
    BarrierFlit.ofPayload b.payload = b)

/-- Pour instructions and pool entries (R77, R110): reading the word that is written for one gives it back, every field at every value that
its width admits, and a word of the entry pool that reads as an entry is the word of that entry. -/
def Obligations.InstructionsAndEntriesRoundTrip : Prop :=
  (∀ p : PourInstr, p.opcode < 2 ^ 8 → p.direction < 2 ^ 2 → p.phase < 2 ^ 2 → p.slotKind < 2 ^ 2 → p.average < 2 ^ 2 →
    p.accumulate < 2 → p.slot < 2 ^ 7 → p.lane < 2 ^ 7 → p.vatKind < 2 → p.vat < 2 ^ 12 → p.coreHalf < 2 → p.coreNum < 2 ^ 6 →
    p.row < 2 ^ 10 → p.reserved < 2 ^ 3 → p.reduction < 2 ^ 12 → p.reservedLow < 2 ^ 20 → p.tag < 2 ^ 32 →
      PourInstr.ofWord p.toWord = p ∧ p.toWord < 2 ^ 128) ∧
  (∀ w : Nat, w < 2 ^ 128 → (PourInstr.ofWord w).toWord = w) ∧
  (∀ e : Entry, e.row < 2048 → e.col < 2048 → -(2 ^ 23) ≤ e.delta → e.delta < 2 ^ 23 → Entry.ofWord e.toWord = some e) ∧
  (∀ (w : Nat) (e : Entry), w < 2 ^ 64 → field w 24 16 = 0 → Entry.ofWord w = some e → e.toWord = w)
end

