-- ==== Sys2Proof/Laws/Dispatch.lean ====
section
/-! SUPPORT. The effect of each command is its meaning, one equation for each constructor of Instr. -/

namespace Sys2Proof.Machine

@[simp] theorem exec_memoryAccess (a : Access) (s : State) : exec (.memoryAccess a) s = execMemoryAccess a s := rfl
@[simp] theorem exec_stepBoundary (s : State) : exec .stepBoundary s = execStepBoundary s := rfl
@[simp] theorem exec_stepOverrun (die : Die) (half : Half) (s : State) :
    exec (.stepOverrun die half) s = execStepOverrun die half s := rfl
@[simp] theorem exec_fetchWindow (vat : Vat) (slot : PourSlot) (upset : FetchUpsets) (s : State) :
    exec (.fetchWindow vat slot upset) s = execFetchWindow vat slot upset s := rfl
@[simp] theorem exec_highPour (vat : Vat) (slot : PourSlot) (s : State) :
    exec (.highPour vat slot) s = execHighPour vat slot s := rfl
@[simp] theorem exec_lowPour (vat : Vat) (slot : PourSlot) (s : State) :
    exec (.lowPour vat slot) s = execLowPour vat slot s := rfl
@[simp] theorem exec_doublePour (vat : Vat) (slot : PourSlot) (s : State) :
    exec (.doublePour vat slot) s = execDoublePour vat slot s := rfl
@[simp] theorem exec_reversePour (vat : Vat) (slot : PourSlot) (s : State) :
    exec (.reversePour vat slot) s = execReversePour vat slot s := rfl
@[simp] theorem exec_pourCodesReachRind (vat : Vat) (slot : PourSlot) (codes : List (BitVec 10)) (tick : Nat) (upset : Upsets) (s : State) :
    exec (.pourCodesReachRind vat slot codes tick upset) s = execPourCodesReachRind vat slot codes tick upset s := rfl
@[simp] theorem exec_reserveDecision (vat : Vat) (slot : PourSlot) (s : State) :
    exec (.reserveDecision vat slot) s = execReserveDecision vat slot s := rfl
@[simp] theorem exec_unrepairedRelease (vat : Vat) (lane : Lane) (tick : Nat) (upset : Upsets) (s : State) :
    exec (.unrepairedRelease vat lane tick upset) s = execUnrepairedRelease vat lane tick upset s := rfl
@[simp] theorem exec_reductionRead (reduction : BitVec 12) (tick : Nat) (mesh : List (RindUnit × Lane × MeshErr)) (s : State) :
    exec (.reductionRead reduction tick mesh) s = execReductionRead reduction tick mesh s := rfl
@[simp] theorem exec_addNode (reduction : BitVec 12) (lane : Lane) (node : Nat) (tick : Nat) (mesh : MeshErr) (s : State) :
    exec (.addNode reduction lane node tick mesh) s = execAddNode reduction lane node tick mesh s := rfl
@[simp] theorem exec_transferStart (transfer : Carried) (s : State) :
    exec (.transferStart transfer) s = execTransferStart transfer s := rfl
@[simp] theorem exec_transferArrived (lane : LinkLane) (transfer : Carried) (tick : Nat) (s : State) :
    exec (.transferArrived lane transfer tick) s = execTransferArrived lane transfer tick s := rfl
@[simp] theorem exec_carrySave (unit : RindUnit) (reduction : BitVec 12) (lane : Lane) (s : State) :
    exec (.carrySave unit reduction lane) s = execCarrySave unit reduction lane s := rfl
@[simp] theorem exec_carryRestore (unit : RindUnit) (reduction : BitVec 12) (lane : Lane) (upset : Upsets) (s : State) :
    exec (.carryRestore unit reduction lane upset) s = execCarryRestore unit reduction lane upset s := rfl
@[simp] theorem exec_calibrationStart (vat : Vat) (s : State) :
    exec (.calibrationStart vat) s = execCalibrationStart vat s := rfl
@[simp] theorem exec_calibrationComplete (vat : Vat) (roundA roundB : List ProbeCodes) (s : State) :
    exec (.calibrationComplete vat roundA roundB) s = execCalibrationComplete vat roundA roundB s := rfl
@[simp] theorem exec_referenceCheck (codes : List (BitVec 16)) (s : State) :
    exec (.referenceCheck codes) s = execReferenceCheck codes s := rfl
@[simp] theorem exec_measStartEdge (s : State) : exec .measStartEdge s = execMeasStartEdge s := rfl
@[simp] theorem exec_measStart (w : ObjWrite) (s : State) : exec (.measStart w) s = execMeasStart w s := rfl
@[simp] theorem exec_measConversionDone (nanovolts : Int) (s : State) :
    exec (.measConversionDone nanovolts) s = execMeasConversionDone nanovolts s := rfl
@[simp] theorem exec_measFirmwareHoldExpire (s : State) :
    exec .measFirmwareHoldExpire s = execMeasFirmwareHoldExpire s := rfl
@[simp] theorem exec_localisationStageDone (vat : Vat) (group : Fin 16) (found : Findings) (s : State) :
    exec (.localisationStageDone vat group found) s = execLocalisationStageDone vat group found s := rfl
@[simp] theorem exec_absorbPulseVerify (vat : Vat) (row col : Fin 2048) (trueCell complementCell : Nat) (s : State) :
    exec (.absorbPulseVerify vat row col trueCell complementCell) s = execAbsorbPulseVerify vat row col trueCell complementCell s := rfl
@[simp] theorem exec_columnMoveDone (vat : Vat) (col : Fin 2048) (s : State) :
    exec (.columnMoveDone vat col) s = execColumnMoveDone vat col s := rfl
@[simp] theorem exec_programmeVerifyDone (vat : Vat) (off : List (Nat × Nat × Int)) (gainStep : Fin 4) (s : State) :
    exec (.programmeVerifyDone vat off gainStep) s = execProgrammeVerifyDone vat off gainStep s := rfl
@[simp] theorem exec_rewriteRequest (die : Die) (w : ObjWrite) (s : State) :
    exec (.rewriteRequest die w) s = execRewriteRequest die w s := rfl
@[simp] theorem exec_rewriteStart (vat : Vat) (s : State) : exec (.rewriteStart vat) s = execRewriteStart vat s := rfl
@[simp] theorem exec_wearCountSave (s : State) : exec .wearCountSave s = execWearCountSave s := rfl
@[simp] theorem exec_runLoadRequest (w : ObjWrite) (s : State) : exec (.runLoadRequest w) s = execRunLoadRequest w s := rfl
@[simp] theorem exec_runLoadComplete (s : State) : exec .runLoadComplete s = execRunLoadComplete s := rfl
@[simp] theorem exec_runStartStep (w : ObjWrite) (s : State) : exec (.runStartStep w) s = execRunStartStep w s := rfl
@[simp] theorem exec_barrierDoneRx (f : Flit) (s : State) : exec (.barrierDoneRx f) s = execBarrierDoneRx f s := rfl
@[simp] theorem exec_barrierReleaseRx (f : Flit) (s : State) :
    exec (.barrierReleaseRx f) s = execBarrierReleaseRx f s := rfl
@[simp] theorem exec_barrierIsolatedRx (f : Flit) (s : State) :
    exec (.barrierIsolatedRx f) s = execBarrierIsolatedRx f s := rfl
@[simp] theorem exec_xferRow (core : Core) (machineMode : Bool) (rd rs1 rs2 : Fin 32) (s : State) :
    exec (.xferRow core machineMode rd rs1 rs2) s = execXferRow core machineMode rd rs1 rs2 s := rfl
@[simp] theorem exec_xferWait (core : Core) (rd rs1 : Fin 32) (s : State) :
    exec (.xferWait core rd rs1) s = execXferWait core rd rs1 s := rfl
@[simp] theorem exec_xferComplete (core : Core) (tag : Fin 16) (upset : Upsets) (mesh : MeshErr) (s : State) :
    exec (.xferComplete core tag upset mesh) s = execXferComplete core tag upset mesh s := rfl
@[simp] theorem exec_pourPost (core : Core) (rd rs1 rs2 : Fin 32) (tick : Nat) (s : State) :
    exec (.pourPost core rd rs1 rs2 tick) s = execPourPost core rd rs1 rs2 tick s := rfl
@[simp] theorem exec_pourPatch (core : Core) (rd rs1 rs2 : Fin 32) (tick : Nat) (s : State) :
    exec (.pourPatch core rd rs1 rs2 tick) s = execPourPatch core rd rs1 rs2 tick s := rfl
@[simp] theorem exec_accRd (core : Core) (rs1 rs2 : Fin 32) (s : State) :
    exec (.accRd core rs1 rs2) s = execAccRd core rs1 rs2 s := rfl
@[simp] theorem exec_accWr (core : Core) (rd rs1 rs2 : Fin 32) (s : State) :
    exec (.accWr core rd rs1 rs2) s = execAccWr core rd rs1 rs2 s := rfl
@[simp] theorem exec_taskEnd (core : Core) (rs1 : Fin 32) (tick : Nat) (s : State) :
    exec (.taskEnd core rs1 tick) s = execTaskEnd core rs1 tick s := rfl
@[simp] theorem exec_stepWait (core : Core) (rd : Fin 32) (s : State) :
    exec (.stepWait core rd) s = execStepWait core rd s := rfl
@[simp] theorem exec_vencN8 (core : Core) (vd vs1 : Fin 32) (s : State) :
    exec (.vencN8 core vd vs1) s = execVencN8 core vd vs1 s := rfl
@[simp] theorem exec_vrndN8 (core : Core) (vd vs1 : Fin 32) (s : State) :
    exec (.vrndN8 core vd vs1) s = execVrndN8 core vd vs1 s := rfl
@[simp] theorem exec_vrndW16 (core : Core) (vd vs1 : Fin 32) (s : State) :
    exec (.vrndW16 core vd vs1) s = execVrndW16 core vd vs1 s := rfl
@[simp] theorem exec_valign (core : Core) (vd vs1 rs2 : Fin 32) (s : State) :
    exec (.valign core vd vs1 rs2) s = execValign core vd vs1 rs2 s := rfl
@[simp] theorem exec_illegalCustom (core : Core) (machineMode : Bool) (word : BitVec 32) (s : State) :
    exec (.illegalCustom core machineMode word) s = execIllegalCustom core machineMode word s := rfl
@[simp] theorem exec_coreMoveRequest (die : Die) (w : ObjWrite) (s : State) :
    exec (.coreMoveRequest die w) s = execCoreMoveRequest die w s := rfl
@[simp] theorem exec_taskBuildPourVectors (task : Nat) (lane : Lane) (s : State) :
    exec (.taskBuildPourVectors task lane) s = execTaskBuildPourVectors task lane s := rfl
@[simp] theorem exec_taskRound (task : Nat) (lane : Lane) (s : State) :
    exec (.taskRound task lane) s = execTaskRound task lane s := rfl
@[simp] theorem exec_taskNormActivation (task : Nat) (lane : Lane) (s : State) :
    exec (.taskNormActivation task lane) s = execTaskNormActivation task lane s := rfl
@[simp] theorem exec_taskAttentionCombine (layer : Nat) (lane : Lane) (node : Fin 15) (s : State) :
    exec (.taskAttentionCombine layer lane node) s = execTaskAttentionCombine layer lane node s := rfl
@[simp] theorem exec_taskSample (task : Nat) (lane : Lane) (s : State) :
    exec (.taskSample task lane) s = execTaskSample task lane s := rfl
@[simp] theorem exec_taskRoute (group : Nat) (s : State) : exec (.taskRoute group) s = execTaskRoute group s := rfl
@[simp] theorem exec_taskEmbed (task : Nat) (lane : Lane) (s : State) :
    exec (.taskEmbed task lane) s = execTaskEmbed task lane s := rfl
@[simp] theorem exec_taskRipening (job : Fin 4) (task : Nat) (lane : Lane) (s : State) :
    exec (.taskRipening job task lane) s = execTaskRipening job task lane s := rfl
@[simp] theorem exec_taskTrierCheck (die : Die) (half : Half) (record : Fin 64) (core : Core) (error : List Int) (s : State) :
    exec (.taskTrierCheck die half record core error) s = execTaskTrierCheck die half record core error s := rfl
@[simp] theorem exec_taskTransferStaging (task : Nat) (lane : Lane) (s : State) :
    exec (.taskTransferStaging task lane) s = execTaskTransferStaging task lane s := rfl
@[simp] theorem exec_taskFirmware (die : Die) (half : Half) (s : State) :
    exec (.taskFirmware die half) s = execTaskFirmware die half s := rfl
@[simp] theorem exec_bulkFlitRx (f : Flit) (s : State) : exec (.bulkFlitRx f) s = execBulkFlitRx f s := rfl
@[simp] theorem exec_creditFlitRx (f : Flit) (s : State) : exec (.creditFlitRx f) s = execCreditFlitRx f s := rfl
@[simp] theorem exec_nakRx (f : Flit) (s : State) : exec (.nakRx f) s = execNakRx f s := rfl
@[simp] theorem exec_laneNoticeRx (f : Flit) (s : State) : exec (.laneNoticeRx f) s = execLaneNoticeRx f s := rfl
@[simp] theorem exec_reductionTokenRx (f : Flit) (s : State) :
    exec (.reductionTokenRx f) s = execReductionTokenRx f s := rfl
@[simp] theorem exec_reductionTokenTimeout (lane : LinkLane) (transfer : Nat) (s : State) :
    exec (.reductionTokenTimeout lane transfer) s = execReductionTokenTimeout lane transfer s := rfl
@[simp] theorem exec_tickExchange (tick16 : Nat) (s : State) :
    exec (.tickExchange tick16) s = execTickExchange tick16 s := rfl
@[simp] theorem exec_tickFlitRx (f : Flit) (arrival16 : Nat) (s : State) :
    exec (.tickFlitRx f arrival16) s = execTickFlitRx f arrival16 s := rfl
@[simp] theorem exec_laneTraining (lane : LinkLane) (peerModule : PeerReport) (peerDie : Die) (peerLane : Fin 9) (latency16 : Nat) (s : State) :
    exec (.laneTraining lane peerModule peerDie peerLane latency16) s = execLaneTraining lane peerModule peerDie peerLane latency16 s := rfl
@[simp] theorem exec_laneSignalLoss (lane : LinkLane) (s : State) :
    exec (.laneSignalLoss lane) s = execLaneSignalLoss lane s := rfl
@[simp] theorem exec_laneFail (lane : LinkLane) (s : State) : exec (.laneFail lane) s = execLaneFail lane s := rfl
@[simp] theorem exec_bridgeWireFail (bridge : Fin 10) (s : State) :
    exec (.bridgeWireFail bridge) s = execBridgeWireFail bridge s := rfl
@[simp] theorem exec_attentionWalk (engine : EngineId) (layer : Nat) (lane : Lane) (upset : Upsets) (s : State) :
    exec (.attentionWalk engine layer lane upset) s = execAttentionWalk engine layer lane upset s := rfl
@[simp] theorem exec_admitRequest (f : Frame) (s : State) : exec (.admitRequest f) s = execAdmitRequest f s := rfl
@[simp] theorem exec_cancel (f : Frame) (s : State) : exec (.cancel f) s = execCancel f s := rfl
@[simp] theorem exec_pause (f : Frame) (s : State) : exec (.pause f) s = execPause f s := rfl
@[simp] theorem exec_resume (f : Frame) (s : State) : exec (.resume f) s = execResume f s := rfl
@[simp] theorem exec_idleFrame (f : Frame) (s : State) : exec (.idleFrame f) s = execIdleFrame f s := rfl
@[simp] theorem exec_controlCycleBoundary (s : State) : exec .controlCycleBoundary s = execControlCycleBoundary s := rfl
@[simp] theorem exec_ownerRelease (w : ObjWrite) (s : State) : exec (.ownerRelease w) s = execOwnerRelease w s := rfl
@[simp] theorem exec_bulkPromptTokens (f : Frame) (s : State) :
    exec (.bulkPromptTokens f) s = execBulkPromptTokens f s := rfl
@[simp] theorem exec_bulkMakeSheet (f : Frame) (s : State) : exec (.bulkMakeSheet f) s = execBulkMakeSheet f s := rfl
@[simp] theorem exec_bulkWeightShard (f : Frame) (s : State) : exec (.bulkWeightShard f) s = execBulkWeightShard f s := rfl
@[simp] theorem exec_bulkTestPack (f : Frame) (s : State) : exec (.bulkTestPack f) s = execBulkTestPack f s := rfl
@[simp] theorem exec_bulkCulture (f : Frame) (s : State) : exec (.bulkCulture f) s = execBulkCulture f s := rfl
@[simp] theorem exec_bulkFirmware (f : Frame) (s : State) : exec (.bulkFirmware f) s = execBulkFirmware f s := rfl
@[simp] theorem exec_pauseImageWritten (slot : SeqSlot) (s : State) :
    exec (.pauseImageWritten slot) s = execPauseImageWritten slot s := rfl
@[simp] theorem exec_restoreComplete (slot : SeqSlot) (read : ReadResult) (s : State) :
    exec (.restoreComplete slot read) s = execRestoreComplete slot read s := rfl
@[simp] theorem exec_cellarPageRead (stripe : Nat) (die : Die) (corrected uncorrectable retries : Nat) (s : State) :
    exec (.cellarPageRead stripe die corrected uncorrectable retries) s = execCellarPageRead stripe die corrected uncorrectable retries s := rfl
@[simp] theorem exec_scrubPass (stripe : Nat) (retries corrected : Nat) (read : ReadResult) (s : State) :
    exec (.scrubPass stripe retries corrected read) s = execScrubPass stripe retries corrected read s := rfl
@[simp] theorem exec_cellarRebuild (stripe : Nat) (s : State) :
    exec (.cellarRebuild stripe) s = execCellarRebuild stripe s := rfl
@[simp] theorem exec_cellarSecond (s : State) : exec .cellarSecond s = execCellarSecond s := rfl
@[simp] theorem exec_pauseKeyExtend (w : ObjWrite) (s : State) : exec (.pauseKeyExtend w) s = execPauseKeyExtend w s := rfl
@[simp] theorem exec_wheelLoadRequest (w : ObjWrite) (s : State) :
    exec (.wheelLoadRequest w) s = execWheelLoadRequest w s := rfl
@[simp] theorem exec_shardReceived (shard : Nat) (s : State) :
    exec (.shardReceived shard) s = execShardReceived shard s := rfl
@[simp] theorem exec_shardTimeout (shard : Nat) (s : State) : exec (.shardTimeout shard) s = execShardTimeout shard s := rfl
@[simp] theorem exec_shardRetryWait (shard : Nat) (s : State) :
    exec (.shardRetryWait shard) s = execShardRetryWait shard s := rfl
@[simp] theorem exec_shardDataFlit (f : Flit) (s : State) : exec (.shardDataFlit f) s = execShardDataFlit f s := rfl
@[simp] theorem exec_shardRequestFlit (f : Flit) (s : State) :
    exec (.shardRequestFlit f) s = execShardRequestFlit f s := rfl
@[simp] theorem exec_blockReadVerified (vat : Vat) (s : State) :
    exec (.blockReadVerified vat) s = execBlockReadVerified vat s := rfl
@[simp] theorem exec_wheelUnload (w : ObjWrite) (s : State) : exec (.wheelUnload w) s = execWheelUnload w s := rfl
@[simp] theorem exec_wheelDrainStep (w : ObjWrite) (s : State) : exec (.wheelDrainStep w) s = execWheelDrainStep w s := rfl
@[simp] theorem exec_cultureLoadRequest (w : ObjWrite) (s : State) :
    exec (.cultureLoadRequest w) s = execCultureLoadRequest w s := rfl
@[simp] theorem exec_cultureWriteComplete (place : Fin 512) (verified : Bool) (s : State) :
    exec (.cultureWriteComplete place verified) s = execCultureWriteComplete place verified s := rfl
@[simp] theorem exec_cultureUnload (w : ObjWrite) (s : State) : exec (.cultureUnload w) s = execCultureUnload w s := rfl
@[simp] theorem exec_ripenJobRequest (w : ObjWrite) (s : State) :
    exec (.ripenJobRequest w) s = execRipenJobRequest w s := rfl
@[simp] theorem exec_ripenJobStop (w : ObjWrite) (s : State) : exec (.ripenJobStop w) s = execRipenJobStop w s := rfl
@[simp] theorem exec_ripenPublishStep (w : ObjWrite) (s : State) :
    exec (.ripenPublishStep w) s = execRipenPublishStep w s := rfl
@[simp] theorem exec_ripenUpdate (job : Fin 4) (s : State) : exec (.ripenUpdate job) s = execRipenUpdate job s := rfl
@[simp] theorem exec_ripenPartReady (job : Fin 4) (s : State) :
    exec (.ripenPartReady job) s = execRipenPartReady job s := rfl
@[simp] theorem exec_trierSample (unit : RindUnit) (s : State) : exec (.trierSample unit) s = execTrierSample unit s := rfl
@[simp] theorem exec_trierVerdictTimeout (die : Die) (half : Half) (record : Fin 64) (s : State) :
    exec (.trierVerdictTimeout die half record) s = execTrierVerdictTimeout die half record s := rfl
@[simp] theorem exec_replicaDigestCheck (s : State) : exec .replicaDigestCheck s = execReplicaDigestCheck s := rfl
@[simp] theorem exec_coreTestDue (core : Core) (s : State) : exec (.coreTestDue core) s = execCoreTestDue core s := rfl
@[simp] theorem exec_testOverdue (core : Core) (s : State) : exec (.testOverdue core) s = execTestOverdue core s := rfl
@[simp] theorem exec_coreTestComplete (core : Core) (passed : Bool) (s : State) :
    exec (.coreTestComplete core passed) s = execCoreTestComplete core passed s := rfl
@[simp] theorem exec_vatTest (vat : Vat) (kernel : Nat) (codes : List (BitVec 10)) (recomputed : List Int) (s : State) :
    exec (.vatTest vat kernel codes recomputed) s = execVatTest vat kernel codes recomputed s := rfl
@[simp] theorem exec_routerTest (die : Die) (half : Half) (position : Fin 40) (expected got : List Int) (s : State) :
    exec (.routerTest die half position expected got) s = execRouterTest die half position expected got s := rfl
@[simp] theorem exec_testPackLoadRequest (w : ObjWrite) (s : State) :
    exec (.testPackLoadRequest w) s = execTestPackLoadRequest w s := rfl
@[simp] theorem exec_sramScrub (word : Nat) (found : Option WordErr) (s : State) :
    exec (.sramScrub word found) s = execSramScrub word found s := rfl
@[simp] theorem exec_dramScrub (word : Nat) (found : Option WordErr) (s : State) :
    exec (.dramScrub word found) s = execDramScrub word found s := rfl
@[simp] theorem exec_capLoop (average : Nat) (s : State) : exec (.capLoop average) s = execCapLoop average s := rfl
@[simp] theorem exec_powerMonitorCompare (input : Nat) (rails : List Nat) (s : State) :
    exec (.powerMonitorCompare input rails) s = execPowerMonitorCompare input rails s := rfl
@[simp] theorem exec_estimateWindow (measured : Nat) (s : State) :
    exec (.estimateWindow measured) s = execEstimateWindow measured s := rfl
@[simp] theorem exec_droopTrip (die : Die) (half : Half) (period : Nat) (s : State) :
    exec (.droopTrip die half period) s = execDroopTrip die half period s := rfl
@[simp] theorem exec_droopRecover (die : Die) (half : Half) (s : State) :
    exec (.droopRecover die half) s = execDroopRecover die half s := rfl
@[simp] theorem exec_droopFault (die : Die) (half : Half) (s : State) :
    exec (.droopFault die half) s = execDroopFault die half s := rfl
@[simp] theorem exec_thermalSample (die : Die) (half : Half) (readings : List Int) (s : State) :
    exec (.thermalSample die half readings) s = execThermalSample die half readings s := rfl
@[simp] theorem exec_thermalModel (die : Die) (half : Half) (sensor : Fin 8) (predicted : Int) (s : State) :
    exec (.thermalModel die half sensor predicted) s = execThermalModel die half sensor predicted s := rfl
@[simp] theorem exec_sensorOverride (w : ObjWrite) (s : State) : exec (.sensorOverride w) s = execSensorOverride w s := rfl
@[simp] theorem exec_dieTrip (die : Die) (s : State) : exec (.dieTrip die) s = execDieTrip die s := rfl
@[simp] theorem exec_diePowerCycle (w : ObjWrite) (s : State) : exec (.diePowerCycle w) s = execDiePowerCycle w s := rfl
@[simp] theorem exec_diePowerRestore (die : Die) (s : State) :
    exec (.diePowerRestore die) s = execDiePowerRestore die s := rfl
@[simp] theorem exec_energySave (s : State) : exec .energySave s = execEnergySave s := rfl
@[simp] theorem exec_inletHigh (temp : Int) (s : State) : exec (.inletHigh temp) s = execInletHigh temp s := rfl
@[simp] theorem exec_inletNormal (temp : Int) (s : State) : exec (.inletNormal temp) s = execInletNormal temp s := rfl
@[simp] theorem exec_clockMonitorWindow (die : Die) (count : Nat) (s : State) :
    exec (.clockMonitorWindow die count) s = execClockMonitorWindow die count s := rfl
@[simp] theorem exec_missingEdge (die : Die) (s : State) : exec (.missingEdge die) s = execMissingEdge die s := rfl
@[simp] theorem exec_oscDiscipline (die : Die) (deviation : Int) (s : State) :
    exec (.oscDiscipline die deviation) s = execOscDiscipline die deviation s := rfl
@[simp] theorem exec_holdoverSteer (die : Die) (s : State) : exec (.holdoverSteer die) s = execHoldoverSteer die s := rfl
@[simp] theorem exec_halfClockControl (w : ObjWrite) (s : State) :
    exec (.halfClockControl w) s = execHalfClockControl w s := rfl
@[simp] theorem exec_halfPllLocked (die : Die) (half : Half) (s : State) :
    exec (.halfPllLocked die half) s = execHalfPllLocked die half s := rfl
@[simp] theorem exec_crossingTimeout (x : Crossing) (s : State) :
    exec (.crossingTimeout x) s = execCrossingTimeout x s := rfl
@[simp] theorem exec_halfService (w : ObjWrite) (s : State) : exec (.halfService w) s = execHalfService w s := rfl
@[simp] theorem exec_dictRead (f : Frame) (s : State) : exec (.dictRead f) s = execDictRead f s := rfl
@[simp] theorem exec_dictWrite (f : Frame) (s : State) : exec (.dictWrite f) s = execDictWrite f s := rfl
@[simp] theorem exec_segmentedWriteOpen (f : Frame) (s : State) :
    exec (.segmentedWriteOpen f) s = execSegmentedWriteOpen f s := rfl
@[simp] theorem exec_transferAbort (f : Frame) (s : State) : exec (.transferAbort f) s = execTransferAbort f s := rfl
@[simp] theorem exec_segmentData (f : Frame) (s : State) : exec (.segmentData f) s = execSegmentData f s := rfl
@[simp] theorem exec_segmentAbort (f : Frame) (s : State) : exec (.segmentAbort f) s = execSegmentAbort f s := rfl
@[simp] theorem exec_segmentResend (f : Frame) (s : State) : exec (.segmentResend f) s = execSegmentResend f s := rfl
@[simp] theorem exec_segmentedReadClose (port : Port) (id : BitVec 16) (s : State) :
    exec (.segmentedReadClose port id) s = execSegmentedReadClose port id s := rfl
@[simp] theorem exec_segmentedWriteTimeout (port : Port) (id : BitVec 16) (s : State) :
    exec (.segmentedWriteTimeout port id) s = execSegmentedWriteTimeout port id s := rfl
@[simp] theorem exec_eventClear (w : ObjWrite) (s : State) : exec (.eventClear w) s = execEventClear w s := rfl
@[simp] theorem exec_eventMask (w : ObjWrite) (s : State) : exec (.eventMask w) s = execEventMask w s := rfl
@[simp] theorem exec_configSave (w : ObjWrite) (s : State) : exec (.configSave w) s = execConfigSave w s := rfl
@[simp] theorem exec_configRestoreDefaults (w : ObjWrite) (s : State) :
    exec (.configRestoreDefaults w) s = execConfigRestoreDefaults w s := rfl
@[simp] theorem exec_powerUp (recordValid starterCore : List Bool) (s : State) :
    exec (.powerUp recordValid starterCore) s = execPowerUp recordValid starterCore s := rfl
@[simp] theorem exec_modReset (s : State) : exec .modReset s = execModReset s := rfl
@[simp] theorem exec_carrierRailFault (s : State) : exec .carrierRailFault s = execCarrierRailFault s := rfl
@[simp] theorem exec_inputVoltageStop (s : State) : exec .inputVoltageStop s = execInputVoltageStop s := rfl
@[simp] theorem exec_inputRecover (s : State) : exec .inputRecover s = execInputRecover s := rfl
@[simp] theorem exec_bootAttempt (die : Die) (read : ReadResult) (s : State) :
    exec (.bootAttempt die read) s = execBootAttempt die read s := rfl
@[simp] theorem exec_firmwareLoadRequest (w : ObjWrite) (s : State) :
    exec (.firmwareLoadRequest w) s = execFirmwareLoadRequest w s := rfl
@[simp] theorem exec_coordinatorChoice (s : State) : exec .coordinatorChoice s = execCoordinatorChoice s := rfl
@[simp] theorem exec_handoverStep (w : ObjWrite) (s : State) : exec (.handoverStep w) s = execHandoverStep w s := rfl
@[simp] theorem exec_handoverHeartbeatTimeout (s : State) :
    exec .handoverHeartbeatTimeout s = execHandoverHeartbeatTimeout s := rfl
@[simp] theorem exec_handoverConfirm (s : State) : exec .handoverConfirm s = execHandoverConfirm s := rfl
@[simp] theorem exec_modResetRelease (recordValid starterCore : List Bool) (s : State) :
    exec (.modResetRelease recordValid starterCore) s = execModResetRelease recordValid starterCore s := rfl
@[simp] theorem exec_carrierRailsRestored (recordValid starterCore : List Bool) (s : State) :
    exec (.carrierRailsRestored recordValid starterCore) s = execCarrierRailsRestored recordValid starterCore s := rfl
@[simp] theorem exec_windowFlagRx (die : Die) (reporter : Die) (s : State) :
    exec (.windowFlagRx die reporter) s = execWindowFlagRx die reporter s := rfl
@[simp] theorem exec_starterRestart (die : Die) (s : State) : exec (.starterRestart die) s = execStarterRestart die s := rfl
@[simp] theorem exec_machineModeTrap (die : Die) (half : Half) (s : State) :
    exec (.machineModeTrap die half) s = execMachineModeTrap die half s := rfl

/-- Every command but the five that can break an unchecked limit is performed by `act`, and those by `actOr`. -/
theorem exec_shape (i : Instr) (s : State) : (∃ f, exec i s = act i s f) ∨
    (((∃ w, i = .runStartStep w) ∨ (∃ w, i = .halfClockControl w) ∨ (∃ w, i = .wheelDrainStep w) ∨
      (∃ w, i = .ripenPublishStep w) ∨ (∃ f, i = .dictWrite f)) ∧ ∃ f, exec i s = actOr i s f) := by
  cases i with
  | runStartStep w => exact .inr ⟨.inl ⟨w, rfl⟩, _, exec_runStartStep w s⟩
  | halfClockControl w => exact .inr ⟨.inr (.inl ⟨w, rfl⟩), _, exec_halfClockControl w s⟩
  | wheelDrainStep w => exact .inr ⟨.inr (.inr (.inl ⟨w, rfl⟩)), _, exec_wheelDrainStep w s⟩
  | ripenPublishStep w => exact .inr ⟨.inr (.inr (.inr (.inl ⟨w, rfl⟩))), _, exec_ripenPublishStep w s⟩
  | dictWrite f => exact .inr ⟨.inr (.inr (.inr (.inr ⟨f, rfl⟩))), _, exec_dictWrite f s⟩
  | _ => left; unfold exec; exact ⟨_, rfl⟩

/-- Every command that is a write of one object performs the write, with an effect of its own. -/
theorem exec_write {i : Instr} {w : ObjWrite} {obj : Nat} (s : State) (h : writeOf i = some (w, obj)) : ∃ effect,
    exec i s = act i s (fun c => c.performWrite w obj effect) ∨
      exec i s = actOr i s (fun c => c.performWriteOr w obj effect) := by
  cases i <;> simp only [writeOf, Option.some.injEq, Prod.mk.injEq, reduceCtorEq] at h <;> obtain ⟨rfl, rfl⟩ := h <;>
    unfold exec <;> first | exact ⟨_, .inl rfl⟩ | exact ⟨_, .inr rfl⟩

end Sys2Proof.Machine
end

