-- ==== Sys2Proof/Laws/Maps.lean ====
section
/-! SUPPORT. The laws of keyed data: what is found after a write, what a write leaves alone, and that every operation keeps
the keys rising and the canonical form. -/

namespace Sys2Proof.Machine

variable {α : Type}

@[simp] theorem SMap.find_nil (k : Nat) : SMap.find ([] : SMap α) k = none := rfl

theorem SMap.find_cons (e : Nat × α) (m : SMap α) (k : Nat) :
    SMap.find (e :: m) k = if k = e.1 then some e.2 else SMap.find m k := rfl

@[simp] theorem SMap.find_insert_self (m : SMap α) (k : Nat) (v : α) : SMap.find (SMap.insert m k v) k = some v := by
  induction m with
  | nil => simp [SMap.insert, SMap.find]
  | cons e m ih =>
    simp only [SMap.insert]
    split
    · simp [SMap.find]
    · split
      · simp [SMap.find]
      · rename_i h; simpa [SMap.find, h] using ih

theorem SMap.find_insert_ne (m : SMap α) {k j : Nat} (v : α) (h : j ≠ k) :
    SMap.find (SMap.insert m k v) j = SMap.find m j := by
  induction m with
  | nil => simp [SMap.insert, SMap.find, h]
  | cons e m ih =>
    simp only [SMap.insert]
    split
    · simp [SMap.find, h]
    · split
      · rename_i h'; subst h'; simp [SMap.find, h]
      · simp only [SMap.find, ih]

@[simp] theorem SMap.find_erase_self (m : SMap α) (k : Nat) : SMap.find (SMap.erase m k) k = none := by
  induction m with
  | nil => rfl
  | cons e m ih => simp only [SMap.erase]; split <;> simp_all [SMap.find]

theorem SMap.find_erase_ne (m : SMap α) {k j : Nat} (h : j ≠ k) : SMap.find (SMap.erase m k) j = SMap.find m j := by
  induction m with
  | nil => rfl
  | cons e m ih =>
    simp only [SMap.erase]
    split
    · rename_i h'; subst h'; simpa [SMap.find, h] using ih
    · simp only [SMap.find, ih]

theorem SMap.find_insert (m : SMap α) (k j : Nat) (v : α) :
    SMap.find (SMap.insert m k v) j = if j = k then some v else SMap.find m j := by
  split
  · rename_i h; subst h; simp
  · rename_i h; exact SMap.find_insert_ne m v h

theorem SMap.find_erase (m : SMap α) (k j : Nat) : SMap.find (SMap.erase m k) j = if j = k then none else SMap.find m j := by
  split
  · rename_i h; subst h; simp
  · rename_i h; exact SMap.find_erase_ne m h

theorem SMap.getD_insert (m : SMap α) (k j : Nat) (v d : α) :
    SMap.getD (SMap.insert m k v) j d = if j = k then v else SMap.getD m j d := by
  simp only [SMap.getD, SMap.find_insert]; split <;> rfl

theorem SMap.getD_erase (m : SMap α) (k j : Nat) (d : α) :
    SMap.getD (SMap.erase m k) j d = if j = k then d else SMap.getD m j d := by
  simp only [SMap.getD, SMap.find_erase]; split <;> rfl

/-- A read after a write with `SMap.put`, of the key written and of any other. -/
theorem SMap.getD_put [DecidableEq α] (m : SMap α) (k j : Nat) (v d : α) :
    SMap.getD (SMap.put d m k v) j d = if j = k then v else SMap.getD m j d := by
  unfold SMap.put
  split
  · rename_i h; subst h; exact SMap.getD_erase m k j v
  · exact SMap.getD_insert m k j v d

@[simp] theorem SMap.getD_put_self [DecidableEq α] (m : SMap α) (k : Nat) (v d : α) :
    SMap.getD (SMap.put d m k v) k d = v := by simp [SMap.getD_put]

theorem SMap.find_keep (p : Nat → α → Bool) (m : SMap α) (k : Nat) (hp : ∀ v, p k v = true) :
    SMap.find (SMap.keep p m) k = SMap.find m k := by
  induction m with
  | nil => rfl
  | cons e m ih =>
    simp only [SMap.keep] at ih
    simp only [SMap.keep, List.filter_cons, SMap.find]
    by_cases h : k = e.1
    · subst h; simp [hp, SMap.find]
    · split
      · simp [SMap.find, h, ih]
      · simp [h, ih]

theorem SMap.find_keep_none (p : Nat → α → Bool) (m : SMap α) (k : Nat) (hp : ∀ v, p k v = false) :
    SMap.find (SMap.keep p m) k = none := by
  induction m with
  | nil => rfl
  | cons e m ih =>
    simp only [SMap.keep] at ih
    simp only [SMap.keep, List.filter_cons]
    split
    · rename_i h'
      have : k ≠ e.1 := by rintro rfl; simp [hp] at h'
      simp [SMap.find, this, ih]
    · exact ih

/-! ### Canonical form -/

@[simp] theorem SMap.sorted_nil : SMap.sorted ([] : SMap α) = true := rfl

theorem SMap.sorted_cons (e : Nat × α) (m : SMap α) :
    SMap.sorted (e :: m) = true ↔ (∀ f ∈ m, e.1 < f.1) ∧ SMap.sorted m = true := by
  simp [SMap.sorted]

theorem SMap.mem_insert {m : SMap α} {k : Nat} {v : α} {f : Nat × α} (h : f ∈ SMap.insert m k v) :
    f = (k, v) ∨ f ∈ m := by
  induction m with
  | nil => left; simpa [SMap.insert] using h
  | cons e m ih =>
    simp only [SMap.insert] at h
    split at h
    · simpa using h
    · split at h
      · rcases List.mem_cons.1 h with h | h
        · exact .inl h
        · exact .inr (List.mem_cons_of_mem _ h)
      · rcases List.mem_cons.1 h with h | h
        · exact .inr (h ▸ List.mem_cons_self)
        · rcases ih h with h | h
          · exact .inl h
          · exact .inr (List.mem_cons_of_mem _ h)

theorem SMap.mem_erase {m : SMap α} {k : Nat} {f : Nat × α} (h : f ∈ SMap.erase m k) : f ∈ m := by
  induction m with
  | nil => simp [SMap.erase] at h
  | cons e m ih =>
    simp only [SMap.erase] at h
    split at h
    · exact List.mem_cons_of_mem _ (ih h)
    · rcases List.mem_cons.1 h with h | h
      · exact h ▸ List.mem_cons_self
      · exact List.mem_cons_of_mem _ (ih h)

theorem SMap.sorted_insert {m : SMap α} (k : Nat) (v : α) (h : SMap.sorted m = true) :
    SMap.sorted (SMap.insert m k v) = true := by
  induction m with
  | nil => simp [SMap.insert, SMap.sorted]
  | cons e m ih =>
    have ⟨h1, h2⟩ := (SMap.sorted_cons e m).1 h
    simp only [SMap.insert]
    split
    · rename_i hk
      rw [SMap.sorted_cons]
      refine ⟨fun f hf => ?_, h⟩
      rcases List.mem_cons.1 hf with hf | hf
      · subst hf; exact hk
      · exact Nat.lt_trans hk (h1 f hf)
    · split
      · rename_i hk hk'
        rw [SMap.sorted_cons]
        exact ⟨fun f hf => by simpa [hk'] using h1 f hf, h2⟩
      · rename_i hk hk'
        rw [SMap.sorted_cons]
        refine ⟨fun f hf => ?_, ih h2⟩
        rcases SMap.mem_insert hf with rfl | hf
        · exact by omega
        · exact h1 f hf

theorem SMap.sorted_erase {m : SMap α} (k : Nat) (h : SMap.sorted m = true) : SMap.sorted (SMap.erase m k) = true := by
  induction m with
  | nil => rfl
  | cons e m ih =>
    have ⟨h1, h2⟩ := (SMap.sorted_cons e m).1 h
    simp only [SMap.erase]
    split
    · exact ih h2
    · rw [SMap.sorted_cons]; exact ⟨fun f hf => h1 f (SMap.mem_erase hf), ih h2⟩

theorem SMap.sorted_keep {m : SMap α} (p : Nat → α → Bool) (h : SMap.sorted m = true) :
    SMap.sorted (SMap.keep p m) = true := by
  induction m with
  | nil => rfl
  | cons e m ih =>
    have ⟨h1, h2⟩ := (SMap.sorted_cons e m).1 h
    have ih := ih h2
    simp only [SMap.keep] at ih
    simp only [SMap.keep, List.filter_cons]
    split
    · rw [SMap.sorted_cons]; exact ⟨fun f hf => h1 f (List.mem_filter.1 hf).1, ih⟩
    · exact ih

theorem SMap.wf_iff [DecidableEq α] (d : α) (m : SMap α) :
    SMap.wf d m = true ↔ SMap.sorted m = true ∧ ∀ e ∈ m, e.2 ≠ d := by simp [SMap.wf]

/-- Writing with `SMap.put` keeps the canonical form. -/
theorem SMap.wf_put [DecidableEq α] {d : α} {m : SMap α} (k : Nat) (v : α) (h : SMap.wf d m = true) :
    SMap.wf d (SMap.put d m k v) = true := by
  rw [SMap.wf_iff] at h ⊢
  unfold SMap.put
  split
  · exact ⟨SMap.sorted_erase k h.1, fun e he => h.2 e (SMap.mem_erase he)⟩
  · rename_i hv
    refine ⟨SMap.sorted_insert k v h.1, fun e he => ?_⟩
    rcases SMap.mem_insert he with rfl | he
    · exact hv
    · exact h.2 e he

theorem SMap.wf_keep [DecidableEq α] {d : α} {m : SMap α} (p : Nat → α → Bool) (h : SMap.wf d m = true) :
    SMap.wf d (SMap.keep p m) = true := by
  rw [SMap.wf_iff] at h ⊢
  exact ⟨SMap.sorted_keep p h.1, fun e he => h.2 e (List.mem_filter.1 he).1⟩

/-- Two maps in the canonical form that read alike at every key are equal. -/
theorem SMap.ext_of_wf [DecidableEq α] {d : α} {m n : SMap α} (hm : SMap.wf d m = true) (hn : SMap.wf d n = true)
    (h : ∀ k, SMap.getD m k d = SMap.getD n k d) : m = n := by
  have none_below : ∀ (m : SMap α) (k : Nat), (∀ f ∈ m, k < f.1) → SMap.find m k = none := by
    intro m k
    induction m with
    | nil => intro _; rfl
    | cons e m ih =>
      intro hk
      have : k ≠ e.1 := Nat.ne_of_lt (hk e List.mem_cons_self)
      simp only [SMap.find, this, if_false]
      exact ih (fun f hf => hk f (List.mem_cons_of_mem _ hf))
  induction m generalizing n with
  | nil =>
    cases n with
    | nil => rfl
    | cons e n =>
      have hv := ((SMap.wf_iff d _).1 hn).2 e List.mem_cons_self
      have := h e.1
      simp [SMap.getD, SMap.find] at this
      exact absurd this.symm hv
  | cons e m ih =>
    have ⟨hs, hv⟩ := (SMap.wf_iff d _).1 hm
    have ⟨h1, h2⟩ := (SMap.sorted_cons e m).1 hs
    cases n with
    | nil =>
      have := h e.1
      simp [SMap.getD, SMap.find] at this
      exact absurd this (hv e List.mem_cons_self)
    | cons f n =>
      have ⟨gs, gv⟩ := (SMap.wf_iff d _).1 hn
      have ⟨g1, g2⟩ := (SMap.sorted_cons f n).1 gs
      have key : e.1 = f.1 := by
        rcases Nat.lt_trichotomy e.1 f.1 with hlt | heq | hgt
        · have hz := h e.1
          have hn' := none_below (f :: n) e.1 (fun x hx => by
            rcases List.mem_cons.1 hx with rfl | hx
            · exact hlt
            · exact Nat.lt_trans hlt (g1 x hx))
          simp [SMap.getD, hn', SMap.find_cons] at hz
          exact absurd hz (hv e List.mem_cons_self)
        · exact heq
        · have hz := h f.1
          have hn' := none_below (e :: m) f.1 (fun x hx => by
            rcases List.mem_cons.1 hx with rfl | hx
            · exact hgt
            · exact Nat.lt_trans hgt (h1 x hx))
          simp [SMap.getD, hn', SMap.find_cons] at hz
          exact absurd hz.symm (gv f List.mem_cons_self)
      have val : e.2 = f.2 := by
        have := h e.1
        simpa [SMap.getD, SMap.find_cons, key] using this
      have tail : m = n := by
        refine ih ((SMap.wf_iff d _).2 ⟨h2, fun x hx => hv x (List.mem_cons_of_mem _ hx)⟩)
          ((SMap.wf_iff d _).2 ⟨g2, fun x hx => gv x (List.mem_cons_of_mem _ hx)⟩) (fun k => ?_)
        by_cases hk : k = e.1
        · subst hk
          rw [SMap.getD, SMap.getD, none_below m _ h1, none_below n _ (by rw [key]; exact g1)]
        · have := h k
          have hk' : k ≠ f.1 := key ▸ hk
          simpa [SMap.getD, SMap.find_cons, hk, hk'] using this
      rw [tail, Prod.ext key val]

/-! ### Sorted lists of numbers -/

@[simp] theorem mem_insertNat (k x : Nat) (l : List Nat) : x ∈ insertNat k l ↔ x = k ∨ x ∈ l := by
  induction l with
  | nil => simp [insertNat]
  | cons y l ih =>
    simp only [insertNat]
    split
    · simp
    · split
      · rename_i h; subst h; simp
      · simp [ih]; tauto

@[simp] theorem mem_eraseNat (k x : Nat) (l : List Nat) : x ∈ eraseNat k l ↔ x ∈ l ∧ x ≠ k := by
  simp [eraseNat]

end Sys2Proof.Machine
end

