-- ==== Sys2Proof/Laws/Ops.lean ====
section
/-! SUPPORT. What the shared operations do, said once: performing a command, raising an event, writing an object, reading
and writing memory. -/

namespace Sys2Proof.Machine

/-! ### Performing a command -/

theorem act_of_wf {i : Instr} {s : State} {f : S8 → S8} (h : WellFormed i = true) :
    act i s f = .next { s with chip := f s.chip } := by simp [act, h]

theorem act_of_not_wf {i : Instr} {s : State} {f : S8 → S8} (h : WellFormed i = false) :
    act i s f = .refused .illFormed := by simp [act, h]

/-- If a command is performed, it was well-formed and the queue is as it was. -/
theorem act_next {i : Instr} {s t : State} {f : S8 → S8} (h : act i s f = .next t) :
    WellFormed i = true ∧ t = { s with chip := f s.chip } := by
  unfold act at h
  split at h
  · rename_i hw; exact ⟨hw, by injection h with h; exact h.symm⟩
  · cases h

theorem act_not_fault {i : Instr} {s : State} {f : S8 → S8} {e : Fault} : act i s f ≠ .fault e := by
  unfold act; split <;> simp

theorem actOr_of_ok {i : Instr} {s : State} {f : S8 → Except Fault S8} {c : S8} (h : WellFormed i = true)
    (hf : f s.chip = .ok c) : actOr i s f = .next { s with chip := c } := by simp [actOr, h, hf]

theorem actOr_of_error {i : Instr} {s : State} {f : S8 → Except Fault S8} {e : Fault} (h : WellFormed i = true)
    (hf : f s.chip = .error e) : actOr i s f = .fault e := by simp [actOr, h, hf]

theorem actOr_next {i : Instr} {s t : State} {f : S8 → Except Fault S8} (h : actOr i s f = .next t) :
    WellFormed i = true ∧ ∃ c, f s.chip = .ok c ∧ t = { s with chip := c } := by
  unfold actOr at h
  split at h
  · rename_i hw
    refine ⟨hw, ?_⟩
    cases hf : f s.chip with
    | error e => rw [hf] at h; cases h
    | ok c => rw [hf] at h; exact ⟨c, rfl, by injection h with h; exact h.symm⟩
  · cases h

/-! ### Events -/

@[simp] theorem Dict.raise_zero (d : Dict) (step obj element unit value : Nat) :
    d.raise step obj element 0 unit value = d := by simp [Dict.raise]

/-- Queueing a frame changes the queue, and what an overflow counts, and nothing else. -/
theorem Dict.enqueue_frame (d : Dict) (f : EventFrame) : ∃ counts flags queue dropped logged,
    d.enqueue f = { d with counts := counts, flags := flags, queue := queue, dropped := dropped, logged := logged } := by
  unfold Dict.enqueue Dict.overflow
  simp only []
  split
  · split
    · exact ⟨_, _, _, _, _, rfl⟩
    · split <;> exact ⟨_, _, _, _, _, rfl⟩
  · split <;> exact ⟨_, _, _, _, _, rfl⟩

/-- Raising an event changes the counters, the flags, the queue and the log, and nothing else. -/
theorem Dict.raise_frame (d : Dict) (step obj element amount unit value : Nat) : ∃ counts flags queue dropped logged,
    d.raise step obj element amount unit value =
      { d with counts := counts, flags := flags, queue := queue, dropped := dropped, logged := logged } := by
  unfold Dict.raise
  simp only []
  split
  · exact ⟨_, _, _, _, _, rfl⟩
  · split
    · obtain ⟨c, f, q, p, l, h⟩ := Dict.enqueue_frame { d with
        counts := SMap.put 0 d.counts (objKey obj element) ((SMap.getD d.counts (objKey obj element) 0 + amount) % 2 ^ 32)
        flags := SMap.insert d.flags (objKey obj element) { step := step, unit := unit, value := value }
        logged := { obj := obj, element := element, counter := (SMap.getD d.counts (objKey obj element) 0 + amount) % 2 ^ 32,
                    nonMaskable := nonMaskable.contains obj, mark := { step := step, unit := unit, value := value } } ::
          d.logged }
        { obj := obj, element := element, counter := (SMap.getD d.counts (objKey obj element) 0 + amount) % 2 ^ 32,
          nonMaskable := nonMaskable.contains obj, mark := { step := step, unit := unit, value := value } }
      exact ⟨c, f, q, p, l, h⟩
    · exact ⟨_, _, _, _, _, rfl⟩

@[simp] theorem Dict.raise_settings (d : Dict) (step obj element amount unit value : Nat) :
    (d.raise step obj element amount unit value).settings = d.settings := by
  obtain ⟨_, _, _, _, _, h⟩ := d.raise_frame step obj element amount unit value; rw [h]

@[simp] theorem Dict.raise_blobs (d : Dict) (step obj element amount unit value : Nat) :
    (d.raise step obj element amount unit value).blobs = d.blobs := by
  obtain ⟨_, _, _, _, _, h⟩ := d.raise_frame step obj element amount unit value; rw [h]

@[simp] theorem Dict.raise_pending (d : Dict) (step obj element amount unit value : Nat) :
    (d.raise step obj element amount unit value).pending = d.pending := by
  obtain ⟨_, _, _, _, _, h⟩ := d.raise_frame step obj element amount unit value; rw [h]

@[simp] theorem Dict.raise_masked (d : Dict) (step obj element amount unit value : Nat) :
    (d.raise step obj element amount unit value).masked = d.masked := by
  obtain ⟨_, _, _, _, _, h⟩ := d.raise_frame step obj element amount unit value; rw [h]

@[simp] theorem Dict.raise_saved (d : Dict) (step obj element amount unit value : Nat) :
    (d.raise step obj element amount unit value).saved = d.saved := by
  obtain ⟨_, _, _, _, _, h⟩ := d.raise_frame step obj element amount unit value; rw [h]

@[simp] theorem Dict.raise_configState (d : Dict) (step obj element amount unit value : Nat) :
    (d.raise step obj element amount unit value).configState = d.configState := by
  obtain ⟨_, _, _, _, _, h⟩ := d.raise_frame step obj element amount unit value; rw [h]

@[simp] theorem Dict.raise_transfers (d : Dict) (step obj element amount unit value : Nat) :
    (d.raise step obj element amount unit value).transfers = d.transfers := by
  obtain ⟨_, _, _, _, _, h⟩ := d.raise_frame step obj element amount unit value; rw [h]

@[simp] theorem Dict.raise_nextId (d : Dict) (step obj element amount unit value : Nat) :
    (d.raise step obj element amount unit value).nextId = d.nextId := by
  obtain ⟨_, _, _, _, _, h⟩ := d.raise_frame step obj element amount unit value; rw [h]

@[simp] theorem Dict.raise_get (d : Dict) (step obj element amount unit value o : Nat) :
    (d.raise step obj element amount unit value).get o = d.get o := by simp [Dict.get]

@[simp] theorem Dict.raise_blob (d : Dict) (step obj element amount unit value o : Nat) (b : Bytes) :
    (d.raise step obj element amount unit value).blob o b = d.blob o b := by simp [Dict.blob]

/-! ### Writing an object -/

/-- What an object write does, where it passes every check before the object's own effect. -/
theorem S8.performWrite_arrives {s : S8} {w : ObjWrite} {obj : Nat} {effect : WriteEffect} (h : s.writeArrives w obj) :
    s.performWrite w obj effect =
      (effect s w.value).2.answerWrite w.port w.requestId.toNat obj (effect s w.value).1 w.value.length
        (s.dict.answerValue obj w.value) := by
  obtain ⟨h1, h2, h3, h4, h5⟩ := h
  have h3' : (!s.boot.anyFirmware && decide (normObj obj ≠ Obj.firmwareLoadRequest)) = false := by
    rcases h3 with h3 | h3 <;> simp [h3]
  simp only [S8.performWrite, S8.writeObject, h1, h3', h4, h5]
  simp [Nat.not_le.2 h2]

/-- The same, for a write answered with OK. -/
theorem S8.performWrite_ok {s : S8} {w : ObjWrite} {obj : Nat} {effect : WriteEffect} (h : s.writeArrives w obj)
    (hc : normObj obj ≠ Obj.eventClear) (he : (effect s w.value).1 = statusOk) :
    s.performWrite w obj effect = (effect s w.value).2.writeDone w obj := by
  rw [S8.performWrite_arrives h, he, S8.writeDone, Dict.answerValue, if_neg hc]

/-- A write on the port without ownership. -/
theorem S8.performWrite_notOwner {s : S8} {w : ObjWrite} {obj : Nat} {effect : WriteEffect}
    (h1 : s.portAnswers w.port = true) (h2 : (s.ports.get w.port).answers.length < requestLimit)
    (h3 : s.boot.anyFirmware = true) (h4 : s.ports.owner ≠ w.port) :
    s.performWrite w obj effect = s.answerWrite w.port w.requestId.toNat obj statusNotOwner w.value.length [] := by
  simp [S8.performWrite, S8.writeObject, h1, h3, h4, Nat.not_le.2 h2]

/-- A write whose value the object does not take. -/
theorem S8.performWrite_badValue {s : S8} {w : ObjWrite} {obj : Nat} {effect : WriteEffect}
    (h1 : s.portAnswers w.port = true) (h2 : (s.ports.get w.port).answers.length < requestLimit)
    (h3 : s.boot.anyFirmware = true) (h4 : s.ports.owner = w.port) (h5 : writeCheck obj w.value ≠ statusOk) :
    s.performWrite w obj effect = s.answerWrite w.port w.requestId.toNat obj (writeCheck obj w.value) w.value.length [] := by
  simp [S8.performWrite, S8.writeObject, h1, h3, h4, h5, Nat.not_le.2 h2]

/-- A write on a port that already holds its 32 requests. -/
theorem S8.performWrite_busy {s : S8} {w : ObjWrite} {obj : Nat} {effect : WriteEffect}
    (h1 : s.portAnswers w.port = true) (h2 : requestLimit ≤ (s.ports.get w.port).answers.length) :
    s.performWrite w obj effect = s.answerWrite w.port w.requestId.toNat obj statusBusy w.value.length [] := by
  simp [S8.performWrite, S8.writeObject, h1, h2]

/-! ### Memory -/

theorem SMap.getD_eq {α : Type} (m : SMap α) (k : Nat) (d : α) : SMap.getD m k d = (SMap.find m k).getD d := rfl

/-- A read of another key after a write with `SMap.put`, whatever either reads as when unlisted. -/
theorem SMap.getD_put_ne {α : Type} [DecidableEq α] (m : SMap α) {k j : Nat} (v d e : α) (h : j ≠ k) :
    SMap.getD (SMap.put d m k v) j e = SMap.getD m j e := by
  unfold SMap.put
  split
  · simp [SMap.getD_erase, h]
  · simp [SMap.getD_insert, h]

theorem writeBytes_getD (b : Bytes) : ∀ (m : SMap Byte) (a k : Nat),
    SMap.getD (writeBytes m a b) k (resetByte k) =
      if a ≤ k ∧ k < a + b.length then b.getD (k - a) 0 else SMap.getD m k (resetByte k) := by
  induction b with
  | nil => intro m a k; simp [writeBytes]
  | cons x b ih =>
    intro m a k
    simp only [writeBytes, ih, List.length_cons]
    by_cases h1 : k = a
    · subst h1; simp
    · rw [SMap.getD_put_ne _ _ _ _ h1]
      by_cases h2 : a + 1 ≤ k ∧ k < a + 1 + b.length
      · have h3 : a ≤ k ∧ k < a + (b.length + 1) := by omega
        rw [if_pos h2, if_pos h3]
        have : k - a = (k - (a + 1)) + 1 := by omega
        rw [this]; simp
      · have h3 : ¬ (a ≤ k ∧ k < a + (b.length + 1)) := by omega
        rw [if_neg h2, if_neg h3]

/-- The canonical form, read off: keys strictly rising, and no byte listed that an unlisted one reads as. -/
theorem Mem.wf_iff (m : Mem) : m.wf = true ↔ SMap.sorted m.bytes = true ∧ ∀ e ∈ m.bytes, e.2 ≠ resetByte e.1 := by
  simp [Mem.wf]

theorem writeBytes_wf (b : Bytes) : ∀ (m : SMap Byte) (a : Nat),
    (SMap.sorted m = true ∧ ∀ e ∈ m, e.2 ≠ resetByte e.1) →
      (SMap.sorted (writeBytes m a b) = true ∧ ∀ e ∈ writeBytes m a b, e.2 ≠ resetByte e.1) := by
  induction b with
  | nil => intro m a h; exact h
  | cons x b ih =>
    intro m a h
    refine ih _ _ ?_
    unfold SMap.put
    split
    · exact ⟨SMap.sorted_erase a h.1, fun e he => h.2 e (SMap.mem_erase he)⟩
    · rename_i hv
      refine ⟨SMap.sorted_insert a x h.1, fun e he => ?_⟩
      rcases SMap.mem_insert he with rfl | he
      · exact hv
      · exact h.2 e he

/-- A read of one byte after a write: the byte written where it lies in what was stored, and every other byte as before. -/
theorem Mem.byte_write (m : Mem) (a : Nat) (b : Bytes) (k : Nat) :
    (m.write a b).byte k = if a ≤ k ∧ k < a + b.length then b.getD (k - a) 0 else m.byte k :=
  writeBytes_getD b m.bytes a k

/-- A write keeps memory in its canonical form. -/
@[simp] theorem Mem.wf_write {m : Mem} (a : Nat) (b : Bytes) (h : m.wf = true) : (m.write a b).wf = true :=
  (Mem.wf_iff _).2 (writeBytes_wf b m.bytes a ((Mem.wf_iff m).1 h))

/-- Marking words met on a read leaves the bytes. -/
@[simp] theorem Mem.meet_bytes (m : Mem) (step a : Nat) (corrected bad : List Nat) :
    (m.meet step a corrected bad).bytes = m.bytes := by
  unfold Mem.meet
  split
  · rfl
  · simp only []
    cases placeOf a <;> rfl

@[simp] theorem Mem.byte_meet (m : Mem) (step a k : Nat) (corrected bad : List Nat) :
    (m.meet step a corrected bad).byte k = m.byte k := by simp [Mem.byte]

@[simp] theorem Mem.wf_meet {m : Mem} (step a : Nat) (corrected bad : List Nat) (h : m.wf = true) :
    (m.meet step a corrected bad).wf = true := by simpa [Mem.wf] using h

/-- Clearing a die keeps the canonical form. -/
@[simp] theorem Mem.wf_clearDie {m : Mem} (die : Nat) (h : m.wf = true) : (m.clearDie die).wf = true := by
  have hm := (Mem.wf_iff m).1 h
  exact (Mem.wf_iff _).2 ⟨SMap.sorted_keep (fun a _ => decide (field a 34 3 ≠ die)) hm.1,
    fun e he => hm.2 e (List.mem_filter.1 he).1⟩

/-- Reads of memory whose bytes agree are equal. -/
theorem Mem.read_congr {m n : Mem} {a k : Nat} (h : ∀ i < k, m.byte (a + i) = n.byte (a + i)) : m.read a k = n.read a k := by
  unfold Mem.read
  exact List.map_congr_left (fun i hi => h i (List.mem_range.1 hi))

/-- What was written is read back. -/
@[simp] theorem Mem.read_write (m : Mem) (a : Nat) (b : Bytes) : (m.write a b).read a b.length = b := by
  unfold Mem.read
  apply List.ext_getElem
  · simp
  · intro i h1 h2
    have h3 : i < b.length := h2
    rw [List.getElem_map, List.getElem_range, Mem.byte_write, if_pos (by omega), Nat.add_sub_cancel_left]
    simp [h3]

/-- Bytes made n long are n long. -/
@[simp] theorem padTo_length (n : Nat) (b : Bytes) : (padTo n b).length = n := by
  induction n generalizing b with
  | zero => rfl
  | succ k ih => cases b <;> simp [padTo, ih]

@[simp] theorem bytesAt_length (b : Bytes) (i n : Nat) : (bytesAt b i n).length = n := padTo_length n _

/-- A unit becoming unbacked leaves memory. -/
@[simp] theorem S8.unbackVat_mem (s : S8) (k : Nat) : (s.unbackVat k).mem = s.mem := by
  unfold S8.unbackVat; split <;> rfl

theorem S8.foldl_mem {β : Type} (l : List β) (g : S8 → β → S8) (s : S8) (h : ∀ a x, (g a x).mem = a.mem) :
    (l.foldl g s).mem = s.mem := by
  induction l generalizing s with
  | nil => rfl
  | cons x l ih => simp [ih, h]

/-- Retiring a rind unit leaves memory. -/
@[simp] theorem S8.retireUnit_mem (s : S8) (u : Nat) : (s.retireUnit u).mem = s.mem := by
  unfold S8.retireUnit
  split
  · rfl
  · exact S8.foldl_mem _ _ _ (fun _ _ => S8.unbackVat_mem _ _)

@[simp] theorem S8.retireUnitsOf_mem (s : S8) (a : Nat) (bad : List Nat) : (s.retireUnitsOf a bad).mem = s.mem := by
  unfold S8.retireUnitsOf
  split
  · rfl
  · split
    · split
      · simp
      · rfl
    · rfl

/-- Meeting words on a read changes no byte. -/
@[simp] theorem S8.meetWords_bytes (s : S8) (a n : Nat) (upset : Upsets) : (s.meetWords a n upset).mem.bytes = s.mem.bytes := by
  simp [S8.meetWords]

/-- Between two places of one row of a die's grid the seam is crossed in that row, whichever routers are retired. -/
theorem S8.seamOnWay_of_row (s : S8) (die : Nat) (a b : Nat × Nat) (h : a.1 = b.1) :
    s.seamOnWay die a b = if (a.2 < 5) = (b.2 < 5) then [] else [8 * die + a.1] := by
  simp [S8.seamOnWay, h]

/-- An access on whose way a crossing has isolated itself is not permitted (R452). -/
theorem S8.permits_of_isolated (s : S8) (r : Reach) (write : Bool) (a len k : Nat) (h : k ∈ s.crossingsTo r.half r.unit a)
    (i : k ∈ s.clock.isolated) : s.permits r write a len = false := by
  have n : (s.crossingsTo r.half r.unit a).all (fun k => !(s.clock.isolated.contains k)) = false := by
    simp only [List.all_eq_false]
    exact ⟨k, h, by simp [i]⟩
  unfold S8.permits
  rw [n, Bool.and_false]

end Sys2Proof.Machine
end

