-- ==== Sys2Proof/Laws/State.lean ====
section
/-! SUPPORT. What the named updates of the module leave alone: one lemma for each part of the state they do not touch. -/

namespace Sys2Proof.Machine

@[simp] theorem S8.raise_mem (s : S8) (obj element amount unit value : Nat) : (s.raise obj element amount unit value).mem = s.mem := rfl
@[simp] theorem S8.raise_ports (s : S8) (obj element amount unit value : Nat) :
    (s.raise obj element amount unit value).ports = s.ports := rfl
@[simp] theorem S8.raise_serve (s : S8) (obj element amount unit value : Nat) :
    (s.raise obj element amount unit value).serve = s.serve := rfl
@[simp] theorem S8.raise_run (s : S8) (obj element amount unit value : Nat) : (s.raise obj element amount unit value).run = s.run := rfl
@[simp] theorem S8.raise_vats (s : S8) (obj element amount unit value : Nat) :
    (s.raise obj element amount unit value).vats = s.vats := rfl
@[simp] theorem S8.raise_turn (s : S8) (obj element amount unit value : Nat) :
    (s.raise obj element amount unit value).turn = s.turn := rfl
@[simp] theorem S8.raise_cores (s : S8) (obj element amount unit value : Nat) :
    (s.raise obj element amount unit value).cores = s.cores := rfl
@[simp] theorem S8.raise_fab (s : S8) (obj element amount unit value : Nat) : (s.raise obj element amount unit value).fab = s.fab := rfl
@[simp] theorem S8.raise_attn (s : S8) (obj element amount unit value : Nat) :
    (s.raise obj element amount unit value).attn = s.attn := rfl
@[simp] theorem S8.raise_cellar (s : S8) (obj element amount unit value : Nat) :
    (s.raise obj element amount unit value).cellar = s.cellar := rfl
@[simp] theorem S8.raise_wheels (s : S8) (obj element amount unit value : Nat) :
    (s.raise obj element amount unit value).wheels = s.wheels := rfl
@[simp] theorem S8.raise_cultures (s : S8) (obj element amount unit value : Nat) :
    (s.raise obj element amount unit value).cultures = s.cultures := rfl
@[simp] theorem S8.raise_ripen (s : S8) (obj element amount unit value : Nat) :
    (s.raise obj element amount unit value).ripen = s.ripen := rfl
@[simp] theorem S8.raise_trier (s : S8) (obj element amount unit value : Nat) :
    (s.raise obj element amount unit value).trier = s.trier := rfl
@[simp] theorem S8.raise_power (s : S8) (obj element amount unit value : Nat) :
    (s.raise obj element amount unit value).power = s.power := rfl
@[simp] theorem S8.raise_clock (s : S8) (obj element amount unit value : Nat) :
    (s.raise obj element amount unit value).clock = s.clock := rfl
@[simp] theorem S8.raise_boot (s : S8) (obj element amount unit value : Nat) :
    (s.raise obj element amount unit value).boot = s.boot := rfl
@[simp] theorem S8.raise_free (s : S8) (obj element amount unit value : Nat) :
    (s.raise obj element amount unit value).free = s.free := rfl

@[simp] theorem S8.meshWords_mem (s : S8) (corrected uncorrectable unit : Nat) :
    (s.meshWords corrected uncorrectable unit).mem = s.mem := rfl
@[simp] theorem S8.meshWords_ports (s : S8) (corrected uncorrectable unit : Nat) :
    (s.meshWords corrected uncorrectable unit).ports = s.ports := rfl
@[simp] theorem S8.meshWords_serve (s : S8) (corrected uncorrectable unit : Nat) :
    (s.meshWords corrected uncorrectable unit).serve = s.serve := rfl
@[simp] theorem S8.meshWords_run (s : S8) (corrected uncorrectable unit : Nat) :
    (s.meshWords corrected uncorrectable unit).run = s.run := rfl
@[simp] theorem S8.meshWords_vats (s : S8) (corrected uncorrectable unit : Nat) :
    (s.meshWords corrected uncorrectable unit).vats = s.vats := rfl
@[simp] theorem S8.meshWords_turn (s : S8) (corrected uncorrectable unit : Nat) :
    (s.meshWords corrected uncorrectable unit).turn = s.turn := rfl
@[simp] theorem S8.meshWords_cores (s : S8) (corrected uncorrectable unit : Nat) :
    (s.meshWords corrected uncorrectable unit).cores = s.cores := rfl
@[simp] theorem S8.meshWords_fab (s : S8) (corrected uncorrectable unit : Nat) :
    (s.meshWords corrected uncorrectable unit).fab = s.fab := rfl
@[simp] theorem S8.meshWords_attn (s : S8) (corrected uncorrectable unit : Nat) :
    (s.meshWords corrected uncorrectable unit).attn = s.attn := rfl
@[simp] theorem S8.meshWords_cellar (s : S8) (corrected uncorrectable unit : Nat) :
    (s.meshWords corrected uncorrectable unit).cellar = s.cellar := rfl
@[simp] theorem S8.meshWords_wheels (s : S8) (corrected uncorrectable unit : Nat) :
    (s.meshWords corrected uncorrectable unit).wheels = s.wheels := rfl
@[simp] theorem S8.meshWords_cultures (s : S8) (corrected uncorrectable unit : Nat) :
    (s.meshWords corrected uncorrectable unit).cultures = s.cultures := rfl
@[simp] theorem S8.meshWords_ripen (s : S8) (corrected uncorrectable unit : Nat) :
    (s.meshWords corrected uncorrectable unit).ripen = s.ripen := rfl
@[simp] theorem S8.meshWords_trier (s : S8) (corrected uncorrectable unit : Nat) :
    (s.meshWords corrected uncorrectable unit).trier = s.trier := rfl
@[simp] theorem S8.meshWords_power (s : S8) (corrected uncorrectable unit : Nat) :
    (s.meshWords corrected uncorrectable unit).power = s.power := rfl
@[simp] theorem S8.meshWords_clock (s : S8) (corrected uncorrectable unit : Nat) :
    (s.meshWords corrected uncorrectable unit).clock = s.clock := rfl
@[simp] theorem S8.meshWords_boot (s : S8) (corrected uncorrectable unit : Nat) :
    (s.meshWords corrected uncorrectable unit).boot = s.boot := rfl
@[simp] theorem S8.meshWords_free (s : S8) (corrected uncorrectable unit : Nat) :
    (s.meshWords corrected uncorrectable unit).free = s.free := rfl

@[simp] theorem S8.picked_mem (s : S8) : (s.picked).mem = s.mem := rfl
@[simp] theorem S8.picked_dict (s : S8) : (s.picked).dict = s.dict := rfl
@[simp] theorem S8.picked_ports (s : S8) : (s.picked).ports = s.ports := rfl
@[simp] theorem S8.picked_serve (s : S8) : (s.picked).serve = s.serve := rfl
@[simp] theorem S8.picked_run (s : S8) : (s.picked).run = s.run := rfl
@[simp] theorem S8.picked_vats (s : S8) : (s.picked).vats = s.vats := rfl
@[simp] theorem S8.picked_turn (s : S8) : (s.picked).turn = s.turn := rfl
@[simp] theorem S8.picked_cores (s : S8) : (s.picked).cores = s.cores := rfl
@[simp] theorem S8.picked_fab (s : S8) : (s.picked).fab = s.fab := rfl
@[simp] theorem S8.picked_attn (s : S8) : (s.picked).attn = s.attn := rfl
@[simp] theorem S8.picked_cellar (s : S8) : (s.picked).cellar = s.cellar := rfl
@[simp] theorem S8.picked_wheels (s : S8) : (s.picked).wheels = s.wheels := rfl
@[simp] theorem S8.picked_cultures (s : S8) : (s.picked).cultures = s.cultures := rfl
@[simp] theorem S8.picked_ripen (s : S8) : (s.picked).ripen = s.ripen := rfl
@[simp] theorem S8.picked_trier (s : S8) : (s.picked).trier = s.trier := rfl
@[simp] theorem S8.picked_power (s : S8) : (s.picked).power = s.power := rfl
@[simp] theorem S8.picked_clock (s : S8) : (s.picked).clock = s.clock := rfl
@[simp] theorem S8.picked_boot (s : S8) : (s.picked).boot = s.boot := rfl

@[simp] theorem S8.frameLost_mem (s : S8) : (s.frameLost).mem = s.mem := rfl
@[simp] theorem S8.frameLost_ports (s : S8) : (s.frameLost).ports = s.ports := rfl
@[simp] theorem S8.frameLost_serve (s : S8) : (s.frameLost).serve = s.serve := rfl
@[simp] theorem S8.frameLost_run (s : S8) : (s.frameLost).run = s.run := rfl
@[simp] theorem S8.frameLost_vats (s : S8) : (s.frameLost).vats = s.vats := rfl
@[simp] theorem S8.frameLost_turn (s : S8) : (s.frameLost).turn = s.turn := rfl
@[simp] theorem S8.frameLost_cores (s : S8) : (s.frameLost).cores = s.cores := rfl
@[simp] theorem S8.frameLost_fab (s : S8) : (s.frameLost).fab = s.fab := rfl
@[simp] theorem S8.frameLost_attn (s : S8) : (s.frameLost).attn = s.attn := rfl
@[simp] theorem S8.frameLost_cellar (s : S8) : (s.frameLost).cellar = s.cellar := rfl
@[simp] theorem S8.frameLost_wheels (s : S8) : (s.frameLost).wheels = s.wheels := rfl
@[simp] theorem S8.frameLost_cultures (s : S8) : (s.frameLost).cultures = s.cultures := rfl
@[simp] theorem S8.frameLost_ripen (s : S8) : (s.frameLost).ripen = s.ripen := rfl
@[simp] theorem S8.frameLost_trier (s : S8) : (s.frameLost).trier = s.trier := rfl
@[simp] theorem S8.frameLost_power (s : S8) : (s.frameLost).power = s.power := rfl
@[simp] theorem S8.frameLost_clock (s : S8) : (s.frameLost).clock = s.clock := rfl
@[simp] theorem S8.frameLost_boot (s : S8) : (s.frameLost).boot = s.boot := rfl
@[simp] theorem S8.frameLost_free (s : S8) : (s.frameLost).free = s.free := rfl

@[simp] theorem S8.goodFrame_mem (s : S8) (p : Port) : (s.goodFrame p).mem = s.mem := rfl
@[simp] theorem S8.goodFrame_dict (s : S8) (p : Port) : (s.goodFrame p).dict = s.dict := rfl
@[simp] theorem S8.goodFrame_serve (s : S8) (p : Port) : (s.goodFrame p).serve = s.serve := rfl
@[simp] theorem S8.goodFrame_run (s : S8) (p : Port) : (s.goodFrame p).run = s.run := rfl
@[simp] theorem S8.goodFrame_vats (s : S8) (p : Port) : (s.goodFrame p).vats = s.vats := rfl
@[simp] theorem S8.goodFrame_turn (s : S8) (p : Port) : (s.goodFrame p).turn = s.turn := rfl
@[simp] theorem S8.goodFrame_cores (s : S8) (p : Port) : (s.goodFrame p).cores = s.cores := rfl
@[simp] theorem S8.goodFrame_fab (s : S8) (p : Port) : (s.goodFrame p).fab = s.fab := rfl
@[simp] theorem S8.goodFrame_attn (s : S8) (p : Port) : (s.goodFrame p).attn = s.attn := rfl
@[simp] theorem S8.goodFrame_cellar (s : S8) (p : Port) : (s.goodFrame p).cellar = s.cellar := rfl
@[simp] theorem S8.goodFrame_wheels (s : S8) (p : Port) : (s.goodFrame p).wheels = s.wheels := rfl
@[simp] theorem S8.goodFrame_cultures (s : S8) (p : Port) : (s.goodFrame p).cultures = s.cultures := rfl
@[simp] theorem S8.goodFrame_ripen (s : S8) (p : Port) : (s.goodFrame p).ripen = s.ripen := rfl
@[simp] theorem S8.goodFrame_trier (s : S8) (p : Port) : (s.goodFrame p).trier = s.trier := rfl
@[simp] theorem S8.goodFrame_power (s : S8) (p : Port) : (s.goodFrame p).power = s.power := rfl
@[simp] theorem S8.goodFrame_clock (s : S8) (p : Port) : (s.goodFrame p).clock = s.clock := rfl
@[simp] theorem S8.goodFrame_boot (s : S8) (p : Port) : (s.goodFrame p).boot = s.boot := rfl
@[simp] theorem S8.goodFrame_free (s : S8) (p : Port) : (s.goodFrame p).free = s.free := rfl

@[simp] theorem S8.placeRecord_mem (s : S8) (p : Port) (r : AnswerRecord) : (s.placeRecord p r).mem = s.mem := rfl
@[simp] theorem S8.placeRecord_dict (s : S8) (p : Port) (r : AnswerRecord) : (s.placeRecord p r).dict = s.dict := rfl
@[simp] theorem S8.placeRecord_serve (s : S8) (p : Port) (r : AnswerRecord) : (s.placeRecord p r).serve = s.serve := rfl
@[simp] theorem S8.placeRecord_run (s : S8) (p : Port) (r : AnswerRecord) : (s.placeRecord p r).run = s.run := rfl
@[simp] theorem S8.placeRecord_vats (s : S8) (p : Port) (r : AnswerRecord) : (s.placeRecord p r).vats = s.vats := rfl
@[simp] theorem S8.placeRecord_turn (s : S8) (p : Port) (r : AnswerRecord) : (s.placeRecord p r).turn = s.turn := rfl
@[simp] theorem S8.placeRecord_cores (s : S8) (p : Port) (r : AnswerRecord) : (s.placeRecord p r).cores = s.cores := rfl
@[simp] theorem S8.placeRecord_fab (s : S8) (p : Port) (r : AnswerRecord) : (s.placeRecord p r).fab = s.fab := rfl
@[simp] theorem S8.placeRecord_attn (s : S8) (p : Port) (r : AnswerRecord) : (s.placeRecord p r).attn = s.attn := rfl
@[simp] theorem S8.placeRecord_cellar (s : S8) (p : Port) (r : AnswerRecord) : (s.placeRecord p r).cellar = s.cellar := rfl
@[simp] theorem S8.placeRecord_wheels (s : S8) (p : Port) (r : AnswerRecord) : (s.placeRecord p r).wheels = s.wheels := rfl
@[simp] theorem S8.placeRecord_cultures (s : S8) (p : Port) (r : AnswerRecord) : (s.placeRecord p r).cultures = s.cultures := rfl
@[simp] theorem S8.placeRecord_ripen (s : S8) (p : Port) (r : AnswerRecord) : (s.placeRecord p r).ripen = s.ripen := rfl
@[simp] theorem S8.placeRecord_trier (s : S8) (p : Port) (r : AnswerRecord) : (s.placeRecord p r).trier = s.trier := rfl
@[simp] theorem S8.placeRecord_power (s : S8) (p : Port) (r : AnswerRecord) : (s.placeRecord p r).power = s.power := rfl
@[simp] theorem S8.placeRecord_clock (s : S8) (p : Port) (r : AnswerRecord) : (s.placeRecord p r).clock = s.clock := rfl
@[simp] theorem S8.placeRecord_boot (s : S8) (p : Port) (r : AnswerRecord) : (s.placeRecord p r).boot = s.boot := rfl
@[simp] theorem S8.placeRecord_free (s : S8) (p : Port) (r : AnswerRecord) : (s.placeRecord p r).free = s.free := rfl

@[simp] theorem S8.answerRecord_mem (s : S8) (p : Port) (r : AnswerRecord) : (s.answerRecord p r).mem = s.mem := rfl
@[simp] theorem S8.answerRecord_serve (s : S8) (p : Port) (r : AnswerRecord) : (s.answerRecord p r).serve = s.serve := rfl
@[simp] theorem S8.answerRecord_run (s : S8) (p : Port) (r : AnswerRecord) : (s.answerRecord p r).run = s.run := rfl
@[simp] theorem S8.answerRecord_vats (s : S8) (p : Port) (r : AnswerRecord) : (s.answerRecord p r).vats = s.vats := rfl
@[simp] theorem S8.answerRecord_turn (s : S8) (p : Port) (r : AnswerRecord) : (s.answerRecord p r).turn = s.turn := rfl
@[simp] theorem S8.answerRecord_cores (s : S8) (p : Port) (r : AnswerRecord) : (s.answerRecord p r).cores = s.cores := rfl
@[simp] theorem S8.answerRecord_fab (s : S8) (p : Port) (r : AnswerRecord) : (s.answerRecord p r).fab = s.fab := rfl
@[simp] theorem S8.answerRecord_attn (s : S8) (p : Port) (r : AnswerRecord) : (s.answerRecord p r).attn = s.attn := rfl
@[simp] theorem S8.answerRecord_cellar (s : S8) (p : Port) (r : AnswerRecord) : (s.answerRecord p r).cellar = s.cellar := rfl
@[simp] theorem S8.answerRecord_wheels (s : S8) (p : Port) (r : AnswerRecord) : (s.answerRecord p r).wheels = s.wheels := rfl
@[simp] theorem S8.answerRecord_cultures (s : S8) (p : Port) (r : AnswerRecord) : (s.answerRecord p r).cultures = s.cultures := rfl
@[simp] theorem S8.answerRecord_ripen (s : S8) (p : Port) (r : AnswerRecord) : (s.answerRecord p r).ripen = s.ripen := rfl
@[simp] theorem S8.answerRecord_trier (s : S8) (p : Port) (r : AnswerRecord) : (s.answerRecord p r).trier = s.trier := rfl
@[simp] theorem S8.answerRecord_power (s : S8) (p : Port) (r : AnswerRecord) : (s.answerRecord p r).power = s.power := rfl
@[simp] theorem S8.answerRecord_clock (s : S8) (p : Port) (r : AnswerRecord) : (s.answerRecord p r).clock = s.clock := rfl
@[simp] theorem S8.answerRecord_boot (s : S8) (p : Port) (r : AnswerRecord) : (s.answerRecord p r).boot = s.boot := rfl
@[simp] theorem S8.answerRecord_free (s : S8) (p : Port) (r : AnswerRecord) : (s.answerRecord p r).free = s.free := rfl

@[simp] theorem S8.answer_mem (s : S8) (p : Port) (u : UpFrame) : (s.answer p u).mem = s.mem := rfl
@[simp] theorem S8.answer_dict (s : S8) (p : Port) (u : UpFrame) : (s.answer p u).dict = s.dict := rfl
@[simp] theorem S8.answer_serve (s : S8) (p : Port) (u : UpFrame) : (s.answer p u).serve = s.serve := rfl
@[simp] theorem S8.answer_run (s : S8) (p : Port) (u : UpFrame) : (s.answer p u).run = s.run := rfl
@[simp] theorem S8.answer_vats (s : S8) (p : Port) (u : UpFrame) : (s.answer p u).vats = s.vats := rfl
@[simp] theorem S8.answer_turn (s : S8) (p : Port) (u : UpFrame) : (s.answer p u).turn = s.turn := rfl
@[simp] theorem S8.answer_cores (s : S8) (p : Port) (u : UpFrame) : (s.answer p u).cores = s.cores := rfl
@[simp] theorem S8.answer_fab (s : S8) (p : Port) (u : UpFrame) : (s.answer p u).fab = s.fab := rfl
@[simp] theorem S8.answer_attn (s : S8) (p : Port) (u : UpFrame) : (s.answer p u).attn = s.attn := rfl
@[simp] theorem S8.answer_cellar (s : S8) (p : Port) (u : UpFrame) : (s.answer p u).cellar = s.cellar := rfl
@[simp] theorem S8.answer_wheels (s : S8) (p : Port) (u : UpFrame) : (s.answer p u).wheels = s.wheels := rfl
@[simp] theorem S8.answer_cultures (s : S8) (p : Port) (u : UpFrame) : (s.answer p u).cultures = s.cultures := rfl
@[simp] theorem S8.answer_ripen (s : S8) (p : Port) (u : UpFrame) : (s.answer p u).ripen = s.ripen := rfl
@[simp] theorem S8.answer_trier (s : S8) (p : Port) (u : UpFrame) : (s.answer p u).trier = s.trier := rfl
@[simp] theorem S8.answer_power (s : S8) (p : Port) (u : UpFrame) : (s.answer p u).power = s.power := rfl
@[simp] theorem S8.answer_clock (s : S8) (p : Port) (u : UpFrame) : (s.answer p u).clock = s.clock := rfl
@[simp] theorem S8.answer_boot (s : S8) (p : Port) (u : UpFrame) : (s.answer p u).boot = s.boot := rfl
@[simp] theorem S8.answer_free (s : S8) (p : Port) (u : UpFrame) : (s.answer p u).free = s.free := rfl

@[simp] theorem S8.answerWrite_mem (s : S8) (p : Port) (requestId obj status length : Nat) (value : Bytes) :
    (s.answerWrite p requestId obj status length value).mem = s.mem := rfl
@[simp] theorem S8.answerWrite_dict (s : S8) (p : Port) (requestId obj status length : Nat) (value : Bytes) :
    (s.answerWrite p requestId obj status length value).dict = s.dict := rfl
@[simp] theorem S8.answerWrite_serve (s : S8) (p : Port) (requestId obj status length : Nat) (value : Bytes) :
    (s.answerWrite p requestId obj status length value).serve = s.serve := rfl
@[simp] theorem S8.answerWrite_run (s : S8) (p : Port) (requestId obj status length : Nat) (value : Bytes) :
    (s.answerWrite p requestId obj status length value).run = s.run := rfl
@[simp] theorem S8.answerWrite_vats (s : S8) (p : Port) (requestId obj status length : Nat) (value : Bytes) :
    (s.answerWrite p requestId obj status length value).vats = s.vats := rfl
@[simp] theorem S8.answerWrite_turn (s : S8) (p : Port) (requestId obj status length : Nat) (value : Bytes) :
    (s.answerWrite p requestId obj status length value).turn = s.turn := rfl
@[simp] theorem S8.answerWrite_cores (s : S8) (p : Port) (requestId obj status length : Nat) (value : Bytes) :
    (s.answerWrite p requestId obj status length value).cores = s.cores := rfl
@[simp] theorem S8.answerWrite_fab (s : S8) (p : Port) (requestId obj status length : Nat) (value : Bytes) :
    (s.answerWrite p requestId obj status length value).fab = s.fab := rfl
@[simp] theorem S8.answerWrite_attn (s : S8) (p : Port) (requestId obj status length : Nat) (value : Bytes) :
    (s.answerWrite p requestId obj status length value).attn = s.attn := rfl
@[simp] theorem S8.answerWrite_cellar (s : S8) (p : Port) (requestId obj status length : Nat) (value : Bytes) :
    (s.answerWrite p requestId obj status length value).cellar = s.cellar := rfl
@[simp] theorem S8.answerWrite_wheels (s : S8) (p : Port) (requestId obj status length : Nat) (value : Bytes) :
    (s.answerWrite p requestId obj status length value).wheels = s.wheels := rfl
@[simp] theorem S8.answerWrite_cultures (s : S8) (p : Port) (requestId obj status length : Nat) (value : Bytes) :
    (s.answerWrite p requestId obj status length value).cultures = s.cultures := rfl
@[simp] theorem S8.answerWrite_ripen (s : S8) (p : Port) (requestId obj status length : Nat) (value : Bytes) :
    (s.answerWrite p requestId obj status length value).ripen = s.ripen := rfl
@[simp] theorem S8.answerWrite_trier (s : S8) (p : Port) (requestId obj status length : Nat) (value : Bytes) :
    (s.answerWrite p requestId obj status length value).trier = s.trier := rfl
@[simp] theorem S8.answerWrite_power (s : S8) (p : Port) (requestId obj status length : Nat) (value : Bytes) :
    (s.answerWrite p requestId obj status length value).power = s.power := rfl
@[simp] theorem S8.answerWrite_clock (s : S8) (p : Port) (requestId obj status length : Nat) (value : Bytes) :
    (s.answerWrite p requestId obj status length value).clock = s.clock := rfl
@[simp] theorem S8.answerWrite_boot (s : S8) (p : Port) (requestId obj status length : Nat) (value : Bytes) :
    (s.answerWrite p requestId obj status length value).boot = s.boot := rfl
@[simp] theorem S8.answerWrite_free (s : S8) (p : Port) (requestId obj status length : Nat) (value : Bytes) :
    (s.answerWrite p requestId obj status length value).free = s.free := rfl

@[simp] theorem S8.queueSegments_mem (s : S8) (p : Port) (id : Nat) (frames : List UpFrame) :
    (s.queueSegments p id frames).mem = s.mem := rfl
@[simp] theorem S8.queueSegments_dict (s : S8) (p : Port) (id : Nat) (frames : List UpFrame) :
    (s.queueSegments p id frames).dict = s.dict := rfl
@[simp] theorem S8.queueSegments_serve (s : S8) (p : Port) (id : Nat) (frames : List UpFrame) :
    (s.queueSegments p id frames).serve = s.serve := rfl
@[simp] theorem S8.queueSegments_run (s : S8) (p : Port) (id : Nat) (frames : List UpFrame) :
    (s.queueSegments p id frames).run = s.run := rfl
@[simp] theorem S8.queueSegments_vats (s : S8) (p : Port) (id : Nat) (frames : List UpFrame) :
    (s.queueSegments p id frames).vats = s.vats := rfl
@[simp] theorem S8.queueSegments_turn (s : S8) (p : Port) (id : Nat) (frames : List UpFrame) :
    (s.queueSegments p id frames).turn = s.turn := rfl
@[simp] theorem S8.queueSegments_cores (s : S8) (p : Port) (id : Nat) (frames : List UpFrame) :
    (s.queueSegments p id frames).cores = s.cores := rfl
@[simp] theorem S8.queueSegments_fab (s : S8) (p : Port) (id : Nat) (frames : List UpFrame) :
    (s.queueSegments p id frames).fab = s.fab := rfl
@[simp] theorem S8.queueSegments_attn (s : S8) (p : Port) (id : Nat) (frames : List UpFrame) :
    (s.queueSegments p id frames).attn = s.attn := rfl
@[simp] theorem S8.queueSegments_cellar (s : S8) (p : Port) (id : Nat) (frames : List UpFrame) :
    (s.queueSegments p id frames).cellar = s.cellar := rfl
@[simp] theorem S8.queueSegments_wheels (s : S8) (p : Port) (id : Nat) (frames : List UpFrame) :
    (s.queueSegments p id frames).wheels = s.wheels := rfl
@[simp] theorem S8.queueSegments_cultures (s : S8) (p : Port) (id : Nat) (frames : List UpFrame) :
    (s.queueSegments p id frames).cultures = s.cultures := rfl
@[simp] theorem S8.queueSegments_ripen (s : S8) (p : Port) (id : Nat) (frames : List UpFrame) :
    (s.queueSegments p id frames).ripen = s.ripen := rfl
@[simp] theorem S8.queueSegments_trier (s : S8) (p : Port) (id : Nat) (frames : List UpFrame) :
    (s.queueSegments p id frames).trier = s.trier := rfl
@[simp] theorem S8.queueSegments_power (s : S8) (p : Port) (id : Nat) (frames : List UpFrame) :
    (s.queueSegments p id frames).power = s.power := rfl
@[simp] theorem S8.queueSegments_clock (s : S8) (p : Port) (id : Nat) (frames : List UpFrame) :
    (s.queueSegments p id frames).clock = s.clock := rfl
@[simp] theorem S8.queueSegments_boot (s : S8) (p : Port) (id : Nat) (frames : List UpFrame) :
    (s.queueSegments p id frames).boot = s.boot := rfl
@[simp] theorem S8.queueSegments_free (s : S8) (p : Port) (id : Nat) (frames : List UpFrame) :
    (s.queueSegments p id frames).free = s.free := rfl

@[simp] theorem S8.makeCandidate_mem (s : S8) (k : Nat) : (s.makeCandidate k).mem = s.mem := rfl
@[simp] theorem S8.makeCandidate_dict (s : S8) (k : Nat) : (s.makeCandidate k).dict = s.dict := rfl
@[simp] theorem S8.makeCandidate_ports (s : S8) (k : Nat) : (s.makeCandidate k).ports = s.ports := rfl
@[simp] theorem S8.makeCandidate_serve (s : S8) (k : Nat) : (s.makeCandidate k).serve = s.serve := rfl
@[simp] theorem S8.makeCandidate_run (s : S8) (k : Nat) : (s.makeCandidate k).run = s.run := rfl
@[simp] theorem S8.makeCandidate_vats (s : S8) (k : Nat) : (s.makeCandidate k).vats = s.vats := rfl
@[simp] theorem S8.makeCandidate_cores (s : S8) (k : Nat) : (s.makeCandidate k).cores = s.cores := rfl
@[simp] theorem S8.makeCandidate_fab (s : S8) (k : Nat) : (s.makeCandidate k).fab = s.fab := rfl
@[simp] theorem S8.makeCandidate_attn (s : S8) (k : Nat) : (s.makeCandidate k).attn = s.attn := rfl
@[simp] theorem S8.makeCandidate_cellar (s : S8) (k : Nat) : (s.makeCandidate k).cellar = s.cellar := rfl
@[simp] theorem S8.makeCandidate_wheels (s : S8) (k : Nat) : (s.makeCandidate k).wheels = s.wheels := rfl
@[simp] theorem S8.makeCandidate_cultures (s : S8) (k : Nat) : (s.makeCandidate k).cultures = s.cultures := rfl
@[simp] theorem S8.makeCandidate_ripen (s : S8) (k : Nat) : (s.makeCandidate k).ripen = s.ripen := rfl
@[simp] theorem S8.makeCandidate_trier (s : S8) (k : Nat) : (s.makeCandidate k).trier = s.trier := rfl
@[simp] theorem S8.makeCandidate_power (s : S8) (k : Nat) : (s.makeCandidate k).power = s.power := rfl
@[simp] theorem S8.makeCandidate_clock (s : S8) (k : Nat) : (s.makeCandidate k).clock = s.clock := rfl
@[simp] theorem S8.makeCandidate_boot (s : S8) (k : Nat) : (s.makeCandidate k).boot = s.boot := rfl
@[simp] theorem S8.makeCandidate_free (s : S8) (k : Nat) : (s.makeCandidate k).free = s.free := rfl

@[simp] theorem S8.programme_dict (s : S8) (k : Nat) (content : Nat × Nat) : (s.programme k content).dict = s.dict := rfl
@[simp] theorem S8.programme_ports (s : S8) (k : Nat) (content : Nat × Nat) : (s.programme k content).ports = s.ports := rfl
@[simp] theorem S8.programme_serve (s : S8) (k : Nat) (content : Nat × Nat) : (s.programme k content).serve = s.serve := rfl
@[simp] theorem S8.programme_run (s : S8) (k : Nat) (content : Nat × Nat) : (s.programme k content).run = s.run := rfl
@[simp] theorem S8.programme_vats (s : S8) (k : Nat) (content : Nat × Nat) : (s.programme k content).vats = s.vats := rfl
@[simp] theorem S8.programme_cores (s : S8) (k : Nat) (content : Nat × Nat) : (s.programme k content).cores = s.cores := rfl
@[simp] theorem S8.programme_fab (s : S8) (k : Nat) (content : Nat × Nat) : (s.programme k content).fab = s.fab := rfl
@[simp] theorem S8.programme_attn (s : S8) (k : Nat) (content : Nat × Nat) : (s.programme k content).attn = s.attn := rfl
@[simp] theorem S8.programme_cellar (s : S8) (k : Nat) (content : Nat × Nat) : (s.programme k content).cellar = s.cellar := rfl
@[simp] theorem S8.programme_cultures (s : S8) (k : Nat) (content : Nat × Nat) : (s.programme k content).cultures = s.cultures := rfl
@[simp] theorem S8.programme_ripen (s : S8) (k : Nat) (content : Nat × Nat) : (s.programme k content).ripen = s.ripen := rfl
@[simp] theorem S8.programme_power (s : S8) (k : Nat) (content : Nat × Nat) : (s.programme k content).power = s.power := rfl
@[simp] theorem S8.programme_clock (s : S8) (k : Nat) (content : Nat × Nat) : (s.programme k content).clock = s.clock := rfl
@[simp] theorem S8.programme_boot (s : S8) (k : Nat) (content : Nat × Nat) : (s.programme k content).boot = s.boot := rfl
@[simp] theorem S8.programme_free (s : S8) (k : Nat) (content : Nat × Nat) : (s.programme k content).free = s.free := rfl

@[simp] theorem S8.releaseSpare_dict (s : S8) (k : Nat) : (s.releaseSpare k).dict = s.dict := rfl
@[simp] theorem S8.releaseSpare_ports (s : S8) (k : Nat) : (s.releaseSpare k).ports = s.ports := rfl
@[simp] theorem S8.releaseSpare_serve (s : S8) (k : Nat) : (s.releaseSpare k).serve = s.serve := rfl
@[simp] theorem S8.releaseSpare_run (s : S8) (k : Nat) : (s.releaseSpare k).run = s.run := rfl
@[simp] theorem S8.releaseSpare_vats (s : S8) (k : Nat) : (s.releaseSpare k).vats = s.vats := rfl
@[simp] theorem S8.releaseSpare_cores (s : S8) (k : Nat) : (s.releaseSpare k).cores = s.cores := rfl
@[simp] theorem S8.releaseSpare_fab (s : S8) (k : Nat) : (s.releaseSpare k).fab = s.fab := rfl
@[simp] theorem S8.releaseSpare_attn (s : S8) (k : Nat) : (s.releaseSpare k).attn = s.attn := rfl
@[simp] theorem S8.releaseSpare_cellar (s : S8) (k : Nat) : (s.releaseSpare k).cellar = s.cellar := rfl
@[simp] theorem S8.releaseSpare_cultures (s : S8) (k : Nat) : (s.releaseSpare k).cultures = s.cultures := rfl
@[simp] theorem S8.releaseSpare_ripen (s : S8) (k : Nat) : (s.releaseSpare k).ripen = s.ripen := rfl
@[simp] theorem S8.releaseSpare_trier (s : S8) (k : Nat) : (s.releaseSpare k).trier = s.trier := rfl
@[simp] theorem S8.releaseSpare_power (s : S8) (k : Nat) : (s.releaseSpare k).power = s.power := rfl
@[simp] theorem S8.releaseSpare_clock (s : S8) (k : Nat) : (s.releaseSpare k).clock = s.clock := rfl
@[simp] theorem S8.releaseSpare_boot (s : S8) (k : Nat) : (s.releaseSpare k).boot = s.boot := rfl
@[simp] theorem S8.releaseSpare_free (s : S8) (k : Nat) : (s.releaseSpare k).free = s.free := rfl

@[simp] theorem S8.retireVat_dict (s : S8) (k : Nat) : (s.retireVat k).dict = s.dict := rfl
@[simp] theorem S8.retireVat_ports (s : S8) (k : Nat) : (s.retireVat k).ports = s.ports := rfl
@[simp] theorem S8.retireVat_serve (s : S8) (k : Nat) : (s.retireVat k).serve = s.serve := rfl
@[simp] theorem S8.retireVat_run (s : S8) (k : Nat) : (s.retireVat k).run = s.run := rfl
@[simp] theorem S8.retireVat_cores (s : S8) (k : Nat) : (s.retireVat k).cores = s.cores := rfl
@[simp] theorem S8.retireVat_fab (s : S8) (k : Nat) : (s.retireVat k).fab = s.fab := rfl
@[simp] theorem S8.retireVat_attn (s : S8) (k : Nat) : (s.retireVat k).attn = s.attn := rfl
@[simp] theorem S8.retireVat_cellar (s : S8) (k : Nat) : (s.retireVat k).cellar = s.cellar := rfl
@[simp] theorem S8.retireVat_wheels (s : S8) (k : Nat) : (s.retireVat k).wheels = s.wheels := rfl
@[simp] theorem S8.retireVat_cultures (s : S8) (k : Nat) : (s.retireVat k).cultures = s.cultures := rfl
@[simp] theorem S8.retireVat_ripen (s : S8) (k : Nat) : (s.retireVat k).ripen = s.ripen := rfl
@[simp] theorem S8.retireVat_trier (s : S8) (k : Nat) : (s.retireVat k).trier = s.trier := rfl
@[simp] theorem S8.retireVat_power (s : S8) (k : Nat) : (s.retireVat k).power = s.power := rfl
@[simp] theorem S8.retireVat_clock (s : S8) (k : Nat) : (s.retireVat k).clock = s.clock := rfl
@[simp] theorem S8.retireVat_boot (s : S8) (k : Nat) : (s.retireVat k).boot = s.boot := rfl
@[simp] theorem S8.retireVat_free (s : S8) (k : Nat) : (s.retireVat k).free = s.free := rfl

@[simp] theorem S8.writePages_mem (s : S8) (pages : Nat) : (s.writePages pages).mem = s.mem := rfl
@[simp] theorem S8.writePages_dict (s : S8) (pages : Nat) : (s.writePages pages).dict = s.dict := rfl
@[simp] theorem S8.writePages_ports (s : S8) (pages : Nat) : (s.writePages pages).ports = s.ports := rfl
@[simp] theorem S8.writePages_serve (s : S8) (pages : Nat) : (s.writePages pages).serve = s.serve := rfl
@[simp] theorem S8.writePages_run (s : S8) (pages : Nat) : (s.writePages pages).run = s.run := rfl
@[simp] theorem S8.writePages_vats (s : S8) (pages : Nat) : (s.writePages pages).vats = s.vats := rfl
@[simp] theorem S8.writePages_turn (s : S8) (pages : Nat) : (s.writePages pages).turn = s.turn := rfl
@[simp] theorem S8.writePages_cores (s : S8) (pages : Nat) : (s.writePages pages).cores = s.cores := rfl
@[simp] theorem S8.writePages_fab (s : S8) (pages : Nat) : (s.writePages pages).fab = s.fab := rfl
@[simp] theorem S8.writePages_attn (s : S8) (pages : Nat) : (s.writePages pages).attn = s.attn := rfl
@[simp] theorem S8.writePages_wheels (s : S8) (pages : Nat) : (s.writePages pages).wheels = s.wheels := rfl
@[simp] theorem S8.writePages_cultures (s : S8) (pages : Nat) : (s.writePages pages).cultures = s.cultures := rfl
@[simp] theorem S8.writePages_ripen (s : S8) (pages : Nat) : (s.writePages pages).ripen = s.ripen := rfl
@[simp] theorem S8.writePages_trier (s : S8) (pages : Nat) : (s.writePages pages).trier = s.trier := rfl
@[simp] theorem S8.writePages_power (s : S8) (pages : Nat) : (s.writePages pages).power = s.power := rfl
@[simp] theorem S8.writePages_clock (s : S8) (pages : Nat) : (s.writePages pages).clock = s.clock := rfl
@[simp] theorem S8.writePages_boot (s : S8) (pages : Nat) : (s.writePages pages).boot = s.boot := rfl
@[simp] theorem S8.writePages_free (s : S8) (pages : Nat) : (s.writePages pages).free = s.free := rfl

@[simp] theorem S8.writeCellar_mem (s : S8) (bytes : Nat) : (s.writeCellar bytes).mem = s.mem := rfl
@[simp] theorem S8.writeCellar_dict (s : S8) (bytes : Nat) : (s.writeCellar bytes).dict = s.dict := rfl
@[simp] theorem S8.writeCellar_ports (s : S8) (bytes : Nat) : (s.writeCellar bytes).ports = s.ports := rfl
@[simp] theorem S8.writeCellar_serve (s : S8) (bytes : Nat) : (s.writeCellar bytes).serve = s.serve := rfl
@[simp] theorem S8.writeCellar_run (s : S8) (bytes : Nat) : (s.writeCellar bytes).run = s.run := rfl
@[simp] theorem S8.writeCellar_vats (s : S8) (bytes : Nat) : (s.writeCellar bytes).vats = s.vats := rfl
@[simp] theorem S8.writeCellar_turn (s : S8) (bytes : Nat) : (s.writeCellar bytes).turn = s.turn := rfl
@[simp] theorem S8.writeCellar_cores (s : S8) (bytes : Nat) : (s.writeCellar bytes).cores = s.cores := rfl
@[simp] theorem S8.writeCellar_fab (s : S8) (bytes : Nat) : (s.writeCellar bytes).fab = s.fab := rfl
@[simp] theorem S8.writeCellar_attn (s : S8) (bytes : Nat) : (s.writeCellar bytes).attn = s.attn := rfl
@[simp] theorem S8.writeCellar_wheels (s : S8) (bytes : Nat) : (s.writeCellar bytes).wheels = s.wheels := rfl
@[simp] theorem S8.writeCellar_cultures (s : S8) (bytes : Nat) : (s.writeCellar bytes).cultures = s.cultures := rfl
@[simp] theorem S8.writeCellar_ripen (s : S8) (bytes : Nat) : (s.writeCellar bytes).ripen = s.ripen := rfl
@[simp] theorem S8.writeCellar_trier (s : S8) (bytes : Nat) : (s.writeCellar bytes).trier = s.trier := rfl
@[simp] theorem S8.writeCellar_power (s : S8) (bytes : Nat) : (s.writeCellar bytes).power = s.power := rfl
@[simp] theorem S8.writeCellar_clock (s : S8) (bytes : Nat) : (s.writeCellar bytes).clock = s.clock := rfl
@[simp] theorem S8.writeCellar_boot (s : S8) (bytes : Nat) : (s.writeCellar bytes).boot = s.boot := rfl
@[simp] theorem S8.writeCellar_free (s : S8) (bytes : Nat) : (s.writeCellar bytes).free = s.free := rfl

@[simp] theorem S8.rewriteStripe_mem (s : S8) (stripe : Nat) : (s.rewriteStripe stripe).mem = s.mem := rfl
@[simp] theorem S8.rewriteStripe_dict (s : S8) (stripe : Nat) : (s.rewriteStripe stripe).dict = s.dict := rfl
@[simp] theorem S8.rewriteStripe_ports (s : S8) (stripe : Nat) : (s.rewriteStripe stripe).ports = s.ports := rfl
@[simp] theorem S8.rewriteStripe_serve (s : S8) (stripe : Nat) : (s.rewriteStripe stripe).serve = s.serve := rfl
@[simp] theorem S8.rewriteStripe_run (s : S8) (stripe : Nat) : (s.rewriteStripe stripe).run = s.run := rfl
@[simp] theorem S8.rewriteStripe_vats (s : S8) (stripe : Nat) : (s.rewriteStripe stripe).vats = s.vats := rfl
@[simp] theorem S8.rewriteStripe_turn (s : S8) (stripe : Nat) : (s.rewriteStripe stripe).turn = s.turn := rfl
@[simp] theorem S8.rewriteStripe_cores (s : S8) (stripe : Nat) : (s.rewriteStripe stripe).cores = s.cores := rfl
@[simp] theorem S8.rewriteStripe_fab (s : S8) (stripe : Nat) : (s.rewriteStripe stripe).fab = s.fab := rfl
@[simp] theorem S8.rewriteStripe_attn (s : S8) (stripe : Nat) : (s.rewriteStripe stripe).attn = s.attn := rfl
@[simp] theorem S8.rewriteStripe_wheels (s : S8) (stripe : Nat) : (s.rewriteStripe stripe).wheels = s.wheels := rfl
@[simp] theorem S8.rewriteStripe_cultures (s : S8) (stripe : Nat) : (s.rewriteStripe stripe).cultures = s.cultures := rfl
@[simp] theorem S8.rewriteStripe_ripen (s : S8) (stripe : Nat) : (s.rewriteStripe stripe).ripen = s.ripen := rfl
@[simp] theorem S8.rewriteStripe_trier (s : S8) (stripe : Nat) : (s.rewriteStripe stripe).trier = s.trier := rfl
@[simp] theorem S8.rewriteStripe_power (s : S8) (stripe : Nat) : (s.rewriteStripe stripe).power = s.power := rfl
@[simp] theorem S8.rewriteStripe_clock (s : S8) (stripe : Nat) : (s.rewriteStripe stripe).clock = s.clock := rfl
@[simp] theorem S8.rewriteStripe_boot (s : S8) (stripe : Nat) : (s.rewriteStripe stripe).boot = s.boot := rfl
@[simp] theorem S8.rewriteStripe_free (s : S8) (stripe : Nat) : (s.rewriteStripe stripe).free = s.free := rfl

@[simp] theorem S8.retireBlock_mem (s : S8) (die : Nat) : (s.retireBlock die).mem = s.mem := rfl
@[simp] theorem S8.retireBlock_ports (s : S8) (die : Nat) : (s.retireBlock die).ports = s.ports := rfl
@[simp] theorem S8.retireBlock_serve (s : S8) (die : Nat) : (s.retireBlock die).serve = s.serve := rfl
@[simp] theorem S8.retireBlock_run (s : S8) (die : Nat) : (s.retireBlock die).run = s.run := rfl
@[simp] theorem S8.retireBlock_vats (s : S8) (die : Nat) : (s.retireBlock die).vats = s.vats := rfl
@[simp] theorem S8.retireBlock_turn (s : S8) (die : Nat) : (s.retireBlock die).turn = s.turn := rfl
@[simp] theorem S8.retireBlock_cores (s : S8) (die : Nat) : (s.retireBlock die).cores = s.cores := rfl
@[simp] theorem S8.retireBlock_fab (s : S8) (die : Nat) : (s.retireBlock die).fab = s.fab := rfl
@[simp] theorem S8.retireBlock_attn (s : S8) (die : Nat) : (s.retireBlock die).attn = s.attn := rfl
@[simp] theorem S8.retireBlock_wheels (s : S8) (die : Nat) : (s.retireBlock die).wheels = s.wheels := rfl
@[simp] theorem S8.retireBlock_cultures (s : S8) (die : Nat) : (s.retireBlock die).cultures = s.cultures := rfl
@[simp] theorem S8.retireBlock_ripen (s : S8) (die : Nat) : (s.retireBlock die).ripen = s.ripen := rfl
@[simp] theorem S8.retireBlock_trier (s : S8) (die : Nat) : (s.retireBlock die).trier = s.trier := rfl
@[simp] theorem S8.retireBlock_power (s : S8) (die : Nat) : (s.retireBlock die).power = s.power := rfl
@[simp] theorem S8.retireBlock_clock (s : S8) (die : Nat) : (s.retireBlock die).clock = s.clock := rfl
@[simp] theorem S8.retireBlock_boot (s : S8) (die : Nat) : (s.retireBlock die).boot = s.boot := rfl
@[simp] theorem S8.retireBlock_free (s : S8) (die : Nat) : (s.retireBlock die).free = s.free := rfl

@[simp] theorem S8.advanceStep_mem (s : S8) : (s.advanceStep).mem = s.mem := rfl
@[simp] theorem S8.advanceStep_dict (s : S8) : (s.advanceStep).dict = s.dict := rfl
@[simp] theorem S8.advanceStep_ports (s : S8) : (s.advanceStep).ports = s.ports := rfl
@[simp] theorem S8.advanceStep_serve (s : S8) : (s.advanceStep).serve = s.serve := rfl
@[simp] theorem S8.advanceStep_vats (s : S8) : (s.advanceStep).vats = s.vats := rfl
@[simp] theorem S8.advanceStep_turn (s : S8) : (s.advanceStep).turn = s.turn := rfl
@[simp] theorem S8.advanceStep_cores (s : S8) : (s.advanceStep).cores = s.cores := rfl
@[simp] theorem S8.advanceStep_fab (s : S8) : (s.advanceStep).fab = s.fab := rfl
@[simp] theorem S8.advanceStep_attn (s : S8) : (s.advanceStep).attn = s.attn := rfl
@[simp] theorem S8.advanceStep_cellar (s : S8) : (s.advanceStep).cellar = s.cellar := rfl
@[simp] theorem S8.advanceStep_wheels (s : S8) : (s.advanceStep).wheels = s.wheels := rfl
@[simp] theorem S8.advanceStep_cultures (s : S8) : (s.advanceStep).cultures = s.cultures := rfl
@[simp] theorem S8.advanceStep_ripen (s : S8) : (s.advanceStep).ripen = s.ripen := rfl
@[simp] theorem S8.advanceStep_trier (s : S8) : (s.advanceStep).trier = s.trier := rfl
@[simp] theorem S8.advanceStep_power (s : S8) : (s.advanceStep).power = s.power := rfl
@[simp] theorem S8.advanceStep_clock (s : S8) : (s.advanceStep).clock = s.clock := rfl
@[simp] theorem S8.advanceStep_boot (s : S8) : (s.advanceStep).boot = s.boot := rfl
@[simp] theorem S8.advanceStep_free (s : S8) : (s.advanceStep).free = s.free := rfl

@[simp] theorem S8.newStep_mem (s : S8) : (s.newStep).mem = s.mem := rfl
@[simp] theorem S8.newStep_dict (s : S8) : (s.newStep).dict = s.dict := rfl
@[simp] theorem S8.newStep_ports (s : S8) : (s.newStep).ports = s.ports := rfl
@[simp] theorem S8.newStep_serve (s : S8) : (s.newStep).serve = s.serve := rfl
@[simp] theorem S8.newStep_turn (s : S8) : (s.newStep).turn = s.turn := rfl
@[simp] theorem S8.newStep_cores (s : S8) : (s.newStep).cores = s.cores := rfl
@[simp] theorem S8.newStep_fab (s : S8) : (s.newStep).fab = s.fab := rfl
@[simp] theorem S8.newStep_attn (s : S8) : (s.newStep).attn = s.attn := rfl
@[simp] theorem S8.newStep_cellar (s : S8) : (s.newStep).cellar = s.cellar := rfl
@[simp] theorem S8.newStep_wheels (s : S8) : (s.newStep).wheels = s.wheels := rfl
@[simp] theorem S8.newStep_cultures (s : S8) : (s.newStep).cultures = s.cultures := rfl
@[simp] theorem S8.newStep_ripen (s : S8) : (s.newStep).ripen = s.ripen := rfl
@[simp] theorem S8.newStep_trier (s : S8) : (s.newStep).trier = s.trier := rfl
@[simp] theorem S8.newStep_power (s : S8) : (s.newStep).power = s.power := rfl
@[simp] theorem S8.newStep_clock (s : S8) : (s.newStep).clock = s.clock := rfl
@[simp] theorem S8.newStep_boot (s : S8) : (s.newStep).boot = s.boot := rfl
@[simp] theorem S8.newStep_free (s : S8) : (s.newStep).free = s.free := rfl

@[simp] theorem S8.answered_dict (s : S8) (performed fault : Bool) (data : Bytes) :
    (s.answered performed fault data).dict = s.dict := rfl
@[simp] theorem S8.answered_ports (s : S8) (performed fault : Bool) (data : Bytes) :
    (s.answered performed fault data).ports = s.ports := rfl
@[simp] theorem S8.answered_serve (s : S8) (performed fault : Bool) (data : Bytes) :
    (s.answered performed fault data).serve = s.serve := rfl
@[simp] theorem S8.answered_run (s : S8) (performed fault : Bool) (data : Bytes) : (s.answered performed fault data).run = s.run := rfl
@[simp] theorem S8.answered_vats (s : S8) (performed fault : Bool) (data : Bytes) :
    (s.answered performed fault data).vats = s.vats := rfl
@[simp] theorem S8.answered_turn (s : S8) (performed fault : Bool) (data : Bytes) :
    (s.answered performed fault data).turn = s.turn := rfl
@[simp] theorem S8.answered_cores (s : S8) (performed fault : Bool) (data : Bytes) :
    (s.answered performed fault data).cores = s.cores := rfl
@[simp] theorem S8.answered_fab (s : S8) (performed fault : Bool) (data : Bytes) : (s.answered performed fault data).fab = s.fab := rfl
@[simp] theorem S8.answered_attn (s : S8) (performed fault : Bool) (data : Bytes) :
    (s.answered performed fault data).attn = s.attn := rfl
@[simp] theorem S8.answered_cellar (s : S8) (performed fault : Bool) (data : Bytes) :
    (s.answered performed fault data).cellar = s.cellar := rfl
@[simp] theorem S8.answered_wheels (s : S8) (performed fault : Bool) (data : Bytes) :
    (s.answered performed fault data).wheels = s.wheels := rfl
@[simp] theorem S8.answered_cultures (s : S8) (performed fault : Bool) (data : Bytes) :
    (s.answered performed fault data).cultures = s.cultures := rfl
@[simp] theorem S8.answered_ripen (s : S8) (performed fault : Bool) (data : Bytes) :
    (s.answered performed fault data).ripen = s.ripen := rfl
@[simp] theorem S8.answered_trier (s : S8) (performed fault : Bool) (data : Bytes) :
    (s.answered performed fault data).trier = s.trier := rfl
@[simp] theorem S8.answered_power (s : S8) (performed fault : Bool) (data : Bytes) :
    (s.answered performed fault data).power = s.power := rfl
@[simp] theorem S8.answered_clock (s : S8) (performed fault : Bool) (data : Bytes) :
    (s.answered performed fault data).clock = s.clock := rfl
@[simp] theorem S8.answered_boot (s : S8) (performed fault : Bool) (data : Bytes) :
    (s.answered performed fault data).boot = s.boot := rfl
@[simp] theorem S8.answered_free (s : S8) (performed fault : Bool) (data : Bytes) :
    (s.answered performed fault data).free = s.free := rfl

@[simp] theorem S8.setJob_mem (s : S8) (n : Nat) (f : Job → Job) : (s.setJob n f).mem = s.mem := rfl
@[simp] theorem S8.setJob_dict (s : S8) (n : Nat) (f : Job → Job) : (s.setJob n f).dict = s.dict := rfl
@[simp] theorem S8.setJob_ports (s : S8) (n : Nat) (f : Job → Job) : (s.setJob n f).ports = s.ports := rfl
@[simp] theorem S8.setJob_serve (s : S8) (n : Nat) (f : Job → Job) : (s.setJob n f).serve = s.serve := rfl
@[simp] theorem S8.setJob_run (s : S8) (n : Nat) (f : Job → Job) : (s.setJob n f).run = s.run := rfl
@[simp] theorem S8.setJob_vats (s : S8) (n : Nat) (f : Job → Job) : (s.setJob n f).vats = s.vats := rfl
@[simp] theorem S8.setJob_turn (s : S8) (n : Nat) (f : Job → Job) : (s.setJob n f).turn = s.turn := rfl
@[simp] theorem S8.setJob_cores (s : S8) (n : Nat) (f : Job → Job) : (s.setJob n f).cores = s.cores := rfl
@[simp] theorem S8.setJob_fab (s : S8) (n : Nat) (f : Job → Job) : (s.setJob n f).fab = s.fab := rfl
@[simp] theorem S8.setJob_attn (s : S8) (n : Nat) (f : Job → Job) : (s.setJob n f).attn = s.attn := rfl
@[simp] theorem S8.setJob_cellar (s : S8) (n : Nat) (f : Job → Job) : (s.setJob n f).cellar = s.cellar := rfl
@[simp] theorem S8.setJob_wheels (s : S8) (n : Nat) (f : Job → Job) : (s.setJob n f).wheels = s.wheels := rfl
@[simp] theorem S8.setJob_cultures (s : S8) (n : Nat) (f : Job → Job) : (s.setJob n f).cultures = s.cultures := rfl
@[simp] theorem S8.setJob_trier (s : S8) (n : Nat) (f : Job → Job) : (s.setJob n f).trier = s.trier := rfl
@[simp] theorem S8.setJob_power (s : S8) (n : Nat) (f : Job → Job) : (s.setJob n f).power = s.power := rfl
@[simp] theorem S8.setJob_clock (s : S8) (n : Nat) (f : Job → Job) : (s.setJob n f).clock = s.clock := rfl
@[simp] theorem S8.setJob_boot (s : S8) (n : Nat) (f : Job → Job) : (s.setJob n f).boot = s.boot := rfl
@[simp] theorem S8.setJob_free (s : S8) (n : Nat) (f : Job → Job) : (s.setJob n f).free = s.free := rfl

@[simp] theorem S8.refusePack_mem (s : S8) (reason : Nat) : (s.refusePack reason).mem = s.mem := rfl
@[simp] theorem S8.refusePack_ports (s : S8) (reason : Nat) : (s.refusePack reason).ports = s.ports := rfl
@[simp] theorem S8.refusePack_serve (s : S8) (reason : Nat) : (s.refusePack reason).serve = s.serve := rfl
@[simp] theorem S8.refusePack_run (s : S8) (reason : Nat) : (s.refusePack reason).run = s.run := rfl
@[simp] theorem S8.refusePack_vats (s : S8) (reason : Nat) : (s.refusePack reason).vats = s.vats := rfl
@[simp] theorem S8.refusePack_turn (s : S8) (reason : Nat) : (s.refusePack reason).turn = s.turn := rfl
@[simp] theorem S8.refusePack_cores (s : S8) (reason : Nat) : (s.refusePack reason).cores = s.cores := rfl
@[simp] theorem S8.refusePack_fab (s : S8) (reason : Nat) : (s.refusePack reason).fab = s.fab := rfl
@[simp] theorem S8.refusePack_attn (s : S8) (reason : Nat) : (s.refusePack reason).attn = s.attn := rfl
@[simp] theorem S8.refusePack_cellar (s : S8) (reason : Nat) : (s.refusePack reason).cellar = s.cellar := rfl
@[simp] theorem S8.refusePack_wheels (s : S8) (reason : Nat) : (s.refusePack reason).wheels = s.wheels := rfl
@[simp] theorem S8.refusePack_cultures (s : S8) (reason : Nat) : (s.refusePack reason).cultures = s.cultures := rfl
@[simp] theorem S8.refusePack_ripen (s : S8) (reason : Nat) : (s.refusePack reason).ripen = s.ripen := rfl
@[simp] theorem S8.refusePack_power (s : S8) (reason : Nat) : (s.refusePack reason).power = s.power := rfl
@[simp] theorem S8.refusePack_clock (s : S8) (reason : Nat) : (s.refusePack reason).clock = s.clock := rfl
@[simp] theorem S8.refusePack_boot (s : S8) (reason : Nat) : (s.refusePack reason).boot = s.boot := rfl
@[simp] theorem S8.refusePack_free (s : S8) (reason : Nat) : (s.refusePack reason).free = s.free := rfl

@[simp] theorem S8.addContribution_mem (s : S8) (c : Contribution) : (s.addContribution c).mem = s.mem := rfl
@[simp] theorem S8.addContribution_ports (s : S8) (c : Contribution) : (s.addContribution c).ports = s.ports := rfl
@[simp] theorem S8.addContribution_serve (s : S8) (c : Contribution) : (s.addContribution c).serve = s.serve := rfl
@[simp] theorem S8.addContribution_run (s : S8) (c : Contribution) : (s.addContribution c).run = s.run := rfl
@[simp] theorem S8.addContribution_turn (s : S8) (c : Contribution) : (s.addContribution c).turn = s.turn := rfl
@[simp] theorem S8.addContribution_cores (s : S8) (c : Contribution) : (s.addContribution c).cores = s.cores := rfl
@[simp] theorem S8.addContribution_fab (s : S8) (c : Contribution) : (s.addContribution c).fab = s.fab := rfl
@[simp] theorem S8.addContribution_attn (s : S8) (c : Contribution) : (s.addContribution c).attn = s.attn := rfl
@[simp] theorem S8.addContribution_cellar (s : S8) (c : Contribution) : (s.addContribution c).cellar = s.cellar := rfl
@[simp] theorem S8.addContribution_wheels (s : S8) (c : Contribution) : (s.addContribution c).wheels = s.wheels := rfl
@[simp] theorem S8.addContribution_cultures (s : S8) (c : Contribution) : (s.addContribution c).cultures = s.cultures := rfl
@[simp] theorem S8.addContribution_ripen (s : S8) (c : Contribution) : (s.addContribution c).ripen = s.ripen := rfl
@[simp] theorem S8.addContribution_trier (s : S8) (c : Contribution) : (s.addContribution c).trier = s.trier := rfl
@[simp] theorem S8.addContribution_power (s : S8) (c : Contribution) : (s.addContribution c).power = s.power := rfl
@[simp] theorem S8.addContribution_clock (s : S8) (c : Contribution) : (s.addContribution c).clock = s.clock := rfl
@[simp] theorem S8.addContribution_boot (s : S8) (c : Contribution) : (s.addContribution c).boot = s.boot := rfl
@[simp] theorem S8.addContribution_free (s : S8) (c : Contribution) : (s.addContribution c).free = s.free := rfl

@[simp] theorem S8.takeShardBytes_mem (s : S8) (u : Wheel) (n offset : Nat) (data : Bytes) (f : ShardFetch) :
    (s.takeShardBytes u n offset data f).mem = s.mem := rfl
@[simp] theorem S8.takeShardBytes_dict (s : S8) (u : Wheel) (n offset : Nat) (data : Bytes) (f : ShardFetch) :
    (s.takeShardBytes u n offset data f).dict = s.dict := rfl
@[simp] theorem S8.takeShardBytes_ports (s : S8) (u : Wheel) (n offset : Nat) (data : Bytes) (f : ShardFetch) :
    (s.takeShardBytes u n offset data f).ports = s.ports := rfl
@[simp] theorem S8.takeShardBytes_serve (s : S8) (u : Wheel) (n offset : Nat) (data : Bytes) (f : ShardFetch) :
    (s.takeShardBytes u n offset data f).serve = s.serve := rfl
@[simp] theorem S8.takeShardBytes_run (s : S8) (u : Wheel) (n offset : Nat) (data : Bytes) (f : ShardFetch) :
    (s.takeShardBytes u n offset data f).run = s.run := rfl
@[simp] theorem S8.takeShardBytes_vats (s : S8) (u : Wheel) (n offset : Nat) (data : Bytes) (f : ShardFetch) :
    (s.takeShardBytes u n offset data f).vats = s.vats := rfl
@[simp] theorem S8.takeShardBytes_turn (s : S8) (u : Wheel) (n offset : Nat) (data : Bytes) (f : ShardFetch) :
    (s.takeShardBytes u n offset data f).turn = s.turn := rfl
@[simp] theorem S8.takeShardBytes_cores (s : S8) (u : Wheel) (n offset : Nat) (data : Bytes) (f : ShardFetch) :
    (s.takeShardBytes u n offset data f).cores = s.cores := rfl
@[simp] theorem S8.takeShardBytes_fab (s : S8) (u : Wheel) (n offset : Nat) (data : Bytes) (f : ShardFetch) :
    (s.takeShardBytes u n offset data f).fab = s.fab := rfl
@[simp] theorem S8.takeShardBytes_attn (s : S8) (u : Wheel) (n offset : Nat) (data : Bytes) (f : ShardFetch) :
    (s.takeShardBytes u n offset data f).attn = s.attn := rfl
@[simp] theorem S8.takeShardBytes_cellar (s : S8) (u : Wheel) (n offset : Nat) (data : Bytes) (f : ShardFetch) :
    (s.takeShardBytes u n offset data f).cellar = s.cellar := rfl
@[simp] theorem S8.takeShardBytes_cultures (s : S8) (u : Wheel) (n offset : Nat) (data : Bytes) (f : ShardFetch) :
    (s.takeShardBytes u n offset data f).cultures = s.cultures := rfl
@[simp] theorem S8.takeShardBytes_ripen (s : S8) (u : Wheel) (n offset : Nat) (data : Bytes) (f : ShardFetch) :
    (s.takeShardBytes u n offset data f).ripen = s.ripen := rfl
@[simp] theorem S8.takeShardBytes_trier (s : S8) (u : Wheel) (n offset : Nat) (data : Bytes) (f : ShardFetch) :
    (s.takeShardBytes u n offset data f).trier = s.trier := rfl
@[simp] theorem S8.takeShardBytes_power (s : S8) (u : Wheel) (n offset : Nat) (data : Bytes) (f : ShardFetch) :
    (s.takeShardBytes u n offset data f).power = s.power := rfl
@[simp] theorem S8.takeShardBytes_clock (s : S8) (u : Wheel) (n offset : Nat) (data : Bytes) (f : ShardFetch) :
    (s.takeShardBytes u n offset data f).clock = s.clock := rfl
@[simp] theorem S8.takeShardBytes_boot (s : S8) (u : Wheel) (n offset : Nat) (data : Bytes) (f : ShardFetch) :
    (s.takeShardBytes u n offset data f).boot = s.boot := rfl
@[simp] theorem S8.takeShardBytes_free (s : S8) (u : Wheel) (n offset : Nat) (data : Bytes) (f : ShardFetch) :
    (s.takeShardBytes u n offset data f).free = s.free := rfl

end Sys2Proof.Machine
end

