-- ==== Sys2Proof/Laws/Frames.lean ====
section
/-! SUPPORT. What receiving a control frame or a flit does, said once: a good one of the expected type is handed on, another type is a
good frame and nothing else. Ports, lanes and settings read back as they were set. -/

namespace Sys2Proof.Machine

/-! ### Reading back -/

@[simp] theorem Ports.get_set_self (p : Ports) (w : Port) (st : PortState) : (p.set w st).get w = st := by cases w <;> rfl

theorem Ports.get_set_ne (p : Ports) {w u : Port} (st : PortState) (h : u ≠ w) : (p.set w st).get u = p.get u := by
  cases w <;> cases u <;> first | rfl | exact absurd rfl h

@[simp] theorem Ports.set_owner (p : Ports) (w : Port) (st : PortState) : (p.set w st).owner = p.owner := by cases w <;> rfl
@[simp] theorem Ports.set_cycle (p : Ports) (w : Port) (st : PortState) : (p.set w st).cycle = p.cycle := by cases w <;> rfl
@[simp] theorem Ports.set_kept (p : Ports) (w : Port) (st : PortState) : (p.set w st).kept = p.kept := by cases w <;> rfl
@[simp] theorem Ports.set_movedAt (p : Ports) (w : Port) (st : PortState) : (p.set w st).movedAt = p.movedAt := by cases w <;> rfl
@[simp] theorem Ports.set_releaseAsked (p : Ports) (w : Port) (st : PortState) : (p.set w st).releaseAsked = p.releaseAsked := by
  cases w <;> rfl

@[simp] theorem otherPort_ne (p : Port) : otherPort p ≠ p := by cases p <;> decide

theorem Fabric.lane_setLane (f : Fabric) (n m : Nat) (l : LinkLaneState) :
    (f.setLane n l).lane m = if m = n then l else f.lane m := by
  simp [Fabric.setLane, Fabric.lane, SMap.getD_insert]

theorem Dict.get_store (d : Dict) (obj value o : Nat) : (d.store obj value).get o = if o = obj then value else d.get o := by
  simp only [Dict.store, Dict.get, SMap.getD_insert, objKey]
  by_cases h : o = obj
  · simp [h]
  · simp [h]

/-! ### Frames -/

/-- A good frame of the expected type is handed on. -/
theorem S8.receive_arrives {s : S8} {f : Frame} {v : FrameView} {type : Nat} {k : S8 → FrameView → S8} (h : s.frameArrives f v)
    (ht : v.type = type) : s.receive f type k = k (s.goodFrame f.port) v := by
  obtain ⟨-, hp, hv, hc⟩ := h
  cases hd : frameData f.raw with
  | none => simp [hd] at hv
  | some d =>
    simp only [hd, Option.map_some, Option.some.injEq] at hv
    simp [S8.receive, hp, hd, hv, hc, ht]

/-- A good frame of another type is a good frame and nothing else. -/
theorem S8.receive_otherType {s : S8} {f : Frame} {v : FrameView} {type : Nat} {k : S8 → FrameView → S8} (h : s.frameArrives f v)
    (ht : v.type ≠ type) : s.receive f type k = s.goodFrame f.port := by
  obtain ⟨-, hp, hv, hc⟩ := h
  cases hd : frameData f.raw with
  | none => simp [hd] at hv
  | some d =>
    simp only [hd, Option.map_some, Option.some.injEq] at hv
    simp [S8.receive, hp, hd, hv, hc, ht]

/-- A silent port receives nothing. -/
theorem S8.receive_silent {s : S8} {f : Frame} {type : Nat} {k : S8 → FrameView → S8} (h : s.portAnswers f.port = false) :
    s.receive f type k = s := by simp [S8.receive, h]

/-- Bulk data of the expected kind from the owner is handed on. -/
theorem S8.receiveBulk_arrives {s : S8} {f : Frame} {v : FrameView} {kind : Nat} {k : S8 → FrameView → S8} (h : s.frameArrives f v)
    (ht : v.type = 0x30) (hk : v.at 0 1 = kind) (ho : s.ports.owner = f.port) :
    s.receiveBulk f kind k = k (s.goodFrame f.port) v := by
  rw [S8.receiveBulk, S8.receive_arrives h ht]
  simp [S8.goodFrame, ho, hk]

/-! ### Flits -/

/-- A control flit of the expected kind is handed on, its corrected words counted. -/
theorem S8.receiveControl_arrives {s : S8} {f : Flit} {v : FlitView} {kind : Nat} {k : S8 → FlitView → S8} (h : s.flitArrives f v)
    (hk : v.kind = kind) : s.receiveControl f kind k = k (s.goodFlit f) v := by
  obtain ⟨-, hl, hv⟩ := h
  cases hd : flitData f.raw with
  | none => simp [hd] at hv
  | some d =>
    simp only [hd, Option.map_some, Option.some.injEq] at hv
    simp [S8.receiveControl, hl, hd, hv, hk, S8.goodFlit, S8.countedFlit]

/-- A bulk flit that comes in order is handed on. -/
theorem S8.receiveBulkFlit_arrives {s : S8} {f : Flit} {v : FlitView} {k : S8 → FlitView → S8} (h : s.flitArrives f v)
    (hk : v.kind = kindBulk) (hs : v.seq = (s.fab.lane f.lane).expected)
    (hd : (s.fab.lane f.lane).discarding = false ∨ v.replay = true) : s.receiveBulkFlit f k = k (s.countedFlit f) v := by
  obtain ⟨-, hl, hv⟩ := h
  cases hf : flitData f.raw with
  | none => simp [hf] at hv
  | some d =>
    simp only [hf, Option.map_some, Option.some.injEq] at hv
    simp only [S8.receiveBulkFlit, hl, hf, hv, S8.countedFlit, if_true]
    rw [if_pos]
    exact ⟨hk, hs, by simpa using hd⟩

end Sys2Proof.Machine
end

