-- ==== Sys2Proof/Laws/Memory.lean ====
section
/-! SUPPORT. What each operation does to memory: it leaves every byte as it is (_bytes), or it keeps memory's canonical form (_wf). -/

namespace Sys2Proof.Machine

theorem foldl_bytes {β : Type} (l : List β) (g : S8 → β → S8) (s : S8) (h : ∀ a x, (g a x).mem.bytes = a.mem.bytes) :
    (l.foldl g s).mem.bytes = s.mem.bytes := by
  induction l generalizing s with
  | nil => rfl
  | cons x l ih => simp [ih, h]
theorem foldl_wf {β : Type} (l : List β) (g : S8 → β → S8) (s : S8) (h : ∀ a x, a.mem.wf = true → (g a x).mem.wf = true)
    (hs : s.mem.wf = true) : (l.foldl g s).mem.wf = true := by
  induction l generalizing s with
  | nil => exact hs
  | cons x l ih => exact ih _ (h _ _ hs)
theorem ite_bytes (c : Prop) [Decidable c] (a b : S8) : (if c then a else b).mem.bytes = if c then a.mem.bytes else b.mem.bytes := by split <;> rfl
theorem memfoldl_wf {β : Type} (l : List β) (g : Mem → β → Mem) (s : Mem) (h : ∀ a x, a.wf = true → (g a x).wf = true)
    (hs : s.wf = true) : (l.foldl g s).wf = true := by
  induction l generalizing s with
  | nil => exact hs
  | cons x l ih => exact ih _ (h _ _ hs)
theorem memfoldl_bytes {β : Type} (l : List β) (g : Mem → β → Mem) (s : Mem) (h : ∀ a x, (g a x).bytes = a.bytes) :
    (l.foldl g s).bytes = s.bytes := by
  induction l generalizing s with
  | nil => rfl
  | cons x l ih => simp [ih, h]
theorem wf_of_bytes {m n : Mem} (e : m.bytes = n.bytes) (h : n.wf = true) : m.wf = true := by unfold Mem.wf at *; rw [e]; exact h

@[simp] theorem Mem.digestTable_wf (m : Mem) (k : Nat) (h : m.wf = true) : (m.digestTable k).wf = true := by
  unfold Mem.digestTable; exact Mem.wf_write _ _ h

@[simp] theorem Mem.writeAll_wf (m : Mem) (ws : List (Nat × Bytes)) (h : m.wf = true) :
    (Mem.writeAll m ws).wf = true := by
  unfold Mem.writeAll
  simp +contextual [foldl_wf, memfoldl_wf, *]

@[simp] theorem S8.unbackVat_bytes (s : S8) (k : Nat) :
    (S8.unbackVat s k).mem.bytes = s.mem.bytes := by
  unfold S8.unbackVat
  first
    | rfl
    | (simp; done)
    | ((repeat' split) <;> first | rfl | (simp; done))
    | (dsimp only; (repeat' split) <;> first | rfl | (simp; done))
    | (simp only []; (repeat' split) <;> first | rfl | assumption | (simp [*, foldl_bytes, ite_bytes, memfoldl_bytes]; done))
@[simp] theorem S8.unbackVat_wf (s : S8) (k : Nat) (h : s.mem.wf = true) :
    (S8.unbackVat s k).mem.wf = true := wf_of_bytes (by simp) h

@[simp] theorem S8.unbackCore_bytes (s : S8) (k : Nat) :
    (S8.unbackCore s k).mem.bytes = s.mem.bytes := by
  unfold S8.unbackCore
  first
    | rfl
    | (simp; done)
    | ((repeat' split) <;> first | rfl | (simp; done))
    | (dsimp only; (repeat' split) <;> first | rfl | (simp; done))
    | (simp only []; (repeat' split) <;> first | rfl | assumption | (simp [*, foldl_bytes, ite_bytes, memfoldl_bytes]; done))
@[simp] theorem S8.unbackCore_wf (s : S8) (k : Nat) (h : s.mem.wf = true) :
    (S8.unbackCore s k).mem.wf = true := wf_of_bytes (by simp) h

@[simp] theorem S8.retireUnit_wf (s : S8) (u : Nat) (h : s.mem.wf = true) : (S8.retireUnit s u).mem.wf = true := wf_of_bytes (by simp) h
@[simp] theorem S8.retireUnitsOf_wf (s : S8) (a : Nat) (bad : List Nat) (h : s.mem.wf = true) : (S8.retireUnitsOf s a bad).mem.wf = true := wf_of_bytes (by simp) h
@[simp] theorem S8.raise_bytes (s : S8) (obj : Nat) (element : Nat) (amount : Nat) (unit : Nat) (value : Nat) :
    (S8.raise s obj element amount unit value).mem.bytes = s.mem.bytes := by
  unfold S8.raise
  rfl
@[simp] theorem S8.raise_wf (s : S8) (obj : Nat) (element : Nat) (amount : Nat) (unit : Nat) (value : Nat) (h : s.mem.wf = true) :
    (S8.raise s obj element amount unit value).mem.wf = true := wf_of_bytes (S8.raise_bytes s obj element amount unit value) h

@[simp] theorem S8.meshWords_bytes (s : S8) (corrected uncorrectable unit : Nat) :
    (S8.meshWords s corrected uncorrectable unit).mem.bytes = s.mem.bytes := rfl
@[simp] theorem S8.meshWords_wf (s : S8) (corrected uncorrectable unit : Nat) (h : s.mem.wf = true) :
    (S8.meshWords s corrected uncorrectable unit).mem.wf = true := wf_of_bytes (S8.meshWords_bytes s corrected uncorrectable unit) h





@[simp] theorem S8.meetWords_wf (s : S8) (a n : Nat) (upset : Upsets) (h : s.mem.wf = true) :
    (s.meetWords a n upset).mem.wf = true := by simpa [Mem.wf] using h

@[simp] theorem S8.fetchBytes_bytes (s : S8) (a : Nat) (n : Nat) (upset : Upsets) :
    (S8.fetchBytes s a n upset).2.2.mem.bytes = s.mem.bytes := by
  unfold S8.fetchBytes
  simp
@[simp] theorem S8.fetchBytes_wf (s : S8) (a : Nat) (n : Nat) (upset : Upsets) (h : s.mem.wf = true) :
    (S8.fetchBytes s a n upset).2.2.mem.wf = true := wf_of_bytes (S8.fetchBytes_bytes s a n upset) h

@[simp] theorem S8.fresh_bytes (s : S8) :
    (S8.fresh s).2.mem.bytes = s.mem.bytes := by
  unfold S8.fresh
  rfl
@[simp] theorem S8.fresh_wf (s : S8) (h : s.mem.wf = true) :
    (S8.fresh s).2.mem.wf = true := wf_of_bytes (S8.fresh_bytes s) h

@[simp] theorem S8.picked_bytes (s : S8) :
    (S8.picked s).mem.bytes = s.mem.bytes := by
  unfold S8.picked
  rfl
@[simp] theorem S8.picked_wf (s : S8) (h : s.mem.wf = true) :
    (S8.picked s).mem.wf = true := wf_of_bytes (S8.picked_bytes s) h

@[simp] theorem S8.frameLost_bytes (s : S8) :
    (S8.frameLost s).mem.bytes = s.mem.bytes := by
  unfold S8.frameLost
  rfl
@[simp] theorem S8.frameLost_wf (s : S8) (h : s.mem.wf = true) :
    (S8.frameLost s).mem.wf = true := wf_of_bytes (S8.frameLost_bytes s) h

@[simp] theorem S8.goodFrame_bytes (s : S8) (p : Port) :
    (S8.goodFrame s p).mem.bytes = s.mem.bytes := by
  unfold S8.goodFrame
  rfl
@[simp] theorem S8.goodFrame_wf (s : S8) (p : Port) (h : s.mem.wf = true) :
    (S8.goodFrame s p).mem.wf = true := wf_of_bytes (S8.goodFrame_bytes s p) h

@[simp] theorem S8.placeRecord_bytes (s : S8) (p : Port) (r : AnswerRecord) :
    (S8.placeRecord s p r).mem.bytes = s.mem.bytes := by
  unfold S8.placeRecord
  rfl
@[simp] theorem S8.placeRecord_wf (s : S8) (p : Port) (r : AnswerRecord) (h : s.mem.wf = true) :
    (S8.placeRecord s p r).mem.wf = true := wf_of_bytes (S8.placeRecord_bytes s p r) h

@[simp] theorem S8.answerRecord_bytes (s : S8) (p : Port) (r : AnswerRecord) :
    (S8.answerRecord s p r).mem.bytes = s.mem.bytes := by
  unfold S8.answerRecord
  rfl
@[simp] theorem S8.answerRecord_wf (s : S8) (p : Port) (r : AnswerRecord) (h : s.mem.wf = true) :
    (S8.answerRecord s p r).mem.wf = true := wf_of_bytes (S8.answerRecord_bytes s p r) h

@[simp] theorem S8.receive_bytes (s : S8) (f : Frame) (type : Nat) (k : S8 → FrameView → S8) (hk : ∀ c u, (k c u).mem.bytes = c.mem.bytes) :
    (S8.receive s f type k).mem.bytes = s.mem.bytes := by
  unfold S8.receive
  ((try simp only []); (repeat' split) <;> first | rfl | assumption | (simp [*, foldl_bytes, ite_bytes, memfoldl_bytes]; done))
@[simp] theorem S8.receive_wf (s : S8) (f : Frame) (type : Nat) (k : S8 → FrameView → S8) (hk : ∀ c u, c.mem.wf = true → (k c u).mem.wf = true) (h : s.mem.wf = true) :
    (S8.receive s f type k).mem.wf = true := by
  unfold S8.receive
  ((try simp only []); (repeat' split) <;> first | assumption | exact Mem.wf_write _ _ h | (simp +contextual [*, foldl_wf, memfoldl_wf]; done))

@[simp] theorem S8.answer_bytes (s : S8) (p : Port) (u : UpFrame) :
    (S8.answer s p u).mem.bytes = s.mem.bytes := by
  unfold S8.answer
  rfl
@[simp] theorem S8.answer_wf (s : S8) (p : Port) (u : UpFrame) (h : s.mem.wf = true) :
    (S8.answer s p u).mem.wf = true := wf_of_bytes (S8.answer_bytes s p u) h

@[simp] theorem S8.answerWrite_bytes (s : S8) (p : Port) (requestId : Nat) (obj : Nat) (status : Nat) (length : Nat) (value : Bytes) :
    (S8.answerWrite s p requestId obj status length value).mem.bytes = s.mem.bytes := by
  unfold S8.answerWrite
  rfl
@[simp] theorem S8.answerWrite_wf (s : S8) (p : Port) (requestId : Nat) (obj : Nat) (status : Nat) (length : Nat) (value : Bytes) (h : s.mem.wf = true) :
    (S8.answerWrite s p requestId obj status length value).mem.wf = true := wf_of_bytes (S8.answerWrite_bytes s p requestId obj status length value) h

@[simp] theorem storeEffect_bytes (obj : Nat) (s : S8) (value : Bytes) :
    (storeEffect obj s value).2.mem.bytes = s.mem.bytes := by
  unfold storeEffect
  split <;> first | rfl | simp
@[simp] theorem storeEffect_wf (obj : Nat) (s : S8) (value : Bytes) (h : s.mem.wf = true) :
    (storeEffect obj s value).2.mem.wf = true := wf_of_bytes (storeEffect_bytes obj s value) h

@[simp] theorem pendEffect_bytes (obj : Nat) (s : S8) (value : Bytes) :
    (pendEffect obj s value).2.mem.bytes = s.mem.bytes := by
  unfold pendEffect
  rfl
@[simp] theorem pendEffect_wf (obj : Nat) (s : S8) (value : Bytes) (h : s.mem.wf = true) :
    (pendEffect obj s value).2.mem.wf = true := wf_of_bytes (pendEffect_bytes obj s value) h

@[simp] theorem S8.writeObject_wf (s : S8) (port : Port) (requestId obj : Nat) (value : Bytes) (effect : WriteEffect)
    (hk : ∀ v, (effect s v).2.mem.wf = true) (h : s.mem.wf = true) :
    (s.writeObject port requestId obj value effect).mem.wf = true := by
  unfold S8.writeObject
  (repeat' split) <;> simp [S8.answerWrite, S8.answer, *]

@[simp] theorem S8.performWrite_wf (s : S8) (w : ObjWrite) (obj : Nat) (effect : WriteEffect)
    (hk : ∀ v, (effect s v).2.mem.wf = true) (h : s.mem.wf = true) : (s.performWrite w obj effect).mem.wf = true := by
  unfold S8.performWrite; exact S8.writeObject_wf s _ _ _ _ _ hk h

@[simp] theorem S8.stageWrites_bytes (s : S8) (k : Nat) (writes : List (Nat × Bytes)) :
    (S8.stageWrites s k writes).mem.bytes = s.mem.bytes := by
  unfold S8.stageWrites
  first
    | rfl
    | simp
    | (dsimp only; repeat' split <;> first | rfl | simp)
    | (simp only []; (repeat' split) <;> first | rfl | assumption | (simp [*, foldl_bytes, ite_bytes, memfoldl_bytes]; done))
@[simp] theorem S8.stageWrites_wf (s : S8) (k : Nat) (writes : List (Nat × Bytes)) (h : s.mem.wf = true) :
    (S8.stageWrites s k writes).mem.wf = true := wf_of_bytes (by simp) h

@[simp] theorem Mem.changeState_wf (m : Mem) (k state : Nat) (h : m.wf = true) :
    (Mem.changeState m k state).wf = true := by
  unfold Mem.changeState
  first
    | exact h
    | (simp [h]; done)
    | (simp +contextual [foldl_wf, memfoldl_wf, *]; done)
    | (dsimp only; repeat' split <;> first | assumption | simp [*])
    | (simp only []; (repeat' split) <;> first | assumption | exact Mem.wf_write _ _ h | (simp +contextual [*, foldl_wf, memfoldl_wf]; done))

@[simp] theorem S8.capLoop_bytes (s : S8) (average : Nat) :
    (S8.capLoop s average).mem.bytes = s.mem.bytes := by
  unfold S8.capLoop
  rfl
@[simp] theorem S8.capLoop_wf (s : S8) (average : Nat) (h : s.mem.wf = true) :
    (S8.capLoop s average).mem.wf = true := wf_of_bytes (S8.capLoop_bytes s average) h

@[simp] theorem S8.compareMonitors_bytes (s : S8) (input : Nat) (readings : List Nat) :
    (S8.compareMonitors s input readings).mem.bytes = s.mem.bytes := by
  unfold S8.compareMonitors
  first
    | rfl
    | (simp; done)
    | ((repeat' split) <;> first | rfl | (simp; done))
    | (dsimp only; (repeat' split) <;> first | rfl | (simp; done))
    | (simp only []; (repeat' split) <;> first | rfl | assumption | (simp [*, foldl_bytes, ite_bytes, memfoldl_bytes]; done))
@[simp] theorem S8.compareMonitors_wf (s : S8) (input : Nat) (readings : List Nat) (h : s.mem.wf = true) :
    (S8.compareMonitors s input readings).mem.wf = true := wf_of_bytes (by simp) h

@[simp] theorem S8.endWindow_bytes (s : S8) (measured : Nat) :
    (S8.endWindow s measured).mem.bytes = s.mem.bytes := by
  unfold S8.endWindow
  rfl
@[simp] theorem S8.endWindow_wf (s : S8) (measured : Nat) (h : s.mem.wf = true) :
    (S8.endWindow s measured).mem.wf = true := wf_of_bytes (S8.endWindow_bytes s measured) h

@[simp] theorem S8.judgeSensor_bytes (s : S8) (half : Nat) (sensor : Nat) (predicted : Int) :
    (S8.judgeSensor s half sensor predicted).mem.bytes = s.mem.bytes := by
  unfold S8.judgeSensor
  rfl
@[simp] theorem S8.judgeSensor_wf (s : S8) (half : Nat) (sensor : Nat) (predicted : Int) (h : s.mem.wf = true) :
    (S8.judgeSensor s half sensor predicted).mem.wf = true := wf_of_bytes (S8.judgeSensor_bytes s half sensor predicted) h

@[simp] theorem overrideEffect_bytes (s : S8) (value : Bytes) :
    (overrideEffect s value).2.mem.bytes = s.mem.bytes := by
  unfold overrideEffect
  dsimp only; repeat' split <;> first | rfl | simp
@[simp] theorem overrideEffect_wf (s : S8) (value : Bytes) (h : s.mem.wf = true) :
    (overrideEffect s value).2.mem.wf = true := wf_of_bytes (overrideEffect_bytes s value) h

@[simp] theorem diePowerCycleEffect_bytes (s : S8) (value : Bytes) :
    (diePowerCycleEffect s value).2.mem.bytes = s.mem.bytes := by
  unfold diePowerCycleEffect
  dsimp only; repeat' split <;> first | rfl | simp
@[simp] theorem diePowerCycleEffect_wf (s : S8) (value : Bytes) (h : s.mem.wf = true) :
    (diePowerCycleEffect s value).2.mem.wf = true := wf_of_bytes (diePowerCycleEffect_bytes s value) h


@[simp] theorem S8.stageHalf_bytes (s : S8) (half : Nat) :
    (S8.stageHalf s half).mem.bytes = s.mem.bytes := by
  unfold S8.stageHalf
  rfl
@[simp] theorem S8.stageHalf_wf (s : S8) (half : Nat) (h : s.mem.wf = true) :
    (S8.stageHalf s half).mem.wf = true := wf_of_bytes (S8.stageHalf_bytes s half) h

@[simp] theorem S8.powerBoundary_bytes (s : S8) :
    (S8.powerBoundary s).mem.bytes = s.mem.bytes := by
  unfold S8.powerBoundary
  rfl
@[simp] theorem S8.powerBoundary_wf (s : S8) (h : s.mem.wf = true) :
    (S8.powerBoundary s).mem.wf = true := wf_of_bytes (S8.powerBoundary_bytes s) h

@[simp] theorem S8.switchReference_bytes (s : S8) (die : Nat) :
    (S8.switchReference s die).mem.bytes = s.mem.bytes := by
  unfold S8.switchReference
  simp [ite_bytes]
@[simp] theorem S8.switchReference_wf (s : S8) (die : Nat) (h : s.mem.wf = true) :
    (S8.switchReference s die).mem.wf = true := wf_of_bytes (S8.switchReference_bytes s die) h

@[simp] theorem S8.clockWindow_bytes (s : S8) (die : Nat) (count : Nat) :
    (S8.clockWindow s die count).mem.bytes = s.mem.bytes := by
  unfold S8.clockWindow
  simp [ite_bytes]
@[simp] theorem S8.clockWindow_wf (s : S8) (die : Nat) (count : Nat) (h : s.mem.wf = true) :
    (S8.clockWindow s die count).mem.wf = true := wf_of_bytes (S8.clockWindow_bytes s die count) h

@[simp] theorem halfClockEffect_bytes (s : S8) (value : Bytes) :
    (halfClockEffect s value).2.mem.bytes = s.mem.bytes := by
  unfold halfClockEffect
  dsimp only; repeat' split <;> first | rfl | simp
@[simp] theorem halfClockEffect_wf (s : S8) (value : Bytes) (h : s.mem.wf = true) :
    (halfClockEffect s value).2.mem.wf = true := wf_of_bytes (halfClockEffect_bytes s value) h

@[simp] theorem halfServiceEffect_bytes (s : S8) (value : Bytes) :
    (halfServiceEffect s value).2.mem.bytes = s.mem.bytes := by
  unfold halfServiceEffect
  split <;> first | rfl | simp
@[simp] theorem halfServiceEffect_wf (s : S8) (value : Bytes) (h : s.mem.wf = true) :
    (halfServiceEffect s value).2.mem.wf = true := wf_of_bytes (halfServiceEffect_bytes s value) h

@[simp] theorem S8.mirrorState_bytes (s : S8) :
    (S8.mirrorState s).mem.bytes = s.mem.bytes := by
  unfold S8.mirrorState
  first
    | rfl
    | simp
    | (dsimp only; repeat' split <;> first | rfl | simp)
    | (simp only []; (repeat' split) <;> first | rfl | assumption | (simp [*, foldl_bytes, ite_bytes, memfoldl_bytes]; done))
@[simp] theorem S8.mirrorState_wf (s : S8) (h : s.mem.wf = true) :
    (S8.mirrorState s).mem.wf = true := wf_of_bytes (by simp) h

@[simp] theorem S8.forgetRegisters_bytes (s : S8) (core : Nat) :
    (S8.forgetRegisters s core).mem.bytes = s.mem.bytes := by
  unfold S8.forgetRegisters
  first
    | rfl
    | simp
    | (dsimp only; repeat' split <;> first | rfl | simp)
    | (simp only []; (repeat' split) <;> first | rfl | assumption | (simp [*, foldl_bytes, ite_bytes, memfoldl_bytes]; done))
@[simp] theorem S8.forgetRegisters_wf (s : S8) (core : Nat) (h : s.mem.wf = true) :
    (S8.forgetRegisters s core).mem.wf = true := wf_of_bytes (by simp) h

@[simp] theorem S8.stageTables_wf (s : S8) (k : Nat) (writes : List (Nat × Bytes)) (h : s.mem.wf = true) :
    (S8.stageTables s k writes).mem.wf = true := by
  unfold S8.stageTables
  split
  · exact S8.stageWrites_wf _ _ _ h
  · exact Mem.digestTable_wf _ _ (Mem.writeAll_wf _ _ h)

@[simp] theorem S8.countFault_bytes (s : S8) (t : Transfer) (core : CoreRef) (mesh : MeshErr) :
    (S8.countFault s t core mesh).mem.bytes = s.mem.bytes := by
  unfold S8.countFault
  first
    | rfl
    | simp
    | (dsimp only; repeat' split <;> first | rfl | simp)
    | (simp only []; (repeat' split) <;> first | rfl | assumption | (simp [*, foldl_bytes, ite_bytes, memfoldl_bytes]; done))
@[simp] theorem S8.countFault_wf (s : S8) (t : Transfer) (core : CoreRef) (mesh : MeshErr) (h : s.mem.wf = true) :
    (S8.countFault s t core mesh).mem.wf = true := wf_of_bytes (by simp) h

@[simp] theorem S8.laneUnbacked_bytes (s : S8) (n : Nat) :
    (S8.laneUnbacked s n).mem.bytes = s.mem.bytes := by
  unfold S8.laneUnbacked
  first
    | rfl
    | (simp; done)
    | ((repeat' split) <;> first | rfl | (simp; done))
    | (dsimp only; (repeat' split) <;> first | rfl | (simp; done))
    | (simp only []; (repeat' split) <;> first | rfl | assumption | (simp [*, foldl_bytes, ite_bytes, memfoldl_bytes]; done))
@[simp] theorem S8.laneUnbacked_wf (s : S8) (n : Nat) (h : s.mem.wf = true) :
    (S8.laneUnbacked s n).mem.wf = true := wf_of_bytes (by simp) h

@[simp] theorem S8.recheckDegraded_bytes (s : S8) :
    (S8.recheckDegraded s).mem.bytes = s.mem.bytes := by
  unfold S8.recheckDegraded
  first
    | rfl
    | simp
    | (dsimp only; repeat' split <;> first | rfl | simp)
    | (simp only []; (repeat' split) <;> first | rfl | assumption | (simp [*, foldl_bytes, ite_bytes, memfoldl_bytes]; done))
@[simp] theorem S8.recheckDegraded_wf (s : S8) (h : s.mem.wf = true) :
    (S8.recheckDegraded s).mem.wf = true := wf_of_bytes (by simp) h

@[simp] theorem S8.noteUnused_bytes (s : S8) :
    (S8.noteUnused s).mem.bytes = s.mem.bytes := by
  unfold S8.noteUnused
  first
    | rfl
    | simp
    | (dsimp only; repeat' split <;> first | rfl | simp)
    | (simp only []; (repeat' split) <;> first | rfl | assumption | (simp [*, foldl_bytes, ite_bytes, memfoldl_bytes]; done))
@[simp] theorem S8.noteUnused_wf (s : S8) (h : s.mem.wf = true) :
    (S8.noteUnused s).mem.wf = true := wf_of_bytes (by simp) h

@[simp] theorem S8.stageCalibration_wf (s : S8) (k : Nat) (writes : List (Nat × Bytes)) (h : s.mem.wf = true) :
    (S8.stageCalibration s k writes).mem.wf = true := by
  unfold S8.stageCalibration
  first
    | exact h
    | (simp [h]; done)
    | (simp +contextual [foldl_wf, memfoldl_wf, *]; done)
    | (dsimp only; repeat' split <;> first | assumption | simp [*])
    | (simp only []; (repeat' split) <;> first | assumption | exact Mem.wf_write _ _ h | (simp +contextual [*, foldl_wf, memfoldl_wf]; done))

@[simp] theorem S8.residualsDropped_bytes (s : S8) (k dropped : Nat) :
    (S8.residualsDropped s k dropped).mem.bytes = s.mem.bytes := by
  unfold S8.residualsDropped
  first
    | rfl
    | (simp; done)
    | ((repeat' split) <;> first | rfl | (simp; done))
    | (dsimp only; (repeat' split) <;> first | rfl | (simp; done))
    | (simp only []; (repeat' split) <;> first | rfl | assumption | (simp [*, foldl_bytes, ite_bytes, memfoldl_bytes]; done))
@[simp] theorem S8.residualsDropped_wf (s : S8) (k dropped : Nat) (h : s.mem.wf = true) :
    (S8.residualsDropped s k dropped).mem.wf = true := wf_of_bytes (by simp) h

@[simp] theorem S8.moveVat_wf (s : S8) (l k left : Nat) (h : s.mem.wf = true) : (S8.moveVat s l k left).mem.wf = true := by
  unfold S8.moveVat
  have h1 := Mem.digestTable_wf _ k (Mem.changeState_wf s.mem k 2 h)
  dsimp only
  split <;> exact h1

@[simp] theorem S8.erased_bytes (s : S8) (r : Rewrite) :
    (S8.erased s r).mem.bytes = s.mem.bytes := by
  unfold S8.erased
  first
    | rfl
    | (simp; done)
    | ((repeat' split) <;> first | rfl | (simp; done))
    | (dsimp only; (repeat' split) <;> first | rfl | (simp; done))
    | (simp only []; (repeat' split) <;> first | rfl | assumption | (simp [*, foldl_bytes, ite_bytes, memfoldl_bytes]; done))
@[simp] theorem S8.erased_wf (s : S8) (r : Rewrite) (h : s.mem.wf = true) :
    (S8.erased s r).mem.wf = true := wf_of_bytes (by simp) h

@[simp] theorem Mem.writeMap_wf (m : Mem) (k : Nat) (map : List (Nat × Nat)) (h : m.wf = true) : (Mem.writeMap m k map).wf = true := by
  unfold Mem.writeMap
  exact Mem.digestTable_wf _ _ (memfoldl_wf _ _ _ (fun a e ha => Mem.wf_write _ _ (Mem.wf_write _ _ ha)) h)

@[simp] theorem S8.coreGone_bytes (s : S8) (core : Nat) :
    (S8.coreGone s core).mem.bytes = s.mem.bytes := by
  unfold S8.coreGone
  first
    | rfl
    | (simp; done)
    | ((repeat' split) <;> first | rfl | (simp; done))
    | (dsimp only; (repeat' split) <;> first | rfl | (simp; done))
    | (simp only []; (repeat' split) <;> first | rfl | assumption | (simp [*, foldl_bytes, ite_bytes, memfoldl_bytes]; done))
@[simp] theorem S8.coreGone_wf (s : S8) (core : Nat) (h : s.mem.wf = true) :
    (S8.coreGone s core).mem.wf = true := wf_of_bytes (by simp) h

@[simp] theorem S8.blockTests_bytes (s : S8) (half : Nat) :
    (S8.blockTests s half).mem.bytes = s.mem.bytes := by
  unfold S8.blockTests
  first
    | rfl
    | simp
    | (dsimp only; repeat' split <;> first | rfl | simp)
    | (simp only []; (repeat' split) <;> first | rfl | assumption | (simp [*, foldl_bytes, ite_bytes, memfoldl_bytes]; done))
@[simp] theorem S8.blockTests_wf (s : S8) (half : Nat) (h : s.mem.wf = true) :
    (S8.blockTests s half).mem.wf = true := wf_of_bytes (by simp) h

@[simp] theorem S8.takeFault_bytes (s : S8) (g : Agent) (cause a : Nat) :
    (S8.takeFault s g cause a).mem.bytes = s.mem.bytes := by
  unfold S8.takeFault
  first
    | rfl
    | (simp; done)
    | ((repeat' split) <;> first | rfl | (simp; done))
    | (dsimp only; (repeat' split) <;> first | rfl | (simp; done))
    | (simp only []; (repeat' split) <;> first | rfl | assumption | (simp [*, foldl_bytes, ite_bytes, memfoldl_bytes]; done))
@[simp] theorem S8.takeFault_wf (s : S8) (g : Agent) (cause a : Nat) (h : s.mem.wf = true) :
    (S8.takeFault s g cause a).mem.wf = true := wf_of_bytes (by simp) h

@[simp] theorem S8.deliverLoad_bytes (s : S8) (g : Agent) (b : Bytes) :
    (S8.deliverLoad s g b).mem.bytes = s.mem.bytes := by
  unfold S8.deliverLoad
  first
    | rfl
    | (simp; done)
    | ((repeat' split) <;> first | rfl | (simp; done))
    | (dsimp only; (repeat' split) <;> first | rfl | (simp; done))
    | (simp only []; (repeat' split) <;> first | rfl | assumption | (simp [*, foldl_bytes, ite_bytes, memfoldl_bytes]; done))
@[simp] theorem S8.deliverLoad_wf (s : S8) (g : Agent) (b : Bytes) (h : s.mem.wf = true) :
    (S8.deliverLoad s g b).mem.wf = true := wf_of_bytes (by simp) h

@[simp] theorem S8.collect_bytes (s : S8) :
    (S8.collect s).mem.bytes = s.mem.bytes := by
  unfold S8.collect
  ((try simp only []); (repeat' split) <;> first | rfl | assumption | (simp [*, foldl_bytes, ite_bytes, memfoldl_bytes]; done))
@[simp] theorem S8.collect_wf (s : S8) (h : s.mem.wf = true) :
    (S8.collect s).mem.wf = true := wf_of_bytes (S8.collect_bytes s) h

@[simp] theorem S8.moduleDone_bytes (s : S8) :
    (S8.moduleDone s).mem.bytes = s.mem.bytes := by
  unfold S8.moduleDone
  simp [ite_bytes]
@[simp] theorem S8.moduleDone_wf (s : S8) (h : s.mem.wf = true) :
    (S8.moduleDone s).mem.wf = true := wf_of_bytes (S8.moduleDone_bytes s) h

@[simp] theorem S8.judge_bytes (s : S8) :
    (S8.judge s).mem.bytes = s.mem.bytes := by
  unfold S8.judge
  simp
@[simp] theorem S8.judge_wf (s : S8) (h : s.mem.wf = true) :
    (S8.judge s).mem.wf = true := wf_of_bytes (S8.judge_bytes s) h

@[simp] theorem Mem.copyStaged_wf (m : Mem) (u n : Nat) (h : m.wf = true) : (m.copyStaged u n).wf = true := by
  unfold Mem.copyStaged; simp only []; split
  · exact h
  · exact Mem.wf_write _ _ h

@[simp] theorem Mem.stagingCopy_wf (m : Mem) (u : Nat) (h : m.wf = true) : (m.stagingCopy u).wf = true := by
  unfold Mem.stagingCopy; split
  · exact Mem.wf_write _ _ (memfoldl_wf _ _ _ (fun a x ha => Mem.copyStaged_wf a u x ha) h)
  · exact h

@[simp] theorem S8.stageState_bytes (s : S8) (k : Nat) (state : Nat) :
    (S8.stageState s k state).mem.bytes = s.mem.bytes := by
  unfold S8.stageState
  rfl
@[simp] theorem S8.stageState_wf (s : S8) (k : Nat) (state : Nat) (h : s.mem.wf = true) :
    (S8.stageState s k state).mem.wf = true := wf_of_bytes (S8.stageState_bytes s k state) h

@[simp] theorem Mem.setState_wf (m : Mem) (k : Nat) (state : Nat) (h : m.wf = true) :
    (Mem.setState m k state).wf = true := by
  unfold Mem.setState
  simp [h]

@[simp] theorem S8.pourFault_bytes (s : S8) (die : Nat) (p : PourInstr) :
    (S8.pourFault s die p).mem.bytes = s.mem.bytes := by
  unfold S8.pourFault
  rfl
@[simp] theorem S8.pourFault_wf (s : S8) (die : Nat) (p : PourInstr) (h : s.mem.wf = true) :
    (S8.pourFault s die p).mem.wf = true := wf_of_bytes (S8.pourFault_bytes s die p) h

@[simp] theorem S8.addContribution_bytes (s : S8) (c : Contribution) :
    (S8.addContribution s c).mem.bytes = s.mem.bytes := by
  unfold S8.addContribution
  rfl
@[simp] theorem S8.addContribution_wf (s : S8) (c : Contribution) (h : s.mem.wf = true) :
    (S8.addContribution s c).mem.wf = true := wf_of_bytes (S8.addContribution_bytes s c) h

@[simp] theorem S8.retain_bytes (s : S8) (vat : Nat) (fl : Flight) (form : Nat) (status : Nat) (halved : Bool) (p : List Int) :
    (S8.retain s vat fl form status halved p).mem.bytes = s.mem.bytes := by
  unfold S8.retain
  simp [ite_bytes]
@[simp] theorem S8.retain_wf (s : S8) (vat : Nat) (fl : Flight) (form : Nat) (status : Nat) (halved : Bool) (p : List Int) (h : s.mem.wf = true) :
    (S8.retain s vat fl form status halved p).mem.wf = true := wf_of_bytes (S8.retain_bytes s vat fl form status halved p) h

@[simp] theorem S8.deliver_bytes (s : S8) (vat : Nat) (fl : Flight) (form : Nat) (status : Nat) (halved : Bool) (p : List Int) :
    (S8.deliver s vat fl form status halved p).mem.bytes = s.mem.bytes := by
  unfold S8.deliver
  split <;> first | rfl | simp
@[simp] theorem S8.deliver_wf (s : S8) (vat : Nat) (fl : Flight) (form : Nat) (status : Nat) (halved : Bool) (p : List Int) (h : s.mem.wf = true) :
    (S8.deliver s vat fl form status halved p).mem.wf = true := wf_of_bytes (S8.deliver_bytes s vat fl form status halved p) h

@[simp] theorem S8.openFor_bytes (s : S8) (fl : Flight) :
    (S8.openFor s fl).mem.bytes = s.mem.bytes := by
  unfold S8.openFor
  repeat' split <;> first | rfl | simp
@[simp] theorem S8.openFor_wf (s : S8) (fl : Flight) (h : s.mem.wf = true) :
    (S8.openFor s fl).mem.wf = true := wf_of_bytes (S8.openFor_bytes s fl) h

@[simp] theorem S8.trip_bytes (s : S8) (vat : Nat) (lane : Nat) (slot : Nat) :
    (S8.trip s vat lane slot).mem.bytes = s.mem.bytes := by
  unfold S8.trip
  rfl
@[simp] theorem S8.trip_wf (s : S8) (vat : Nat) (lane : Nat) (slot : Nat) (h : s.mem.wf = true) :
    (S8.trip s vat lane slot).mem.wf = true := wf_of_bytes (S8.trip_bytes s vat lane slot) h

@[simp] theorem S8.fetchVector_bytes (s : S8) (vat slot : Nat) (p : PourInstr) (upset : Upsets) (mesh : MeshErr) :
    (S8.fetchVector s vat slot p upset mesh).2.mem.bytes = s.mem.bytes := by
  unfold S8.fetchVector
  first
    | rfl
    | simp
    | (dsimp only; repeat' split <;> first | rfl | simp)
    | (simp only []; (repeat' split) <;> first | rfl | assumption | (simp [*, foldl_bytes, ite_bytes, memfoldl_bytes]; done))
@[simp] theorem S8.fetchVector_wf (s : S8) (vat slot : Nat) (p : PourInstr) (upset : Upsets) (mesh : MeshErr) (h : s.mem.wf = true) :
    (S8.fetchVector s vat slot p upset mesh).2.mem.wf = true := wf_of_bytes (by simp) h

@[simp] theorem S8.fetchAhead_bytes (s : S8) (vat slot : Nat) (upset : Upsets) (mesh : MeshErr) :
    (S8.fetchAhead s vat slot upset mesh).mem.bytes = s.mem.bytes := by
  unfold S8.fetchAhead
  first
    | rfl
    | (simp; done)
    | ((repeat' split) <;> first | rfl | (simp; done))
    | (dsimp only; (repeat' split) <;> first | rfl | (simp; done))
    | (simp only []; (repeat' split) <;> first | rfl | assumption | (simp [*, foldl_bytes, ite_bytes, memfoldl_bytes]; done))
@[simp] theorem S8.fetchAhead_wf (s : S8) (vat slot : Nat) (upset : Upsets) (mesh : MeshErr) (h : s.mem.wf = true) :
    (S8.fetchAhead s vat slot upset mesh).mem.wf = true := wf_of_bytes (by simp) h

@[simp] theorem S8.fetchWindow_bytes (s : S8) (vat slot : Nat) (upset : Upsets) (mesh : MeshErr) :
    (S8.fetchWindow s vat slot upset mesh).mem.bytes = s.mem.bytes := by
  unfold S8.fetchWindow
  first
    | rfl
    | (simp; done)
    | ((repeat' split) <;> first | rfl | (simp; done))
    | (dsimp only; (repeat' split) <;> first | rfl | (simp; done))
    | (simp only []; (repeat' split) <;> first | rfl | assumption | (simp [*, foldl_bytes, ite_bytes, memfoldl_bytes]; done))
@[simp] theorem S8.fetchWindow_wf (s : S8) (vat slot : Nat) (upset : Upsets) (mesh : MeshErr) (h : s.mem.wf = true) :
    (S8.fetchWindow s vat slot upset mesh).mem.wf = true := wf_of_bytes (by simp) h

@[simp] theorem S8.takeAhead_bytes (s : S8) (key : Nat) :
    (S8.takeAhead s key).mem.bytes = s.mem.bytes := by
  unfold S8.takeAhead
  repeat' split <;> first | rfl | simp
@[simp] theorem S8.takeAhead_wf (s : S8) (key : Nat) (h : s.mem.wf = true) :
    (S8.takeAhead s key).mem.wf = true := wf_of_bytes (S8.takeAhead_bytes s key) h

@[simp] theorem S8.fetchBoundary_bytes (s : S8) :
    (S8.fetchBoundary s).mem.bytes = s.mem.bytes := by
  unfold S8.fetchBoundary
  simp [foldl_bytes, ite_bytes, memfoldl_bytes, *]
@[simp] theorem S8.fetchBoundary_wf (s : S8) (h : s.mem.wf = true) :
    (S8.fetchBoundary s).mem.wf = true := wf_of_bytes (S8.fetchBoundary_bytes s) h

@[simp] theorem S8.unbackedSlot_bytes (s : S8) (vat : Nat) (slot : Nat) (p : PourInstr) :
    (S8.unbackedSlot s vat slot p).mem.bytes = s.mem.bytes := by
  unfold S8.unbackedSlot
  split <;> first | rfl | simp
@[simp] theorem S8.unbackedSlot_wf (s : S8) (vat : Nat) (slot : Nat) (p : PourInstr) (h : s.mem.wf = true) :
    (S8.unbackedSlot s vat slot p).mem.wf = true := wf_of_bytes (S8.unbackedSlot_bytes s vat slot p) h

@[simp] theorem S8.startPour_bytes (s : S8) (vat : Nat) (slot : Nat) (kind : PourKind) :
    (S8.startPour s vat slot kind).mem.bytes = s.mem.bytes := by
  unfold S8.startPour
  ((try simp only []); (repeat' split) <;> first | rfl | assumption | (simp [*, foldl_bytes, ite_bytes, memfoldl_bytes]; done))
@[simp] theorem S8.startPour_wf (s : S8) (vat : Nat) (slot : Nat) (kind : PourKind) (h : s.mem.wf = true) :
    (S8.startPour s vat slot kind).mem.wf = true := wf_of_bytes (S8.startPour_bytes s vat slot kind) h

@[simp] theorem S8.countCodes_bytes (s : S8) (die : Nat) (sat : Nat) (refSat : Bool) (held : Bool) (unit : Nat) :
    (S8.countCodes s die sat refSat held unit).mem.bytes = s.mem.bytes := by
  unfold S8.countCodes
  rfl
@[simp] theorem S8.countCodes_wf (s : S8) (die : Nat) (sat : Nat) (refSat : Bool) (held : Bool) (unit : Nat) (h : s.mem.wf = true) :
    (S8.countCodes s die sat refSat held unit).mem.wf = true := wf_of_bytes (S8.countCodes_bytes s die sat refSat held unit) h

@[simp] theorem S8.checkGroup_bytes (s : S8) (fl : Flight) (vat : Nat) (input : PourInput) (g : Nat) :
    (S8.checkGroup s fl vat input g).mem.bytes = s.mem.bytes := by
  unfold S8.checkGroup
  first
    | rfl
    | (simp; done)
    | ((repeat' split) <;> first | rfl | (simp; done))
    | (dsimp only; (repeat' split) <;> first | rfl | (simp; done))
    | (simp only []; (repeat' split) <;> first | rfl | assumption | (simp [*, foldl_bytes, ite_bytes, memfoldl_bytes]; done))
@[simp] theorem S8.checkGroup_wf (s : S8) (fl : Flight) (vat : Nat) (input : PourInput) (g : Nat) (h : s.mem.wf = true) :
    (S8.checkGroup s fl vat input g).mem.wf = true := wf_of_bytes (by simp) h

@[simp] theorem S8.checkSums_bytes (s : S8) (fl : Flight) (vat : Nat) (input : PourInput) :
    (S8.checkSums s fl vat input).mem.bytes = s.mem.bytes := by
  unfold S8.checkSums
  simp [foldl_bytes, ite_bytes, memfoldl_bytes, *]
@[simp] theorem S8.checkSums_wf (s : S8) (fl : Flight) (vat : Nat) (input : PourInput) (h : s.mem.wf = true) :
    (S8.checkSums s fl vat input).mem.wf = true := wf_of_bytes (S8.checkSums_bytes s fl vat input) h

@[simp] theorem S8.probe_wf (s : S8) (unit k : Nat) (bytes : Bytes) (h : s.mem.wf = true) :
    (s.probe unit k bytes).mem.wf = true := by unfold S8.probe; exact Mem.wf_write _ _ h

@[simp] theorem S8.highDone_bytes (s : S8) (vat : Nat) (fl : Flight) (status : Nat) (halved : Bool) (y : List Int) :
    (S8.highDone s vat fl status halved y).mem.bytes = s.mem.bytes := by
  unfold S8.highDone
  simp [ite_bytes]
@[simp] theorem S8.highDone_wf (s : S8) (vat : Nat) (fl : Flight) (status : Nat) (halved : Bool) (y : List Int) (h : s.mem.wf = true) :
    (S8.highDone s vat fl status halved y).mem.wf = true := wf_of_bytes (S8.highDone_bytes s vat fl status halved y) h

@[simp] theorem S8.highCodes_bytes (s : S8) (vat : Nat) (slot : Nat) (fl : Flight) (status : Nat) (input : PourInput) :
    (S8.highCodes s vat slot fl status input).mem.bytes = s.mem.bytes := by
  unfold S8.highCodes
  ((try simp only []); (repeat' split) <;> first | rfl | assumption | (simp [*, foldl_bytes, ite_bytes, memfoldl_bytes]; done))
@[simp] theorem S8.highCodes_wf (s : S8) (vat : Nat) (slot : Nat) (fl : Flight) (status : Nat) (input : PourInput) (h : s.mem.wf = true) :
    (S8.highCodes s vat slot fl status input).mem.wf = true := wf_of_bytes (S8.highCodes_bytes s vat slot fl status input) h

@[simp] theorem S8.lowCodes_bytes (s : S8) (vat : Nat) (fl : Flight) (status : Nat) (input : PourInput) :
    (S8.lowCodes s vat fl status input).mem.bytes = s.mem.bytes := by
  unfold S8.lowCodes
  first
    | rfl
    | (simp; done)
    | ((repeat' split) <;> first | rfl | (simp; done))
    | (dsimp only; (repeat' split) <;> first | rfl | (simp; done))
    | (simp only []; (repeat' split) <;> first | rfl | assumption | (simp [*, foldl_bytes, ite_bytes, memfoldl_bytes]; done))
@[simp] theorem S8.lowCodes_wf (s : S8) (vat : Nat) (fl : Flight) (status : Nat) (input : PourInput) (h : s.mem.wf = true) :
    (S8.lowCodes s vat fl status input).mem.wf = true := wf_of_bytes (by simp) h

@[simp] theorem S8.trierProbe_bytes (s : S8) (vat : Nat) (slot : Nat) (fl : Flight) (input : PourInput) :
    (S8.trierProbe s vat slot fl input).mem.bytes = s.mem.bytes := by
  unfold S8.trierProbe
  ((try simp only []); (repeat' split) <;> first | rfl | assumption | (simp [*, foldl_bytes, ite_bytes, memfoldl_bytes]; done))
@[simp] theorem S8.trierProbe_wf (s : S8) (vat : Nat) (slot : Nat) (fl : Flight) (input : PourInput) (h : s.mem.wf = true) :
    (S8.trierProbe s vat slot fl input).mem.wf = true := wf_of_bytes (S8.trierProbe_bytes s vat slot fl input) h

@[simp] theorem S8.forwardCodes_wf (s : S8) (vat slot : Nat) (fl : Flight) (codes : List Nat) (h : s.mem.wf = true) :
    (s.forwardCodes vat slot fl codes).mem.wf = true := by
  unfold S8.forwardCodes
  dsimp only
  split
  · exact S8.trierProbe_wf _ _ _ _ _ (S8.probe_wf _ _ _ _ (S8.countCodes_wf _ _ _ _ _ _ h))
  · split
    · exact S8.lowCodes_wf _ _ _ _ _ (S8.checkSums_wf _ _ _ _ (S8.countCodes_wf _ _ _ _ _ _ h))
    · exact S8.highCodes_wf _ _ _ _ _ _ (S8.checkSums_wf _ _ _ _ (S8.countCodes_wf _ _ _ _ _ _ h))

@[simp] theorem S8.reverseCodes_wf (s : S8) (vat slot : Nat) (fl : Flight) (codes : List Nat) (h : s.mem.wf = true) :
    (s.reverseCodes vat slot fl codes).mem.wf = true := by
  unfold S8.reverseCodes
  extract_lets off nominal x sat status s1
  have h1 : s1.mem.wf = true := S8.countCodes_wf _ _ _ _ _ _ h
  split
  · exact S8.probe_wf _ _ _ _ h1
  · split
    · exact S8.openFor_wf _ _ h1
    · split
      · exact h1
      · exact S8.deliver_wf _ _ _ _ _ _ _ h1

@[simp] theorem S8.codesReach_wf (s : S8) (vat : Nat) (slot : Nat) (codes : List Nat) (tick : Nat) (upset : Upsets) (h : s.mem.wf = true) :
    (S8.codesReach s vat slot codes tick upset).mem.wf = true := by
  unfold S8.codesReach
  repeat' split <;> first | assumption | simp [*]

@[simp] theorem S8.reserveDecided_bytes (s : S8) (vat : Nat) (slot : Nat) :
    (S8.reserveDecided s vat slot).mem.bytes = s.mem.bytes := by
  unfold S8.reserveDecided
  simp [ite_bytes]
@[simp] theorem S8.reserveDecided_wf (s : S8) (vat : Nat) (slot : Nat) (h : s.mem.wf = true) :
    (S8.reserveDecided s vat slot).mem.wf = true := wf_of_bytes (S8.reserveDecided_bytes s vat slot) h

@[simp] theorem S8.release_bytes (s : S8) (vat : Nat) (lane : Nat) (tick : Nat) (upset : Upsets) :
    (S8.release s vat lane tick upset).mem.bytes = s.mem.bytes := by
  unfold S8.release
  repeat' split <;> first | rfl | simp
@[simp] theorem S8.release_wf (s : S8) (vat : Nat) (lane : Nat) (tick : Nat) (upset : Upsets) (h : s.mem.wf = true) :
    (S8.release s vat lane tick upset).mem.wf = true := wf_of_bytes (S8.release_bytes s vat lane tick upset) h

@[simp] theorem S8.addressFault_bytes (s : S8) (write : Bool) (a : Nat) (len : Nat) :
    (S8.addressFault s write a len).mem.bytes = s.mem.bytes := by
  unfold S8.addressFault
  rfl
@[simp] theorem S8.addressFault_wf (s : S8) (write : Bool) (a : Nat) (len : Nat) (h : s.mem.wf = true) :
    (S8.addressFault s write a len).mem.wf = true := wf_of_bytes (S8.addressFault_bytes s write a len) h

@[simp] theorem S8.probeRead_bytes (s : S8) (a len : Nat) :
    (S8.probeRead s a len).mem.bytes = s.mem.bytes := by
  unfold S8.probeRead
  first
    | rfl
    | (simp; done)
    | ((repeat' split) <;> first | rfl | (simp; done))
    | (dsimp only; (repeat' split) <;> first | rfl | (simp; done))
    | (simp only []; (repeat' split) <;> first | rfl | assumption | (simp [*, foldl_bytes, ite_bytes, memfoldl_bytes]; done))
@[simp] theorem S8.probeRead_wf (s : S8) (a len : Nat) (h : s.mem.wf = true) :
    (S8.probeRead s a len).mem.wf = true := wf_of_bytes (by simp) h

@[simp] theorem S8.storeBytes_wf (s : S8) (a : Nat) (b : Bytes) (h : s.mem.wf = true) : (S8.storeBytes s a b).mem.wf = true := by
  unfold S8.storeBytes
  exact S8.raise_wf _ _ _ _ _ _ (memfoldl_wf _ _ _ (fun m e hm => Mem.wf_write _ _ hm) (Mem.wf_write _ _ h))

@[simp] theorem S8.powerLoss_wf (s : S8) : s.powerLoss.mem.wf = true := by unfold S8.powerLoss; rfl

@[simp] theorem S8.start_bytes (s : S8) (recordValid : List Bool) (starterCore : List Bool) :
    (S8.start s recordValid starterCore).mem.bytes = s.mem.bytes := by
  unfold S8.start
  rfl
@[simp] theorem S8.start_wf (s : S8) (recordValid : List Bool) (starterCore : List Bool) (h : s.mem.wf = true) :
    (S8.start s recordValid starterCore).mem.wf = true := wf_of_bytes (S8.start_bytes s recordValid starterCore) h

@[simp] theorem S8.bootFailed_bytes (s : S8) (die : Nat) (slot : Nat) (result : Nat) :
    (S8.bootFailed s die slot result).mem.bytes = s.mem.bytes := by
  unfold S8.bootFailed
  rfl
@[simp] theorem S8.bootFailed_wf (s : S8) (die : Nat) (slot : Nat) (result : Nat) (h : s.mem.wf = true) :
    (S8.bootFailed s die slot result).mem.wf = true := wf_of_bytes (S8.bootFailed_bytes s die slot result) h

@[simp] theorem S8.bootPassed_bytes (s : S8) (die : Nat) (slot : Nat) :
    (S8.bootPassed s die slot).mem.bytes = s.mem.bytes := by
  unfold S8.bootPassed
  rfl
@[simp] theorem S8.bootPassed_wf (s : S8) (die : Nat) (slot : Nat) (h : s.mem.wf = true) :
    (S8.bootPassed s die slot).mem.wf = true := wf_of_bytes (S8.bootPassed_bytes s die slot) h

@[simp] theorem firmwareLoadEffect_bytes (s : S8) (value : Bytes) :
    (firmwareLoadEffect s value).2.mem.bytes = s.mem.bytes := by
  unfold firmwareLoadEffect
  rfl
@[simp] theorem firmwareLoadEffect_wf (s : S8) (value : Bytes) (h : s.mem.wf = true) :
    (firmwareLoadEffect s value).2.mem.wf = true := wf_of_bytes (firmwareLoadEffect_bytes s value) h

@[simp] theorem S8.finishFirmware_bytes (s : S8) :
    (S8.finishFirmware s).mem.bytes = s.mem.bytes := by
  unfold S8.finishFirmware
  simp [ite_bytes]
@[simp] theorem S8.finishFirmware_wf (s : S8) (h : s.mem.wf = true) :
    (S8.finishFirmware s).mem.wf = true := wf_of_bytes (S8.finishFirmware_bytes s) h

@[simp] theorem S8.receiveBulk_wf (s : S8) (f : Frame) (kind : Nat) (k : S8 → FrameView → S8) (hk : ∀ c u, c.mem.wf = true → (k c u).mem.wf = true) (h : s.mem.wf = true) :
    (S8.receiveBulk s f kind k).mem.wf = true := by
  unfold S8.receiveBulk
  refine S8.receive_wf _ _ _ _ (fun c v hc => ?_) h
  split
  · simp [hc]
  · split
    · exact hc
    · exact hk c v hc

@[simp] theorem S8.chooseCoordinator_bytes (s : S8) :
    (S8.chooseCoordinator s).mem.bytes = s.mem.bytes := by
  unfold S8.chooseCoordinator
  split <;> first | rfl | simp
@[simp] theorem S8.chooseCoordinator_wf (s : S8) (h : s.mem.wf = true) :
    (S8.chooseCoordinator s).mem.wf = true := wf_of_bytes (S8.chooseCoordinator_bytes s) h

@[simp] theorem handoverEffect_bytes (s : S8) (value : Bytes) :
    (handoverEffect s value).2.mem.bytes = s.mem.bytes := by
  unfold handoverEffect
  dsimp only; split <;> first | rfl | simp
@[simp] theorem handoverEffect_wf (s : S8) (value : Bytes) (h : s.mem.wf = true) :
    (handoverEffect s value).2.mem.wf = true := wf_of_bytes (handoverEffect_bytes s value) h

@[simp] theorem S8.handoverFailed_bytes (s : S8) :
    (S8.handoverFailed s).mem.bytes = s.mem.bytes := by
  unfold S8.handoverFailed
  rfl
@[simp] theorem S8.handoverFailed_wf (s : S8) (h : s.mem.wf = true) :
    (S8.handoverFailed s).mem.wf = true := wf_of_bytes (S8.handoverFailed_bytes s) h

@[simp] theorem S8.bootBoundary_bytes (s : S8) :
    (S8.bootBoundary s).mem.bytes = s.mem.bytes := by
  unfold S8.bootBoundary
  simp [ite_bytes]
@[simp] theorem S8.bootBoundary_wf (s : S8) (h : s.mem.wf = true) :
    (S8.bootBoundary s).mem.wf = true := wf_of_bytes (S8.bootBoundary_bytes s) h

@[simp] theorem S8.readLeaves_bytes (s : S8) (reduction : Nat) (tick : Nat)
    (mesh : List (RindUnit × Lane × MeshErr)) : (S8.readLeaves s reduction tick mesh).mem.bytes = s.mem.bytes := by
  unfold S8.readLeaves
  ((try simp only []); (repeat' split) <;> first | rfl | assumption | (simp [*, foldl_bytes, ite_bytes, memfoldl_bytes]; done))
@[simp] theorem S8.readLeaves_wf (s : S8) (reduction : Nat) (tick : Nat)
    (mesh : List (RindUnit × Lane × MeshErr)) (h : s.mem.wf = true) :
    (S8.readLeaves s reduction tick mesh).mem.wf = true := wf_of_bytes (S8.readLeaves_bytes s reduction tick mesh) h

@[simp] theorem Mem.writeRows_wf (m : Mem) (core : CoreRef) (row : Nat) (b : Bytes) (h : m.wf = true) :
    (Mem.writeRows m core row b).wf = true := by
  unfold Mem.writeRows
  simp +contextual [foldl_wf, memfoldl_wf, *]

@[simp] theorem S8.addNode_wf (s : S8) (reduction : Nat) (lane : Nat) (node : Nat) (tick : Nat) (mesh : MeshErr) (h : s.mem.wf = true) :
    (S8.addNode s reduction lane node tick mesh).mem.wf = true := by
  unfold S8.addNode
  ((try simp only []); (repeat' split) <;> first | assumption | exact Mem.wf_write _ _ h | (simp +contextual [*, foldl_wf, memfoldl_wf]; done))

@[simp] theorem S8.saveSet_wf (s : S8) (unit reduction lane : Nat) (h : s.mem.wf = true) :
    (s.saveSet unit reduction lane).mem.wf = true := by
  unfold S8.saveSet
  split
  · exact h
  · split
    · exact Mem.wf_write _ _ h
    · exact h

@[simp] theorem S8.restoreSet_bytes (s : S8) (unit : Nat) (reduction : Nat) (lane : Nat) (upset : Upsets) :
    (S8.restoreSet s unit reduction lane upset).mem.bytes = s.mem.bytes := by
  unfold S8.restoreSet
  repeat' split <;> first | rfl | simp
@[simp] theorem S8.restoreSet_wf (s : S8) (unit : Nat) (reduction : Nat) (lane : Nat) (upset : Upsets) (h : s.mem.wf = true) :
    (S8.restoreSet s unit reduction lane upset).mem.wf = true := wf_of_bytes (S8.restoreSet_bytes s unit reduction lane upset) h

@[simp] theorem S8.onCore_bytes (s : S8) (core : Core) (f : S8 → S8) (hk : ∀ c, (f c).mem.bytes = c.mem.bytes) :
    (S8.onCore s core f).mem.bytes = s.mem.bytes := by
  unfold S8.onCore
  simp [foldl_bytes, ite_bytes, memfoldl_bytes, *]
@[simp] theorem S8.onCore_wf (s : S8) (core : Core) (f : S8 → S8) (hk : ∀ c, c.mem.wf = true → (f c).mem.wf = true) (h : s.mem.wf = true) :
    (S8.onCore s core f).mem.wf = true := by
  unfold S8.onCore
  split <;> first | assumption | simp [*]

@[simp] theorem S8.illegal_bytes (s : S8) (core : Nat) (word : Nat) :
    (S8.illegal s core word).mem.bytes = s.mem.bytes := by
  unfold S8.illegal
  rfl
@[simp] theorem S8.illegal_wf (s : S8) (core : Nat) (word : Nat) (h : s.mem.wf = true) :
    (S8.illegal s core word).mem.wf = true := wf_of_bytes (S8.illegal_bytes s core word) h

@[simp] theorem S8.xferEnd_bytes (s : S8) (core : Nat) (tag : Nat) (status : Nat) (t : RowTransfer) :
    (S8.xferEnd s core tag status t).mem.bytes = s.mem.bytes := by
  unfold S8.xferEnd
  ((try simp only []); (repeat' split) <;> first | rfl | assumption | (simp [*, foldl_bytes, ite_bytes, memfoldl_bytes]; done))
@[simp] theorem S8.xferEnd_wf (s : S8) (core : Nat) (tag : Nat) (status : Nat) (t : RowTransfer) (h : s.mem.wf = true) :
    (S8.xferEnd s core tag status t).mem.wf = true := wf_of_bytes (S8.xferEnd_bytes s core tag status t) h

@[simp] theorem S8.xferStart_bytes (s : S8) (core : Nat) (rd : Nat) (t : RowTransfer) :
    (S8.xferStart s core rd t).mem.bytes = s.mem.bytes := by
  unfold S8.xferStart
  simp [ite_bytes]
@[simp] theorem S8.xferStart_wf (s : S8) (core : Nat) (rd : Nat) (t : RowTransfer) (h : s.mem.wf = true) :
    (S8.xferStart s core rd t).mem.wf = true := wf_of_bytes (S8.xferStart_bytes s core rd t) h

@[simp] theorem S8.copyRows_wf (s : S8) (source dest rows : Nat) (upset : Upsets) (h : s.mem.wf = true) :
    (S8.copyRows s source dest rows upset).1.mem.wf = true := by
  induction rows generalizing s source dest with
  | zero => exact h
  | succ n ih =>
    simp only [S8.copyRows]
    have h1 : ((s.meetWords source 512 upset).probeRead source 512).mem.wf = true := by
      exact S8.probeRead_wf _ _ _ (S8.meetWords_wf s source 512 upset h)
    split
    · exact h1
    · exact ih _ _ _ (S8.storeBytes_wf _ _ _ h1)

@[simp] theorem Mem.writeEach_wf (m : Mem) (addrs : List Nat) (b : Bytes) (h : m.wf = true) :
    (Mem.writeEach m addrs b).wf = true := by
  unfold Mem.writeEach
  simp +contextual [foldl_wf, memfoldl_wf, *]

@[simp] theorem S8.encoded_bytes (s : S8) (core : Nat) (vd : Nat) (r : Block × Tally) :
    (S8.encoded s core vd r).mem.bytes = s.mem.bytes := by
  unfold S8.encoded
  rfl
@[simp] theorem S8.encoded_wf (s : S8) (core : Nat) (vd : Nat) (r : Block × Tally) (h : s.mem.wf = true) :
    (S8.encoded s core vd r).mem.wf = true := wf_of_bytes (S8.encoded_bytes s core vd r) h

@[simp] theorem S8.settleAgent_bytes (s : S8) (half : Nat) :
    (S8.settleAgent s half).mem.bytes = s.mem.bytes := by
  unfold S8.settleAgent
  simp [ite_bytes]
@[simp] theorem S8.settleAgent_wf (s : S8) (half : Nat) (h : s.mem.wf = true) :
    (S8.settleAgent s half).mem.wf = true := wf_of_bytes (S8.settleAgent_bytes s half) h

@[simp] theorem S8.startMove_bytes (s : S8) (half : Nat) (logical : Nat) (spare : Nat) (after : Nat) :
    (S8.startMove s half logical spare after).mem.bytes = s.mem.bytes := by
  unfold S8.startMove
  simp [ite_bytes]
@[simp] theorem S8.startMove_wf (s : S8) (half : Nat) (logical : Nat) (spare : Nat) (after : Nat) (h : s.mem.wf = true) :
    (S8.startMove s half logical spare after).mem.wf = true := wf_of_bytes (S8.startMove_bytes s half logical spare after) h

@[simp] theorem coreMoveEffect_bytes (die : Nat) (s : S8) (value : Bytes) :
    (coreMoveEffect die s value).2.mem.bytes = s.mem.bytes := by
  unfold coreMoveEffect
  simp
@[simp] theorem coreMoveEffect_wf (die : Nat) (s : S8) (value : Bytes) (h : s.mem.wf = true) :
    (coreMoveEffect die s value).2.mem.wf = true := wf_of_bytes (coreMoveEffect_bytes die s value) h

@[simp] theorem Mem.copyScratch_wf (m : Mem) (logical spare rows : Nat) (h : m.wf = true) :
    (m.copyScratch logical spare rows).wf = true := by unfold Mem.copyScratch; exact Mem.wf_write _ _ h

@[simp] theorem S8.moveBoundary_wf (s : S8) (m : CoreMove) (h : s.mem.wf = true) :
    (S8.moveBoundary s m).mem.wf = true := by
  unfold S8.moveBoundary
  ((try simp only []); (repeat' split) <;> first | assumption | exact Mem.wf_write _ _ h | (simp +contextual [*, foldl_wf, memfoldl_wf]; done))

@[simp] theorem S8.coreBoundary_wf (s : S8) (h : s.mem.wf = true) :
    (S8.coreBoundary s).mem.wf = true := by
  unfold S8.coreBoundary
  simp +contextual [foldl_wf, memfoldl_wf, *]

@[simp] theorem Mem.writeTables_wf (m : Mem) (k : Nat) (g : Golden) (wheel content : Nat) (place : Nat × Nat × Nat)
    (residuals : List Entry) (h : m.wf = true) : (m.writeTables k g wheel content place residuals).wf = true := by
  unfold Mem.writeTables; exact Mem.digestTable_wf _ _ (Mem.wf_write _ _ (Mem.wf_write _ _ (Mem.wf_write _ _ h)))

@[simp] theorem S8.pumpLane_bytes (s : S8) (n : Nat) :
    (S8.pumpLane s n).mem.bytes = s.mem.bytes := by
  unfold S8.pumpLane
  rfl
@[simp] theorem S8.pumpLane_wf (s : S8) (n : Nat) (h : s.mem.wf = true) :
    (S8.pumpLane s n).mem.wf = true := wf_of_bytes (S8.pumpLane_bytes s n) h

@[simp] theorem S8.startTransfer_bytes (s : S8) (index : Nat) (mesh : MeshErr) :
    (S8.startTransfer s index mesh).mem.bytes = s.mem.bytes := by
  unfold S8.startTransfer
  first
    | rfl
    | (simp; done)
    | ((repeat' split) <;> first | rfl | (simp; done))
    | (dsimp only; (repeat' split) <;> first | rfl | (simp; done))
    | (simp only []; (repeat' split) <;> first | rfl | assumption | (simp [*, foldl_bytes, ite_bytes, memfoldl_bytes]; done))
@[simp] theorem S8.startTransfer_wf (s : S8) (index : Nat) (mesh : MeshErr) (h : s.mem.wf = true) :
    (S8.startTransfer s index mesh).mem.wf = true := wf_of_bytes (by simp) h

@[simp] theorem S8.arrive_wf (s : S8) (lane index tick : Nat) (mesh : MeshErr) (h : s.mem.wf = true) :
    (S8.arrive s lane index tick mesh).mem.wf = true := by
  unfold S8.arrive
  split
  · exact h
  · dsimp only
    split
    · exact h
    · split
      · refine S8.raise_wf _ _ _ _ _ _ ?_
        dsimp only
        split
        · exact S8.countFault_wf _ _ _ _ (S8.meshWords_wf _ _ _ _ h)
        · exact Mem.writeRows_wf _ _ _ _ (S8.countFault_wf _ _ _ _ (S8.meshWords_wf _ _ _ _ h))
      · exact h

@[simp] theorem S8.isolate_bytes (s : S8) :
    (S8.isolate s).mem.bytes = s.mem.bytes := by
  unfold S8.isolate
  simp [ite_bytes]
@[simp] theorem S8.isolate_wf (s : S8) (h : s.mem.wf = true) :
    (S8.isolate s).mem.wf = true := wf_of_bytes (S8.isolate_bytes s) h

@[simp] theorem S8.trunkLost_bytes (s : S8) (d : Nat) :
    (S8.trunkLost s d).mem.bytes = s.mem.bytes := by
  unfold S8.trunkLost
  ((try simp only []); (repeat' split) <;> first | rfl | assumption | (simp [*, foldl_bytes, ite_bytes, memfoldl_bytes]; done))
@[simp] theorem S8.trunkLost_wf (s : S8) (d : Nat) (h : s.mem.wf = true) :
    (S8.trunkLost s d).mem.wf = true := wf_of_bytes (S8.trunkLost_bytes s d) h

@[simp] theorem S8.laneDown_bytes (s : S8) (n : Nat) :
    (S8.laneDown s n).mem.bytes = s.mem.bytes := by
  unfold S8.laneDown
  simp [ite_bytes]
@[simp] theorem S8.laneDown_wf (s : S8) (n : Nat) (h : s.mem.wf = true) :
    (S8.laneDown s n).mem.wf = true := wf_of_bytes (S8.laneDown_bytes s n) h

@[simp] theorem S8.notice_bytes (s : S8) (n : Nat) :
    (S8.notice s n).mem.bytes = s.mem.bytes := by
  unfold S8.notice
  split <;> first | rfl | simp
@[simp] theorem S8.notice_wf (s : S8) (n : Nat) (h : s.mem.wf = true) :
    (S8.notice s n).mem.wf = true := wf_of_bytes (S8.notice_bytes s n) h

@[simp] theorem S8.detectFail_bytes (s : S8) (n : Nat) :
    (S8.detectFail s n).mem.bytes = s.mem.bytes := by
  unfold S8.detectFail
  simp [ite_bytes]
@[simp] theorem S8.detectFail_wf (s : S8) (n : Nat) (h : s.mem.wf = true) :
    (S8.detectFail s n).mem.wf = true := wf_of_bytes (S8.detectFail_bytes s n) h

@[simp] theorem S8.judgeLane_bytes (s : S8) (n : Nat) : (S8.judgeLane s n).mem.bytes = s.mem.bytes := by
  unfold S8.judgeLane
  split
  · simp
  · rfl

@[simp] theorem S8.judgeLane_wf (s : S8) (n : Nat) (h : s.mem.wf = true) :
    (S8.judgeLane s n).mem.wf = true := wf_of_bytes (by simp) h

@[simp] theorem S8.askReplay_bytes (s : S8) (n failures : Nat) :
    (S8.askReplay s n failures).mem.bytes = s.mem.bytes := by
  unfold S8.askReplay
  first
    | rfl
    | simp
    | (dsimp only; repeat' split <;> first | rfl | simp)
    | (simp only []; (repeat' split) <;> first | rfl | assumption | (simp [*, foldl_bytes, ite_bytes, memfoldl_bytes]; done))
@[simp] theorem S8.askReplay_wf (s : S8) (n failures : Nat) (h : s.mem.wf = true) :
    (S8.askReplay s n failures).mem.wf = true := wf_of_bytes (by simp) h

@[simp] theorem S8.failOver_bytes (s : S8) (n : Nat) : (S8.failOver s n).mem.bytes = s.mem.bytes := by
  have hl : ∀ (l : List Nat) (t : S8), (l.foldl (fun (a : S8) k => a.laneUnbacked k) t).mem.bytes = t.mem.bytes := fun l t =>
    foldl_bytes _ _ _ (fun a k => S8.laneUnbacked_bytes _ _)
  have hc : ∀ (a : S8), a.mem.bytes = s.mem.bytes →
      (if a.fab.trunkFailed (n / 9) && !(a.fab.trunksLost.contains (n / 9)) then a.trunkLost (n / 9) else a).mem.bytes = s.mem.bytes := by
    intro a ha; split
    · simp [ha]
    · exact ha
  unfold S8.failOver
  dsimp only
  refine hc _ ?_
  split
  · exact hl _ _
  · split
    · rfl
    · split
      · exact S8.pumpLane_bytes _ _
      · exact S8.laneUnbacked_bytes _ _

@[simp] theorem S8.failOver_wf (s : S8) (n : Nat) (h : s.mem.wf = true) :
    (S8.failOver s n).mem.wf = true := wf_of_bytes (by simp) h

@[simp] theorem S8.receiveControl_bytes (s : S8) (f : Flit) (kind : Nat) (k : S8 → FlitView → S8) (hk : ∀ c u, (k c u).mem.bytes = c.mem.bytes) :
    (S8.receiveControl s f kind k).mem.bytes = s.mem.bytes := by
  unfold S8.receiveControl
  ((try simp only []); (repeat' split) <;> first | rfl | assumption | (simp [*, foldl_bytes, ite_bytes, memfoldl_bytes]; done))
@[simp] theorem S8.receiveControl_wf (s : S8) (f : Flit) (kind : Nat) (k : S8 → FlitView → S8) (hk : ∀ c u, c.mem.wf = true → (k c u).mem.wf = true) (h : s.mem.wf = true) :
    (S8.receiveControl s f kind k).mem.wf = true := by
  unfold S8.receiveControl
  ((try simp only []); (repeat' split) <;> first | assumption | exact Mem.wf_write _ _ h | (simp +contextual [*, foldl_wf, memfoldl_wf]; done))

@[simp] theorem S8.badBulk_bytes (s : S8) (n : Nat) (raw : Bytes) :
    (S8.badBulk s n raw).mem.bytes = s.mem.bytes := by
  unfold S8.badBulk
  first
    | rfl
    | (simp; done)
    | ((repeat' split) <;> first | rfl | (simp; done))
    | (dsimp only; (repeat' split) <;> first | rfl | (simp; done))
    | (simp only []; (repeat' split) <;> first | rfl | assumption | (simp [*, foldl_bytes, ite_bytes, memfoldl_bytes]; done))
@[simp] theorem S8.badBulk_wf (s : S8) (n : Nat) (raw : Bytes) (h : s.mem.wf = true) :
    (S8.badBulk s n raw).mem.wf = true := wf_of_bytes (by simp) h

@[simp] theorem S8.acceptBulk_bytes (s : S8) (n : Nat) (v : FlitView) :
    (S8.acceptBulk s n v).mem.bytes = s.mem.bytes := by
  unfold S8.acceptBulk
  rfl
@[simp] theorem S8.acceptBulk_wf (s : S8) (n : Nat) (v : FlitView) (h : s.mem.wf = true) :
    (S8.acceptBulk s n v).mem.wf = true := wf_of_bytes (S8.acceptBulk_bytes s n v) h

@[simp] theorem S8.receiveBulkFlit_bytes (s : S8) (f : Flit) (k : S8 → FlitView → S8) (hk : ∀ c u, (k c u).mem.bytes = c.mem.bytes) :
    (S8.receiveBulkFlit s f k).mem.bytes = s.mem.bytes := by
  unfold S8.receiveBulkFlit
  ((try simp only []); (repeat' split) <;> first | rfl | assumption | (simp [*, foldl_bytes, ite_bytes, memfoldl_bytes]; done))
@[simp] theorem S8.receiveBulkFlit_wf (s : S8) (f : Flit) (k : S8 → FlitView → S8) (hk : ∀ c u, c.mem.wf = true → (k c u).mem.wf = true) (h : s.mem.wf = true) :
    (S8.receiveBulkFlit s f k).mem.wf = true := by
  have h1 := S8.raise_wf s Obj.flitCorrectedCount 0 (flitCorrected f.raw) (unitField 6 f.lane.val) 0 h
  unfold S8.receiveBulkFlit
  dsimp only
  split
  · split
    · exact S8.badBulk_wf _ _ _ h
    · split
      · exact hk _ _ h1
      · split
        · exact S8.askReplay_wf _ _ _ h1
        · exact h1
  · exact h

@[simp] theorem S8.creditFlit_bytes (s : S8) (n : Nat) (p : Bytes) :
    (S8.creditFlit s n p).mem.bytes = s.mem.bytes := by
  unfold S8.creditFlit
  rfl
@[simp] theorem S8.creditFlit_wf (s : S8) (n : Nat) (p : Bytes) (h : s.mem.wf = true) :
    (S8.creditFlit s n p).mem.wf = true := wf_of_bytes (S8.creditFlit_bytes s n p) h

@[simp] theorem S8.steer_bytes (s : S8) (lane : Nat) (t1 : Int) (t2 : Int) (t3 : Int) (t4 : Int) :
    (S8.steer s lane t1 t2 t3 t4).mem.bytes = s.mem.bytes := by
  unfold S8.steer
  rfl
@[simp] theorem S8.steer_wf (s : S8) (lane : Nat) (t1 : Int) (t2 : Int) (t3 : Int) (t4 : Int) (h : s.mem.wf = true) :
    (S8.steer s lane t1 t2 t3 t4).mem.wf = true := wf_of_bytes (S8.steer_bytes s lane t1 t2 t3 t4) h

@[simp] theorem digestListEffect_bytes (s : S8) (value : Bytes) :
    (digestListEffect s value).2.mem.bytes = s.mem.bytes := by
  unfold digestListEffect
  rfl
@[simp] theorem digestListEffect_wf (s : S8) (value : Bytes) (h : s.mem.wf = true) :
    (digestListEffect s value).2.mem.wf = true := wf_of_bytes (digestListEffect_bytes s value) h

@[simp] theorem runLoadEffect_bytes (s : S8) (value : Bytes) :
    (runLoadEffect s value).2.mem.bytes = s.mem.bytes := by
  unfold runLoadEffect
  rfl
@[simp] theorem runLoadEffect_wf (s : S8) (value : Bytes) (h : s.mem.wf = true) :
    (runLoadEffect s value).2.mem.wf = true := wf_of_bytes (runLoadEffect_bytes s value) h

@[simp] theorem S8.loadComplete_bytes (s : S8) :
    (S8.loadComplete s).mem.bytes = s.mem.bytes := by
  unfold S8.loadComplete
  simp [ite_bytes]
@[simp] theorem S8.loadComplete_wf (s : S8) (h : s.mem.wf = true) :
    (S8.loadComplete s).mem.wf = true := wf_of_bytes (S8.loadComplete_bytes s) h

@[simp] theorem S8.overrunHalf_bytes (s : S8) (half : Nat) :
    (S8.overrunHalf s half).mem.bytes = s.mem.bytes := by
  unfold S8.overrunHalf
  simp [ite_bytes]
@[simp] theorem S8.overrunHalf_wf (s : S8) (half : Nat) (h : s.mem.wf = true) :
    (S8.overrunHalf s half).mem.wf = true := wf_of_bytes (S8.overrunHalf_bytes s half) h

@[simp] theorem S8.onTask_bytes (s : S8) (index : Nat) (kind : Nat) (lane : Nat) (f : Sheet → CoreTask → S8) (hk : ∀ c u, (f c u).mem.bytes = s.mem.bytes) :
    (S8.onTask s index kind lane f).mem.bytes = s.mem.bytes := by
  unfold S8.onTask
  ((try simp only []); (repeat' split) <;> first | rfl | assumption | (simp [*, foldl_bytes, ite_bytes, memfoldl_bytes]; done))
@[simp] theorem S8.onTask_wf (s : S8) (index : Nat) (kind : Nat) (lane : Nat) (f : Sheet → CoreTask → S8) (hk : ∀ c u, (f c u).mem.wf = true) (h : s.mem.wf = true) :
    (S8.onTask s index kind lane f).mem.wf = true := by
  unfold S8.onTask
  repeat' split <;> first | assumption | simp [*]

@[simp] theorem S8.loadTrap_bytes (s : S8) (core : CoreRef) (row : Nat) (n : Nat) :
    (S8.loadTrap s core row n).mem.bytes = s.mem.bytes := by
  unfold S8.loadTrap
  rfl
@[simp] theorem S8.loadTrap_wf (s : S8) (core : CoreRef) (row : Nat) (n : Nat) (h : s.mem.wf = true) :
    (S8.loadTrap s core row n).mem.wf = true := wf_of_bytes (S8.loadTrap_bytes s core row n) h

@[simp] theorem S8.reading_bytes (s : S8) (core : CoreRef) (row : Nat) (n : Nat) (f : Bytes → S8) (hk : ∀ c, (f c).mem.bytes = s.mem.bytes) :
    (S8.reading s core row n f).mem.bytes = s.mem.bytes := by
  unfold S8.reading
  simp [foldl_bytes, ite_bytes, memfoldl_bytes, *]
@[simp] theorem S8.reading_wf (s : S8) (core : CoreRef) (row : Nat) (n : Nat) (f : Bytes → S8) (hk : ∀ c, (f c).mem.wf = true) (h : s.mem.wf = true) :
    (S8.reading s core row n f).mem.wf = true := by
  unfold S8.reading
  split <;> first | assumption | simp [*]

@[simp] theorem S8.laneResult_wf (s : S8) (core : CoreRef) (row : Nat) (rows : Bytes) (phase : Nat) (lane : Nat) (status : Nat) (h : s.mem.wf = true) :
    (S8.laneResult s core row rows phase lane status).mem.wf = true := by
  unfold S8.laneResult
  simp [h]

@[simp] theorem S8.buildVector_wf (s : S8) (sh : Sheet) (t : CoreTask) (lane : Nat) (h : s.mem.wf = true) :
    (S8.buildVector s sh t lane).mem.wf = true := by
  unfold S8.buildVector
  refine S8.reading_wf _ _ _ _ _ (fun b => ?_) h
  dsimp only
  exact Mem.writeRows_wf _ _ _ _ h

@[simp] theorem S8.roundLane_wf (s : S8) (sh : Sheet) (index : Nat) (t : CoreTask) (lane : Nat) (h : s.mem.wf = true) :
    (S8.roundLane s sh index t lane).mem.wf = true := by
  unfold S8.roundLane
  repeat' split <;> first | assumption | simp [*]

@[simp] theorem S8.routineLane_wf (s : S8) (index : Nat) (kind : Nat) (t : CoreTask) (lane : Nat) (input : Bytes) (h : s.mem.wf = true) :
    (S8.routineLane s index kind t lane input).mem.wf = true := by
  unfold S8.routineLane
  simp [h]

@[simp] theorem S8.route_bytes (s : S8) (group : Nat) :
    (S8.route s group).mem.bytes = s.mem.bytes := by
  unfold S8.route
  ((try simp only []); (repeat' split) <;> first | rfl | assumption | (simp [*, foldl_bytes, ite_bytes, memfoldl_bytes]; done))
@[simp] theorem S8.route_wf (s : S8) (group : Nat) (h : s.mem.wf = true) :
    (S8.route s group).mem.wf = true := wf_of_bytes (S8.route_bytes s group) h

@[simp] theorem S8.stageLane_wf (s : S8) (sh : Sheet) (t : CoreTask) (lane : Nat) (h : s.mem.wf = true) :
    (S8.stageLane s sh t lane).mem.wf = true := by
  unfold S8.stageLane
  split <;> first | assumption | simp [*]

@[simp] theorem S8.takeEntry_bytes (s : S8) (pages : Nat) (layerTag : Nat) :
    (S8.takeEntry s pages layerTag).2.mem.bytes = s.mem.bytes := by
  unfold S8.takeEntry
  rfl
@[simp] theorem S8.takeEntry_wf (s : S8) (pages : Nat) (layerTag : Nat) (h : s.mem.wf = true) :
    (S8.takeEntry s pages layerTag).2.mem.wf = true := wf_of_bytes (S8.takeEntry_bytes s pages layerTag) h

@[simp] theorem S8.writePages_bytes (s : S8) (pages : Nat) :
    (S8.writePages s pages).mem.bytes = s.mem.bytes := by
  unfold S8.writePages
  rfl
@[simp] theorem S8.writePages_wf (s : S8) (pages : Nat) (h : s.mem.wf = true) :
    (S8.writePages s pages).mem.wf = true := wf_of_bytes (S8.writePages_bytes s pages) h

@[simp] theorem S8.writeCellar_bytes (s : S8) (bytes : Nat) :
    (S8.writeCellar s bytes).mem.bytes = s.mem.bytes := by
  unfold S8.writeCellar
  rfl
@[simp] theorem S8.writeCellar_wf (s : S8) (bytes : Nat) (h : s.mem.wf = true) :
    (S8.writeCellar s bytes).mem.wf = true := wf_of_bytes (S8.writeCellar_bytes s bytes) h

@[simp] theorem S8.acceptRequest_bytes (s : S8) (sh : Sheet) (slot : Nat) (port : Port) (kind : Nat) (r : Request) (placing : Option Placing) :
    (S8.acceptRequest s sh slot port kind r placing).mem.bytes = s.mem.bytes := by
  unfold S8.acceptRequest
  rfl
@[simp] theorem S8.acceptRequest_wf (s : S8) (sh : Sheet) (slot : Nat) (port : Port) (kind : Nat) (r : Request) (placing : Option Placing) (h : s.mem.wf = true) :
    (S8.acceptRequest s sh slot port kind r placing).mem.wf = true := wf_of_bytes (S8.acceptRequest_bytes s sh slot port kind r placing) h

@[simp] theorem S8.answerRequest_bytes (s : S8) (kind : Nat) (port : Port) (downSlot : Nat) (v : FrameView) :
    (S8.answerRequest s kind port downSlot v).2.mem.bytes = s.mem.bytes := by
  unfold S8.answerRequest
  dsimp only; split <;> first | rfl | simp
@[simp] theorem S8.answerRequest_wf (s : S8) (kind : Nat) (port : Port) (downSlot : Nat) (v : FrameView) (h : s.mem.wf = true) :
    (S8.answerRequest s kind port downSlot v).2.mem.wf = true := wf_of_bytes (S8.answerRequest_bytes s kind port downSlot v) h

@[simp] theorem S8.requestFrame_wf (s : S8) (f : Frame) (kind : Nat) (decision : S8 → FrameView → AnswerRecord × S8) (hk : ∀ c u, c.mem.wf = true → (decision c u).2.mem.wf = true) (h : s.mem.wf = true) :
    (S8.requestFrame s f kind decision).mem.wf = true := by
  unfold S8.requestFrame
  refine S8.receive_wf _ _ _ _ (fun c v hc => ?_) h
  dsimp only
  split
  · simp [hc]
  · split
    · simp [hc]
    · split
      · simp [hc]
      · split
        · simp [hc]
        · have h1 := hk c v hc
          dsimp only
          exact S8.answerRecord_wf _ _ _ h1

@[simp] theorem S8.sampleLane_bytes (s : S8) (index : Nat) (lane : Nat) :
    (S8.sampleLane s index lane).mem.bytes = s.mem.bytes := by
  unfold S8.sampleLane
  ((try simp only []); (repeat' split) <;> first | rfl | assumption | (simp [*, foldl_bytes, ite_bytes, memfoldl_bytes]; done))
@[simp] theorem S8.sampleLane_wf (s : S8) (index : Nat) (lane : Nat) (h : s.mem.wf = true) :
    (S8.sampleLane s index lane).mem.wf = true := wf_of_bytes (S8.sampleLane_bytes s index lane) h

@[simp] theorem S8.freeSlot_bytes (s : S8) (slot : Nat) :
    (S8.freeSlot s slot).mem.bytes = s.mem.bytes := by
  unfold S8.freeSlot
  split <;> first | rfl | simp
@[simp] theorem S8.freeSlot_wf (s : S8) (slot : Nat) (h : s.mem.wf = true) :
    (S8.freeSlot s slot).mem.wf = true := wf_of_bytes (S8.freeSlot_bytes s slot) h

@[simp] theorem S8.finish_bytes (s : S8) (slot : Nat) (c : Completion) :
    (S8.finish s slot c).mem.bytes = s.mem.bytes := by
  unfold S8.finish
  split <;> first | rfl | simp
@[simp] theorem S8.finish_wf (s : S8) (slot : Nat) (c : Completion) (h : s.mem.wf = true) :
    (S8.finish s slot c).mem.wf = true := wf_of_bytes (S8.finish_bytes s slot c) h

@[simp] theorem S8.setSequence_bytes (s : S8) (slot : Nat) (f : Sequence → Sequence) :
    (S8.setSequence s slot f).mem.bytes = s.mem.bytes := by
  unfold S8.setSequence
  split <;> first | rfl | simp
@[simp] theorem S8.setSequence_wf (s : S8) (slot : Nat) (f : Sequence → Sequence) (h : s.mem.wf = true) :
    (S8.setSequence s slot f).mem.wf = true := wf_of_bytes (S8.setSequence_bytes s slot f) h

@[simp] theorem S8.answerCancel_bytes (s : S8) (downSlot : Nat) (v : FrameView) :
    (S8.answerCancel s downSlot v).2.mem.bytes = s.mem.bytes := by
  unfold S8.answerCancel
  ((try simp only []); (repeat' split) <;> first | rfl | assumption | (simp [*, foldl_bytes, ite_bytes, memfoldl_bytes]; done))
@[simp] theorem S8.answerCancel_wf (s : S8) (downSlot : Nat) (v : FrameView) (h : s.mem.wf = true) :
    (S8.answerCancel s downSlot v).2.mem.wf = true := wf_of_bytes (S8.answerCancel_bytes s downSlot v) h

@[simp] theorem S8.pauseParked_bytes (s : S8) (slot : Nat) (q : Sequence) :
    (S8.pauseParked s slot q).mem.bytes = s.mem.bytes := by
  unfold S8.pauseParked
  repeat' split <;> first | rfl | simp
@[simp] theorem S8.pauseParked_wf (s : S8) (slot : Nat) (q : Sequence) (h : s.mem.wf = true) :
    (S8.pauseParked s slot q).mem.wf = true := wf_of_bytes (S8.pauseParked_bytes s slot q) h

@[simp] theorem S8.answerPause_bytes (s : S8) (downSlot : Nat) (v : FrameView) :
    (S8.answerPause s downSlot v).2.mem.bytes = s.mem.bytes := by
  unfold S8.answerPause
  ((try simp only []); (repeat' split) <;> first | rfl | assumption | (simp [*, foldl_bytes, ite_bytes, memfoldl_bytes]; done))
@[simp] theorem S8.answerPause_wf (s : S8) (downSlot : Nat) (v : FrameView) (h : s.mem.wf = true) :
    (S8.answerPause s downSlot v).2.mem.wf = true := wf_of_bytes (S8.answerPause_bytes s downSlot v) h

@[simp] theorem S8.promptTokens_bytes (s : S8) (slot : Nat) (q : Sequence) (first : Nat) (tokens : List Nat) :
    (S8.promptTokens s slot q first tokens).mem.bytes = s.mem.bytes := by
  unfold S8.promptTokens
  simp [ite_bytes]
@[simp] theorem S8.promptTokens_wf (s : S8) (slot : Nat) (q : Sequence) (first : Nat) (tokens : List Nat) (h : s.mem.wf = true) :
    (S8.promptTokens s slot q first tokens).mem.wf = true := wf_of_bytes (S8.promptTokens_bytes s slot q first tokens) h

@[simp] theorem S8.commitToken_bytes (s : S8) (slot : Nat) (t : SampledToken) :
    (S8.commitToken s slot t).mem.bytes = s.mem.bytes := by
  unfold S8.commitToken
  first
    | rfl
    | (simp; done)
    | ((repeat' split) <;> first | rfl | (simp; done))
    | (dsimp only; (repeat' split) <;> first | rfl | (simp; done))
    | (simp only []; (repeat' split) <;> first | rfl | assumption | (simp [*, foldl_bytes, ite_bytes, memfoldl_bytes]; done))
@[simp] theorem S8.commitToken_wf (s : S8) (slot : Nat) (t : SampledToken) (h : s.mem.wf = true) :
    (S8.commitToken s slot t).mem.wf = true := wf_of_bytes (by simp) h

@[simp] theorem S8.commitEnded_bytes (s : S8) (e : Nat × Sequence × Completion) :
    (S8.commitEnded s e).mem.bytes = s.mem.bytes := by
  unfold S8.commitEnded
  simp [ite_bytes]
@[simp] theorem S8.commitEnded_wf (s : S8) (e : Nat × Sequence × Completion) (h : s.mem.wf = true) :
    (S8.commitEnded s e).mem.wf = true := wf_of_bytes (S8.commitEnded_bytes s e) h

@[simp] theorem S8.commitEnd_bytes (s : S8) (slot : Nat) (tokens : List SampledToken) (commit : Bool) :
    (S8.commitEnd s slot tokens commit).mem.bytes = s.mem.bytes := by
  unfold S8.commitEnd
  ((try simp only []); (repeat' split) <;> first | rfl | assumption | (simp [*, foldl_bytes, ite_bytes, memfoldl_bytes]; done))
@[simp] theorem S8.commitEnd_wf (s : S8) (slot : Nat) (tokens : List SampledToken) (commit : Bool) (h : s.mem.wf = true) :
    (S8.commitEnd s slot tokens commit).mem.wf = true := wf_of_bytes (S8.commitEnd_bytes s slot tokens commit) h

@[simp] theorem S8.commitSlot_bytes (s : S8) (commit : Bool) (slot : Nat) :
    (S8.commitSlot s commit slot).mem.bytes = s.mem.bytes := by
  unfold S8.commitSlot
  ((try simp only []); (repeat' split) <;> first | rfl | assumption | (simp [*, foldl_bytes, ite_bytes, memfoldl_bytes]; done))
@[simp] theorem S8.commitSlot_wf (s : S8) (commit : Bool) (slot : Nat) (h : s.mem.wf = true) :
    (S8.commitSlot s commit slot).mem.wf = true := wf_of_bytes (S8.commitSlot_bytes s commit slot) h

@[simp] theorem S8.commit_bytes (s : S8) :
    (S8.commit s).mem.bytes = s.mem.bytes := by
  unfold S8.commit
  simp [foldl_bytes, ite_bytes, memfoldl_bytes, *]
@[simp] theorem S8.commit_wf (s : S8) (h : s.mem.wf = true) :
    (S8.commit s).mem.wf = true := wf_of_bytes (S8.commit_bytes s) h

@[simp] theorem S8.endTransfer_bytes (s : S8) (t : DictTransfer) (status : Nat) :
    (S8.endTransfer s t status).mem.bytes = s.mem.bytes := by
  unfold S8.endTransfer
  rfl
@[simp] theorem S8.endTransfer_wf (s : S8) (t : DictTransfer) (status : Nat) (h : s.mem.wf = true) :
    (S8.endTransfer s t status).mem.wf = true := wf_of_bytes (S8.endTransfer_bytes s t status) h

@[simp] theorem S8.moveOwner_bytes (s : S8) :
    (S8.moveOwner s).mem.bytes = s.mem.bytes := by
  unfold S8.moveOwner
  simp [foldl_bytes, ite_bytes, memfoldl_bytes, *]
@[simp] theorem S8.moveOwner_wf (s : S8) (h : s.mem.wf = true) :
    (S8.moveOwner s).mem.wf = true := wf_of_bytes (S8.moveOwner_bytes s) h

@[simp] theorem ownerReleaseEffect_bytes (s : S8) (value : Bytes) :
    (ownerReleaseEffect s value).2.mem.bytes = s.mem.bytes := by
  unfold ownerReleaseEffect
  simp [ite_bytes]
@[simp] theorem ownerReleaseEffect_wf (s : S8) (value : Bytes) (h : s.mem.wf = true) :
    (ownerReleaseEffect s value).2.mem.wf = true := wf_of_bytes (ownerReleaseEffect_bytes s value) h

@[simp] theorem S8.sendEvents_bytes (s : S8) :
    (S8.sendEvents s).mem.bytes = s.mem.bytes := by
  unfold S8.sendEvents
  simp [ite_bytes]
@[simp] theorem S8.sendEvents_wf (s : S8) (h : s.mem.wf = true) :
    (S8.sendEvents s).mem.wf = true := wf_of_bytes (S8.sendEvents_bytes s) h

@[simp] theorem S8.onPorts_bytes (s : S8) (f : PortState → PortState) :
    (S8.onPorts s f).mem.bytes = s.mem.bytes := by
  unfold S8.onPorts
  rfl
@[simp] theorem S8.onPorts_wf (s : S8) (f : PortState → PortState) (h : s.mem.wf = true) :
    (S8.onPorts s f).mem.wf = true := wf_of_bytes (S8.onPorts_bytes s f) h

@[simp] theorem S8.controlBoundary_bytes (s : S8) :
    (S8.controlBoundary s).mem.bytes = s.mem.bytes := by
  unfold S8.controlBoundary
  simp
@[simp] theorem S8.controlBoundary_wf (s : S8) (h : s.mem.wf = true) :
    (S8.controlBoundary s).mem.wf = true := wf_of_bytes (S8.controlBoundary_bytes s) h

@[simp] theorem S8.beginPause_bytes (s : S8) (slot : Nat) (entry : Nat) :
    (S8.beginPause s slot entry).mem.bytes = s.mem.bytes := by
  unfold S8.beginPause
  simp
@[simp] theorem S8.beginPause_wf (s : S8) (slot : Nat) (entry : Nat) (h : s.mem.wf = true) :
    (S8.beginPause s slot entry).mem.wf = true := wf_of_bytes (S8.beginPause_bytes s slot entry) h

@[simp] theorem S8.forcePause_bytes (s : S8) (slot : Nat) :
    (S8.forcePause s slot).mem.bytes = s.mem.bytes := by
  unfold S8.forcePause
  repeat' split <;> first | rfl | simp
@[simp] theorem S8.forcePause_wf (s : S8) (slot : Nat) (h : s.mem.wf = true) :
    (S8.forcePause s slot).mem.wf = true := wf_of_bytes (S8.forcePause_bytes s slot) h

@[simp] theorem S8.park_bytes (s : S8) (slot : Nat) (q : Sequence) :
    (S8.park s slot q).mem.bytes = s.mem.bytes := by
  unfold S8.park
  simp
@[simp] theorem S8.park_wf (s : S8) (slot : Nat) (q : Sequence) (h : s.mem.wf = true) :
    (S8.park s slot q).mem.wf = true := wf_of_bytes (S8.park_bytes s slot q) h

@[simp] theorem S8.hotPoolShort_bytes (s : S8) (slot : Nat) :
    (S8.hotPoolShort s slot).mem.bytes = s.mem.bytes := by
  unfold S8.hotPoolShort
  rfl
@[simp] theorem S8.hotPoolShort_wf (s : S8) (slot : Nat) (h : s.mem.wf = true) :
    (S8.hotPoolShort s slot).mem.wf = true := wf_of_bytes (S8.hotPoolShort_bytes s slot) h

@[simp] theorem S8.follow_bytes (s : S8) (slot : Nat) (q : Sequence) :
    (S8.follow s slot q).mem.bytes = s.mem.bytes := by
  unfold S8.follow
  repeat' split <;> first | rfl | simp
@[simp] theorem S8.follow_wf (s : S8) (slot : Nat) (q : Sequence) (h : s.mem.wf = true) :
    (S8.follow s slot q).mem.wf = true := wf_of_bytes (S8.follow_bytes s slot q) h

@[simp] theorem S8.segmentBoundary_wf (s : S8) (sh : Sheet) (slot : Nat) (q : Sequence) (h : s.mem.wf = true) :
    (S8.segmentBoundary s sh slot q).1.mem.wf = true := by
  unfold S8.segmentBoundary
  split
  · dsimp only; split <;> simp [h]
  · split
    · simp [h]
    · split
      · simp [h]
      · split
        · rename_i s1 hs
          unfold S8.commitFrames at hs
          simp only [] at hs
          split at hs
          · injection hs with hs; subst hs; simp [h]
          · cases hs
        · dsimp only; split <;> simp [h]

@[simp] theorem S8.enter_bytes (s : S8) (sh : Sheet) (slot : Nat) (t : Track) :
    (S8.enter s sh slot t).mem.bytes = s.mem.bytes := by
  unfold S8.enter
  simp
@[simp] theorem S8.enter_wf (s : S8) (sh : Sheet) (slot : Nat) (t : Track) (h : s.mem.wf = true) :
    (S8.enter s sh slot t).mem.wf = true := wf_of_bytes (S8.enter_bytes s sh slot t) h

@[simp] theorem S8.slide_bytes (s : S8) (slot : Nat) (t : Track) (late : Bool) :
    (S8.slide s slot t late).mem.bytes = s.mem.bytes := by
  unfold S8.slide
  split <;> first | rfl | simp
@[simp] theorem S8.slide_wf (s : S8) (slot : Nat) (t : Track) (late : Bool) (h : s.mem.wf = true) :
    (S8.slide s slot t late).mem.wf = true := wf_of_bytes (S8.slide_bytes s slot t late) h

@[simp] theorem S8.advance_wf (s : S8) (sh : Sheet) (slot : Nat) (h : s.mem.wf = true) :
    (S8.advance s sh slot).mem.wf = true := by
  unfold S8.advance
  ((try simp only []); (repeat' split) <;> first | assumption | exact Mem.wf_write _ _ h | (simp +contextual [*, foldl_wf, memfoldl_wf]; done))

@[simp] theorem S8.unpark_bytes (s : S8) (sh : Sheet) (slot : Nat) :
    (S8.unpark s sh slot).mem.bytes = s.mem.bytes := by
  unfold S8.unpark
  ((try simp only []); (repeat' split) <;> first | rfl | assumption | (simp [*, foldl_bytes, ite_bytes, memfoldl_bytes]; done))
@[simp] theorem S8.unpark_wf (s : S8) (sh : Sheet) (slot : Nat) (h : s.mem.wf = true) :
    (S8.unpark s sh slot).mem.wf = true := wf_of_bytes (S8.unpark_bytes s sh slot) h

@[simp] theorem S8.breakPromises_bytes (s : S8) (closed : List Nat) (dieLost : Bool) :
    (S8.breakPromises s closed dieLost).mem.bytes = s.mem.bytes := by
  unfold S8.breakPromises
  simp [foldl_bytes, ite_bytes, memfoldl_bytes, *]
@[simp] theorem S8.breakPromises_wf (s : S8) (closed : List Nat) (dieLost : Bool) (h : s.mem.wf = true) :
    (S8.breakPromises s closed dieLost).mem.wf = true := wf_of_bytes (S8.breakPromises_bytes s closed dieLost) h

@[simp] theorem S8.pauseInFlight_bytes (s : S8) (sh : Sheet) (slot : Nat) :
    (S8.pauseInFlight s sh slot).mem.bytes = s.mem.bytes := by
  unfold S8.pauseInFlight
  ((try simp only []); (repeat' split) <;> first | rfl | assumption | (simp [*, foldl_bytes, ite_bytes, memfoldl_bytes]; done))
@[simp] theorem S8.pauseInFlight_wf (s : S8) (sh : Sheet) (slot : Nat) (h : s.mem.wf = true) :
    (S8.pauseInFlight s sh slot).mem.wf = true := wf_of_bytes (S8.pauseInFlight_bytes s sh slot) h

@[simp] theorem S8.pauseAll_bytes (s : S8) (sh : Sheet) :
    (S8.pauseAll s sh).mem.bytes = s.mem.bytes := by
  unfold S8.pauseAll
  simp [foldl_bytes, ite_bytes, memfoldl_bytes, *]
@[simp] theorem S8.pauseAll_wf (s : S8) (sh : Sheet) (h : s.mem.wf = true) :
    (S8.pauseAll s sh).mem.wf = true := wf_of_bytes (S8.pauseAll_bytes s sh) h

@[simp] theorem S8.setLanes_bytes (s : S8) (sh : Sheet) :
    (S8.setLanes s sh).mem.bytes = s.mem.bytes := by
  unfold S8.setLanes
  rfl
@[simp] theorem S8.setLanes_wf (s : S8) (sh : Sheet) (h : s.mem.wf = true) :
    (S8.setLanes s sh).mem.wf = true := wf_of_bytes (S8.setLanes_bytes s sh) h

@[simp] theorem S8.serveBoundary_wf (s : S8) (h : s.mem.wf = true) :
    (S8.serveBoundary s).mem.wf = true := by
  unfold S8.serveBoundary
  dsimp only
  split
  · exact h
  · refine S8.setLanes_wf _ _ (foldl_wf _ _ _ (fun a x ha => S8.unpark_wf _ _ _ ha) ?_)
    exact foldl_wf _ _ _ (fun a x ha => S8.advance_wf _ _ _ ha) h

@[simp] theorem Mem.publish_wf (m : Mem) (step : Nat) (a : Nat) (h : m.wf = true) :
    (Mem.publish m step a).wf = true := by
  unfold Mem.publish
  dsimp only; split <;> first | assumption | simp [*]

@[simp] theorem S8.publishRoots_wf (s : S8) (h : s.mem.wf = true) :
    (S8.publishRoots s).mem.wf = true := by
  unfold S8.publishRoots
  exact memfoldl_wf _ _ _ (fun a x ha => memfoldl_wf _ _ _ (fun b y hb => Mem.publish_wf _ _ _ hb) ha) h

@[simp] theorem Mem.writeRecord_wf (m : Mem) (frame : Nat) (i : Nat) (block : Bytes) (h : m.wf = true) :
    (Mem.writeRecord m frame i block).wf = true := by
  unfold Mem.writeRecord
  exact Mem.wf_write _ _ (Mem.wf_write _ _ (Mem.wf_write _ _ (Mem.wf_write _ _ (Mem.wf_write _ _ h))))

theorem walkfold_wf {β : Type} (l : List β) (g : Walking → β → Walking) (s : Walking)
    (h : ∀ a x, a.mem.wf = true → (g a x).mem.wf = true) (hs : s.mem.wf = true) : (l.foldl g s).mem.wf = true := by
  induction l generalizing s with
  | nil => exact hs
  | cons x l ih => exact ih _ (h _ _ hs)
theorem Walking.write_wf (k : Walking) (w : WalkInput) (h : k.mem.wf = true) : (k.write w).mem.wf = true := by
  have h1 : (k.meetTable w (w.position / 16)).mem = k.mem := rfl
  unfold Walking.write
  dsimp only
  generalize k.meetTable w (w.position / 16) = k1 at *
  rw [← h1] at h
  split
  · exact h
  · split
    · exact h
    · split
      · exact h
      · split
        · exact h
        · split
          · exact h
          · exact Mem.writeRecord_wf _ _ _ _ h

theorem Walking.readFrame_wf (k : Walking) (w : WalkInput) (page frame : Nat) (h : k.mem.wf = true) :
    (k.readFrame w page frame).mem.wf = true := by
  unfold Walking.readFrame
  split
  · exact h
  · split
    · exact h
    · refine walkfold_wf _ _ _ (fun a x ha => ?_) h
      dsimp only
      split
      · exact ha
      · exact ha
theorem Walking.visit_wf (k : Walking) (w : WalkInput) (page : Nat) (h : k.mem.wf = true) : (k.visit w page).mem.wf = true := by
  have h1 : (k.meetTable w page).mem = k.mem := rfl
  unfold Walking.visit
  dsimp only
  generalize k.meetTable w page = k1 at *
  rw [← h1] at h
  split
  · exact h
  · split
    · exact h
    · split
      · exact h
      · exact Walking.readFrame_wf _ _ _ _ h

theorem Walking.run_wf (k : Walking) (w : WalkInput) (first : Bool) (h : k.mem.wf = true) : (k.run w first).mem.wf = true := by
  have h1 : ∀ (c : Prop) [Decidable c] (a : Walking), a.mem.wf = true → (if c then a.mismatch w (w.position / 16) else a).mem.wf = true := by
    intro c _ a ha; split <;> exact ha
  have h2 : ∀ c : Prop, [Decidable c] → ∀ a : Walking, a.mem.wf = true → (if c then a.write w else a).mem.wf = true := by
    intro c _ a ha; split
    · exact Walking.write_wf _ _ ha
    · exact ha
  unfold Walking.run
  dsimp only
  split
  · exact h2 _ _ (h1 _ _ h)
  · exact walkfold_wf _ _ _ (fun a x ha => Walking.visit_wf _ _ _ ha) (h2 _ _ (h1 _ _ h))

@[simp] theorem S8.walked_wf (s : S8) (w : WalkInput) (k : Walking) (h : k.mem.wf = true) : (s.walked w k).mem.wf = true := by
  unfold S8.walked; exact Mem.wf_meet _ _ _ _ (Mem.wf_meet _ _ _ _ h)

@[simp] theorem S8.walk_wf (s : S8) (engine : Nat) (layer : Nat) (lane : Nat) (upset : Upsets) (h : s.mem.wf = true) :
    (S8.walk s engine layer lane upset).mem.wf = true := by
  unfold S8.walk
  split
  · exact h
  · split
    · exact h
    · split
      · exact h
      · exact S8.walked_wf _ _ _ (Walking.run_wf _ _ _ h)

@[simp] theorem S8.rootResult_wf (s : S8) (a : AttentionRecord) (lane : Nat) (p : LanePartial) (h : s.mem.wf = true) :
    (S8.rootResult s a lane p).mem.wf = true := by
  unfold S8.rootResult
  simp [h]

@[simp] theorem S8.combineNode_wf (s : S8) (a : AttentionRecord) (lane : Nat) (node : Nat) (h : s.mem.wf = true) :
    (S8.combineNode s a lane node).mem.wf = true := by
  unfold S8.combineNode
  repeat' split <;> first | assumption | simp [*]

@[simp] theorem S8.attentionBoundary_wf (s : S8) (h : s.mem.wf = true) :
    (S8.attentionBoundary s).mem.wf = true := by
  unfold S8.attentionBoundary
  simp [h]

@[simp] theorem S8.withdrawFrames_bytes (s : S8) :
    (S8.withdrawFrames s).mem.bytes = s.mem.bytes := by
  unfold S8.withdrawFrames
  simp [ite_bytes]
@[simp] theorem S8.withdrawFrames_wf (s : S8) (h : s.mem.wf = true) :
    (S8.withdrawFrames s).mem.wf = true := wf_of_bytes (S8.withdrawFrames_bytes s) h

@[simp] theorem S8.startConversion_bytes (s : S8) :
    (S8.startConversion s).mem.bytes = s.mem.bytes := by
  unfold S8.startConversion
  simp [ite_bytes]
@[simp] theorem S8.startConversion_wf (s : S8) (h : s.mem.wf = true) :
    (S8.startConversion s).mem.wf = true := wf_of_bytes (S8.startConversion_bytes s) h

@[simp] theorem measStartEffect_bytes (s : S8) (value : Bytes) :
    (measStartEffect s value).2.mem.bytes = s.mem.bytes := by
  unfold measStartEffect
  simp [ite_bytes]
@[simp] theorem measStartEffect_wf (s : S8) (value : Bytes) (h : s.mem.wf = true) :
    (measStartEffect s value).2.mem.wf = true := wf_of_bytes (measStartEffect_bytes s value) h

@[simp] theorem S8.referenceCheck_bytes (s : S8) (codes : List Nat) :
    (S8.referenceCheck s codes).mem.bytes = s.mem.bytes := by
  unfold S8.referenceCheck
  rfl
@[simp] theorem S8.referenceCheck_wf (s : S8) (codes : List Nat) (h : s.mem.wf = true) :
    (S8.referenceCheck s codes).mem.wf = true := wf_of_bytes (S8.referenceCheck_bytes s codes) h

@[simp] theorem S8.makeCandidate_bytes (s : S8) (k : Nat) :
    (S8.makeCandidate s k).mem.bytes = s.mem.bytes := by
  unfold S8.makeCandidate
  rfl
@[simp] theorem S8.makeCandidate_wf (s : S8) (k : Nat) (h : s.mem.wf = true) :
    (S8.makeCandidate s k).mem.wf = true := wf_of_bytes (S8.makeCandidate_bytes s k) h

@[simp] theorem S8.beginMove_bytes (s : S8) (k : Nat) (c : Nat) :
    (S8.beginMove s k c).mem.bytes = s.mem.bytes := by
  unfold S8.beginMove
  simp [ite_bytes]
@[simp] theorem S8.beginMove_wf (s : S8) (k : Nat) (c : Nat) (h : s.mem.wf = true) :
    (S8.beginMove s k c).mem.wf = true := wf_of_bytes (S8.beginMove_bytes s k c) h

@[simp] theorem S8.repairPairs_wf (s : S8) (k : Nat) (pairs : List Nat) (h : s.mem.wf = true) :
    (S8.repairPairs s k pairs).mem.wf = true := by
  unfold S8.repairPairs
  refine foldl_wf _ _ _ (fun a p ha => ?_) h
  dsimp only
  split
  · exact ha
  · split <;> simp [ha]

@[simp] theorem S8.programme_wf (s : S8) (k : Nat) (content : Nat × Nat) (h : s.mem.wf = true) :
    (S8.programme s k content).mem.wf = true := by
  unfold S8.programme
  simp [h]

@[simp] theorem S8.releaseSpare_wf (s : S8) (k : Nat) (h : s.mem.wf = true) :
    (S8.releaseSpare s k).mem.wf = true := by
  unfold S8.releaseSpare
  simp [h]

@[simp] theorem S8.rewriteOnto_wf (s : S8) (r : Rewrite) (h : s.mem.wf = true) :
    (S8.rewriteOnto s r).mem.wf = true := by
  unfold S8.rewriteOnto
  repeat' split <;> first | assumption | simp [*]

@[simp] theorem S8.spareFailed_wf (s : S8) (r : Rewrite) (h : s.mem.wf = true) :
    (S8.spareFailed s r).mem.wf = true := by
  unfold S8.spareFailed
  dsimp only; split <;> first | assumption | simp [*]

@[simp] theorem S8.spareCalibrated_wf (s : S8) (k : Nat) (h : s.mem.wf = true) :
    (S8.spareCalibrated s k).mem.wf = true := by
  unfold S8.spareCalibrated
  ((try simp only []); (repeat' split) <;> first | assumption | exact Mem.wf_write _ _ h | (simp +contextual [*, foldl_wf, memfoldl_wf]; done))

@[simp] theorem S8.acceptCalibration_wf (s : S8) (k : Nat) (g : Golden) (a b : RoundValues) (roundB : List (List Nat)) (keep : List Nat)
    (refs unsettled : Bool) (h : s.mem.wf = true) : (S8.acceptCalibration s k g a b roundB keep refs unsettled).mem.wf = true := by
  unfold S8.acceptCalibration
  exact S8.spareCalibrated_wf _ _ (S8.repairPairs_wf _ _ _ (S8.stageCalibration_wf _ _ _ h))

@[simp] theorem S8.rejectCalibration_wf (s : S8) (k : Nat) (g : Golden) (a b : RoundValues) (roundB : List (List Nat)) (off : List Nat)
    (refs : Bool) (h : s.mem.wf = true) : (S8.rejectCalibration s k g a b roundB off refs).mem.wf = true := by
  unfold S8.rejectCalibration
  dsimp only
  split
  · exact h
  · split
    · exact S8.acceptCalibration_wf _ _ _ _ _ _ _ _ _ h
    · split
      · split
        · exact S8.spareFailed_wf _ _ h
        · exact h
      · exact h

@[simp] theorem S8.judgeRounds_wf (s : S8) (k : Nat) (g : Golden) (answers : Bytes) (ra rb : List (List Nat)) (h : s.mem.wf = true) :
    (S8.judgeRounds s k g answers ra rb).mem.wf = true := by
  unfold S8.judgeRounds
  dsimp only
  split
  · exact S8.acceptCalibration_wf _ _ _ _ _ _ _ _ _ h
  · exact S8.rejectCalibration_wf _ _ _ _ _ _ _ _ h

@[simp] theorem S8.stageResiduals_wf (s : S8) (k : Nat) (g : Golden) (changes : List (Nat × Nat × Int)) (h : s.mem.wf = true) :
    (S8.stageResiduals s k g changes).mem.wf = true := by
  unfold S8.stageResiduals
  exact S8.residualsDropped_wf _ _ _ (S8.stageTables_wf _ _ _ h)

@[simp] theorem S8.endLocalisation_bytes (s : S8) (k : Nat) :
    (S8.endLocalisation s k).mem.bytes = s.mem.bytes := by
  unfold S8.endLocalisation
  first
    | rfl
    | (simp; done)
    | ((repeat' split) <;> first | rfl | (simp; done))
    | (dsimp only; (repeat' split) <;> first | rfl | (simp; done))
    | (simp only []; (repeat' split) <;> first | rfl | assumption | (simp [*, foldl_bytes, ite_bytes, memfoldl_bytes]; done))
@[simp] theorem S8.endLocalisation_wf (s : S8) (k : Nat) (h : s.mem.wf = true) :
    (S8.endLocalisation s k).mem.wf = true := wf_of_bytes (by simp) h

@[simp] theorem S8.columnStage_bytes (s : S8) (k : Nat) (l : Localisation) (errs : List (Nat × Nat)) (sumErr : Nat) :
    (S8.columnStage s k l errs sumErr).mem.bytes = s.mem.bytes := by
  unfold S8.columnStage
  simp [ite_bytes]
@[simp] theorem S8.columnStage_wf (s : S8) (k : Nat) (l : Localisation) (errs : List (Nat × Nat)) (sumErr : Nat) (h : s.mem.wf = true) :
    (S8.columnStage s k l errs sumErr).mem.wf = true := wf_of_bytes (S8.columnStage_bytes s k l errs sumErr) h

@[simp] theorem S8.blockStage_bytes (s : S8) (k : Nat) (l : Localisation) (errs : List (Nat × Nat × Nat)) :
    (S8.blockStage s k l errs).mem.bytes = s.mem.bytes := by
  unfold S8.blockStage
  simp [ite_bytes]
@[simp] theorem S8.blockStage_wf (s : S8) (k : Nat) (l : Localisation) (errs : List (Nat × Nat × Nat)) (h : s.mem.wf = true) :
    (S8.blockStage s k l errs).mem.wf = true := wf_of_bytes (S8.blockStage_bytes s k l errs) h

@[simp] theorem S8.rowStage_wf (s : S8) (k : Nat) (l : Localisation) (g : Golden) (values : List (Nat × Nat × Int)) (h : s.mem.wf = true) :
    (S8.rowStage s k l g values).mem.wf = true := by
  unfold S8.rowStage
  extract_lets faulty changes s1 cols crowded absorb s2
  have h1 : s1.mem.wf = true := by
    simp only [s1]
    split
    · exact h
    · exact S8.stageResiduals_wf _ _ _ _ h
  have h2 : s2.mem.wf = true := foldl_wf _ _ _ (fun a c ha => S8.beginMove_wf _ _ _ ha) h1
  split
  · exact S8.endLocalisation_wf _ _ h1
  · split
    · exact S8.endLocalisation_wf _ _ (S8.makeCandidate_wf _ _ h1)
    · split
      · exact S8.endLocalisation_wf _ _ h2
      · exact S8.endLocalisation_wf _ _ h2

@[simp] theorem S8.absorbReading_wf (s : S8) (k : Nat) (row : Nat) (col : Nat) (g : Golden) (t : Int) (c : Int) (h : s.mem.wf = true) :
    (S8.absorbReading s k row col g t c).mem.wf = true := by
  unfold S8.absorbReading
  extract_lets target v unit done tooFar partner
  split
  · exact S8.stageResiduals_wf _ _ _ _ h
  · split
    · split
      · exact S8.stageResiduals_wf _ _ _ _ h
      · exact h
    · exact h

@[simp] theorem S8.stageMove_wf (s : S8) (k col pair : Nat) (g : Golden) (h : s.mem.wf = true) :
    (S8.stageMove s k col pair g).mem.wf = true := by
  have hr : ∀ (c : Prop) [Decidable c] (x : List (Nat × Nat × Int)), (if c then s else s.stageResiduals k g x).mem.wf = true := by
    intro c _ x; split
    · exact h
    · exact S8.stageResiduals_wf _ _ _ _ h
  unfold S8.stageMove
  dsimp only
  refine S8.stageTables_wf _ k _ ?_
  exact hr _ _

@[simp] theorem S8.programmed_wf (s : S8) (k : Nat) (g : Golden) (key : Nat) (place : Nat × Nat × Nat) (off : List (Nat × Nat × Int)) (gainStep : Nat) (h : s.mem.wf = true) :
    (S8.programmed s k g key place off gainStep).mem.wf = true := by
  unfold S8.programmed
  exact S8.repairPairs_wf _ _ _ (S8.residualsDropped_wf _ _ _ (Mem.writeTables_wf _ _ _ _ _ _ _ h))

@[simp] theorem rewriteEffect_bytes (die : Nat) (s : S8) (value : Bytes) :
    (rewriteEffect die s value).2.mem.bytes = s.mem.bytes := by
  unfold rewriteEffect
  ((try simp only []); (repeat' split) <;> first | rfl | assumption | (simp [*, foldl_bytes, ite_bytes, memfoldl_bytes]; done))
@[simp] theorem rewriteEffect_wf (die : Nat) (s : S8) (value : Bytes) (h : s.mem.wf = true) :
    (rewriteEffect die s value).2.mem.wf = true := wf_of_bytes (rewriteEffect_bytes die s value) h

@[simp] theorem S8.abandon_wf (s : S8) (r : Rewrite) (h : s.mem.wf = true) :
    (S8.abandon s r).mem.wf = true := by
  unfold S8.abandon
  repeat' split <;> first | assumption | simp [*]

@[simp] theorem S8.switchRewrite_wf (s : S8) (r : Rewrite) (h : s.mem.wf = true) :
    (S8.switchRewrite s r).mem.wf = true := by
  unfold S8.switchRewrite
  split <;> first | assumption | simp [*]

@[simp] theorem S8.freeVat_wf (s : S8) (f : VatFreeing) (h : s.mem.wf = true) :
    (S8.freeVat s f).mem.wf = true := by
  unfold S8.freeVat
  simp [h]

@[simp] theorem S8.turnBoundary_wf (s : S8) (h : s.mem.wf = true) :
    (S8.turnBoundary s).mem.wf = true := by
  unfold S8.turnBoundary
  have h0 := foldl_wf s.turn.rewrites (fun a e => (a.abandon e.2).erased e.2) s
    (fun a e ha => S8.erased_wf _ _ (S8.abandon_wf _ _ ha)) h
  have h1 := foldl_wf (s.turn.rewrites.foldl (fun (a : S8) e => (a.abandon e.2).erased e.2) s).turn.rewrites
    (fun a e => a.switchRewrite e.2) _ (fun a e ha => S8.switchRewrite_wf _ _ ha) h0
  exact foldl_wf _ _ _ (fun a e ha => S8.stageTables_wf _ _ _ ha) (foldl_wf _ _ _ (fun a f ha => S8.freeVat_wf _ _ ha)
    (memfoldl_wf _ _ _ (fun m k hm => Mem.digestTable_wf _ _ hm)
      (Mem.writeAll_wf _ _ (memfoldl_wf _ _ _ (fun m u hm => Mem.stagingCopy_wf _ _ hm) h1))))

@[simp] theorem S8.sendShardFlits_bytes (s : S8) (trunk : Nat) (payloads : List Bytes) :
    (S8.sendShardFlits s trunk payloads).mem.bytes = s.mem.bytes := by
  unfold S8.sendShardFlits
  split <;> first | rfl | simp
@[simp] theorem S8.sendShardFlits_wf (s : S8) (trunk : Nat) (payloads : List Bytes) (h : s.mem.wf = true) :
    (S8.sendShardFlits s trunk payloads).mem.wf = true := wf_of_bytes (S8.sendShardFlits_bytes s trunk payloads) h

@[simp] theorem S8.askSource_bytes (s : S8) (u : Wheel) (n : Nat) (source : Nat) :
    (S8.askSource s u n source).mem.bytes = s.mem.bytes := by
  unfold S8.askSource
  repeat' split <;> first | rfl | simp
@[simp] theorem S8.askSource_wf (s : S8) (u : Wheel) (n : Nat) (source : Nat) (h : s.mem.wf = true) :
    (S8.askSource s u n source).mem.wf = true := wf_of_bytes (S8.askSource_bytes s u n source) h

@[simp] theorem S8.fetchFrom_bytes (s : S8) (u : Wheel) (n : Nat) (f : ShardFetch) :
    (S8.fetchFrom s u n f).mem.bytes = s.mem.bytes := by
  unfold S8.fetchFrom
  simp [ite_bytes]
@[simp] theorem S8.fetchFrom_wf (s : S8) (u : Wheel) (n : Nat) (f : ShardFetch) (h : s.mem.wf = true) :
    (S8.fetchFrom s u n f).mem.wf = true := wf_of_bytes (S8.fetchFrom_bytes s u n f) h

@[simp] theorem S8.fetchMore_bytes (s : S8) :
    (S8.fetchMore s).mem.bytes = s.mem.bytes := by
  unfold S8.fetchMore
  simp [foldl_bytes, ite_bytes, memfoldl_bytes, *]
@[simp] theorem S8.fetchMore_wf (s : S8) (h : s.mem.wf = true) :
    (S8.fetchMore s).mem.wf = true := wf_of_bytes (S8.fetchMore_bytes s) h

@[simp] theorem S8.makeRoom_bytes (s : S8) (bytes : Nat) :
    (S8.makeRoom s bytes).mem.bytes = s.mem.bytes := by
  unfold S8.makeRoom
  simp [foldl_bytes, ite_bytes, memfoldl_bytes, *]
@[simp] theorem S8.makeRoom_wf (s : S8) (bytes : Nat) (h : s.mem.wf = true) :
    (S8.makeRoom s bytes).mem.wf = true := wf_of_bytes (S8.makeRoom_bytes s bytes) h

@[simp] theorem S8.keepShard_bytes (s : S8) (key : Nat) (n : Nat) (shard : Bytes) :
    (S8.keepShard s key n shard).mem.bytes = s.mem.bytes := by
  unfold S8.keepShard
  simp
@[simp] theorem S8.keepShard_wf (s : S8) (key : Nat) (n : Nat) (shard : Bytes) (h : s.mem.wf = true) :
    (S8.keepShard s key n shard).mem.wf = true := wf_of_bytes (S8.keepShard_bytes s key n shard) h

@[simp] theorem S8.failLoad_wf (s : S8) (key : Nat) (reason : Nat) (h : s.mem.wf = true) :
    (S8.failLoad s key reason).mem.wf = true := by
  unfold S8.failLoad
  split
  · exact h
  · exact foldl_wf _ _ _ (fun a e ha => S8.releaseSpare_wf _ _ ha) h

/-- Dropping a shard of the golden partition leaves the working memory. -/
@[simp] theorem S8.dropShard_mem (s : S8) (shard : Nat) : (s.dropShard shard).mem = s.mem := rfl

@[simp] theorem S8.programmeEntry_wf (s : S8) (u : Wheel) (i : Nat) (p : Placement) (h : s.mem.wf = true) :
    (S8.programmeEntry s u i p).mem.wf = true := by
  unfold S8.programmeEntry
  ((try simp only []); (repeat' split) <;> first | assumption | exact Mem.wf_write _ _ h | (simp +contextual [*, foldl_wf, memfoldl_wf]; done))

@[simp] theorem S8.programmeMore_wf (s : S8) (h : s.mem.wf = true) :
    (S8.programmeMore s).mem.wf = true := by
  unfold S8.programmeMore
  refine foldl_wf _ _ _ (fun a u ha => ?_) h
  split
  · refine foldl_wf _ _ _ (fun b e hb => ?_) ha
    split
    · exact hb
    · split
      · exact S8.programmeEntry_wf _ _ _ _ hb
      · exact hb
  · exact ha

@[simp] theorem S8.becomeReady_bytes (s : S8) (key : Nat) :
    (S8.becomeReady s key).mem.bytes = s.mem.bytes := by
  unfold S8.becomeReady
  repeat' split <;> first | rfl | simp
@[simp] theorem S8.becomeReady_wf (s : S8) (key : Nat) (h : s.mem.wf = true) :
    (S8.becomeReady s key).mem.wf = true := wf_of_bytes (S8.becomeReady_bytes s key) h

@[simp] theorem wheelManifestEffect_bytes (s : S8) (value : Bytes) :
    (wheelManifestEffect s value).2.mem.bytes = s.mem.bytes := by
  unfold wheelManifestEffect
  rfl
@[simp] theorem wheelManifestEffect_wf (s : S8) (value : Bytes) (h : s.mem.wf = true) :
    (wheelManifestEffect s value).2.mem.wf = true := wf_of_bytes (wheelManifestEffect_bytes s value) h

@[simp] theorem wheelPlacementEffect_bytes (s : S8) (value : Bytes) :
    (wheelPlacementEffect s value).2.mem.bytes = s.mem.bytes := by
  unfold wheelPlacementEffect
  rfl
@[simp] theorem wheelPlacementEffect_wf (s : S8) (value : Bytes) (h : s.mem.wf = true) :
    (wheelPlacementEffect s value).2.mem.wf = true := wf_of_bytes (wheelPlacementEffect_bytes s value) h

@[simp] theorem publisherKeysEffect_bytes (s : S8) (value : Bytes) :
    (publisherKeysEffect s value).2.mem.bytes = s.mem.bytes := by
  unfold publisherKeysEffect
  split <;> first | rfl | simp
@[simp] theorem publisherKeysEffect_wf (s : S8) (value : Bytes) (h : s.mem.wf = true) :
    (publisherKeysEffect s value).2.mem.wf = true := wf_of_bytes (publisherKeysEffect_bytes s value) h

@[simp] theorem S8.refuseLoad_bytes (s : S8) (id : Nat) (version : Nat) (reason : Nat) :
    (S8.refuseLoad s id version reason).mem.bytes = s.mem.bytes := by
  unfold S8.refuseLoad
  rfl
@[simp] theorem S8.refuseLoad_wf (s : S8) (id : Nat) (version : Nat) (reason : Nat) (h : s.mem.wf = true) :
    (S8.refuseLoad s id version reason).mem.wf = true := wf_of_bytes (S8.refuseLoad_bytes s id version reason) h

@[simp] theorem S8.beginLoad_wf (s : S8) (id : Nat) (version : Nat) (h : s.mem.wf = true) :
    (S8.beginLoad s id version).mem.wf = true := by
  unfold S8.beginLoad
  simp [h]

@[simp] theorem wheelLoadEffect_wf (s : S8) (value : Bytes) (h : s.mem.wf = true) :
    (wheelLoadEffect s value).2.mem.wf = true := by
  unfold wheelLoadEffect
  dsimp only; split <;> first | assumption | simp [*]

@[simp] theorem S8.takeShardBytes_bytes (s : S8) (u : Wheel) (n : Nat) (offset : Nat) (data : Bytes) (f : ShardFetch) :
    (S8.takeShardBytes s u n offset data f).mem.bytes = s.mem.bytes := by
  unfold S8.takeShardBytes
  rfl
@[simp] theorem S8.takeShardBytes_wf (s : S8) (u : Wheel) (n : Nat) (offset : Nat) (data : Bytes) (f : ShardFetch) (h : s.mem.wf = true) :
    (S8.takeShardBytes s u n offset data f).mem.wf = true := wf_of_bytes (S8.takeShardBytes_bytes s u n offset data f) h

@[simp] theorem S8.shardWhole_wf (s : S8) (u : Wheel) (n : Nat) (f : ShardFetch) (h : s.mem.wf = true) :
    (S8.shardWhole s u n f).mem.wf = true := by
  unfold S8.shardWhole
  dsimp only
  split
  · refine S8.programmeMore_wf _ (S8.fetchMore_wf _ (S8.becomeReady_wf _ _ ?_))
    split
    · exact S8.failLoad_wf _ _ _ (S8.keepShard_wf _ _ _ _ h)
    · exact S8.keepShard_wf _ _ _ _ h
  · exact S8.fetchFrom_wf _ _ _ _ (S8.raise_wf _ _ _ _ _ _ h)

@[simp] theorem S8.receiveShardFlit_wf (s : S8) (f : Flit) (kind : Nat) (k : S8 → Nat → Bytes → S8) (hk : ∀ c u v, c.mem.wf = true → (k c u v).mem.wf = true) (h : s.mem.wf = true) :
    (S8.receiveShardFlit s f kind k).mem.wf = true := by
  unfold S8.receiveShardFlit
  refine S8.receiveBulkFlit_wf _ _ _ (fun d v hd => ?_) h
  dsimp only
  split
  · exact hk _ _ _ hd
  · exact S8.acceptBulk_wf _ _ _ hd

@[simp] theorem S8.blockFailed_wf (s : S8) (u : Wheel) (i : Nat) (k : Nat) (h : s.mem.wf = true) :
    (S8.blockFailed s u i k).mem.wf = true := by
  unfold S8.blockFailed
  have h1 := S8.makeCandidate_wf _ k (S8.releaseSpare_wf s k h)
  dsimp only
  split
  · exact S8.failLoad_wf _ _ _ h1
  · exact S8.programmeMore_wf _ h1

@[simp] theorem wheelUnloadEffect_wf (s : S8) (value : Bytes) (h : s.mem.wf = true) :
    (wheelUnloadEffect s value).2.mem.wf = true := by
  unfold wheelUnloadEffect
  ((try simp only []); (repeat' split) <;> first | assumption | exact Mem.wf_write _ _ h | (simp +contextual [*, foldl_wf, memfoldl_wf]; done))

@[simp] theorem S8.stageVat_wf (s : S8) (l k : Nat) (h : s.mem.wf = true) :
    (S8.stageVat s l k).mem.wf = true := by
  unfold S8.stageVat
  first
    | exact h
    | (simp [h]; done)
    | (simp +contextual [foldl_wf, memfoldl_wf, *]; done)
    | (dsimp only; repeat' split <;> first | assumption | simp [*])
    | (simp only []; (repeat' split) <;> first | assumption | exact Mem.wf_write _ _ h | (simp +contextual [*, foldl_wf, memfoldl_wf]; done))

@[simp] theorem S8.stageWheel_wf (s : S8) (u : Wheel) (h : s.mem.wf = true) :
    (S8.stageWheel s u).mem.wf = true := by
  unfold S8.stageWheel
  refine foldl_wf _ _ _ (fun a e ha => ?_) h
  split
  · exact ha
  · exact S8.stageVat_wf _ _ _ ha

@[simp] theorem S8.retireVat_wf (s : S8) (k : Nat) (h : s.mem.wf = true) :
    (S8.retireVat s k).mem.wf = true := by
  unfold S8.retireVat
  first
    | exact h
    | (simp [h]; done)
    | (simp +contextual [foldl_wf, memfoldl_wf, *]; done)
    | (dsimp only; repeat' split <;> first | assumption | simp [*])
    | (simp only []; (repeat' split) <;> first | assumption | exact Mem.wf_write _ _ h | (simp +contextual [*, foldl_wf, memfoldl_wf]; done))

@[simp] theorem S8.takeOut_wf (s : S8) (u : Wheel) (h : s.mem.wf = true) :
    (S8.takeOut s u).mem.wf = true := by
  unfold S8.takeOut
  simp +contextual [foldl_wf, memfoldl_wf, *]

@[simp] theorem S8.wheelBoundary_wf (s : S8) (h : s.mem.wf = true) :
    (S8.wheelBoundary s).mem.wf = true := by
  unfold S8.wheelBoundary
  refine S8.programmeMore_wf _ (S8.fetchMore_wf _ (foldl_wf _ _ _ (fun a u ha => S8.becomeReady_wf _ _ ha) (foldl_wf _ _ _ (fun a u ha => ?_) h)))
  split
  · exact S8.stageWheel_wf _ _ ha
  · split
    · exact S8.takeOut_wf _ _ ha
    · exact ha

@[simp] theorem S8.rebuildVat_wf (s : S8) (k : Nat) (key : Nat) (h : s.mem.wf = true) :
    (S8.rebuildVat s k key).mem.wf = true := by
  unfold S8.rebuildVat
  repeat' split <;> first | assumption | simp [*]

@[simp] theorem S8.rebuildContent_wf (s : S8) (h : s.mem.wf = true) :
    (S8.rebuildContent s).mem.wf = true := by
  unfold S8.rebuildContent
  simp +contextual [foldl_wf, memfoldl_wf, *]

@[simp] theorem S8.writeRole_wf (s : S8) (key : Nat) (n : Nat) (l : Nat) (h : s.mem.wf = true) :
    (S8.writeRole s key n l).mem.wf = true := by
  unfold S8.writeRole
  repeat' split <;> first | assumption | simp [*]

@[simp] theorem S8.writePlace_wf (s : S8) (v : Culture) (p : PlaceRecord) (h : s.mem.wf = true) :
    (S8.writePlace s v p).mem.wf = true := by
  unfold S8.writePlace
  simp +contextual [foldl_wf, memfoldl_wf, *]

@[simp] theorem S8.placeCulture_wf (s : S8) (key : Nat) (h : s.mem.wf = true) :
    (S8.placeCulture s key).mem.wf = true := by
  unfold S8.placeCulture
  ((try simp only []); (repeat' split) <;> first | assumption | exact Mem.wf_write _ _ h | (simp +contextual [*, foldl_wf, memfoldl_wf]; done))

@[simp] theorem S8.spaceWait_bytes (s : S8) (key : Nat) :
    (S8.spaceWait s key).mem.bytes = s.mem.bytes := by
  unfold S8.spaceWait
  repeat' split <;> first | rfl | simp
@[simp] theorem S8.spaceWait_wf (s : S8) (key : Nat) (h : s.mem.wf = true) :
    (S8.spaceWait s key).mem.wf = true := wf_of_bytes (S8.spaceWait_bytes s key) h

@[simp] theorem S8.pausePinned_bytes (s : S8) (u : Culture) :
    (S8.pausePinned s u).mem.bytes = s.mem.bytes := by
  unfold S8.pausePinned
  simp [foldl_bytes, ite_bytes, memfoldl_bytes, *]
@[simp] theorem S8.pausePinned_wf (s : S8) (u : Culture) (h : s.mem.wf = true) :
    (S8.pausePinned s u).mem.wf = true := wf_of_bytes (S8.pausePinned_bytes s u) h

@[simp] theorem S8.retireVersion_bytes (s : S8) (u : Culture) :
    (S8.retireVersion s u).mem.bytes = s.mem.bytes := by
  unfold S8.retireVersion
  rfl
@[simp] theorem S8.retireVersion_wf (s : S8) (u : Culture) (h : s.mem.wf = true) :
    (S8.retireVersion s u).mem.wf = true := wf_of_bytes (S8.retireVersion_bytes s u) h

@[simp] theorem S8.forcePlace_bytes (s : S8) (key : Nat) :
    (S8.forcePlace s key).mem.bytes = s.mem.bytes := by
  unfold S8.forcePlace
  ((try simp only []); (repeat' split) <;> first | rfl | assumption | (simp [*, foldl_bytes, ite_bytes, memfoldl_bytes]; done))
@[simp] theorem S8.forcePlace_wf (s : S8) (key : Nat) (h : s.mem.wf = true) :
    (S8.forcePlace s key).mem.wf = true := wf_of_bytes (S8.forcePlace_bytes s key) h

@[simp] theorem S8.settleCulture_wf (s : S8) (key : Nat) (h : s.mem.wf = true) :
    (S8.settleCulture s key).mem.wf = true := by
  unfold S8.settleCulture
  exact S8.forcePlace_wf _ _ (S8.spaceWait_wf _ _ (S8.placeCulture_wf _ _ h))

@[simp] theorem S8.failCulture_wf (s : S8) (key : Nat) (reason : Nat) (h : s.mem.wf = true) :
    (S8.failCulture s key reason).mem.wf = true := by
  unfold S8.failCulture
  split
  · exact h
  · exact foldl_wf _ _ _ (fun a e ha => S8.releaseSpare_wf _ _ ha) h

@[simp] theorem S8.imageVerified_wf (s : S8) (v : Culture) (image : Bytes) (h : s.mem.wf = true) :
    (S8.imageVerified s v image).mem.wf = true := by
  unfold S8.imageVerified
  repeat' split <;> first | assumption | simp [*]

@[simp] theorem S8.beginCulture_wf (s : S8) (b : Bytes) (h : s.mem.wf = true) :
    (S8.beginCulture s b).mem.wf = true := by
  unfold S8.beginCulture
  ((try simp only []); (repeat' split) <;> first | assumption | exact Mem.wf_write _ _ h | (simp +contextual [*, foldl_wf, memfoldl_wf]; done))

@[simp] theorem cultureLoadEffect_wf (s : S8) (value : Bytes) (h : s.mem.wf = true) :
    (cultureLoadEffect s value).2.mem.wf = true := by
  unfold cultureLoadEffect
  repeat' split <;> first | assumption | simp [*]

@[simp] theorem S8.imageWhole_wf (s : S8) (v : Culture) (h : s.mem.wf = true) :
    (S8.imageWhole s v).mem.wf = true := by
  unfold S8.imageWhole
  dsimp only; split <;> first | assumption | simp [*]

@[simp] theorem S8.rolesFailed_wf (s : S8) (v : Culture) (p : PlaceRecord) (h : s.mem.wf = true) :
    (S8.rolesFailed s v p).mem.wf = true := by
  unfold S8.rolesFailed
  have h1 : ((s.failedRoles v).foldl (fun s e => (s.releaseSpare e.2).makeCandidate e.2) s).mem.wf = true :=
    foldl_wf _ _ _ (fun a e ha => S8.makeCandidate_wf _ _ (S8.releaseSpare_wf _ _ ha)) h
  dsimp only
  split
  · exact S8.failCulture_wf _ _ _ h1
  · exact foldl_wf _ _ _ (fun a e ha => S8.writeRole_wf _ _ _ _ ha) h1

@[simp] theorem cultureUnloadEffect_bytes (s : S8) (value : Bytes) :
    (cultureUnloadEffect s value).2.mem.bytes = s.mem.bytes := by
  unfold cultureUnloadEffect
  ((try simp only []); (repeat' split) <;> first | rfl | assumption | (simp [*, foldl_bytes, ite_bytes, memfoldl_bytes]; done))
@[simp] theorem cultureUnloadEffect_wf (s : S8) (value : Bytes) (h : s.mem.wf = true) :
    (cultureUnloadEffect s value).2.mem.wf = true := wf_of_bytes (cultureUnloadEffect_bytes s value) h

@[simp] theorem S8.stageCulture_wf (s : S8) (v : Culture) (h : s.mem.wf = true) :
    (S8.stageCulture s v).mem.wf = true := by
  unfold S8.stageCulture
  split
  · exact h
  · refine foldl_wf _ _ _ (fun a u ha => S8.retireVersion_wf _ _ ha) ?_
    refine foldl_wf _ _ _ (fun a e ha => ?_) h
    split
    · exact ha
    · exact S8.stageVat_wf _ _ _ ha

@[simp] theorem S8.leaveCulture_wf (s : S8) (v : Culture) (h : s.mem.wf = true) :
    (S8.leaveCulture s v).mem.wf = true := by
  unfold S8.leaveCulture
  ((try simp only []); (repeat' split) <;> first | assumption | exact Mem.wf_write _ _ h | (simp +contextual [*, foldl_wf, memfoldl_wf]; done))

@[simp] theorem S8.placeLost_wf (s : S8) (p : PlaceRecord) (h : s.mem.wf = true) :
    (S8.placeLost s p).mem.wf = true := by
  unfold S8.placeLost
  dsimp only
  split
  · exact h
  · split
    · exact foldl_wf _ _ _ (fun a e ha => S8.releaseSpare_wf _ _ ha) h
    · exact S8.raise_wf _ _ _ _ _ _ (foldl_wf _ _ _ (fun a e ha => S8.finish_wf _ _ _ ha) h)

@[simp] theorem S8.placesBacked_wf (s : S8) (h : s.mem.wf = true) :
    (S8.placesBacked s).mem.wf = true := by
  unfold S8.placesBacked
  refine foldl_wf _ _ _ (fun a p ha => ?_) h
  split
  · split
    · exact ha
    · exact ha
  · split
    · exact ha
    · exact S8.placeLost_wf _ _ ha

@[simp] theorem S8.cultureBoundary_wf (s : S8) (h : s.mem.wf = true) :
    (S8.cultureBoundary s).mem.wf = true := by
  unfold S8.cultureBoundary
  refine foldl_wf _ _ _ (fun a v ha => S8.settleCulture_wf _ _ ha) (foldl_wf _ _ _ (fun a v ha => S8.leaveCulture_wf _ _ ha)
    (foldl_wf _ _ _ (fun a v ha => S8.stageCulture_wf _ _ ha) (S8.placesBacked_wf _ h)))

@[simp] theorem S8.storeImage_wf (s : S8) (slot : Nat) (q : Sequence) (n : Nat) (h : s.mem.wf = true) :
    (S8.storeImage s slot q n).mem.wf = true := by
  unfold S8.storeImage
  simp [h]

@[simp] theorem Mem.writeBlock_wf (m : Mem) (b : Nat) (bytes : Bytes) (h : m.wf = true) :
    (Mem.writeBlock m b bytes).wf = true := by
  unfold Mem.writeBlock
  simp +contextual [foldl_wf, memfoldl_wf, *]

@[simp] theorem S8.publishLayer_wf (s : S8) (slot : Nat) (layer : Nat) (entries : List Nat) (blocks : List Nat) (directory : Nat) (h : s.mem.wf = true) :
    (S8.publishLayer s slot layer entries blocks directory).mem.wf = true := by
  unfold S8.publishLayer
  refine memfoldl_wf _ _ _ (fun a x ha => Mem.wf_write _ _ ha) ?_
  exact Mem.writeBlock_wf _ _ _ (Mem.writeBlock_wf _ _ _ (memfoldl_wf _ _ _ (fun a x ha => Mem.writeBlock_wf _ _ _ ha) h))

@[simp] theorem S8.restoreLayer_wf (s : S8) (slot : Nat) (q : Sequence) (image : PauseImage) (layer : Nat) (taken : List Nat) (h : s.mem.wf = true) :
    (S8.restoreLayer s slot q image layer taken).1.mem.wf = true := by
  unfold S8.restoreLayer
  exact S8.publishLayer_wf _ _ _ _ _ _ (memfoldl_wf _ _ _ (fun a x ha => Mem.wf_write _ _ ha) h)

@[simp] theorem S8.restored_wf (s : S8) (slot : Nat) (q : Sequence) (n : Nat) (e : PauseEntry) (h : s.mem.wf = true) :
    (S8.restored s slot q n e).mem.wf = true := by
  unfold S8.restored
  have key : ∀ (l : List Nat) (x : S8 × List Nat), x.1.mem.wf = true →
      (l.foldl (fun (a : S8 × List Nat) x => a.1.restoreLayer slot q e.image x a.2) x).1.mem.wf = true := by
    intro l
    induction l with
    | nil => intro x hx; exact hx
    | cons y l ih => intro x hx; exact ih _ (S8.restoreLayer_wf _ _ _ _ _ _ hx)
  exact S8.setSequence_wf _ _ _ (key _ (s, []) h)

@[simp] theorem S8.cellarLoss_bytes (s : S8) (slot : Nat) :
    (S8.cellarLoss s slot).mem.bytes = s.mem.bytes := by
  unfold S8.cellarLoss
  simp
@[simp] theorem S8.cellarLoss_wf (s : S8) (slot : Nat) (h : s.mem.wf = true) :
    (S8.cellarLoss s slot).mem.wf = true := wf_of_bytes (S8.cellarLoss_bytes s slot) h

@[simp] theorem S8.rewriteStripe_bytes (s : S8) (stripe : Nat) :
    (S8.rewriteStripe s stripe).mem.bytes = s.mem.bytes := by
  unfold S8.rewriteStripe
  rfl
@[simp] theorem S8.rewriteStripe_wf (s : S8) (stripe : Nat) (h : s.mem.wf = true) :
    (S8.rewriteStripe s stripe).mem.wf = true := wf_of_bytes (S8.rewriteStripe_bytes s stripe) h

@[simp] theorem S8.retireBlock_bytes (s : S8) (die : Nat) :
    (S8.retireBlock s die).mem.bytes = s.mem.bytes := by
  unfold S8.retireBlock
  rfl
@[simp] theorem S8.retireBlock_wf (s : S8) (die : Nat) (h : s.mem.wf = true) :
    (S8.retireBlock s die).mem.wf = true := wf_of_bytes (S8.retireBlock_bytes s die) h

@[simp] theorem S8.goldenLost_bytes (s : S8) :
    (S8.goldenLost s).mem.bytes = s.mem.bytes := by
  unfold S8.goldenLost
  split <;> first | rfl | simp
@[simp] theorem S8.goldenLost_wf (s : S8) (h : s.mem.wf = true) :
    (S8.goldenLost s).mem.wf = true := wf_of_bytes (S8.goldenLost_bytes s) h

@[simp] theorem S8.cultureImageLost_bytes (s : S8) :
    (S8.cultureImageLost s).mem.bytes = s.mem.bytes := by
  unfold S8.cultureImageLost
  split <;> first | rfl | simp
@[simp] theorem S8.cultureImageLost_wf (s : S8) (h : s.mem.wf = true) :
    (S8.cultureImageLost s).mem.wf = true := wf_of_bytes (S8.cultureImageLost_bytes s) h

@[simp] theorem S8.dataLost_bytes (s : S8) (stripe : Nat) (die : Nat) :
    (S8.dataLost s stripe die).mem.bytes = s.mem.bytes := by
  unfold S8.dataLost
  ((try simp only []); (repeat' split) <;> first | rfl | assumption | (simp [*, foldl_bytes, ite_bytes, memfoldl_bytes]; done))
@[simp] theorem S8.dataLost_wf (s : S8) (stripe : Nat) (die : Nat) (h : s.mem.wf = true) :
    (S8.dataLost s stripe die).mem.wf = true := wf_of_bytes (S8.dataLost_bytes s stripe die) h

@[simp] theorem S8.pageFailed_bytes (s : S8) (stripe : Nat) (die : Nat) :
    (S8.pageFailed s stripe die).mem.bytes = s.mem.bytes := by
  unfold S8.pageFailed
  simp [ite_bytes]
@[simp] theorem S8.pageFailed_wf (s : S8) (stripe : Nat) (die : Nat) (h : s.mem.wf = true) :
    (S8.pageFailed s stripe die).mem.wf = true := wf_of_bytes (S8.pageFailed_bytes s stripe die) h

@[simp] theorem S8.cellarTick_bytes (s : S8) :
    (S8.cellarTick s).mem.bytes = s.mem.bytes := by
  unfold S8.cellarTick
  simp [ite_bytes]
@[simp] theorem S8.cellarTick_wf (s : S8) (h : s.mem.wf = true) :
    (S8.cellarTick s).mem.wf = true := wf_of_bytes (S8.cellarTick_bytes s) h

@[simp] theorem pauseKeyExtendEffect_bytes (s : S8) (value : Bytes) :
    (pauseKeyExtendEffect s value).2.mem.bytes = s.mem.bytes := by
  unfold pauseKeyExtendEffect
  ((try simp only []); (repeat' split) <;> first | rfl | assumption | (simp [*, foldl_bytes, ite_bytes, memfoldl_bytes]; done))
@[simp] theorem pauseKeyExtendEffect_wf (s : S8) (value : Bytes) (h : s.mem.wf = true) :
    (pauseKeyExtendEffect s value).2.mem.wf = true := wf_of_bytes (pauseKeyExtendEffect_bytes s value) h

@[simp] theorem S8.keepRecord_wf (s : S8) (key : Nat) (r : TrierRecord) (h : s.mem.wf = true) :
    (S8.keepRecord s key r).mem.wf = true := by
  unfold S8.keepRecord
  simp [h]

@[simp] theorem S8.writeRecord_wf (s : S8) (key : Nat) (r : TrierRecord) (h : s.mem.wf = true) :
    (S8.writeRecord s key r).mem.wf = true := by
  unfold S8.writeRecord
  simp [h]

@[simp] theorem S8.giveVerdict_wf (s : S8) (key : Nat) (r : TrierRecord) (verdict : Nat) (h : s.mem.wf = true) :
    (S8.giveVerdict s key r verdict).mem.wf = true := by
  unfold S8.giveVerdict
  simp [h]

@[simp] theorem S8.sample_wf (s : S8) (u : Nat) (h : s.mem.wf = true) :
    (S8.sample s u).mem.wf = true := by
  unfold S8.sample
  dsimp only
  split
  · exact h
  · split
    · exact h
    · split
      · split
        · exact S8.writeRecord_wf _ _ _ h
        · simp [h]
      · simp [h]

@[simp] theorem S8.retireCore_bytes (s : S8) (core : Nat) :
    (S8.retireCore s core).mem.bytes = s.mem.bytes := by
  unfold S8.retireCore
  first
    | rfl
    | (simp; done)
    | ((repeat' split) <;> first | rfl | (simp; done))
    | (dsimp only; (repeat' split) <;> first | rfl | (simp; done))
    | (simp only []; (repeat' split) <;> first | rfl | assumption | (simp [*, foldl_bytes, ite_bytes, memfoldl_bytes]; done))
@[simp] theorem S8.retireCore_wf (s : S8) (core : Nat) (h : s.mem.wf = true) :
    (S8.retireCore s core).mem.wf = true := wf_of_bytes (by simp) h

@[simp] theorem S8.seamLost_bytes (s : S8) (die row : Nat) : (S8.seamLost s die row).mem.bytes = s.mem.bytes := by
  unfold S8.seamLost
  exact foldl_bytes _ _ _ (fun a e => S8.xferEnd_bytes _ _ _ _ _)

@[simp] theorem S8.seamLost_wf (s : S8) (die row : Nat) (h : s.mem.wf = true) :
    (S8.seamLost s die row).mem.wf = true := wf_of_bytes (by simp) h

@[simp] theorem S8.crossingLost_bytes (s : S8) (x : Crossing) :
    (S8.crossingLost s x).mem.bytes = s.mem.bytes := by
  unfold S8.crossingLost
  first
    | rfl
    | (simp; done)
    | ((repeat' split) <;> first | rfl | (simp; done))
    | (dsimp only; (repeat' split) <;> first | rfl | (simp; done))
    | (simp only []; (repeat' split) <;> first | rfl | assumption | (simp [*, foldl_bytes, ite_bytes, memfoldl_bytes]; done))
@[simp] theorem S8.crossingLost_wf (s : S8) (x : Crossing) (h : s.mem.wf = true) :
    (S8.crossingLost s x).mem.wf = true := wf_of_bytes (by simp) h

@[simp] theorem S8.unresolved_wf (s : S8) (key : Nat) (r : TrierRecord) (h : s.mem.wf = true) :
    (S8.unresolved s key r).mem.wf = true := by
  unfold S8.unresolved
  simp [h]

@[simp] theorem S8.retireOdd_wf (s : S8) (key : Nat) (r : TrierRecord) (odd : Nat) (reference : List Int) (h : s.mem.wf = true) :
    (S8.retireOdd s key r odd reference).mem.wf = true := by
  unfold S8.retireOdd
  dsimp only
  split
  · exact S8.giveVerdict_wf _ _ _ _ (by simp [h])
  · exact S8.keepRecord_wf _ _ _ (by simp [h])

@[simp] theorem S8.arbitrate_wf (s : S8) (key : Nat) (r : TrierRecord) (h : s.mem.wf = true) :
    (S8.arbitrate s key r).mem.wf = true := by
  unfold S8.arbitrate
  split
  · split
    · exact S8.giveVerdict_wf _ _ _ _ h
    · exact S8.raise_wf _ _ _ _ _ _ (S8.keepRecord_wf _ _ _ h)
  · exact S8.keepRecord_wf _ _ _ h
  · split
    · exact S8.retireOdd_wf _ _ _ _ _ h
    · split
      · exact S8.retireOdd_wf _ _ _ _ _ h
      · split
        · exact S8.retireOdd_wf _ _ _ _ _ h
        · exact S8.unresolved_wf _ _ _ h
  · exact S8.keepRecord_wf _ _ _ h

@[simp] theorem S8.markSuspect_bytes (s : S8) (k : Nat) (c : Nat) :
    (S8.markSuspect s k c).mem.bytes = s.mem.bytes := by
  unfold S8.markSuspect
  simp [ite_bytes]
@[simp] theorem S8.markSuspect_wf (s : S8) (k : Nat) (c : Nat) (h : s.mem.wf = true) :
    (S8.markSuspect s k c).mem.wf = true := wf_of_bytes (S8.markSuspect_bytes s k c) h

@[simp] theorem S8.localise_bytes (s : S8) (k : Nat) (cols : List Nat) :
    (S8.localise s k cols).mem.bytes = s.mem.bytes := by
  unfold S8.localise
  rfl
@[simp] theorem S8.localise_wf (s : S8) (k : Nat) (cols : List Nat) (h : s.mem.wf = true) :
    (S8.localise s k cols).mem.wf = true := wf_of_bytes (S8.localise_bytes s k cols) h

@[simp] theorem S8.faulty_wf (s : S8) (key : Nat) (r : TrierRecord) (cols : List Nat) (h : s.mem.wf = true) :
    (S8.faulty s key r cols).mem.wf = true := by
  unfold S8.faulty
  have h1 := S8.giveVerdict_wf s key r 2 h
  dsimp only
  split
  · exact S8.stageState_wf _ _ _ h1
  · have h2 : ((cols.foldl (fun (s : S8) c => S8.markSuspect { s with trier := s.trier.forget r.physical (fun x => x = c) }
        r.physical c) ((s.giveVerdict key r 2).raise Obj.trierFaultCount 0 1 (unitOfVatKey r.vat) cols.length))).mem.wf = true :=
      foldl_wf _ _ _ (fun a c ha => S8.markSuspect_wf _ _ _ ha) (S8.raise_wf _ _ _ _ _ _ h1)
    split
    · exact S8.localise_wf _ _ _ h2
    · exact S8.makeCandidate_wf _ _ h2

@[simp] theorem S8.transientOn_bytes (s : S8) (k : Nat) (c : Nat) :
    (S8.transientOn s k c).mem.bytes = s.mem.bytes := by
  unfold S8.transientOn
  ((try simp only []); (repeat' split) <;> first | rfl | assumption | (simp [*, foldl_bytes, ite_bytes, memfoldl_bytes]; done))
@[simp] theorem S8.transientOn_wf (s : S8) (k : Nat) (c : Nat) (h : s.mem.wf = true) :
    (S8.transientOn s k c).mem.wf = true := wf_of_bytes (S8.transientOn_bytes s k c) h

@[simp] theorem S8.transient_wf (s : S8) (key : Nat) (r : TrierRecord) (cols : List Nat) (h : s.mem.wf = true) :
    (S8.transient s key r cols).mem.wf = true := by
  unfold S8.transient
  exact foldl_wf _ _ _ (fun a c ha => S8.transientOn_wf _ _ _ ha) (S8.raise_wf _ _ _ _ _ _ (S8.giveVerdict_wf _ _ _ _ h))

@[simp] theorem S8.judgeProbes_wf (s : S8) (key : Nat) (r : TrierRecord) (h : s.mem.wf = true) :
    (S8.judgeProbes s key r).mem.wf = true := by
  unfold S8.judgeProbes
  dsimp only; split <;> first | assumption | simp [*]

@[simp] theorem S8.checkRecord_wf (s : S8) (key : Nat) (core : Nat) (error : List Int) (h : s.mem.wf = true) :
    (S8.checkRecord s key core error).mem.wf = true := by
  unfold S8.checkRecord
  ((try simp only []); (repeat' split) <;> first | assumption | exact Mem.wf_write _ _ h | (simp +contextual [*, foldl_wf, memfoldl_wf]; done))

@[simp] theorem S8.abandonRecord_wf (s : S8) (key : Nat) (r : TrierRecord) (h : s.mem.wf = true) :
    (S8.abandonRecord s key r).mem.wf = true := by
  unfold S8.abandonRecord
  simp [h]

@[simp] theorem S8.clearSuspect_bytes (s : S8) (key : Nat) :
    (S8.clearSuspect s key).mem.bytes = s.mem.bytes := by
  unfold S8.clearSuspect
  rfl
@[simp] theorem S8.clearSuspect_wf (s : S8) (key : Nat) (h : s.mem.wf = true) :
    (S8.clearSuspect s key).mem.wf = true := wf_of_bytes (S8.clearSuspect_bytes s key) h

@[simp] theorem S8.trierBoundary_wf (s : S8) (h : s.mem.wf = true) :
    (S8.trierBoundary s).mem.wf = true := by
  unfold S8.trierBoundary
  exact foldl_wf _ _ _ (fun a k ha => S8.clearSuspect_wf _ _ ha) (foldl_wf _ _ _ (fun a e ha => S8.abandonRecord_wf _ _ _ ha) h)

@[simp] theorem S8.digestWheel_bytes (s : S8) (u : Wheel) :
    (S8.digestWheel s u).mem.bytes = s.mem.bytes := by
  unfold S8.digestWheel
  simp [ite_bytes]
@[simp] theorem S8.digestWheel_wf (s : S8) (u : Wheel) (h : s.mem.wf = true) :
    (S8.digestWheel s u).mem.wf = true := wf_of_bytes (S8.digestWheel_bytes s u) h

@[simp] theorem S8.refusePack_bytes (s : S8) (reason : Nat) :
    (S8.refusePack s reason).mem.bytes = s.mem.bytes := by
  unfold S8.refusePack
  rfl
@[simp] theorem S8.refusePack_wf (s : S8) (reason : Nat) (h : s.mem.wf = true) :
    (S8.refusePack s reason).mem.wf = true := wf_of_bytes (S8.refusePack_bytes s reason) h

@[simp] theorem testPackEffect_bytes (s : S8) (value : Bytes) :
    (testPackEffect s value).2.mem.bytes = s.mem.bytes := by
  unfold testPackEffect
  simp [ite_bytes]
@[simp] theorem testPackEffect_wf (s : S8) (value : Bytes) (h : s.mem.wf = true) :
    (testPackEffect s value).2.mem.wf = true := wf_of_bytes (testPackEffect_bytes s value) h

@[simp] theorem S8.packWhole_bytes (s : S8) :
    (S8.packWhole s).mem.bytes = s.mem.bytes := by
  unfold S8.packWhole
  simp [ite_bytes]
@[simp] theorem S8.packWhole_wf (s : S8) (h : s.mem.wf = true) :
    (S8.packWhole s).mem.wf = true := wf_of_bytes (S8.packWhole_bytes s) h

@[simp] theorem S8.vatFailed_bytes (s : S8) (k : Nat) :
    (S8.vatFailed s k).mem.bytes = s.mem.bytes := by
  unfold S8.vatFailed
  simp [ite_bytes]
@[simp] theorem S8.vatFailed_wf (s : S8) (k : Nat) (h : s.mem.wf = true) :
    (S8.vatFailed s k).mem.wf = true := wf_of_bytes (S8.vatFailed_bytes s k) h

theorem vatTest_ends (s : S8) (k : Nat) (c d : Prop) [Decidable c] [Decidable d] (h : s.mem.wf = true) :
    (if c then s.retireUnit (unitOfVat k) else if d then s.vatFailed k
      else { s with trier := { s.trier with vatFails := eraseNat k s.trier.vatFails } }).mem.wf = true := by
  split
  · exact S8.retireUnit_wf _ _ h
  · split
    · exact S8.vatFailed_wf _ _ h
    · exact h

@[simp] theorem S8.vatTest_wf (s : S8) (k kernel : Nat) (codes : List Nat) (recomputed : List Int) (h : s.mem.wf = true) :
    (S8.vatTest s k kernel codes recomputed).mem.wf = true := by
  unfold S8.vatTest
  dsimp only
  split
  · exact h
  · exact vatTest_ends _ _ _ _ (S8.probe_wf _ _ _ _ h)

@[simp] theorem S8.retireRouter_bytes (s : S8) (die : Nat) (half : Nat) (position : Nat) :
    (S8.retireRouter s die half position).mem.bytes = s.mem.bytes := by
  unfold S8.retireRouter
  ((try simp only []); (repeat' split) <;> first | rfl | assumption | (simp [*, foldl_bytes, ite_bytes, memfoldl_bytes]; done))
@[simp] theorem S8.retireRouter_wf (s : S8) (die : Nat) (half : Nat) (position : Nat) (h : s.mem.wf = true) :
    (S8.retireRouter s die half position).mem.wf = true := wf_of_bytes (S8.retireRouter_bytes s die half position) h

@[simp] theorem S8.setTest_bytes (s : S8) (core : Nat) (f : CoreTest → CoreTest) :
    (S8.setTest s core f).mem.bytes = s.mem.bytes := by
  unfold S8.setTest
  rfl
@[simp] theorem S8.setTest_wf (s : S8) (core : Nat) (f : CoreTest → CoreTest) (h : s.mem.wf = true) :
    (S8.setTest s core f).mem.wf = true := wf_of_bytes (S8.setTest_bytes s core f) h

@[simp] theorem S8.moveToTest_bytes (s : S8) (core : Nat) :
    (S8.moveToTest s core).mem.bytes = s.mem.bytes := by
  unfold S8.moveToTest
  dsimp only; repeat' split <;> first | rfl | simp
@[simp] theorem S8.moveToTest_wf (s : S8) (core : Nat) (h : s.mem.wf = true) :
    (S8.moveToTest s core).mem.wf = true := wf_of_bytes (S8.moveToTest_bytes s core) h

@[simp] theorem S8.coreDue_bytes (s : S8) (core : Nat) :
    (S8.coreDue s core).mem.bytes = s.mem.bytes := by
  unfold S8.coreDue
  simp [ite_bytes]
@[simp] theorem S8.coreDue_wf (s : S8) (core : Nat) (h : s.mem.wf = true) :
    (S8.coreDue s core).mem.wf = true := wf_of_bytes (S8.coreDue_bytes s core) h

@[simp] theorem S8.stopMove_bytes (s : S8) (half : Nat) (core : Nat) :
    (S8.stopMove s half core).mem.bytes = s.mem.bytes := by
  unfold S8.stopMove
  repeat' split <;> first | rfl | simp
@[simp] theorem S8.stopMove_wf (s : S8) (half : Nat) (core : Nat) (h : s.mem.wf = true) :
    (S8.stopMove s half core).mem.wf = true := wf_of_bytes (S8.stopMove_bytes s half core) h

@[simp] theorem S8.coreOverdue_bytes (s : S8) (core : Nat) :
    (S8.coreOverdue s core).mem.bytes = s.mem.bytes := by
  unfold S8.coreOverdue
  ((try simp only []); (repeat' split) <;> first | rfl | assumption | (simp [*, foldl_bytes, ite_bytes, memfoldl_bytes]; done))
@[simp] theorem S8.coreOverdue_wf (s : S8) (core : Nat) (h : s.mem.wf = true) :
    (S8.coreOverdue s core).mem.wf = true := wf_of_bytes (S8.coreOverdue_bytes s core) h

@[simp] theorem S8.clearScratch_wf (s : S8) (core : Nat) (h : s.mem.wf = true) :
    (S8.clearScratch s core).mem.wf = true := by
  unfold S8.clearScratch
  split
  · exact h
  · exact Mem.wf_write _ _ h

@[simp] theorem S8.testComplete_wf (s : S8) (core : Nat) (passed : Bool) (h : s.mem.wf = true) :
    (S8.testComplete s core passed).mem.wf = true := by
  unfold S8.testComplete
  have h1 := S8.clearScratch_wf s core h
  split
  · exact h
  · dsimp only
    split
    · refine S8.settleAgent_wf _ _ ?_
      exact h1
    · split
      · exact h1
      · refine S8.raise_wf _ _ _ _ _ _ (S8.settleAgent_wf _ _ ?_)
        split
        · exact h1
        · exact S8.coreGone_wf _ _ h1

@[simp] theorem S8.dueBoundary_bytes (s : S8) (core : Nat) :
    (S8.dueBoundary s core).mem.bytes = s.mem.bytes := by
  unfold S8.dueBoundary
  simp [ite_bytes]
@[simp] theorem S8.dueBoundary_wf (s : S8) (core : Nat) (h : s.mem.wf = true) :
    (S8.dueBoundary s core).mem.wf = true := wf_of_bytes (S8.dueBoundary_bytes s core) h

@[simp] theorem S8.testBoundary_bytes (s : S8) :
    (S8.testBoundary s).mem.bytes = s.mem.bytes := by
  unfold S8.testBoundary
  ((try simp only []); (repeat' split) <;> first | rfl | assumption | (simp [*, foldl_bytes, ite_bytes, memfoldl_bytes]; done))
@[simp] theorem S8.testBoundary_wf (s : S8) (h : s.mem.wf = true) :
    (S8.testBoundary s).mem.wf = true := wf_of_bytes (S8.testBoundary_bytes s) h

@[simp] theorem S8.setJob_bytes (s : S8) (n : Nat) (f : Job → Job) :
    (S8.setJob s n f).mem.bytes = s.mem.bytes := by
  unfold S8.setJob
  rfl
@[simp] theorem S8.setJob_wf (s : S8) (n : Nat) (f : Job → Job) (h : s.mem.wf = true) :
    (S8.setJob s n f).mem.wf = true := wf_of_bytes (S8.setJob_bytes s n f) h

@[simp] theorem ripenJobEffect_bytes (s : S8) (value : Bytes) :
    (ripenJobEffect s value).2.mem.bytes = s.mem.bytes := by
  unfold ripenJobEffect
  ((try simp only []); (repeat' split) <;> first | rfl | assumption | (simp [*, foldl_bytes, ite_bytes, memfoldl_bytes]; done))
@[simp] theorem ripenJobEffect_wf (s : S8) (value : Bytes) (h : s.mem.wf = true) :
    (ripenJobEffect s value).2.mem.wf = true := wf_of_bytes (ripenJobEffect_bytes s value) h

@[simp] theorem ripenStopEffect_bytes (s : S8) (value : Bytes) :
    (ripenStopEffect s value).2.mem.bytes = s.mem.bytes := by
  unfold ripenStopEffect
  dsimp only; split <;> first | rfl | simp
@[simp] theorem ripenStopEffect_wf (s : S8) (value : Bytes) (h : s.mem.wf = true) :
    (ripenStopEffect s value).2.mem.wf = true := wf_of_bytes (ripenStopEffect_bytes s value) h

@[simp] theorem S8.beginJob_bytes (s : S8) (n : Nat) (j : Job) :
    (S8.beginJob s n j).mem.bytes = s.mem.bytes := by
  unfold S8.beginJob
  split <;> first | rfl | simp
@[simp] theorem S8.beginJob_wf (s : S8) (n : Nat) (j : Job) (h : s.mem.wf = true) :
    (S8.beginJob s n j).mem.wf = true := wf_of_bytes (S8.beginJob_bytes s n j) h

@[simp] theorem S8.dropPart_wf (s : S8) (j : Job) (h : s.mem.wf = true) :
    (S8.dropPart s j).mem.wf = true := by
  unfold S8.dropPart
  ((try simp only []); (repeat' split) <;> first | assumption | exact Mem.wf_write _ _ h | (simp +contextual [*, foldl_wf, memfoldl_wf]; done))

@[simp] theorem S8.forgetPasses_bytes (s : S8) (n : Nat) :
    (S8.forgetPasses s n).mem.bytes = s.mem.bytes := by
  unfold S8.forgetPasses
  rfl
@[simp] theorem S8.forgetPasses_wf (s : S8) (n : Nat) (h : s.mem.wf = true) :
    (S8.forgetPasses s n).mem.wf = true := wf_of_bytes (S8.forgetPasses_bytes s n) h

@[simp] theorem S8.failJob_wf (s : S8) (n : Nat) (reason : Nat) (h : s.mem.wf = true) :
    (S8.failJob s n reason).mem.wf = true := by
  unfold S8.failJob
  split
  · exact h
  · exact S8.setJob_wf _ _ _ (S8.forgetPasses_wf _ _ (S8.dropPart_wf _ _ h))

@[simp] theorem S8.stopJob_wf (s : S8) (n : Nat) (h : s.mem.wf = true) :
    (S8.stopJob s n).mem.wf = true := by
  unfold S8.stopJob
  split <;> first | assumption | simp [*]

@[simp] theorem S8.stopJobs_wf (s : S8) (h : s.mem.wf = true) :
    (S8.stopJobs s).mem.wf = true := by
  unfold S8.stopJobs
  simp +contextual [foldl_wf, memfoldl_wf, *]

@[simp] theorem S8.ripenDiesLost_wf (s : S8) (dies : List Nat) (h : s.mem.wf = true) :
    (S8.ripenDiesLost s dies).mem.wf = true := by
  unfold S8.ripenDiesLost
  simp +contextual [foldl_wf, memfoldl_wf, *]

@[simp] theorem S8.masterFault_wf (s : S8) (half : Nat) (bad : List Nat) (h : s.mem.wf = true) :
    (S8.masterFault s half bad).mem.wf = true := by
  unfold S8.masterFault
  dsimp only
  split
  · exact h
  · exact S8.raise_wf _ _ _ _ _ _ (S8.failJob_wf _ _ _ (S8.picked_wf _ h))

theorem storePart_wf (s1 : S8) (l : Cellar) (m : Cultures) (n : Nat) (f : Job → Job) (a b c d e k : Nat) (h : s1.mem.wf = true) :
    (((({ s1 with cellar := l, cultures := m } : S8).setJob n f).raise a b c d e).settleCulture k).mem.wf = true :=
  S8.settleCulture_wf _ _ (S8.raise_wf _ _ _ _ _ _ h)

@[simp] theorem S8.makePart_wf (s : S8) (n : Nat) (j : Job) (h : s.mem.wf = true) :
    (S8.makePart s n j).mem.wf = true := by
  unfold S8.makePart
  extract_lets v image s1 entry s2 s3
  split
  · exact S8.failJob_wf _ _ _ h
  · have h2 : s1.mem.wf = true := S8.writeCellar_wf (s.dropPart j) image.length (S8.dropPart_wf _ _ h)
    clear_value entry image s1
    exact storePart_wf _ _ _ _ _ _ _ _ _ _ _ h2


@[simp] theorem S8.updateJob_wf (s : S8) (n : Nat) (h : s.mem.wf = true) :
    (S8.updateJob s n).mem.wf = true := by
  unfold S8.updateJob
  split
  · exact h
  · split
    · exact h
    · dsimp only
      split
      · exact S8.failJob_wf _ _ _ (S8.setJob_wf _ _ _ h)
      · split
        · exact S8.makePart_wf _ _ _ (S8.setJob_wf _ _ _ h)
        · exact S8.setJob_wf _ _ _ h

@[simp] theorem ripenPublishEffect_bytes (s : S8) (value : Bytes) :
    (ripenPublishEffect s value).2.mem.bytes = s.mem.bytes := by
  unfold ripenPublishEffect
  ((try simp only []); (repeat' split) <;> first | rfl | assumption | (simp [*, foldl_bytes, ite_bytes, memfoldl_bytes]; done))
@[simp] theorem ripenPublishEffect_wf (s : S8) (value : Bytes) (h : s.mem.wf = true) :
    (ripenPublishEffect s value).2.mem.wf = true := wf_of_bytes (ripenPublishEffect_bytes s value) h

@[simp] theorem S8.publishPart_wf (s : S8) (n : Nat) (v : Nat) (j : Job) (h : s.mem.wf = true) :
    (S8.publishPart s n v j).mem.wf = true := by
  unfold S8.publishPart
  dsimp only
  split
  · exact h
  · refine S8.stageCulture_wf _ _ ?_
    exact h

@[simp] theorem S8.jobBoundary_wf (s : S8) (n : Nat) (j : Job) (h : s.mem.wf = true) :
    (S8.jobBoundary s n j).mem.wf = true := by
  unfold S8.jobBoundary
  ((try simp only []); (repeat' split) <;> first | assumption | exact Mem.wf_write _ _ h | (simp +contextual [*, foldl_wf, memfoldl_wf]; done))

@[simp] theorem S8.ripenBoundary_wf (s : S8) (h : s.mem.wf = true) :
    (S8.ripenBoundary s).mem.wf = true := by
  unfold S8.ripenBoundary
  simp +contextual [foldl_wf, memfoldl_wf, *]

@[simp] theorem S8.ripenLanes_bytes (s : S8) :
    (S8.ripenLanes s).mem.bytes = s.mem.bytes := by
  unfold S8.ripenLanes
  split <;> first | rfl | simp
@[simp] theorem S8.ripenLanes_wf (s : S8) (h : s.mem.wf = true) :
    (S8.ripenLanes s).mem.wf = true := wf_of_bytes (S8.ripenLanes_bytes s) h

@[simp] theorem S8.storeActivations_bytes (s : S8) (n : Nat) (index : Nat) (lane : Nat) (t : CoreTask) :
    (S8.storeActivations s n index lane t).mem.bytes = s.mem.bytes := by
  unfold S8.storeActivations
  repeat' split <;> first | rfl | simp
@[simp] theorem S8.storeActivations_wf (s : S8) (n : Nat) (index : Nat) (lane : Nat) (t : CoreTask) (h : s.mem.wf = true) :
    (S8.storeActivations s n index lane t).mem.wf = true := wf_of_bytes (S8.storeActivations_bytes s n index lane t) h

@[simp] theorem S8.lossLane_wf (s : S8) (sh : Sheet) (t : CoreTask) (lane : Nat) (p : Pass) (h : s.mem.wf = true) :
    (S8.lossLane s sh t lane p).mem.wf = true := by
  unfold S8.lossLane
  simp [h]

@[simp] theorem S8.sumGradients_bytes (s : S8) (sh : Sheet) (n : Nat) (j : Job) (t : CoreTask) (p : Pass) (input : Bytes) :
    (S8.sumGradients s sh n j t p input).mem.bytes = s.mem.bytes := by
  unfold S8.sumGradients
  simp [ite_bytes]
@[simp] theorem S8.sumGradients_wf (s : S8) (sh : Sheet) (n : Nat) (j : Job) (t : CoreTask) (p : Pass) (input : Bytes) (h : s.mem.wf = true) :
    (S8.sumGradients s sh n j t p input).mem.wf = true := wf_of_bytes (S8.sumGradients_bytes s sh n j t p input) h

@[simp] theorem S8.backwardLane_wf (s : S8) (sh : Sheet) (n : Nat) (index : Nat) (lane : Nat) (t : CoreTask) (p : Pass) (h : s.mem.wf = true) :
    (S8.backwardLane s sh n index lane t p).mem.wf = true := by
  unfold S8.backwardLane
  split
  · exact h
  · refine S8.reading_wf _ _ _ _ _ (fun b => ?_) h
    dsimp only
    split
    · exact S8.sumGradients_wf _ _ _ _ _ _ _ (Mem.writeRows_wf _ _ _ _ h)
    · exact Mem.writeRows_wf _ _ _ _ h

@[simp] theorem S8.ripenLane_wf (s : S8) (n : Nat) (index : Nat) (lane : Nat) (sh : Sheet) (t : CoreTask) (h : s.mem.wf = true) :
    (S8.ripenLane s n index lane sh t).mem.wf = true := by
  unfold S8.ripenLane
  ((try simp only []); (repeat' split) <;> first | assumption | exact Mem.wf_write _ _ h | (simp +contextual [*, foldl_wf, memfoldl_wf]; done))

@[simp] theorem S8.sheetRowLost_bytes (s : S8) (b : Bytes) (row die : Nat) :
    (S8.sheetRowLost s b row die).mem.bytes = s.mem.bytes := by
  unfold S8.sheetRowLost
  first
    | rfl
    | (simp; done)
    | ((repeat' split) <;> first | rfl | (simp; done))
    | (dsimp only; (repeat' split) <;> first | rfl | (simp; done))
    | (simp only []; (repeat' split) <;> first | rfl | assumption | (simp [*, foldl_bytes, ite_bytes, memfoldl_bytes]; done))
@[simp] theorem S8.sheetRowLost_wf (s : S8) (b : Bytes) (row die : Nat) (h : s.mem.wf = true) :
    (S8.sheetRowLost s b row die).mem.wf = true := wf_of_bytes (by simp) h

@[simp] theorem S8.sheetRow_bytes (s : S8) (half : Nat) (row : Nat) (n : Nat) (upset : Upsets) :
    (S8.sheetRow s half row n upset).mem.bytes = s.mem.bytes := by
  unfold S8.sheetRow
  simp [ite_bytes]
@[simp] theorem S8.sheetRow_wf (s : S8) (half : Nat) (row : Nat) (n : Nat) (upset : Upsets) (h : s.mem.wf = true) :
    (S8.sheetRow s half row n upset).mem.wf = true := wf_of_bytes (S8.sheetRow_bytes s half row n upset) h

@[simp] theorem S8.sheetCopies_bytes (s : S8) (half : Nat) (bad : List Nat) (upset : Upsets) :
    (S8.sheetCopies s half bad upset).mem.bytes = s.mem.bytes := by
  unfold S8.sheetCopies
  simp [foldl_bytes, ite_bytes, memfoldl_bytes, *]
@[simp] theorem S8.sheetCopies_wf (s : S8) (half : Nat) (bad : List Nat) (upset : Upsets) (h : s.mem.wf = true) :
    (S8.sheetCopies s half bad upset).mem.wf = true := wf_of_bytes (S8.sheetCopies_bytes s half bad upset) h

@[simp] theorem S8.meetArea_wf (s : S8) (a : Nat) (bad : List Nat) (upset : Upsets) (h : s.mem.wf = true) :
    (S8.meetArea s a bad upset).mem.wf = true := by
  unfold S8.meetArea
  ((try simp only []); (repeat' split) <;> first | assumption | exact Mem.wf_write _ _ h | (simp +contextual [*, foldl_wf, memfoldl_wf]; done))

@[simp] theorem S8.scrubWord_wf (s : S8) (word : Nat) (found : Option WordErr) (h : s.mem.wf = true) :
    (S8.scrubWord s word found).mem.wf = true := by
  unfold S8.scrubWord
  simp [h]

@[simp] theorem S8.answered_bytes (s : S8) (performed : Bool) (fault : Bool) (data : Bytes) :
    (S8.answered s performed fault data).mem.bytes = s.mem.bytes := by
  unfold S8.answered
  rfl
@[simp] theorem S8.answered_wf (s : S8) (performed : Bool) (fault : Bool) (data : Bytes) (h : s.mem.wf = true) :
    (S8.answered s performed fault data).mem.wf = true := wf_of_bytes (S8.answered_bytes s performed fault data) h

@[simp] theorem S8.load_wf (s : S8) (g : Agent) (a n : Nat) (upset : Upsets) (h : s.mem.wf = true) :
    (S8.load s g a n upset).mem.wf = true := by
  have h1 := S8.deliverLoad_wf _ g (s.readBytes a n) (S8.meetArea_wf _ a (badIn s.mem upset a n) upset
    (S8.probeRead_wf _ a n (S8.meetWords_wf s a n upset h)))
  have hf : ∀ (c : Bool) (t : S8) (x : Nat), t.mem.wf = true → (if c then t.takeFault g 5 x else t).mem.wf = true := by
    intro c t x ht; split
    · exact S8.takeFault_wf _ _ _ _ ht
    · exact ht
  unfold S8.load
  split
  · exact S8.answered_wf _ _ _ _ h
  · exact S8.answered_wf _ _ _ _ (hf _ _ _ h1)

@[simp] theorem S8.access_wf (s : S8) (x : Access) (h : s.mem.wf = true) :
    (S8.access s x).mem.wf = true := by
  unfold S8.access
  ((try simp only []); (repeat' split) <;> first | assumption | exact Mem.wf_write _ _ h | (simp +contextual [*, foldl_wf, memfoldl_wf]; done))

@[simp] theorem S8.retireRow_bytes (s : S8) (row : Nat) :
    (S8.retireRow s row).mem.bytes = s.mem.bytes := by
  unfold S8.retireRow
  simp [ite_bytes]
@[simp] theorem S8.retireRow_wf (s : S8) (row : Nat) (h : s.mem.wf = true) :
    (S8.retireRow s row).mem.wf = true := wf_of_bytes (S8.retireRow_bytes s row) h

@[simp] theorem S8.retireRows_bytes (s : S8) :
    (S8.retireRows s).mem.bytes = s.mem.bytes := by
  unfold S8.retireRows
  simp [foldl_bytes, ite_bytes, memfoldl_bytes, *]
@[simp] theorem S8.retireRows_wf (s : S8) (h : s.mem.wf = true) :
    (S8.retireRows s).mem.wf = true := wf_of_bytes (S8.retireRows_bytes s) h

@[simp] theorem eventClearEffect_bytes (s : S8) (value : Bytes) :
    (eventClearEffect s value).2.mem.bytes = s.mem.bytes := by
  unfold eventClearEffect
  ((try simp only []); (repeat' split) <;> first | rfl | assumption | (simp [*, foldl_bytes, ite_bytes, memfoldl_bytes]; done))
@[simp] theorem eventClearEffect_wf (s : S8) (value : Bytes) (h : s.mem.wf = true) :
    (eventClearEffect s value).2.mem.wf = true := wf_of_bytes (eventClearEffect_bytes s value) h

@[simp] theorem eventMaskEffect_bytes (s : S8) (value : Bytes) :
    (eventMaskEffect s value).2.mem.bytes = s.mem.bytes := by
  unfold eventMaskEffect
  ((try simp only []); (repeat' split) <;> first | rfl | assumption | (simp [*, foldl_bytes, ite_bytes, memfoldl_bytes]; done))
@[simp] theorem eventMaskEffect_wf (s : S8) (value : Bytes) (h : s.mem.wf = true) :
    (eventMaskEffect s value).2.mem.wf = true := wf_of_bytes (eventMaskEffect_bytes s value) h

@[simp] theorem configSaveEffect_bytes (s : S8) (value : Bytes) :
    (configSaveEffect s value).2.mem.bytes = s.mem.bytes := by
  unfold configSaveEffect
  simp [ite_bytes]
@[simp] theorem configSaveEffect_wf (s : S8) (value : Bytes) (h : s.mem.wf = true) :
    (configSaveEffect s value).2.mem.wf = true := wf_of_bytes (configSaveEffect_bytes s value) h

@[simp] theorem configDefaultsEffect_bytes (s : S8) (value : Bytes) :
    (configDefaultsEffect s value).2.mem.bytes = s.mem.bytes := by
  unfold configDefaultsEffect
  simp [ite_bytes]
@[simp] theorem configDefaultsEffect_wf (s : S8) (value : Bytes) (h : s.mem.wf = true) :
    (configDefaultsEffect s value).2.mem.wf = true := wf_of_bytes (configDefaultsEffect_bytes s value) h

@[simp] theorem rindModeEffect_bytes (s : S8) (value : Bytes) :
    (rindModeEffect s value).2.mem.bytes = s.mem.bytes := by
  unfold rindModeEffect
  split <;> first | rfl | simp
@[simp] theorem rindModeEffect_wf (s : S8) (value : Bytes) (h : s.mem.wf = true) :
    (rindModeEffect s value).2.mem.wf = true := wf_of_bytes (rindModeEffect_bytes s value) h

@[simp] theorem joinWaitEffect_bytes (s : S8) (value : Bytes) :
    (joinWaitEffect s value).2.mem.bytes = s.mem.bytes := by
  unfold joinWaitEffect
  rfl
@[simp] theorem joinWaitEffect_wf (s : S8) (value : Bytes) (h : s.mem.wf = true) :
    (joinWaitEffect s value).2.mem.wf = true := wf_of_bytes (joinWaitEffect_bytes s value) h

@[simp] theorem objEffect_wf (obj : Nat) (s : S8) (value : Bytes) (h : s.mem.wf = true) :
    (objEffect obj s value).2.mem.wf = true := by
  unfold objEffect
  generalize hf : (ownEffects (objDie obj)).find? (fun e => decide (e.1 = normObj obj)) = r
  cases r with
  | some e =>
    show (e.2 s value).2.mem.wf = true
    have he := hf
    have hm := List.mem_of_find?_eq_some he
    clear he hf
    revert e
    suffices hall : ∀ e ∈ ownEffects (objDie obj), (e.2 s value).2.mem.wf = true from fun e hm => hall e hm
    unfold ownEffects
    refine List.forall_mem_cons.2 ⟨eventClearEffect_wf s value h, ?_⟩
    refine List.forall_mem_cons.2 ⟨eventMaskEffect_wf s value h, ?_⟩
    refine List.forall_mem_cons.2 ⟨configSaveEffect_wf s value h, ?_⟩
    refine List.forall_mem_cons.2 ⟨configDefaultsEffect_wf s value h, ?_⟩
    refine List.forall_mem_cons.2 ⟨rindModeEffect_wf s value h, ?_⟩
    refine List.forall_mem_cons.2 ⟨joinWaitEffect_wf s value h, ?_⟩
    refine List.forall_mem_cons.2 ⟨halfServiceEffect_wf s value h, ?_⟩
    refine List.forall_mem_cons.2 ⟨halfClockEffect_wf s value h, ?_⟩
    refine List.forall_mem_cons.2 ⟨overrideEffect_wf s value h, ?_⟩
    refine List.forall_mem_cons.2 ⟨diePowerCycleEffect_wf s value h, ?_⟩
    refine List.forall_mem_cons.2 ⟨firmwareLoadEffect_wf s value h, ?_⟩
    refine List.forall_mem_cons.2 ⟨handoverEffect_wf s value h, ?_⟩
    refine List.forall_mem_cons.2 ⟨measStartEffect_wf s value h, ?_⟩
    refine List.forall_mem_cons.2 ⟨coreMoveEffect_wf _ s value h, ?_⟩
    refine List.forall_mem_cons.2 ⟨rewriteEffect_wf _ s value h, ?_⟩
    refine List.forall_mem_cons.2 ⟨digestListEffect_wf s value h, ?_⟩
    refine List.forall_mem_cons.2 ⟨runLoadEffect_wf s value h, ?_⟩
    refine List.forall_mem_cons.2 ⟨ownerReleaseEffect_wf s value h, ?_⟩
    refine List.forall_mem_cons.2 ⟨wheelManifestEffect_wf s value h, ?_⟩
    refine List.forall_mem_cons.2 ⟨wheelPlacementEffect_wf s value h, ?_⟩
    refine List.forall_mem_cons.2 ⟨publisherKeysEffect_wf s value h, ?_⟩
    refine List.forall_mem_cons.2 ⟨wheelLoadEffect_wf s value h, ?_⟩
    refine List.forall_mem_cons.2 ⟨wheelUnloadEffect_wf s value h, ?_⟩
    refine List.forall_mem_cons.2 ⟨cultureLoadEffect_wf s value h, ?_⟩
    refine List.forall_mem_cons.2 ⟨cultureUnloadEffect_wf s value h, ?_⟩
    refine List.forall_mem_cons.2 ⟨pauseKeyExtendEffect_wf s value h, ?_⟩
    refine List.forall_mem_cons.2 ⟨ripenJobEffect_wf s value h, ?_⟩
    refine List.forall_mem_cons.2 ⟨ripenStopEffect_wf s value h, ?_⟩
    refine List.forall_mem_cons.2 ⟨ripenPublishEffect_wf s value h, ?_⟩
    refine List.forall_mem_cons.2 ⟨testPackEffect_wf s value h, ?_⟩
    simp
  | none =>
    dsimp only
    split
    · exact pendEffect_wf _ _ _ h
    · exact storeEffect_wf _ _ _ h

@[simp] theorem S8.queueSegments_bytes (s : S8) (p : Port) (id : Nat) (frames : List UpFrame) :
    (S8.queueSegments s p id frames).mem.bytes = s.mem.bytes := by
  unfold S8.queueSegments
  rfl
@[simp] theorem S8.queueSegments_wf (s : S8) (p : Port) (id : Nat) (frames : List UpFrame) (h : s.mem.wf = true) :
    (S8.queueSegments s p id frames).mem.wf = true := wf_of_bytes (S8.queueSegments_bytes s p id frames) h

@[simp] theorem S8.answerRead_bytes (s : S8) (p : Port) (requestId : Nat) (obj : Nat) (status : Nat) (id : Nat) (value : Bytes) :
    (S8.answerRead s p requestId obj status id value).mem.bytes = s.mem.bytes := by
  unfold S8.answerRead
  rfl
@[simp] theorem S8.answerRead_wf (s : S8) (p : Port) (requestId : Nat) (obj : Nat) (status : Nat) (id : Nat) (value : Bytes) (h : s.mem.wf = true) :
    (S8.answerRead s p requestId obj status id value).mem.wf = true := wf_of_bytes (S8.answerRead_bytes s p requestId obj status id value) h

@[simp] theorem S8.readFrame_bytes (s : S8) (p : Port) (v : FrameView) :
    (S8.readFrame s p v).mem.bytes = s.mem.bytes := by
  unfold S8.readFrame
  simp [ite_bytes]
@[simp] theorem S8.readFrame_wf (s : S8) (p : Port) (v : FrameView) (h : s.mem.wf = true) :
    (S8.readFrame s p v).mem.wf = true := wf_of_bytes (S8.readFrame_bytes s p v) h

@[simp] theorem inlineEffect_wf (obj : Nat) (length : Nat) (s : S8) (value : Bytes) (h : s.mem.wf = true) :
    (inlineEffect obj length s value).2.mem.wf = true := by
  unfold inlineEffect
  split <;> first | assumption | simp [*]

@[simp] theorem S8.writeFrame_wf (s : S8) (p : Port) (v : FrameView) (h : s.mem.wf = true) :
    (S8.writeFrame s p v).mem.wf = true := by
  unfold S8.writeFrame
  ((try simp only []); (repeat' split) <;> first | assumption | exact Mem.wf_write _ _ h | (simp +contextual [*, foldl_wf, memfoldl_wf]; done))

@[simp] theorem S8.openWrite_bytes (s : S8) (p : Port) (v : FrameView) :
    (S8.openWrite s p v).mem.bytes = s.mem.bytes := by
  unfold S8.openWrite
  simp [ite_bytes]
@[simp] theorem S8.openWrite_wf (s : S8) (p : Port) (v : FrameView) (h : s.mem.wf = true) :
    (S8.openWrite s p v).mem.wf = true := wf_of_bytes (S8.openWrite_bytes s p v) h

@[simp] theorem S8.finishWrite_wf (s : S8) (t : DictTransfer) (h : s.mem.wf = true) :
    (S8.finishWrite s t).mem.wf = true := by
  unfold S8.finishWrite
  dsimp only; split <;> first | assumption | simp [*]

@[simp] theorem S8.takeSegment_wf (s : S8) (p : Port) (v : FrameView) (h : s.mem.wf = true) :
    (S8.takeSegment s p v).mem.wf = true := by
  unfold S8.takeSegment
  ((try simp only []); (repeat' split) <;> first | assumption | exact Mem.wf_write _ _ h | (simp +contextual [*, foldl_wf, memfoldl_wf]; done))

@[simp] theorem S8.abortFrame_bytes (s : S8) (p : Port) (v : FrameView) :
    (S8.abortFrame s p v).mem.bytes = s.mem.bytes := by
  unfold S8.abortFrame
  ((try simp only []); (repeat' split) <;> first | rfl | assumption | (simp [*, foldl_bytes, ite_bytes, memfoldl_bytes]; done))
@[simp] theorem S8.abortFrame_wf (s : S8) (p : Port) (v : FrameView) (h : s.mem.wf = true) :
    (S8.abortFrame s p v).mem.wf = true := wf_of_bytes (S8.abortFrame_bytes s p v) h

@[simp] theorem S8.endTasks_bytes (s : S8) :
    (S8.endTasks s).mem.bytes = s.mem.bytes := by
  unfold S8.endTasks
  ((try simp only []); (repeat' split) <;> first | rfl | assumption | (simp [*, foldl_bytes, ite_bytes, memfoldl_bytes]; done))
@[simp] theorem S8.endTasks_wf (s : S8) (h : s.mem.wf = true) :
    (S8.endTasks s).mem.wf = true := wf_of_bytes (S8.endTasks_bytes s) h

@[simp] theorem S8.advanceStep_bytes (s : S8) :
    (S8.advanceStep s).mem.bytes = s.mem.bytes := by
  unfold S8.advanceStep
  rfl
@[simp] theorem S8.advanceStep_wf (s : S8) (h : s.mem.wf = true) :
    (S8.advanceStep s).mem.wf = true := wf_of_bytes (S8.advanceStep_bytes s) h

@[simp] theorem S8.loseContent_bytes (s : S8) (die : Nat) :
    (S8.loseContent s die).mem.bytes = s.mem.bytes := by
  unfold S8.loseContent
  rfl
@[simp] theorem S8.loseContent_wf (s : S8) (die : Nat) (h : s.mem.wf = true) :
    (S8.loseContent s die).mem.wf = true := wf_of_bytes (S8.loseContent_bytes s die) h

@[simp] theorem S8.takeLosses_wf (s : S8) (h : s.mem.wf = true) :
    (S8.takeLosses s).mem.wf = true := by
  unfold S8.takeLosses
  refine foldl_wf _ _ _ (fun a d ha => S8.loseContent_wf _ _ ha) ?_
  dsimp only
  split
  · split
    · exact h
    · exact S8.breakPromises_wf _ _ _ h
  · refine S8.ripenDiesLost_wf _ _ ?_
    split
    · exact h
    · exact S8.breakPromises_wf _ _ _ h

@[simp] theorem S8.firmwareBoundary_bytes (s : S8) :
    (S8.firmwareBoundary s).mem.bytes = s.mem.bytes := by
  unfold S8.firmwareBoundary
  simp [foldl_bytes, ite_bytes, memfoldl_bytes, *]
@[simp] theorem S8.firmwareBoundary_wf (s : S8) (h : s.mem.wf = true) :
    (S8.firmwareBoundary s).mem.wf = true := wf_of_bytes (S8.firmwareBoundary_bytes s) h

@[simp] theorem S8.endRun_wf (s : S8) (h : s.mem.wf = true) :
    (S8.endRun s).mem.wf = true := by
  unfold S8.endRun
  simp [h]

@[simp] theorem S8.drain_wf (s : S8) (h : s.mem.wf = true) :
    (S8.drain s).mem.wf = true := by
  unfold S8.drain
  repeat' split <;> first | assumption | simp [*]

@[simp] theorem S8.startRun_wf (s : S8) (sh : Sheet) (h : s.mem.wf = true) :
    (S8.startRun s sh).mem.wf = true := by
  unfold S8.startRun
  repeat' split <;> first | assumption | simp [*]

@[simp] theorem S8.retireRehomed_wf (s : S8) (die : Nat) (h : s.mem.wf = true) :
    (S8.retireRehomed s die).mem.wf = true := by
  unfold S8.retireRehomed
  refine foldl_wf _ _ _ (fun a u ha => ?_) h
  exact foldl_wf _ _ _ (fun b e hb => S8.retireVat_wf _ _ hb) ha

@[simp] theorem S8.rejoined_bytes (s : S8) (die : Nat) :
    (S8.rejoined s die).mem.bytes = s.mem.bytes := by
  unfold S8.rejoined
  rfl
@[simp] theorem S8.rejoined_wf (s : S8) (die : Nat) (h : s.mem.wf = true) :
    (S8.rejoined s die).mem.wf = true := wf_of_bytes (S8.rejoined_bytes s die) h

@[simp] theorem S8.toDegraded_bytes (s : S8) (die : Nat) (sh : Sheet) :
    (S8.toDegraded s die sh).mem.bytes = s.mem.bytes := by
  unfold S8.toDegraded
  rfl
@[simp] theorem S8.toDegraded_wf (s : S8) (die : Nat) (sh : Sheet) (h : s.mem.wf = true) :
    (S8.toDegraded s die sh).mem.wf = true := wf_of_bytes (S8.toDegraded_bytes s die sh) h

@[simp] theorem S8.toBase_wf (s : S8) (sh : Sheet) (h : s.mem.wf = true) :
    (S8.toBase s sh).mem.wf = true := by
  unfold S8.toBase
  exact foldl_wf _ _ _ (fun a d ha => S8.retireRehomed_wf _ _ (S8.rejoined_wf _ _ ha)) h

@[simp] theorem S8.switchSheet_wf (s : S8) (h : s.mem.wf = true) :
    (S8.switchSheet s).mem.wf = true := by
  unfold S8.switchSheet
  ((try simp only []); (repeat' split) <;> first | assumption | exact Mem.wf_write _ _ h | (simp +contextual [*, foldl_wf, memfoldl_wf]; done))

@[simp] theorem S8.restoreDie_wf (s : S8) (die : Nat) (h : s.mem.wf = true) :
    (S8.restoreDie s die).mem.wf = true := by
  unfold S8.restoreDie
  simp +contextual [foldl_wf, memfoldl_wf, *]

@[simp] theorem S8.rejoinDie_wf (s : S8) (die : Nat) (h : s.mem.wf = true) :
    (S8.rejoinDie s die).mem.wf = true := by
  unfold S8.rejoinDie
  ((try simp only []); (repeat' split) <;> first | assumption | exact Mem.wf_write _ _ h | (simp +contextual [*, foldl_wf, memfoldl_wf]; done))

@[simp] theorem S8.sheetBoundary_wf (s : S8) (h : s.mem.wf = true) :
    (S8.sheetBoundary s).mem.wf = true := by
  unfold S8.sheetBoundary
  extract_lets s1 s2 s3 s4
  have h1 : s1.mem.wf = true := S8.drain_wf _ h
  have h2 : s2.mem.wf = true := by
    simp only [s2]
    split
    · exact S8.startRun_wf _ _ h1
    · exact S8.switchSheet_wf _ h1
  have h3 : s3.mem.wf = true := foldl_wf _ _ _ (fun a d ha => S8.rejoinDie_wf _ _ ha) h2
  show s4.mem.wf = true
  simp only [s4]
  split
  · exact h3
  · exact foldl_wf _ _ _ (fun a u ha => S8.settleAgent_wf _ _ ha) h3

@[simp] theorem S8.applyPending_bytes (s : S8) :
    (S8.applyPending s).mem.bytes = s.mem.bytes := by
  unfold S8.applyPending
  rfl
@[simp] theorem S8.applyPending_wf (s : S8) (h : s.mem.wf = true) :
    (S8.applyPending s).mem.wf = true := wf_of_bytes (S8.applyPending_bytes s) h

@[simp] theorem S8.newStep_bytes (s : S8) :
    (S8.newStep s).mem.bytes = s.mem.bytes := by
  unfold S8.newStep
  rfl
@[simp] theorem S8.newStep_wf (s : S8) (h : s.mem.wf = true) :
    (S8.newStep s).mem.wf = true := wf_of_bytes (S8.newStep_bytes s) h

@[simp] theorem S8.closeStep_wf (s : S8) (h : s.mem.wf = true) :
    (S8.closeStep s).mem.wf = true := by
  unfold S8.closeStep
  exact S8.newStep_wf _ (S8.applyPending_wf _ (S8.sheetBoundary_wf _ (S8.firmwareBoundary_wf _ (S8.takeLosses_wf _ (S8.advanceStep_wf _
    (S8.endTasks_wf _ (S8.powerBoundary_wf _ h)))))))

@[simp] theorem S8.openStep_wf (s : S8) (h : s.mem.wf = true) :
    (S8.openStep s).mem.wf = true := by
  unfold S8.openStep
  exact S8.judge_wf _ (S8.mirrorState_wf _ (S8.fetchBoundary_wf _ (S8.ripenLanes_wf _ (S8.serveBoundary_wf _ (S8.withdrawFrames_wf _
    (S8.attentionBoundary_wf _ (S8.testBoundary_wf _ (S8.trierBoundary_wf _ (S8.ripenBoundary_wf _ (S8.cultureBoundary_wf _
    (S8.wheelBoundary_wf _ (S8.turnBoundary_wf _ (S8.coreBoundary_wf _ (S8.retireRows_wf _ h))))))))))))))

@[simp] theorem S8.stepBoundary_wf (s : S8) (h : s.mem.wf = true) :
    (S8.stepBoundary s).mem.wf = true := by
  unfold S8.stepBoundary
  split
  · exact S8.openStep_wf _ (S8.closeStep_wf _ h)
  · exact h

/-! ### Commands -/

theorem act_wf {i : Instr} {s t : State} {f : S8 → S8} (h : act i s f = .next t) (hw : s.chip.mem.wf = true)
    (hf : ∀ c : S8, c.mem.wf = true → (f c).mem.wf = true) : t.chip.mem.wf = true := by
  obtain ⟨-, rfl⟩ := act_next h
  exact hf _ hw

theorem actOr_wf {i : Instr} {s t : State} {f : S8 → Except Fault S8} (h : actOr i s f = .next t) (hw : s.chip.mem.wf = true)
    (hf : ∀ c d : S8, c.mem.wf = true → f c = .ok d → d.mem.wf = true) : t.chip.mem.wf = true := by
  obtain ⟨-, c, hc, rfl⟩ := actOr_next h
  exact hf _ _ hw hc

theorem S8.performWriteOr_wf {s d : S8} {w : ObjWrite} {obj : Nat} {effect : WriteEffect} (h : s.performWriteOr w obj effect = .ok d)
    (hk : ∀ v, (effect s v).2.mem.wf = true) (hs : s.mem.wf = true) : d.mem.wf = true := by
  unfold S8.performWriteOr at h
  split at h
  · cases h
  · cases h
    exact S8.performWrite_wf _ _ _ _ hk hs

theorem execMemoryAccess_wf (a : Access) {s t : State} (h : execMemoryAccess a s = .next t)
    (hw : s.chip.mem.wf = true) : t.chip.mem.wf = true := by
  exact act_wf h hw fun c hc => by simp [hc]

theorem execStepBoundary_wf {s t : State} (h : execStepBoundary s = .next t)
    (hw : s.chip.mem.wf = true) : t.chip.mem.wf = true := by
  exact act_wf h hw fun c hc => by simp [hc]

theorem execStepOverrun_wf (die : Die) (half : Half) {s t : State} (h : execStepOverrun die half s = .next t)
    (hw : s.chip.mem.wf = true) : t.chip.mem.wf = true := by
  exact act_wf h hw fun c hc => by simp [hc]

theorem execFetchWindow_wf (vat : Vat) (slot : PourSlot) (upset : FetchUpsets) {s t : State} (h : execFetchWindow vat slot upset s = .next t)
    (hw : s.chip.mem.wf = true) : t.chip.mem.wf = true := by
  exact act_wf h hw fun c hc => by simp [hc]

theorem execHighPour_wf (vat : Vat) (slot : PourSlot) {s t : State} (h : execHighPour vat slot s = .next t)
    (hw : s.chip.mem.wf = true) : t.chip.mem.wf = true := by
  exact act_wf h hw fun c hc => by simp [hc]

theorem execLowPour_wf (vat : Vat) (slot : PourSlot) {s t : State} (h : execLowPour vat slot s = .next t)
    (hw : s.chip.mem.wf = true) : t.chip.mem.wf = true := by
  exact act_wf h hw fun c hc => by simp [hc]

theorem execDoublePour_wf (vat : Vat) (slot : PourSlot) {s t : State} (h : execDoublePour vat slot s = .next t)
    (hw : s.chip.mem.wf = true) : t.chip.mem.wf = true := by
  exact act_wf h hw fun c hc => by simp [hc]

theorem execReversePour_wf (vat : Vat) (slot : PourSlot) {s t : State} (h : execReversePour vat slot s = .next t)
    (hw : s.chip.mem.wf = true) : t.chip.mem.wf = true := by
  exact act_wf h hw fun c hc => by simp [hc]

theorem execPourCodesReachRind_wf (vat : Vat) (slot : PourSlot) (codes : List (BitVec 10)) (tick : Nat) (upset : Upsets) {s t : State} (h : execPourCodesReachRind vat slot codes tick upset s = .next t)
    (hw : s.chip.mem.wf = true) : t.chip.mem.wf = true := by
  exact act_wf h hw fun c hc => by simp [hc]

theorem execReserveDecision_wf (vat : Vat) (slot : PourSlot) {s t : State} (h : execReserveDecision vat slot s = .next t)
    (hw : s.chip.mem.wf = true) : t.chip.mem.wf = true := by
  exact act_wf h hw fun c hc => by simp [hc]

theorem execUnrepairedRelease_wf (vat : Vat) (lane : Lane) (tick : Nat) (upset : Upsets) {s t : State} (h : execUnrepairedRelease vat lane tick upset s = .next t)
    (hw : s.chip.mem.wf = true) : t.chip.mem.wf = true := by
  exact act_wf h hw fun c hc => by simp [hc]

theorem execReductionRead_wf (reduction : BitVec 12) (tick : Nat) (mesh : List (RindUnit × Lane × MeshErr)) {s t : State}
    (h : execReductionRead reduction tick mesh s = .next t)
    (hw : s.chip.mem.wf = true) : t.chip.mem.wf = true := by
  exact act_wf h hw fun c hc => by simp [hc]

theorem execAddNode_wf (reduction : BitVec 12) (lane : Lane) (node : Nat) (tick : Nat) (mesh : MeshErr) {s t : State}
    (h : execAddNode reduction lane node tick mesh s = .next t)
    (hw : s.chip.mem.wf = true) : t.chip.mem.wf = true := by
  exact act_wf h hw fun c hc => by simp [hc]

theorem execTransferStart_wf (transfer : Carried) {s t : State} (h : execTransferStart transfer s = .next t)
    (hw : s.chip.mem.wf = true) : t.chip.mem.wf = true := by
  exact act_wf h hw fun c hc => by simp [hc]

theorem execTransferArrived_wf (lane : LinkLane) (transfer : Carried) (tick : Nat) {s t : State} (h : execTransferArrived lane transfer tick s = .next t)
    (hw : s.chip.mem.wf = true) : t.chip.mem.wf = true := by
  exact act_wf h hw fun c hc => by simp [hc]

theorem execCarrySave_wf (unit : RindUnit) (reduction : BitVec 12) (lane : Lane) {s t : State} (h : execCarrySave unit reduction lane s = .next t)
    (hw : s.chip.mem.wf = true) : t.chip.mem.wf = true := by
  exact act_wf h hw fun c hc => by simp [hc]

theorem execCarryRestore_wf (unit : RindUnit) (reduction : BitVec 12) (lane : Lane) (upset : Upsets) {s t : State} (h : execCarryRestore unit reduction lane upset s = .next t)
    (hw : s.chip.mem.wf = true) : t.chip.mem.wf = true := by
  exact act_wf h hw fun c hc => by simp [hc]

theorem execCalibrationStart_wf (vat : Vat) {s t : State} (h : execCalibrationStart vat s = .next t)
    (hw : s.chip.mem.wf = true) : t.chip.mem.wf = true := by
  refine act_wf h hw fun c hc => ?_
  dsimp only
  split <;> first | assumption | simp [*]

theorem execCalibrationComplete_wf (vat : Vat) (roundA roundB : List ProbeCodes) {s t : State} (h : execCalibrationComplete vat roundA roundB s = .next t)
    (hw : s.chip.mem.wf = true) : t.chip.mem.wf = true := by
  refine act_wf h hw fun c hc => ?_
  ((try dsimp only); (repeat' split) <;> (first | assumption | (simp +contextual [*, foldl_wf, memfoldl_wf]; done)))

theorem execReferenceCheck_wf (codes : List (BitVec 16)) {s t : State} (h : execReferenceCheck codes s = .next t)
    (hw : s.chip.mem.wf = true) : t.chip.mem.wf = true := by
  refine act_wf h hw fun c hc => ?_
  ((try dsimp only); (repeat' split) <;> (first | assumption | (simp +contextual [*, foldl_wf, memfoldl_wf]; done)))

theorem execMeasStartEdge_wf {s t : State} (h : execMeasStartEdge s = .next t)
    (hw : s.chip.mem.wf = true) : t.chip.mem.wf = true := by
  refine act_wf h hw fun c hc => ?_
  ((try dsimp only); (repeat' split) <;> (first | assumption | (simp +contextual [*, foldl_wf, memfoldl_wf]; done)))

theorem execMeasStart_wf (w : ObjWrite) {s t : State} (h : execMeasStart w s = .next t)
    (hw : s.chip.mem.wf = true) : t.chip.mem.wf = true := by
  exact act_wf h hw fun c hc => by simp [hc]

theorem execMeasConversionDone_wf (nanovolts : Int) {s t : State} (h : execMeasConversionDone nanovolts s = .next t)
    (hw : s.chip.mem.wf = true) : t.chip.mem.wf = true := by
  refine act_wf h hw fun c hc => ?_
  dsimp only
  split <;> first | assumption | simp [*]

theorem execMeasFirmwareHoldExpire_wf {s t : State} (h : execMeasFirmwareHoldExpire s = .next t)
    (hw : s.chip.mem.wf = true) : t.chip.mem.wf = true := by
  exact act_wf h hw fun c hc => hc

theorem execLocalisationStageDone_wf (vat : Vat) (group : Fin 16) (found : Findings) {s t : State} (h : execLocalisationStageDone vat group found s = .next t)
    (hw : s.chip.mem.wf = true) : t.chip.mem.wf = true := by
  refine act_wf h hw fun c hc => ?_
  ((try dsimp only); (repeat' split) <;> (first | assumption | (simp +contextual [*, foldl_wf, memfoldl_wf]; done)))

theorem execAbsorbPulseVerify_wf (vat : Vat) (row col : Fin 2048) (trueCell complementCell : Nat) {s t : State} (h : execAbsorbPulseVerify vat row col trueCell complementCell s = .next t)
    (hw : s.chip.mem.wf = true) : t.chip.mem.wf = true := by
  refine act_wf h hw fun c hc => ?_
  dsimp only
  repeat' split <;> first | assumption | simp [*]

theorem execColumnMoveDone_wf (vat : Vat) (col : Fin 2048) {s t : State} (h : execColumnMoveDone vat col s = .next t)
    (hw : s.chip.mem.wf = true) : t.chip.mem.wf = true := by
  refine act_wf h hw fun c hc => ?_
  dsimp only
  split
  · rename_i g _ _
    split
    · exact hc
    · generalize hs : c.stageMove (vatKey vat) col.val _ _ = s1
      have h1 : s1.mem.wf = true := by rw [← hs]; exact S8.stageMove_wf _ _ _ _ _ hc
      exact h1
  · exact hc

theorem execProgrammeVerifyDone_wf (vat : Vat) (off : List (Nat × Nat × Int)) (gainStep : Fin 4) {s t : State} (h : execProgrammeVerifyDone vat off gainStep s = .next t)
    (hw : s.chip.mem.wf = true) : t.chip.mem.wf = true := by
  refine act_wf h hw fun c hc => ?_
  ((try dsimp only); (repeat' split) <;> (first | assumption | (simp +contextual [*, foldl_wf, memfoldl_wf]; done)))

theorem execRewriteRequest_wf (die : Die) (w : ObjWrite) {s t : State} (h : execRewriteRequest die w s = .next t)
    (hw : s.chip.mem.wf = true) : t.chip.mem.wf = true := by
  exact act_wf h hw fun c hc => by simp [hc]

theorem execRewriteStart_wf (vat : Vat) {s t : State} (h : execRewriteStart vat s = .next t)
    (hw : s.chip.mem.wf = true) : t.chip.mem.wf = true := by
  refine act_wf h hw fun c hc => ?_
  dsimp only
  repeat' split <;> first | assumption | simp [*]

theorem execWearCountSave_wf {s t : State} (h : execWearCountSave s = .next t)
    (hw : s.chip.mem.wf = true) : t.chip.mem.wf = true := by
  exact act_wf h hw fun c hc => hc

theorem execRunLoadRequest_wf (w : ObjWrite) {s t : State} (h : execRunLoadRequest w s = .next t)
    (hw : s.chip.mem.wf = true) : t.chip.mem.wf = true := by
  exact act_wf h hw fun c hc => by simp [hc]

theorem execRunLoadComplete_wf {s t : State} (h : execRunLoadComplete s = .next t)
    (hw : s.chip.mem.wf = true) : t.chip.mem.wf = true := by
  exact act_wf h hw fun c hc => by simp [hc]

theorem execRunStartStep_wf (w : ObjWrite) {s t : State} (h : execRunStartStep w s = .next t)
    (hw : s.chip.mem.wf = true) : t.chip.mem.wf = true := by
  refine actOr_wf h hw fun c d hc hd => ?_
  exact S8.performWriteOr_wf hd (fun v => storeEffect_wf _ _ _ hc) hc

theorem execBarrierDoneRx_wf (f : Flit) {s t : State} (h : execBarrierDoneRx f s = .next t)
    (hw : s.chip.mem.wf = true) : t.chip.mem.wf = true := by
  refine act_wf h hw fun c hc => ?_
  refine S8.receiveControl_wf _ _ _ _ ?_ hc
  intro d v hd
  dsimp only
  split <;> first | assumption | simp [*]

theorem execBarrierReleaseRx_wf (f : Flit) {s t : State} (h : execBarrierReleaseRx f s = .next t)
    (hw : s.chip.mem.wf = true) : t.chip.mem.wf = true := by
  refine act_wf h hw fun c hc => ?_
  refine S8.receiveControl_wf _ _ _ _ ?_ hc
  intro d v hd
  dsimp only
  split <;> first | assumption | simp [*]

theorem execBarrierIsolatedRx_wf (f : Flit) {s t : State} (h : execBarrierIsolatedRx f s = .next t)
    (hw : s.chip.mem.wf = true) : t.chip.mem.wf = true := by
  refine act_wf h hw fun c hc => ?_
  refine S8.receiveControl_wf _ _ _ _ ?_ hc
  intro d v hd
  (try dsimp only); (repeat' split) <;>
    (first | assumption | (simp +contextual [*, foldl_wf, memfoldl_wf]; done)
           | ((try dsimp only); (repeat' split) <;> (first | assumption | (simp +contextual [*, foldl_wf, memfoldl_wf]; done))))

theorem execXferRow_wf (core : Core) (machineMode : Bool) (rd rs1 rs2 : Fin 32) {s t : State} (h : execXferRow core machineMode rd rs1 rs2 s = .next t)
    (hw : s.chip.mem.wf = true) : t.chip.mem.wf = true := by
  refine act_wf h hw fun c hc => ?_
  simp +contextual [foldl_wf, memfoldl_wf, *]

theorem execXferWait_wf (core : Core) (rd rs1 : Fin 32) {s t : State} (h : execXferWait core rd rs1 s = .next t)
    (hw : s.chip.mem.wf = true) : t.chip.mem.wf = true := by
  refine act_wf h hw fun c hc => ?_
  refine S8.onCore_wf _ _ _ ?_ hc
  intro d hd
  (try dsimp only); (repeat' split) <;>
    (first | assumption | (simp +contextual [*, foldl_wf, memfoldl_wf]; done)
           | ((try dsimp only); (repeat' split) <;> (first | assumption | (simp +contextual [*, foldl_wf, memfoldl_wf]; done))))

theorem execXferComplete_wf (core : Core) (tag : Fin 16) (upset : Upsets) (mesh : MeshErr) {s t : State}
    (h : execXferComplete core tag upset mesh s = .next t)
    (hw : s.chip.mem.wf = true) : t.chip.mem.wf = true := by
  refine act_wf h hw fun c hc => ?_
  dsimp only
  split
  · exact hc
  · split
    · exact hc
    · split
      · exact S8.xferEnd_wf _ _ _ _ _ (S8.copyRows_wf _ _ _ _ _ (S8.meshWords_wf _ _ _ _ hc))
      · exact S8.xferEnd_wf _ _ _ _ _ (S8.addressFault_wf _ _ _ _ hc)

theorem execPourPost_wf (core : Core) (rd rs1 rs2 : Fin 32) (tick : Nat) {s t : State} (h : execPourPost core rd rs1 rs2 tick s = .next t)
    (hw : s.chip.mem.wf = true) : t.chip.mem.wf = true := by
  refine act_wf h hw fun c hc => ?_
  refine S8.onCore_wf _ _ _ ?_ hc
  intro d hd
  (try dsimp only); (repeat' split) <;>
    (first | assumption | (simp +contextual [*, foldl_wf, memfoldl_wf]; done)
           | ((try dsimp only); (repeat' split) <;> (first | assumption | (simp +contextual [*, foldl_wf, memfoldl_wf]; done))))

theorem execPourPatch_wf (core : Core) (rd rs1 rs2 : Fin 32) (tick : Nat) {s t : State} (h : execPourPatch core rd rs1 rs2 tick s = .next t)
    (hw : s.chip.mem.wf = true) : t.chip.mem.wf = true := by
  refine act_wf h hw fun c hc => ?_
  refine S8.onCore_wf _ _ _ ?_ hc
  intro d hd
  dsimp only
  split <;> first | assumption | simp [*]

theorem execAccRd_wf (core : Core) (rs1 rs2 : Fin 32) {s t : State} (h : execAccRd core rs1 rs2 s = .next t)
    (hw : s.chip.mem.wf = true) : t.chip.mem.wf = true := by
  refine act_wf h hw fun c hc => ?_
  simp +contextual [foldl_wf, memfoldl_wf, *]

theorem execAccWr_wf (core : Core) (rd rs1 rs2 : Fin 32) {s t : State} (h : execAccWr core rd rs1 rs2 s = .next t)
    (hw : s.chip.mem.wf = true) : t.chip.mem.wf = true := by
  refine act_wf h hw fun c hc => ?_
  refine S8.onCore_wf _ _ _ ?_ hc
  intro d hd
  have h1 := foldl_wf (d.cores.accRows core rs2.val) (fun (e : S8) a => e.meetWords a 512 []) d
    (fun a e ha => S8.meetWords_wf _ _ _ _ ha) hd
  dsimp only
  generalize (d.cores.accRows core rs2.val).foldl (fun (e : S8) a => e.meetWords a 512 []) d = e at *
  split
  · exact hd
  · split
    · exact hd
    · exact h1

theorem execTaskEnd_wf (core : Core) (rs1 : Fin 32) (tick : Nat) {s t : State} (h : execTaskEnd core rs1 tick s = .next t)
    (hw : s.chip.mem.wf = true) : t.chip.mem.wf = true := by
  refine act_wf h hw fun c hc => ?_
  refine S8.onCore_wf _ _ _ ?_ hc
  intro d hd
  dsimp only
  repeat' split <;> first | assumption | simp [*]

theorem execStepWait_wf (core : Core) (rd : Fin 32) {s t : State} (h : execStepWait core rd s = .next t)
    (hw : s.chip.mem.wf = true) : t.chip.mem.wf = true := by
  exact act_wf h hw fun c hc => by simp [hc]

theorem execVencN8_wf (core : Core) (vd vs1 : Fin 32) {s t : State} (h : execVencN8 core vd vs1 s = .next t)
    (hw : s.chip.mem.wf = true) : t.chip.mem.wf = true := by
  refine act_wf h hw fun c hc => ?_
  simp +contextual [foldl_wf, memfoldl_wf, *]

theorem execVrndN8_wf (core : Core) (vd vs1 : Fin 32) {s t : State} (h : execVrndN8 core vd vs1 s = .next t)
    (hw : s.chip.mem.wf = true) : t.chip.mem.wf = true := by
  refine act_wf h hw fun c hc => ?_
  ((try dsimp only); (repeat' split) <;> (first | assumption | (simp +contextual [*, foldl_wf, memfoldl_wf]; done)))

theorem execVrndW16_wf (core : Core) (vd vs1 : Fin 32) {s t : State} (h : execVrndW16 core vd vs1 s = .next t)
    (hw : s.chip.mem.wf = true) : t.chip.mem.wf = true := by
  refine act_wf h hw fun c hc => ?_
  ((try dsimp only); (repeat' split) <;> (first | assumption | (simp +contextual [*, foldl_wf, memfoldl_wf]; done)))

theorem execValign_wf (core : Core) (vd vs1 rs2 : Fin 32) {s t : State} (h : execValign core vd vs1 rs2 s = .next t)
    (hw : s.chip.mem.wf = true) : t.chip.mem.wf = true := by
  exact act_wf h hw fun c hc => by simp [hc]

theorem execIllegalCustom_wf (core : Core) (machineMode : Bool) (word : BitVec 32) {s t : State} (h : execIllegalCustom core machineMode word s = .next t)
    (hw : s.chip.mem.wf = true) : t.chip.mem.wf = true := by
  refine act_wf h hw fun c hc => ?_
  ((try dsimp only); (repeat' split) <;> (first | assumption | (simp +contextual [*, foldl_wf, memfoldl_wf]; done)))

theorem execCoreMoveRequest_wf (die : Die) (w : ObjWrite) {s t : State} (h : execCoreMoveRequest die w s = .next t)
    (hw : s.chip.mem.wf = true) : t.chip.mem.wf = true := by
  exact act_wf h hw fun c hc => by simp [hc]

theorem execTaskBuildPourVectors_wf (task : Nat) (lane : Lane) {s t : State} (h : execTaskBuildPourVectors task lane s = .next t)
    (hw : s.chip.mem.wf = true) : t.chip.mem.wf = true := by
  exact act_wf h hw fun c hc => by simp [hc]

theorem execTaskRound_wf (task : Nat) (lane : Lane) {s t : State} (h : execTaskRound task lane s = .next t)
    (hw : s.chip.mem.wf = true) : t.chip.mem.wf = true := by
  exact act_wf h hw fun c hc => by simp [hc]

theorem execTaskNormActivation_wf (task : Nat) (lane : Lane) {s t : State} (h : execTaskNormActivation task lane s = .next t)
    (hw : s.chip.mem.wf = true) : t.chip.mem.wf = true := by
  refine act_wf h hw fun c hc => ?_
  refine S8.onTask_wf _ _ _ _ _ (fun sh u => ?_) hc
  exact S8.reading_wf _ _ _ _ _ (fun input => S8.routineLane_wf _ _ _ _ _ _ hc) hc

theorem execTaskAttentionCombine_wf (layer : Nat) (lane : Lane) (node : Fin 15) {s t : State} (h : execTaskAttentionCombine layer lane node s = .next t)
    (hw : s.chip.mem.wf = true) : t.chip.mem.wf = true := by
  refine act_wf h hw fun c hc => ?_
  ((try dsimp only); (repeat' split) <;> (first | assumption | (simp +contextual [*, foldl_wf, memfoldl_wf]; done)))

theorem execTaskSample_wf (task : Nat) (lane : Lane) {s t : State} (h : execTaskSample task lane s = .next t)
    (hw : s.chip.mem.wf = true) : t.chip.mem.wf = true := by
  exact act_wf h hw fun c hc => by simp [hc]

theorem execTaskRoute_wf (group : Nat) {s t : State} (h : execTaskRoute group s = .next t)
    (hw : s.chip.mem.wf = true) : t.chip.mem.wf = true := by
  exact act_wf h hw fun c hc => by simp [hc]

theorem execTaskEmbed_wf (task : Nat) (lane : Lane) {s t : State} (h : execTaskEmbed task lane s = .next t)
    (hw : s.chip.mem.wf = true) : t.chip.mem.wf = true := by
  refine act_wf h hw fun c hc => ?_
  ((try dsimp only); (repeat' split) <;> (first | assumption | (simp +contextual [*, foldl_wf, memfoldl_wf]; done)))

theorem execTaskRipening_wf (job : Fin 4) (task : Nat) (lane : Lane) {s t : State} (h : execTaskRipening job task lane s = .next t)
    (hw : s.chip.mem.wf = true) : t.chip.mem.wf = true := by
  refine act_wf h hw fun c hc => ?_
  ((try dsimp only); (repeat' split) <;> (first | assumption | (simp +contextual [*, foldl_wf, memfoldl_wf]; done)))

theorem execTaskTrierCheck_wf (die : Die) (half : Half) (record : Fin 64) (core : Core) (error : List Int) {s t : State} (h : execTaskTrierCheck die half record core error s = .next t)
    (hw : s.chip.mem.wf = true) : t.chip.mem.wf = true := by
  exact act_wf h hw fun c hc => by simp [hc]

theorem execTaskTransferStaging_wf (task : Nat) (lane : Lane) {s t : State} (h : execTaskTransferStaging task lane s = .next t)
    (hw : s.chip.mem.wf = true) : t.chip.mem.wf = true := by
  exact act_wf h hw fun c hc => by simp [hc]

theorem execTaskFirmware_wf (die : Die) (half : Half) {s t : State} (h : execTaskFirmware die half s = .next t)
    (hw : s.chip.mem.wf = true) : t.chip.mem.wf = true := by
  refine act_wf h hw fun c hc => ?_
  dsimp only
  split <;> first | assumption | simp [*]

theorem execBulkFlitRx_wf (f : Flit) {s t : State} (h : execBulkFlitRx f s = .next t)
    (hw : s.chip.mem.wf = true) : t.chip.mem.wf = true := by
  refine act_wf h hw fun c hc => ?_
  simp +contextual [foldl_wf, memfoldl_wf, *]

theorem execCreditFlitRx_wf (f : Flit) {s t : State} (h : execCreditFlitRx f s = .next t)
    (hw : s.chip.mem.wf = true) : t.chip.mem.wf = true := by
  refine act_wf h hw fun c hc => ?_
  refine S8.receiveControl_wf _ _ _ _ ?_ hc
  intro d v hd
  simp [hd]

theorem execNakRx_wf (f : Flit) {s t : State} (h : execNakRx f s = .next t)
    (hw : s.chip.mem.wf = true) : t.chip.mem.wf = true := by
  refine act_wf h hw fun c hc => ?_
  refine S8.receiveControl_wf _ _ _ _ ?_ hc
  intro d v hd
  (try dsimp only); (repeat' split) <;>
    (first | assumption | (simp +contextual [*, foldl_wf, memfoldl_wf]; done)
           | ((try dsimp only); (repeat' split) <;> (first | assumption | (simp +contextual [*, foldl_wf, memfoldl_wf]; done))))

theorem execLaneNoticeRx_wf (f : Flit) {s t : State} (h : execLaneNoticeRx f s = .next t)
    (hw : s.chip.mem.wf = true) : t.chip.mem.wf = true := by
  refine act_wf h hw fun c hc => ?_
  refine S8.receiveControl_wf _ _ _ _ ?_ hc
  intro d v hd
  (try dsimp only); (repeat' split) <;>
    (first | assumption | (simp +contextual [*, foldl_wf, memfoldl_wf]; done)
           | ((try dsimp only); (repeat' split) <;> (first | assumption | (simp +contextual [*, foldl_wf, memfoldl_wf]; done))))

theorem execReductionTokenRx_wf (f : Flit) {s t : State} (h : execReductionTokenRx f s = .next t)
    (hw : s.chip.mem.wf = true) : t.chip.mem.wf = true := by
  refine act_wf h hw fun c hc => ?_
  refine S8.receiveControl_wf _ _ _ _ ?_ hc
  intro d v hd
  dsimp only
  split <;> first | assumption | simp [*]

theorem execReductionTokenTimeout_wf (lane : LinkLane) (transfer : Nat) {s t : State} (h : execReductionTokenTimeout lane transfer s = .next t)
    (hw : s.chip.mem.wf = true) : t.chip.mem.wf = true := by
  refine act_wf h hw fun c hc => ?_
  ((try dsimp only); (repeat' split) <;> (first | assumption | (simp +contextual [*, foldl_wf, memfoldl_wf]; done)))

theorem execTickExchange_wf (tick16 : Nat) {s t : State} (h : execTickExchange tick16 s = .next t)
    (hw : s.chip.mem.wf = true) : t.chip.mem.wf = true := by
  exact act_wf h hw fun c hc => hc

theorem execTickFlitRx_wf (f : Flit) (arrival16 : Nat) {s t : State} (h : execTickFlitRx f arrival16 s = .next t)
    (hw : s.chip.mem.wf = true) : t.chip.mem.wf = true := by
  refine act_wf h hw fun c hc => ?_
  refine S8.receiveControl_wf _ _ _ _ (fun d v hd => ?_) hc
  extract_lets n p d1
  split
  · exact S8.steer_wf _ _ _ _ _ _ hd
  · exact hd

theorem execLaneTraining_wf (lane : LinkLane) (peerModule : PeerReport) (peerDie : Die) (peerLane : Fin 9) (latency16 : Nat) {s t : State} (h : execLaneTraining lane peerModule peerDie peerLane latency16 s = .next t)
    (hw : s.chip.mem.wf = true) : t.chip.mem.wf = true := by
  exact act_wf h hw fun c hc => hc

theorem execLaneSignalLoss_wf (lane : LinkLane) {s t : State} (h : execLaneSignalLoss lane s = .next t)
    (hw : s.chip.mem.wf = true) : t.chip.mem.wf = true := by
  exact act_wf h hw fun c hc => by simp [hc]

theorem execLaneFail_wf (lane : LinkLane) {s t : State} (h : execLaneFail lane s = .next t)
    (hw : s.chip.mem.wf = true) : t.chip.mem.wf = true := by
  exact act_wf h hw fun c hc => by simp [hc]

theorem execBridgeWireFail_wf (bridge : Fin 10) {s t : State} (h : execBridgeWireFail bridge s = .next t)
    (hw : s.chip.mem.wf = true) : t.chip.mem.wf = true := by
  refine act_wf h hw fun c hc => ?_
  ((try dsimp only); (repeat' split) <;> (first | assumption | (simp +contextual [*, foldl_wf, memfoldl_wf]; done)))

theorem execAttentionWalk_wf (engine : EngineId) (layer : Nat) (lane : Lane) (upset : Upsets) {s t : State} (h : execAttentionWalk engine layer lane upset s = .next t)
    (hw : s.chip.mem.wf = true) : t.chip.mem.wf = true := by
  exact act_wf h hw fun c hc => by simp [hc]

theorem execAdmitRequest_wf (f : Frame) {s t : State} (h : execAdmitRequest f s = .next t)
    (hw : s.chip.mem.wf = true) : t.chip.mem.wf = true := by
  refine act_wf h hw fun c hc => ?_
  simp +contextual [foldl_wf, memfoldl_wf, *]

theorem execCancel_wf (f : Frame) {s t : State} (h : execCancel f s = .next t)
    (hw : s.chip.mem.wf = true) : t.chip.mem.wf = true := by
  refine act_wf h hw fun c hc => ?_
  simp +contextual [foldl_wf, memfoldl_wf, *]

theorem execPause_wf (f : Frame) {s t : State} (h : execPause f s = .next t)
    (hw : s.chip.mem.wf = true) : t.chip.mem.wf = true := by
  refine act_wf h hw fun c hc => ?_
  simp +contextual [foldl_wf, memfoldl_wf, *]

theorem execResume_wf (f : Frame) {s t : State} (h : execResume f s = .next t)
    (hw : s.chip.mem.wf = true) : t.chip.mem.wf = true := by
  refine act_wf h hw fun c hc => ?_
  simp +contextual [foldl_wf, memfoldl_wf, *]

theorem execIdleFrame_wf (f : Frame) {s t : State} (h : execIdleFrame f s = .next t)
    (hw : s.chip.mem.wf = true) : t.chip.mem.wf = true := by
  exact act_wf h hw fun c hc => by simp [hc]

theorem execControlCycleBoundary_wf {s t : State} (h : execControlCycleBoundary s = .next t)
    (hw : s.chip.mem.wf = true) : t.chip.mem.wf = true := by
  exact act_wf h hw fun c hc => by simp [hc]

theorem execOwnerRelease_wf (w : ObjWrite) {s t : State} (h : execOwnerRelease w s = .next t)
    (hw : s.chip.mem.wf = true) : t.chip.mem.wf = true := by
  exact act_wf h hw fun c hc => by simp [hc]

theorem execBulkPromptTokens_wf (f : Frame) {s t : State} (h : execBulkPromptTokens f s = .next t)
    (hw : s.chip.mem.wf = true) : t.chip.mem.wf = true := by
  refine act_wf h hw fun c hc => ?_
  refine S8.receiveBulk_wf _ _ _ _ ?_ hc
  intro d v hd
  dsimp only
  repeat' split <;> first | assumption | simp [*]

theorem execBulkMakeSheet_wf (f : Frame) {s t : State} (h : execBulkMakeSheet f s = .next t)
    (hw : s.chip.mem.wf = true) : t.chip.mem.wf = true := by
  refine act_wf h hw fun c hc => ?_
  refine S8.receiveBulk_wf _ _ _ _ ?_ hc
  intro d v hd
  dsimp only
  split <;> first | assumption | simp [*]

theorem execBulkWeightShard_wf (f : Frame) {s t : State} (h : execBulkWeightShard f s = .next t)
    (hw : s.chip.mem.wf = true) : t.chip.mem.wf = true := by
  refine act_wf h hw fun c hc => ?_
  refine S8.receiveBulk_wf _ _ _ _ ?_ hc
  intro d v hd
  dsimp only
  repeat' split <;> first | assumption | simp [*]

theorem execBulkTestPack_wf (f : Frame) {s t : State} (h : execBulkTestPack f s = .next t)
    (hw : s.chip.mem.wf = true) : t.chip.mem.wf = true := by
  refine act_wf h hw fun c hc => ?_
  refine S8.receiveBulk_wf _ _ _ _ ?_ hc
  intro d v hd
  (try dsimp only); (repeat' split) <;>
    (first | assumption | (simp +contextual [*, foldl_wf, memfoldl_wf]; done)
           | ((try dsimp only); (repeat' split) <;> (first | assumption | (simp +contextual [*, foldl_wf, memfoldl_wf]; done))))

theorem execBulkCulture_wf (f : Frame) {s t : State} (h : execBulkCulture f s = .next t)
    (hw : s.chip.mem.wf = true) : t.chip.mem.wf = true := by
  refine act_wf h hw fun c hc => ?_
  refine S8.receiveBulk_wf _ _ _ _ ?_ hc
  intro d v hd
  (try dsimp only); (repeat' split) <;>
    (first | assumption | (simp +contextual [*, foldl_wf, memfoldl_wf]; done)
           | ((try dsimp only); (repeat' split) <;> (first | assumption | (simp +contextual [*, foldl_wf, memfoldl_wf]; done))))

theorem execBulkFirmware_wf (f : Frame) {s t : State} (h : execBulkFirmware f s = .next t)
    (hw : s.chip.mem.wf = true) : t.chip.mem.wf = true := by
  refine act_wf h hw fun c hc => ?_
  refine S8.receiveBulk_wf _ _ _ _ (fun d v hd => ?_) hc
  extract_lets count c1
  split
  · exact S8.frameLost_wf _ hd
  · split
    · exact S8.finishFirmware_wf _ hd
    · exact hd

theorem execPauseImageWritten_wf (slot : SeqSlot) {s t : State} (h : execPauseImageWritten slot s = .next t)
    (hw : s.chip.mem.wf = true) : t.chip.mem.wf = true := by
  refine act_wf h hw fun c hc => ?_
  split
  · exact hc
  · split
    · exact hc
    · split
      · exact hc
      · extract_lets c1 digest
        have h1 : c1.mem.wf = true := S8.storeImage_wf _ _ _ _ hc
        clear_value c1 digest
        split
        · exact hc
        · split
          · exact h1
          · exact S8.setSequence_wf _ _ _ h1

theorem execRestoreComplete_wf (slot : SeqSlot) (read : ReadResult) {s t : State} (h : execRestoreComplete slot read s = .next t)
    (hw : s.chip.mem.wf = true) : t.chip.mem.wf = true := by
  refine act_wf h hw fun c hc => ?_
  ((try dsimp only); (repeat' split) <;> (first | assumption | (simp +contextual [*, foldl_wf, memfoldl_wf]; done)))

theorem execCellarPageRead_wf (stripe : Nat) (die : Die) (corrected uncorrectable retries : Nat) {s t : State} (h : execCellarPageRead stripe die corrected uncorrectable retries s = .next t)
    (hw : s.chip.mem.wf = true) : t.chip.mem.wf = true := by
  refine act_wf h hw fun c hc => ?_
  ((try dsimp only); (repeat' split) <;> (first | assumption | (simp +contextual [*, foldl_wf, memfoldl_wf]; done)))

theorem execScrubPass_wf (stripe : Nat) (retries corrected : Nat) (read : ReadResult) {s t : State} (h : execScrubPass stripe retries corrected read s = .next t)
    (hw : s.chip.mem.wf = true) : t.chip.mem.wf = true := by
  refine act_wf h hw fun c hc => ?_
  extract_lets c1 dies
  have h1 : c1.mem.wf = true := S8.raise_wf _ _ _ _ _ _ hc
  split
  · split
    · exact h1
    · exact S8.pageFailed_wf _ _ _ (S8.picked_wf _ h1)
  · split
    · exact S8.rewriteStripe_wf _ _ h1
    · exact h1

theorem execCellarRebuild_wf (stripe : Nat) {s t : State} (h : execCellarRebuild stripe s = .next t)
    (hw : s.chip.mem.wf = true) : t.chip.mem.wf = true := by
  refine act_wf h hw fun c hc => ?_
  dsimp only
  split <;> first | assumption | simp [*]

theorem execCellarSecond_wf {s t : State} (h : execCellarSecond s = .next t)
    (hw : s.chip.mem.wf = true) : t.chip.mem.wf = true := by
  refine act_wf h hw fun c hc => ?_
  ((try dsimp only); (repeat' split) <;> (first | assumption | (simp +contextual [*, foldl_wf, memfoldl_wf]; done)))

theorem execPauseKeyExtend_wf (w : ObjWrite) {s t : State} (h : execPauseKeyExtend w s = .next t)
    (hw : s.chip.mem.wf = true) : t.chip.mem.wf = true := by
  exact act_wf h hw fun c hc => by simp [hc]

theorem execWheelLoadRequest_wf (w : ObjWrite) {s t : State} (h : execWheelLoadRequest w s = .next t)
    (hw : s.chip.mem.wf = true) : t.chip.mem.wf = true := by
  exact act_wf h hw fun c hc => by simp [hc]

theorem execShardReceived_wf (shard : Nat) {s t : State} (h : execShardReceived shard s = .next t)
    (hw : s.chip.mem.wf = true) : t.chip.mem.wf = true := by
  refine act_wf h hw fun c hc => ?_
  ((try dsimp only); (repeat' split) <;> (first | assumption | (simp +contextual [*, foldl_wf, memfoldl_wf]; done)))

theorem execShardTimeout_wf (shard : Nat) {s t : State} (h : execShardTimeout shard s = .next t)
    (hw : s.chip.mem.wf = true) : t.chip.mem.wf = true := by
  refine act_wf h hw fun c hc => ?_
  ((try dsimp only); (repeat' split) <;> (first | assumption | (simp +contextual [*, foldl_wf, memfoldl_wf]; done)))

theorem execShardRetryWait_wf (shard : Nat) {s t : State} (h : execShardRetryWait shard s = .next t)
    (hw : s.chip.mem.wf = true) : t.chip.mem.wf = true := by
  refine act_wf h hw fun c hc => ?_
  ((try dsimp only); (repeat' split) <;> (first | assumption | (simp +contextual [*, foldl_wf, memfoldl_wf]; done)))

theorem execShardDataFlit_wf (f : Flit) {s t : State} (h : execShardDataFlit f s = .next t)
    (hw : s.chip.mem.wf = true) : t.chip.mem.wf = true := by
  refine act_wf h hw fun c hc => ?_
  refine S8.receiveShardFlit_wf _ _ _ _ ?_ hc
  intro d n p hd
  (try dsimp only); (repeat' split) <;>
    (first | assumption | (simp +contextual [*, foldl_wf, memfoldl_wf]; done)
           | ((try dsimp only); (repeat' split) <;> (first | assumption | (simp +contextual [*, foldl_wf, memfoldl_wf]; done))))

theorem execShardRequestFlit_wf (f : Flit) {s t : State} (h : execShardRequestFlit f s = .next t)
    (hw : s.chip.mem.wf = true) : t.chip.mem.wf = true := by
  refine act_wf h hw fun c hc => ?_
  refine S8.receiveShardFlit_wf _ _ _ _ ?_ hc
  intro d n p hd
  (try dsimp only); (repeat' split) <;>
    (first | assumption | (simp +contextual [*, foldl_wf, memfoldl_wf]; done)
           | ((try dsimp only); (repeat' split) <;> (first | assumption | (simp +contextual [*, foldl_wf, memfoldl_wf]; done))))

theorem execBlockReadVerified_wf (vat : Vat) {s t : State} (h : execBlockReadVerified vat s = .next t)
    (hw : s.chip.mem.wf = true) : t.chip.mem.wf = true := by
  refine act_wf h hw fun c hc => ?_
  ((try dsimp only); (repeat' split) <;> (first | assumption | (simp +contextual [*, foldl_wf, memfoldl_wf]; done)))

theorem execWheelUnload_wf (w : ObjWrite) {s t : State} (h : execWheelUnload w s = .next t)
    (hw : s.chip.mem.wf = true) : t.chip.mem.wf = true := by
  exact act_wf h hw fun c hc => by simp [hc]

theorem execWheelDrainStep_wf (w : ObjWrite) {s t : State} (h : execWheelDrainStep w s = .next t)
    (hw : s.chip.mem.wf = true) : t.chip.mem.wf = true := by
  refine actOr_wf h hw fun c d hc hd => ?_
  exact S8.performWriteOr_wf hd (fun v => storeEffect_wf _ _ _ hc) hc

theorem execCultureLoadRequest_wf (w : ObjWrite) {s t : State} (h : execCultureLoadRequest w s = .next t)
    (hw : s.chip.mem.wf = true) : t.chip.mem.wf = true := by
  exact act_wf h hw fun c hc => by simp [hc]

theorem execCultureWriteComplete_wf (place : Fin 512) (verified : Bool) {s t : State} (h : execCultureWriteComplete place verified s = .next t)
    (hw : s.chip.mem.wf = true) : t.chip.mem.wf = true := by
  refine act_wf h hw fun c hc => ?_
  ((try dsimp only); (repeat' split) <;> (first | assumption | (simp +contextual [*, foldl_wf, memfoldl_wf]; done)))

theorem execCultureUnload_wf (w : ObjWrite) {s t : State} (h : execCultureUnload w s = .next t)
    (hw : s.chip.mem.wf = true) : t.chip.mem.wf = true := by
  exact act_wf h hw fun c hc => by simp [hc]

theorem execRipenJobRequest_wf (w : ObjWrite) {s t : State} (h : execRipenJobRequest w s = .next t)
    (hw : s.chip.mem.wf = true) : t.chip.mem.wf = true := by
  exact act_wf h hw fun c hc => by simp [hc]

theorem execRipenJobStop_wf (w : ObjWrite) {s t : State} (h : execRipenJobStop w s = .next t)
    (hw : s.chip.mem.wf = true) : t.chip.mem.wf = true := by
  exact act_wf h hw fun c hc => by simp [hc]

theorem execRipenPublishStep_wf (w : ObjWrite) {s t : State} (h : execRipenPublishStep w s = .next t)
    (hw : s.chip.mem.wf = true) : t.chip.mem.wf = true := by
  refine actOr_wf h hw fun c d hc hd => ?_
  exact S8.performWriteOr_wf hd (fun v => ripenPublishEffect_wf _ _ hc) hc

theorem execRipenUpdate_wf (job : Fin 4) {s t : State} (h : execRipenUpdate job s = .next t)
    (hw : s.chip.mem.wf = true) : t.chip.mem.wf = true := by
  exact act_wf h hw fun c hc => by simp [hc]

theorem execRipenPartReady_wf (job : Fin 4) {s t : State} (h : execRipenPartReady job s = .next t)
    (hw : s.chip.mem.wf = true) : t.chip.mem.wf = true := by
  refine act_wf h hw fun c hc => ?_
  ((try dsimp only); (repeat' split) <;> (first | assumption | (simp +contextual [*, foldl_wf, memfoldl_wf]; done)))

theorem execTrierSample_wf (unit : RindUnit) {s t : State} (h : execTrierSample unit s = .next t)
    (hw : s.chip.mem.wf = true) : t.chip.mem.wf = true := by
  exact act_wf h hw fun c hc => by simp [hc]

theorem execTrierVerdictTimeout_wf (die : Die) (half : Half) (record : Fin 64) {s t : State} (h : execTrierVerdictTimeout die half record s = .next t)
    (hw : s.chip.mem.wf = true) : t.chip.mem.wf = true := by
  refine act_wf h hw fun c hc => ?_
  dsimp only
  split
  · exact hc
  · split
    · exact S8.abandonRecord_wf _ _ _ hc
    · exact hc

theorem execReplicaDigestCheck_wf {s t : State} (h : execReplicaDigestCheck s = .next t)
    (hw : s.chip.mem.wf = true) : t.chip.mem.wf = true := by
  refine act_wf h hw fun c hc => ?_
  have h1 : (c.wheels.table.foldl (fun c u => c.digestWheel u) c).mem.wf = true :=
    foldl_wf _ _ _ (fun a u ha => S8.digestWheel_wf _ _ ha) hc
  exact foldl_wf _ _ _ (fun a k ha => S8.raise_wf _ _ _ _ _ _ (S8.makeCandidate_wf _ _ ha)) h1

theorem execCoreTestDue_wf (core : Core) {s t : State} (h : execCoreTestDue core s = .next t)
    (hw : s.chip.mem.wf = true) : t.chip.mem.wf = true := by
  exact act_wf h hw fun c hc => by simp [hc]

theorem execTestOverdue_wf (core : Core) {s t : State} (h : execTestOverdue core s = .next t)
    (hw : s.chip.mem.wf = true) : t.chip.mem.wf = true := by
  exact act_wf h hw fun c hc => by simp [hc]

theorem execCoreTestComplete_wf (core : Core) (passed : Bool) {s t : State} (h : execCoreTestComplete core passed s = .next t)
    (hw : s.chip.mem.wf = true) : t.chip.mem.wf = true := by
  exact act_wf h hw fun c hc => by simp [hc]

theorem execVatTest_wf (vat : Vat) (kernel : Nat) (codes : List (BitVec 10)) (recomputed : List Int) {s t : State} (h : execVatTest vat kernel codes recomputed s = .next t)
    (hw : s.chip.mem.wf = true) : t.chip.mem.wf = true := by
  exact act_wf h hw fun c hc => by simp [hc]

theorem execRouterTest_wf (die : Die) (half : Half) (position : Fin 40) (expected got : List Int) {s t : State} (h : execRouterTest die half position expected got s = .next t)
    (hw : s.chip.mem.wf = true) : t.chip.mem.wf = true := by
  refine act_wf h hw fun c hc => ?_
  dsimp only
  split <;> first | assumption | simp [*]

theorem execTestPackLoadRequest_wf (w : ObjWrite) {s t : State} (h : execTestPackLoadRequest w s = .next t)
    (hw : s.chip.mem.wf = true) : t.chip.mem.wf = true := by
  exact act_wf h hw fun c hc => by simp [hc]

theorem execSramScrub_wf (word : Nat) (found : Option WordErr) {s t : State} (h : execSramScrub word found s = .next t)
    (hw : s.chip.mem.wf = true) : t.chip.mem.wf = true := by
  refine act_wf h hw fun c hc => ?_
  ((try dsimp only); (repeat' split) <;> (first | assumption | (simp +contextual [*, foldl_wf, memfoldl_wf]; done)))

theorem execDramScrub_wf (word : Nat) (found : Option WordErr) {s t : State} (h : execDramScrub word found s = .next t)
    (hw : s.chip.mem.wf = true) : t.chip.mem.wf = true := by
  refine act_wf h hw fun c hc => ?_
  ((try dsimp only); (repeat' split) <;> (first | assumption | (simp +contextual [*, foldl_wf, memfoldl_wf]; done)))

theorem execCapLoop_wf (average : Nat) {s t : State} (h : execCapLoop average s = .next t)
    (hw : s.chip.mem.wf = true) : t.chip.mem.wf = true := by
  exact act_wf h hw fun c hc => hc

theorem execPowerMonitorCompare_wf (input : Nat) (rails : List Nat) {s t : State} (h : execPowerMonitorCompare input rails s = .next t)
    (hw : s.chip.mem.wf = true) : t.chip.mem.wf = true := by
  exact act_wf h hw fun c hc => hc

theorem execEstimateWindow_wf (measured : Nat) {s t : State} (h : execEstimateWindow measured s = .next t)
    (hw : s.chip.mem.wf = true) : t.chip.mem.wf = true := by
  refine act_wf h hw fun c hc => ?_
  split
  · exact hc
  · exact hc

theorem execDroopTrip_wf (die : Die) (half : Half) (period : Nat) {s t : State} (h : execDroopTrip die half period s = .next t)
    (hw : s.chip.mem.wf = true) : t.chip.mem.wf = true := by
  exact act_wf h hw fun c hc => hc

theorem execDroopRecover_wf (die : Die) (half : Half) {s t : State} (h : execDroopRecover die half s = .next t)
    (hw : s.chip.mem.wf = true) : t.chip.mem.wf = true := by
  exact act_wf h hw fun c hc => hc

theorem execDroopFault_wf (die : Die) (half : Half) {s t : State} (h : execDroopFault die half s = .next t)
    (hw : s.chip.mem.wf = true) : t.chip.mem.wf = true := by
  exact act_wf h hw fun c hc => hc

theorem execThermalSample_wf (die : Die) (half : Half) (readings : List Int) {s t : State} (h : execThermalSample die half readings s = .next t)
    (hw : s.chip.mem.wf = true) : t.chip.mem.wf = true := by
  exact act_wf h hw fun c hc => hc

theorem execThermalModel_wf (die : Die) (half : Half) (sensor : Fin 8) (predicted : Int) {s t : State} (h : execThermalModel die half sensor predicted s = .next t)
    (hw : s.chip.mem.wf = true) : t.chip.mem.wf = true := by
  exact act_wf h hw fun c hc => hc

theorem execSensorOverride_wf (w : ObjWrite) {s t : State} (h : execSensorOverride w s = .next t)
    (hw : s.chip.mem.wf = true) : t.chip.mem.wf = true := by
  exact act_wf h hw fun c hc => by simp [hc]

theorem execDieTrip_wf (die : Die) {s t : State} (h : execDieTrip die s = .next t)
    (hw : s.chip.mem.wf = true) : t.chip.mem.wf = true := by
  refine act_wf h hw fun c hc => ?_
  dsimp only
  split <;> first | assumption | simp [*]

theorem execDiePowerCycle_wf (w : ObjWrite) {s t : State} (h : execDiePowerCycle w s = .next t)
    (hw : s.chip.mem.wf = true) : t.chip.mem.wf = true := by
  exact act_wf h hw fun c hc => by simp [hc]

theorem execDiePowerRestore_wf (die : Die) {s t : State} (h : execDiePowerRestore die s = .next t)
    (hw : s.chip.mem.wf = true) : t.chip.mem.wf = true := by
  refine act_wf h hw fun c hc => ?_
  dsimp only
  split <;> first | assumption | simp [*]

theorem execEnergySave_wf {s t : State} (h : execEnergySave s = .next t)
    (hw : s.chip.mem.wf = true) : t.chip.mem.wf = true := by
  exact act_wf h hw fun c hc => hc

theorem execInletHigh_wf (temp : Int) {s t : State} (h : execInletHigh temp s = .next t)
    (hw : s.chip.mem.wf = true) : t.chip.mem.wf = true := by
  exact act_wf h hw fun c hc => hc

theorem execInletNormal_wf (temp : Int) {s t : State} (h : execInletNormal temp s = .next t)
    (hw : s.chip.mem.wf = true) : t.chip.mem.wf = true := by
  exact act_wf h hw fun c hc => hc

theorem execClockMonitorWindow_wf (die : Die) (count : Nat) {s t : State} (h : execClockMonitorWindow die count s = .next t)
    (hw : s.chip.mem.wf = true) : t.chip.mem.wf = true := by
  exact act_wf h hw fun c hc => by simp [hc]

theorem execMissingEdge_wf (die : Die) {s t : State} (h : execMissingEdge die s = .next t)
    (hw : s.chip.mem.wf = true) : t.chip.mem.wf = true := by
  exact act_wf h hw fun c hc => hc

theorem execOscDiscipline_wf (die : Die) (deviation : Int) {s t : State} (h : execOscDiscipline die deviation s = .next t)
    (hw : s.chip.mem.wf = true) : t.chip.mem.wf = true := by
  exact act_wf h hw fun c hc => hc

theorem execHoldoverSteer_wf (die : Die) {s t : State} (h : execHoldoverSteer die s = .next t)
    (hw : s.chip.mem.wf = true) : t.chip.mem.wf = true := by
  refine act_wf h hw fun c hc => ?_
  ((try dsimp only); (repeat' split) <;> (first | assumption | (simp +contextual [*, foldl_wf, memfoldl_wf]; done)))

theorem execHalfClockControl_wf (w : ObjWrite) {s t : State} (h : execHalfClockControl w s = .next t)
    (hw : s.chip.mem.wf = true) : t.chip.mem.wf = true := by
  refine actOr_wf h hw fun c d hc hd => ?_
  exact S8.performWriteOr_wf hd (fun v => halfClockEffect_wf _ _ hc) hc

theorem execHalfPllLocked_wf (die : Die) (half : Half) {s t : State} (h : execHalfPllLocked die half s = .next t)
    (hw : s.chip.mem.wf = true) : t.chip.mem.wf = true := by
  refine act_wf h hw fun c hc => ?_
  dsimp only
  split <;> first | assumption | simp [*]

theorem execCrossingTimeout_wf (x : Crossing) {s t : State} (h : execCrossingTimeout x s = .next t)
    (hw : s.chip.mem.wf = true) : t.chip.mem.wf = true := by
  refine act_wf h hw fun c hc => ?_
  ((try dsimp only); (repeat' split) <;> (first | assumption | (simp +contextual [*, foldl_wf, memfoldl_wf]; done)))

theorem execHalfService_wf (w : ObjWrite) {s t : State} (h : execHalfService w s = .next t)
    (hw : s.chip.mem.wf = true) : t.chip.mem.wf = true := by
  exact act_wf h hw fun c hc => by simp [hc]

theorem execDictRead_wf (f : Frame) {s t : State} (h : execDictRead f s = .next t)
    (hw : s.chip.mem.wf = true) : t.chip.mem.wf = true := by
  refine act_wf h hw fun c hc => ?_
  simp +contextual [foldl_wf, memfoldl_wf, *]

theorem execDictWrite_wf (f : Frame) {s t : State} (h : execDictWrite f s = .next t)
    (hw : s.chip.mem.wf = true) : t.chip.mem.wf = true := by
  refine actOr_wf h hw fun c d hc hd => ?_

  split at hd
  · cases hd
  · cases hd
    exact S8.receive_wf _ _ _ _ (fun c v hc => S8.writeFrame_wf _ _ _ hc) hc

theorem execSegmentedWriteOpen_wf (f : Frame) {s t : State} (h : execSegmentedWriteOpen f s = .next t)
    (hw : s.chip.mem.wf = true) : t.chip.mem.wf = true := by
  refine act_wf h hw fun c hc => ?_
  refine S8.receive_wf _ _ _ _ ?_ hc
  intro d v hd
  (try dsimp only); (repeat' split) <;>
    (first | assumption | (simp +contextual [*, foldl_wf, memfoldl_wf]; done)
           | ((try dsimp only); (repeat' split) <;> (first | assumption | (simp +contextual [*, foldl_wf, memfoldl_wf]; done))))

theorem execTransferAbort_wf (f : Frame) {s t : State} (h : execTransferAbort f s = .next t)
    (hw : s.chip.mem.wf = true) : t.chip.mem.wf = true := by
  refine act_wf h hw fun c hc => ?_
  refine S8.receive_wf _ _ _ _ ?_ hc
  intro d v hd
  (try dsimp only); (repeat' split) <;>
    (first | assumption | (simp +contextual [*, foldl_wf, memfoldl_wf]; done)
           | ((try dsimp only); (repeat' split) <;> (first | assumption | (simp +contextual [*, foldl_wf, memfoldl_wf]; done))))

theorem execSegmentData_wf (f : Frame) {s t : State} (h : execSegmentData f s = .next t)
    (hw : s.chip.mem.wf = true) : t.chip.mem.wf = true := by
  refine act_wf h hw fun c hc => ?_
  refine S8.receive_wf _ _ _ _ ?_ hc
  intro d v hd
  (try dsimp only); (repeat' split) <;>
    (first | assumption | (simp +contextual [*, foldl_wf, memfoldl_wf]; done)
           | ((try dsimp only); (repeat' split) <;> (first | assumption | (simp +contextual [*, foldl_wf, memfoldl_wf]; done))))

theorem execSegmentAbort_wf (f : Frame) {s t : State} (h : execSegmentAbort f s = .next t)
    (hw : s.chip.mem.wf = true) : t.chip.mem.wf = true := by
  refine act_wf h hw fun c hc => ?_
  refine S8.receive_wf _ _ _ _ ?_ hc
  intro d v hd
  (try dsimp only); (repeat' split) <;>
    (first | assumption | (simp +contextual [*, foldl_wf, memfoldl_wf]; done)
           | ((try dsimp only); (repeat' split) <;> (first | assumption | (simp +contextual [*, foldl_wf, memfoldl_wf]; done))))

theorem execSegmentResend_wf (f : Frame) {s t : State} (h : execSegmentResend f s = .next t)
    (hw : s.chip.mem.wf = true) : t.chip.mem.wf = true := by
  refine act_wf h hw fun c hc => ?_
  refine S8.receive_wf _ _ _ _ ?_ hc
  intro d v hd
  (try dsimp only); (repeat' split) <;>
    (first | assumption | (simp +contextual [*, foldl_wf, memfoldl_wf]; done)
           | ((try dsimp only); (repeat' split) <;> (first | assumption | (simp +contextual [*, foldl_wf, memfoldl_wf]; done))))

theorem execSegmentedReadClose_wf (port : Port) (id : BitVec 16) {s t : State} (h : execSegmentedReadClose port id s = .next t)
    (hw : s.chip.mem.wf = true) : t.chip.mem.wf = true := by
  refine act_wf h hw fun c hc => ?_
  ((try dsimp only); (repeat' split) <;> (first | assumption | (simp +contextual [*, foldl_wf, memfoldl_wf]; done)))

theorem execSegmentedWriteTimeout_wf (port : Port) (id : BitVec 16) {s t : State} (h : execSegmentedWriteTimeout port id s = .next t)
    (hw : s.chip.mem.wf = true) : t.chip.mem.wf = true := by
  refine act_wf h hw fun c hc => ?_
  ((try dsimp only); (repeat' split) <;> (first | assumption | (simp +contextual [*, foldl_wf, memfoldl_wf]; done)))

theorem execEventClear_wf (w : ObjWrite) {s t : State} (h : execEventClear w s = .next t)
    (hw : s.chip.mem.wf = true) : t.chip.mem.wf = true := by
  exact act_wf h hw fun c hc => by simp [hc]

theorem execEventMask_wf (w : ObjWrite) {s t : State} (h : execEventMask w s = .next t)
    (hw : s.chip.mem.wf = true) : t.chip.mem.wf = true := by
  exact act_wf h hw fun c hc => by simp [hc]

theorem execConfigSave_wf (w : ObjWrite) {s t : State} (h : execConfigSave w s = .next t)
    (hw : s.chip.mem.wf = true) : t.chip.mem.wf = true := by
  exact act_wf h hw fun c hc => by simp [hc]

theorem execConfigRestoreDefaults_wf (w : ObjWrite) {s t : State} (h : execConfigRestoreDefaults w s = .next t)
    (hw : s.chip.mem.wf = true) : t.chip.mem.wf = true := by
  exact act_wf h hw fun c hc => by simp [hc]

theorem execPowerUp_wf (recordValid starterCore : List Bool) {s t : State} (h : execPowerUp recordValid starterCore s = .next t)
    (hw : s.chip.mem.wf = true) : t.chip.mem.wf = true := by
  refine act_wf h hw fun c hc => ?_
  ((try dsimp only); (repeat' split) <;> (first | assumption | (simp +contextual [*, foldl_wf, memfoldl_wf]; done)))

theorem execModReset_wf {s t : State} (h : execModReset s = .next t)
    (hw : s.chip.mem.wf = true) : t.chip.mem.wf = true := by
  exact act_wf h hw fun c hc => by simp [hc]

theorem execCarrierRailFault_wf {s t : State} (h : execCarrierRailFault s = .next t)
    (hw : s.chip.mem.wf = true) : t.chip.mem.wf = true := by
  exact act_wf h hw fun c hc => by simp [hc]

theorem execInputVoltageStop_wf {s t : State} (h : execInputVoltageStop s = .next t)
    (hw : s.chip.mem.wf = true) : t.chip.mem.wf = true := by
  exact act_wf h hw fun c hc => by simp [hc]

theorem execInputRecover_wf {s t : State} (h : execInputRecover s = .next t)
    (hw : s.chip.mem.wf = true) : t.chip.mem.wf = true := by
  exact act_wf h hw fun c hc => hc

theorem execBootAttempt_wf (die : Die) (read : ReadResult) {s t : State} (h : execBootAttempt die read s = .next t)
    (hw : s.chip.mem.wf = true) : t.chip.mem.wf = true := by
  refine act_wf h hw fun c hc => ?_
  ((try dsimp only); (repeat' split) <;> (first | assumption | (simp +contextual [*, foldl_wf, memfoldl_wf]; done)))

theorem execFirmwareLoadRequest_wf (w : ObjWrite) {s t : State} (h : execFirmwareLoadRequest w s = .next t)
    (hw : s.chip.mem.wf = true) : t.chip.mem.wf = true := by
  exact act_wf h hw fun c hc => by simp [hc]

theorem execCoordinatorChoice_wf {s t : State} (h : execCoordinatorChoice s = .next t)
    (hw : s.chip.mem.wf = true) : t.chip.mem.wf = true := by
  refine act_wf h hw fun c hc => ?_
  split
  · exact S8.fetchMore_wf _ (S8.rebuildContent_wf _ (S8.chooseCoordinator_wf _ hc))
  · exact hc

theorem execHandoverStep_wf (w : ObjWrite) {s t : State} (h : execHandoverStep w s = .next t)
    (hw : s.chip.mem.wf = true) : t.chip.mem.wf = true := by
  exact act_wf h hw fun c hc => by simp [hc]

theorem execHandoverHeartbeatTimeout_wf {s t : State} (h : execHandoverHeartbeatTimeout s = .next t)
    (hw : s.chip.mem.wf = true) : t.chip.mem.wf = true := by
  refine act_wf h hw fun c hc => ?_
  ((try dsimp only); (repeat' split) <;> (first | assumption | (simp +contextual [*, foldl_wf, memfoldl_wf]; done)))

theorem execHandoverConfirm_wf {s t : State} (h : execHandoverConfirm s = .next t)
    (hw : s.chip.mem.wf = true) : t.chip.mem.wf = true := by
  refine act_wf h hw fun c hc => ?_
  ((try dsimp only); (repeat' split) <;> (first | assumption | (simp +contextual [*, foldl_wf, memfoldl_wf]; done)))

theorem execModResetRelease_wf (recordValid starterCore : List Bool) {s t : State} (h : execModResetRelease recordValid starterCore s = .next t)
    (hw : s.chip.mem.wf = true) : t.chip.mem.wf = true := by
  refine act_wf h hw fun c hc => ?_
  dsimp only
  split <;> first | assumption | simp [*]

theorem execCarrierRailsRestored_wf (recordValid starterCore : List Bool) {s t : State} (h : execCarrierRailsRestored recordValid starterCore s = .next t)
    (hw : s.chip.mem.wf = true) : t.chip.mem.wf = true := by
  refine act_wf h hw fun c hc => ?_
  ((try dsimp only); (repeat' split) <;> (first | assumption | (simp +contextual [*, foldl_wf, memfoldl_wf]; done)))

theorem execWindowFlagRx_wf (die : Die) (reporter : Die) {s t : State} (h : execWindowFlagRx die reporter s = .next t)
    (hw : s.chip.mem.wf = true) : t.chip.mem.wf = true := by
  refine act_wf h hw fun c hc => ?_
  dsimp only
  repeat' split <;> first | assumption | simp [*]

theorem execStarterRestart_wf (die : Die) {s t : State} (h : execStarterRestart die s = .next t)
    (hw : s.chip.mem.wf = true) : t.chip.mem.wf = true := by
  refine act_wf h hw fun c hc => ?_
  dsimp only
  split <;> first | assumption | simp [*]

theorem execMachineModeTrap_wf (die : Die) (half : Half) {s t : State} (h : execMachineModeTrap die half s = .next t)
    (hw : s.chip.mem.wf = true) : t.chip.mem.wf = true := by
  refine act_wf h hw fun c hc => ?_
  ((try dsimp only); (repeat' split) <;> (first | assumption | (simp +contextual [*, foldl_wf, memfoldl_wf]; done)))

end Sys2Proof.Machine
end

