-- ==== Sys2Proof/Laws/PerInstr.lean ====
section
/-! SUPPORT. What WellFormed says of every command, one lemma a command: the bytes and codes that it carries have the lengths of the spec
(R27, R59, R71, R74, R251, R295, R296, R431, R484). -/

namespace Sys2Proof.Laws.WellFormedness

/-- The lists that a command carries whose lengths the spec fixes: each list's length, and the lengths it may have. -/
def carried (i : Instr) : List (Nat × List Nat) :=
  match i with
  | .admitRequest f | .cancel f | .pause f | .resume f | .idleFrame f | .bulkPromptTokens f | .bulkMakeSheet f | .bulkWeightShard f
  | .bulkTestPack f | .bulkCulture f | .bulkFirmware f | .dictRead f | .dictWrite f | .segmentedWriteOpen f | .transferAbort f
  | .segmentData f | .segmentAbort f | .segmentResend f => [(f.raw.length, [256])]
  | .barrierDoneRx f | .barrierReleaseRx f | .barrierIsolatedRx f | .bulkFlitRx f | .creditFlitRx f | .nakRx f | .laneNoticeRx f
  | .reductionTokenRx f | .tickFlitRx f _ | .shardDataFlit f | .shardRequestFlit f => [(f.raw.length, [64])]
  | .memoryAccess a => [(a.data.length, [0, a.len])]
  | .pourCodesReachRind _ _ codes _ _ => [(codes.length, [1072, 2048, 2144])]
  | .vatTest _ _ codes recomputed => [(codes.length, [1072, 2144]), (recomputed.length, [codes.length])]
  | .routerTest _ _ _ expected got => [(expected.length, [got.length])]
  | .calibrationComplete _ a b => [(a.length, [20, 26]), (b.length, [20, 26])]
  | .referenceCheck codes => [(codes.length, [51])]
  | .thermalSample _ _ readings => [(readings.length, [8])]
  | .powerUp r c | .modResetRelease r c | .carrierRailsRestored r c => [(r.length, [8]), (c.length, [8])]
  | _ => []

/-- A well-formed command's lists have lengths that they may have. -/
def Statement (i : Instr) : Prop := WellFormed i = true → ∀ e ∈ carried i, e.1 ∈ e.2

/-- A command that carries no such list. -/
theorem of_none {i : Instr} (h : carried i = []) : Statement i := by
  intro _ e he; rw [h] at he; cases he

/-- A command that carries one list, well-formed only where its length is the one it may have. -/
theorem of_one {i : Instr} {n m : Nat} (h : carried i = [(n, [m])]) (w : WellFormed i = decide (n = m)) : Statement i := by
  intro v e he
  rw [h, List.mem_singleton] at he
  rw [w, decide_eq_true_eq] at v
  subst he; simp [v]

theorem memoryAccess p : Statement (.memoryAccess p) := by
  intro v e he
  simp only [carried, List.mem_singleton] at he
  subst he
  simp only [WellFormed, Bool.and_eq_true] at v
  have h := v.2
  split at h <;> simp_all
theorem stepBoundary : Statement (.stepBoundary) := of_none rfl
theorem stepOverrun p q : Statement (.stepOverrun p q) := of_none rfl
theorem fetchWindow p q r : Statement (.fetchWindow p q r) := of_none rfl
theorem highPour p q : Statement (.highPour p q) := of_none rfl
theorem lowPour p q : Statement (.lowPour p q) := of_none rfl
theorem doublePour p q : Statement (.doublePour p q) := of_none rfl
theorem reversePour p q : Statement (.reversePour p q) := of_none rfl
theorem pourCodesReachRind p q r s t : Statement (.pourCodesReachRind p q r s t) := by
  intro v e he
  simp only [carried, List.mem_singleton] at he
  subst he
  simp only [WellFormed, codesFit] at v
  split at v <;> simp_all
  omega
theorem reserveDecision p q : Statement (.reserveDecision p q) := of_none rfl
theorem unrepairedRelease p q r s : Statement (.unrepairedRelease p q r s) := of_none rfl
theorem reductionRead p q r : Statement (.reductionRead p q r) := of_none rfl
theorem addNode p q r s t : Statement (.addNode p q r s t) := of_none rfl
theorem transferStart p : Statement (.transferStart p) := of_none rfl
theorem transferArrived p q r : Statement (.transferArrived p q r) := of_none rfl
theorem carrySave p q r : Statement (.carrySave p q r) := of_none rfl
theorem carryRestore p q r s : Statement (.carryRestore p q r s) := of_none rfl
theorem calibrationStart p : Statement (.calibrationStart p) := of_none rfl
theorem calibrationComplete p q r : Statement (.calibrationComplete p q r) := by
  intro v e he
  simp only [carried, List.mem_cons, List.not_mem_nil, or_false] at he
  simp only [WellFormed, Bool.and_eq_true] at v
  obtain ⟨h, k⟩ := v
  obtain rfl | rfl := he
  · unfold roundFits at h; split at h <;> simp_all
  · unfold roundFits at k; split at k <;> simp_all
theorem referenceCheck p : Statement (.referenceCheck p) := of_one rfl rfl
theorem measStartEdge : Statement (.measStartEdge) := of_none rfl
theorem measStart p : Statement (.measStart p) := of_none rfl
theorem measConversionDone p : Statement (.measConversionDone p) := of_none rfl
theorem measFirmwareHoldExpire : Statement (.measFirmwareHoldExpire) := of_none rfl
theorem localisationStageDone p q r : Statement (.localisationStageDone p q r) := of_none rfl
theorem absorbPulseVerify p q r s t : Statement (.absorbPulseVerify p q r s t) := of_none rfl
theorem columnMoveDone p q : Statement (.columnMoveDone p q) := of_none rfl
theorem programmeVerifyDone p q r : Statement (.programmeVerifyDone p q r) := of_none rfl
theorem rewriteRequest p q : Statement (.rewriteRequest p q) := of_none rfl
theorem rewriteStart p : Statement (.rewriteStart p) := of_none rfl
theorem wearCountSave : Statement (.wearCountSave) := of_none rfl
theorem runLoadRequest p : Statement (.runLoadRequest p) := of_none rfl
theorem runLoadComplete : Statement (.runLoadComplete) := of_none rfl
theorem runStartStep p : Statement (.runStartStep p) := of_none rfl
theorem barrierDoneRx p : Statement (.barrierDoneRx p) := of_one rfl rfl
theorem barrierReleaseRx p : Statement (.barrierReleaseRx p) := of_one rfl rfl
theorem barrierIsolatedRx p : Statement (.barrierIsolatedRx p) := of_one rfl rfl
theorem xferRow p q r s t : Statement (.xferRow p q r s t) := of_none rfl
theorem xferWait p q r : Statement (.xferWait p q r) := of_none rfl
theorem xferComplete p q r s : Statement (.xferComplete p q r s) := of_none rfl
theorem pourPost p q r s t : Statement (.pourPost p q r s t) := of_none rfl
theorem pourPatch p q r s t : Statement (.pourPatch p q r s t) := of_none rfl
theorem accRd p q r : Statement (.accRd p q r) := of_none rfl
theorem accWr p q r s : Statement (.accWr p q r s) := of_none rfl
theorem taskEnd p q r : Statement (.taskEnd p q r) := of_none rfl
theorem stepWait p q : Statement (.stepWait p q) := of_none rfl
theorem vencN8 p q r : Statement (.vencN8 p q r) := of_none rfl
theorem vrndN8 p q r : Statement (.vrndN8 p q r) := of_none rfl
theorem vrndW16 p q r : Statement (.vrndW16 p q r) := of_none rfl
theorem valign p q r s : Statement (.valign p q r s) := of_none rfl
theorem illegalCustom p q r : Statement (.illegalCustom p q r) := of_none rfl
theorem coreMoveRequest p q : Statement (.coreMoveRequest p q) := of_none rfl
theorem taskBuildPourVectors p q : Statement (.taskBuildPourVectors p q) := of_none rfl
theorem taskRound p q : Statement (.taskRound p q) := of_none rfl
theorem taskNormActivation p q : Statement (.taskNormActivation p q) := of_none rfl
theorem taskAttentionCombine p q r : Statement (.taskAttentionCombine p q r) := of_none rfl
theorem taskSample p q : Statement (.taskSample p q) := of_none rfl
theorem taskRoute p : Statement (.taskRoute p) := of_none rfl
theorem taskEmbed p q : Statement (.taskEmbed p q) := of_none rfl
theorem taskRipening p q r : Statement (.taskRipening p q r) := of_none rfl
theorem taskTrierCheck p q r s t : Statement (.taskTrierCheck p q r s t) := of_none rfl
theorem taskTransferStaging p q : Statement (.taskTransferStaging p q) := of_none rfl
theorem taskFirmware p q : Statement (.taskFirmware p q) := of_none rfl
theorem bulkFlitRx p : Statement (.bulkFlitRx p) := of_one rfl rfl
theorem creditFlitRx p : Statement (.creditFlitRx p) := of_one rfl rfl
theorem nakRx p : Statement (.nakRx p) := of_one rfl rfl
theorem laneNoticeRx p : Statement (.laneNoticeRx p) := of_one rfl rfl
theorem reductionTokenRx p : Statement (.reductionTokenRx p) := of_one rfl rfl
theorem reductionTokenTimeout p q : Statement (.reductionTokenTimeout p q) := of_none rfl
theorem tickExchange p : Statement (.tickExchange p) := of_none rfl
theorem tickFlitRx p q : Statement (.tickFlitRx p q) := of_one rfl rfl
theorem laneTraining p q r s t : Statement (.laneTraining p q r s t) := of_none rfl
theorem laneSignalLoss p : Statement (.laneSignalLoss p) := of_none rfl
theorem laneFail p : Statement (.laneFail p) := of_none rfl
theorem bridgeWireFail p : Statement (.bridgeWireFail p) := of_none rfl
theorem attentionWalk p q r s : Statement (.attentionWalk p q r s) := of_none rfl
theorem admitRequest p : Statement (.admitRequest p) := of_one rfl rfl
theorem cancel p : Statement (.cancel p) := of_one rfl rfl
theorem pause p : Statement (.pause p) := of_one rfl rfl
theorem resume p : Statement (.resume p) := of_one rfl rfl
theorem idleFrame p : Statement (.idleFrame p) := of_one rfl rfl
theorem controlCycleBoundary : Statement (.controlCycleBoundary) := of_none rfl
theorem ownerRelease p : Statement (.ownerRelease p) := of_none rfl
theorem bulkPromptTokens p : Statement (.bulkPromptTokens p) := of_one rfl rfl
theorem bulkMakeSheet p : Statement (.bulkMakeSheet p) := of_one rfl rfl
theorem bulkWeightShard p : Statement (.bulkWeightShard p) := of_one rfl rfl
theorem bulkTestPack p : Statement (.bulkTestPack p) := of_one rfl rfl
theorem bulkCulture p : Statement (.bulkCulture p) := of_one rfl rfl
theorem bulkFirmware p : Statement (.bulkFirmware p) := of_one rfl rfl
theorem pauseImageWritten p : Statement (.pauseImageWritten p) := of_none rfl
theorem restoreComplete p q : Statement (.restoreComplete p q) := of_none rfl
theorem cellarPageRead p q r s t : Statement (.cellarPageRead p q r s t) := of_none rfl
theorem scrubPass p q r s : Statement (.scrubPass p q r s) := of_none rfl
theorem cellarRebuild p : Statement (.cellarRebuild p) := of_none rfl
theorem cellarSecond : Statement (.cellarSecond) := of_none rfl
theorem pauseKeyExtend p : Statement (.pauseKeyExtend p) := of_none rfl
theorem wheelLoadRequest p : Statement (.wheelLoadRequest p) := of_none rfl
theorem shardReceived p : Statement (.shardReceived p) := of_none rfl
theorem shardTimeout p : Statement (.shardTimeout p) := of_none rfl
theorem shardRetryWait p : Statement (.shardRetryWait p) := of_none rfl
theorem shardDataFlit p : Statement (.shardDataFlit p) := of_one rfl rfl
theorem shardRequestFlit p : Statement (.shardRequestFlit p) := of_one rfl rfl
theorem blockReadVerified p : Statement (.blockReadVerified p) := of_none rfl
theorem wheelUnload p : Statement (.wheelUnload p) := of_none rfl
theorem wheelDrainStep p : Statement (.wheelDrainStep p) := of_none rfl
theorem cultureLoadRequest p : Statement (.cultureLoadRequest p) := of_none rfl
theorem cultureWriteComplete p q : Statement (.cultureWriteComplete p q) := of_none rfl
theorem cultureUnload p : Statement (.cultureUnload p) := of_none rfl
theorem ripenJobRequest p : Statement (.ripenJobRequest p) := of_none rfl
theorem ripenJobStop p : Statement (.ripenJobStop p) := of_none rfl
theorem ripenPublishStep p : Statement (.ripenPublishStep p) := of_none rfl
theorem ripenUpdate p : Statement (.ripenUpdate p) := of_none rfl
theorem ripenPartReady p : Statement (.ripenPartReady p) := of_none rfl
theorem trierSample p : Statement (.trierSample p) := of_none rfl
theorem trierVerdictTimeout p q r : Statement (.trierVerdictTimeout p q r) := of_none rfl
theorem replicaDigestCheck : Statement (.replicaDigestCheck) := of_none rfl
theorem coreTestDue p : Statement (.coreTestDue p) := of_none rfl
theorem testOverdue p : Statement (.testOverdue p) := of_none rfl
theorem coreTestComplete p q : Statement (.coreTestComplete p q) := of_none rfl
theorem vatTest p q r s : Statement (.vatTest p q r s) := by
  intro v e he
  simp only [carried, List.mem_cons, List.not_mem_nil, or_false] at he
  simp only [WellFormed, codesFit, Bool.and_eq_true, decide_eq_true_eq] at v
  obtain ⟨⟨v, k⟩, r⟩ := v
  obtain rfl | rfl := he
  · split at v <;> simp_all
  · simp [r]
theorem routerTest p q r s t : Statement (.routerTest p q r s t) := of_one rfl rfl
theorem testPackLoadRequest p : Statement (.testPackLoadRequest p) := of_none rfl
theorem sramScrub p q : Statement (.sramScrub p q) := of_none rfl
theorem dramScrub p q : Statement (.dramScrub p q) := of_none rfl
theorem capLoop p : Statement (.capLoop p) := of_none rfl
theorem powerMonitorCompare p q : Statement (.powerMonitorCompare p q) := of_none rfl
theorem estimateWindow p : Statement (.estimateWindow p) := of_none rfl
theorem droopTrip p q r : Statement (.droopTrip p q r) := of_none rfl
theorem droopRecover p q : Statement (.droopRecover p q) := of_none rfl
theorem droopFault p q : Statement (.droopFault p q) := of_none rfl
theorem thermalSample p q r : Statement (.thermalSample p q r) := of_one rfl rfl
theorem thermalModel p q r s : Statement (.thermalModel p q r s) := of_none rfl
theorem sensorOverride p : Statement (.sensorOverride p) := of_none rfl
theorem dieTrip p : Statement (.dieTrip p) := of_none rfl
theorem diePowerCycle p : Statement (.diePowerCycle p) := of_none rfl
theorem diePowerRestore p : Statement (.diePowerRestore p) := of_none rfl
theorem energySave : Statement (.energySave) := of_none rfl
theorem inletHigh p : Statement (.inletHigh p) := of_none rfl
theorem inletNormal p : Statement (.inletNormal p) := of_none rfl
theorem clockMonitorWindow p q : Statement (.clockMonitorWindow p q) := of_none rfl
theorem missingEdge p : Statement (.missingEdge p) := of_none rfl
theorem oscDiscipline p q : Statement (.oscDiscipline p q) := of_none rfl
theorem holdoverSteer p : Statement (.holdoverSteer p) := of_none rfl
theorem halfClockControl p : Statement (.halfClockControl p) := of_none rfl
theorem halfPllLocked p q : Statement (.halfPllLocked p q) := of_none rfl
theorem crossingTimeout p : Statement (.crossingTimeout p) := of_none rfl
theorem halfService p : Statement (.halfService p) := of_none rfl
theorem dictRead p : Statement (.dictRead p) := of_one rfl rfl
theorem dictWrite p : Statement (.dictWrite p) := of_one rfl rfl
theorem segmentedWriteOpen p : Statement (.segmentedWriteOpen p) := of_one rfl rfl
theorem transferAbort p : Statement (.transferAbort p) := of_one rfl rfl
theorem segmentData p : Statement (.segmentData p) := of_one rfl rfl
theorem segmentAbort p : Statement (.segmentAbort p) := of_one rfl rfl
theorem segmentResend p : Statement (.segmentResend p) := of_one rfl rfl
theorem segmentedReadClose p q : Statement (.segmentedReadClose p q) := of_none rfl
theorem segmentedWriteTimeout p q : Statement (.segmentedWriteTimeout p q) := of_none rfl
theorem eventClear p : Statement (.eventClear p) := of_none rfl
theorem eventMask p : Statement (.eventMask p) := of_none rfl
theorem configSave p : Statement (.configSave p) := of_none rfl
theorem configRestoreDefaults p : Statement (.configRestoreDefaults p) := of_none rfl
theorem powerUp p q : Statement (.powerUp p q) := by
  intro v e he
  simp only [carried, List.mem_cons, List.not_mem_nil, or_false] at he
  simp only [WellFormed, Bool.and_eq_true, decide_eq_true_eq] at v
  obtain rfl | rfl := he
  · simp [v.1]
  · simp [v.2]
theorem modReset : Statement (.modReset) := of_none rfl
theorem carrierRailFault : Statement (.carrierRailFault) := of_none rfl
theorem inputVoltageStop : Statement (.inputVoltageStop) := of_none rfl
theorem inputRecover : Statement (.inputRecover) := of_none rfl
theorem bootAttempt p q : Statement (.bootAttempt p q) := of_none rfl
theorem firmwareLoadRequest p : Statement (.firmwareLoadRequest p) := of_none rfl
theorem coordinatorChoice : Statement (.coordinatorChoice) := of_none rfl
theorem handoverStep p : Statement (.handoverStep p) := of_none rfl
theorem handoverHeartbeatTimeout : Statement (.handoverHeartbeatTimeout) := of_none rfl
theorem handoverConfirm : Statement (.handoverConfirm) := of_none rfl
theorem modResetRelease p q : Statement (.modResetRelease p q) := by
  intro v e he
  simp only [carried, List.mem_cons, List.not_mem_nil, or_false] at he
  simp only [WellFormed, Bool.and_eq_true, decide_eq_true_eq] at v
  obtain rfl | rfl := he
  · simp [v.1]
  · simp [v.2]
theorem carrierRailsRestored p q : Statement (.carrierRailsRestored p q) := by
  intro v e he
  simp only [carried, List.mem_cons, List.not_mem_nil, or_false] at he
  simp only [WellFormed, Bool.and_eq_true, decide_eq_true_eq] at v
  obtain rfl | rfl := he
  · simp [v.1]
  · simp [v.2]
theorem windowFlagRx p q : Statement (.windowFlagRx p q) := of_none rfl
theorem starterRestart p : Statement (.starterRestart p) := of_none rfl
theorem machineModeTrap p q : Statement (.machineModeTrap p q) := of_none rfl

end Sys2Proof.Laws.WellFormedness
end

