-- ==== Sys2Proof/Tests/Slice0.lean ====
section
/-! SUPPORT. Tests: a term that each check of WellFormed refuses, worked examples of the manual, and for each statement a state and
operands that meet its hypotheses. -/

namespace Sys2Proof.Machine.Tests

set_option Elab.async false

/-! ### States and operands -/

/-- A module whose eight dies run their firmware and are in service, die 0 coordinating. -/
def live : S8 :=
  { S8.reset with
    boot := { Boot.reset with state := (List.range 8).map (fun d => (d, 3)), coordinator := 0, deputy := 1, pwrGood := true }
    run := { Run.reset with lostDies := [] } }

/-- A state with a module and nothing waiting. -/
def at' (c : S8) : State := { chip := c, pending := [] }

/-- A write of the owner. -/
def put (value : Bytes) : ObjWrite := { port := .a, requestId := 7, value := value }

/-- A control frame of cycle 0 in slot 0 of port A. -/
def frame (type handle : Nat) (payload : Bytes) : Frame :=
  { port := .a, slot := 0, raw := UpFrame.raw { type := type, handle := handle, flags := 0, payload := payload } 0 0 }

/-- What that frame reads as. -/
def view (type handle : Nat) (payload : Bytes) : FrameView :=
  { type := type, cycle := 0, handle := handle, length := payload.length, flags := 0, payload := padTo 224 payload }

/-- A module of which all lanes are in service. -/
def lit : S8 := { live with fab := { live.fab with lanes := (List.range 72).map (fun n => (n, { LinkLaneState.fresh with state := 0 })) } }

/-- A flit that comes on lane 0. -/
def flit (v : FlitView) : Flit := { lane := 0, raw := v.raw }

/-- Does a step answer a next state whose module passes a check, with nothing waiting? -/
def gives (o : Host.Outcome State Fault Refusal) (p : S8 → Bool) : Bool :=
  match o with
  | .next t => t.pending = [] && p t.chip
  | _ => false

/-! ### The queue, writes and WellFormed -/

/-- An ill-formed term for each check of WellFormed, which the check refuses. -/
theorem test_ill_formed : [
    Instr.memoryAccess { agent := .core { die := 0, half := .w, num := 0 } true none, write := false, addr := 0, len := 0, data := [], upset := [] },
    .memoryAccess { agent := .core { die := 0, half := .w, num := 0 } true none, write := true, addr := 0, len := 2, data := [1], upset := [] },
    .pourCodesReachRind (.ct 0 0) 0 [0] 0 [], .pourCodesReachRind (.culture 0 0) 0 (List.replicate 2048 0) 0 [],
    .calibrationComplete (.ct 0 0) [] [], .referenceCheck [], .programmeVerifyDone (.ct 0 0) [(2048, 0, 1)] 0,
    .vatTest (.ct 0 0) 0 [] [], .thermalSample 0 .w [1, 2], .powerUp [true] [], .modResetRelease [] [], .carrierRailsRestored [] [],
    .barrierDoneRx { lane := 0, raw := [] }, .tickFlitRx { lane := 0, raw := [0] } 0, .admitRequest { port := .a, slot := 0, raw := [] },
    .dictRead { port := .b, slot := 1, raw := [0] }].all (fun i => !(WellFormed i)) = true := by decide +kernel

theorem test_queue_order : step { at' live with pending := [.energySave, .stepBoundary] } =
    exec .energySave { at' live with pending := [.stepBoundary] } := rfl

theorem witness_WritesAreScreened :
    (writeOf (.ownerRelease { put [1] with port := .b }) = some ({ put [1] with port := .b }, Obj.ownerRelease) ∧
      live.portAnswers .b = true ∧ (live.ports.get .b).answers.length < requestLimit ∧ live.boot.anyFirmware = true ∧
      live.ports.owner ≠ .b) ∧
    (live.ports.owner = .a ∧ writeCheck Obj.ownerRelease [1, 1] ≠ statusOk ∧ writeCheck Obj.ownerRelease [2] ≠ statusOk) ∧
    (32 ≤ ({ live.ports with a := { live.ports.a with answers := List.replicate 32 { type := 0x10, handle := 0, flags := 0, payload := [] } } }
      : Ports).a.answers.length) := by decide +kernel

/-! ### Power, memory and clocks -/

theorem witness_DrawIsWatched : max 20 10 < 10 * (max 20 10 - min 20 10) ∧ 10 * (max 100 90 - min 100 90) ≤ max 100 90 ∧
    live.power.monitorFault = false ∧ ([70000, 70000, 70000, 70000, 70000, 70000, 70000].length = 7 ∧ 4 < 4 * (max 6 4 - min 6 4)) ∧
    (live.run.mismatches.length < 8 ∧ 4 * (max 5 4 - min 5 4) ≤ 4 ∧ live.power.scale = 65536) := by decide +kernel

theorem test_cap_loop_slows : gives (exec (.capLoop 3000000) (at' { live with power := { live.power with clocks := [(3, 1700)] } }))
    (fun c => SMap.find c.power.clockMoves 3 = some 0 && SMap.find c.power.clockMoves 2 = some (-25)) = true := by decide +kernel

theorem test_droop_floor : gives (exec (.droopTrip 2 .e 6000) (at' live)) (fun c => SMap.find c.power.droop 5 = some 5882) = true := by
  decide +kernel

theorem test_inlet_spell : gives (exec (.inletHigh 401) (at' live)) (fun c => c.power.inletHigh && c.dict.count Obj.inletHighCount 0 = 1)
    = true ∧ gives (exec (.inletNormal 400) (at' { live with power := { live.power with inletHigh := true } }))
      (fun c => !c.power.inletHigh) = true := by decide +kernel

/-- A half whose sensor 0 reads 150.1 °C. -/
def hot : S8 := { live with power := { live.power with temps := [(sensorKey 3 0, 1501)] } }

theorem witness_SensorsAreJudged : 1500 < hot.power.temp 3 0 ∧ hot.power.sensorState 3 0 = 0 ∧ halfKey 1 .e = 3 := by decide +kernel

/-- Whatever the service key and the serial number are: a record that carries them is taken where the rest of the statement holds. -/
theorem witness_SensorOverride : ({ hot with power := { hot.power with sensors := [(sensorKey 3 0, 1)] } } : S8).writeArrives
    (put (zeros 8 ++ [1, 1, 0, 0] ++ leBytes 4 9 ++ zeros 496)) Obj.sensorOverride ∧
    2 * leAt (zeros 8 ++ [1, 1, 0, 0] ++ leBytes 4 9) 8 1 + leAt (zeros 8 ++ [1, 1, 0, 0] ++ leBytes 4 9) 9 1 = 3 ∧
    live.cellar.seconds < leAt (zeros 8 ++ [1, 1, 0, 0] ++ leBytes 4 9) 12 4 := by unfold S8.writeArrives; decide +kernel

theorem witness_TripsAndPowerCycles :
    (({ live with power := { live.power with temps := [(sensorKey 2 4, 1200)] } } : S8).power.tripCondition 1 = true ∧
      SMap.find live.power.tripped 1 = none) ∧
    (let c : S8 := { live with power := { live.power with tripped := [(1, 5)], uptime := 10005, inlet := 400 },
                               run := { live.run with lostDies := [1] } }
     c.writeArrives (put [1]) Obj.diePowerCycle ∧ valueOf [1] ∈ c.run.lostDies ∧ SMap.find c.power.tripped (valueOf [1]) = some 5 ∧
       10000 ≤ c.power.uptime - 5 ∧ c.power.inlet ≤ 400) ∧
    (1 ∈ ({ live with power := { live.power with cycling := [1] } } : S8).power.cycling ∧ 1 ∉ live.boot.badRecords ∧
      1 ∉ live.boot.noStarter) := by unfold S8.writeArrives; decide +kernel

theorem test_die_trip : gives (exec (.dieTrip 1) (at' { live with power := { live.power with temps := [(sensorKey 2 4, 1200)] } }))
    (fun c => !(c.dieServes 1) && SMap.getD c.boot.state 1 0 = 6 && c.dict.count Obj.dieTripCount 0 = 1) = true := by decide +kernel

/-- A machine-mode access of a core. -/
def touch (write : Bool) (addr len : Nat) (data : Bytes) : Access :=
  { agent := .core { die := 0, half := .w, num := 0 } true none, write := write, addr := BitVec.ofNat 64 addr, len := len, data := data,
    upset := [] }

/-- A whole-row load of core 0 of die 0 half W, to the register group of v4. -/
def rowLoad : Access :=
  { touch false 0 512 [] with agent := .core { die := 0, half := .w, num := 0 } true (some 4), addr := BitVec.ofNat 64 (scratchRow 0 1) }

theorem witness_MemoryAnswersAccesses :
    (WellFormed (.memoryAccess (touch true 0x1C0000000 2 [1, 2])) = true ∧ live.issues (touch true 0x1C0000000 2 [1, 2]).agent = true ∧
      scalarMisaligned (touch true 0x1C0000000 2 [1, 2]) = false ∧
      live.permits (reachOf (touch true 0x1C0000000 2 [1, 2]).agent) true 0x1C0000000 2 = true) ∧
    (WellFormed (.memoryAccess (touch false 0x1FFFFFFFF 1 [])) = true ∧ scalarMisaligned (touch false 0x1FFFFFFFF 1 []) = false ∧
      live.permits (reachOf (touch false 0x1FFFFFFFF 1 []).agent) false 0x1FFFFFFFF 1 = true) ∧
    (WellFormed (.memoryAccess rowLoad) = true ∧ live.issues rowLoad.agent = true ∧ placeOf rowLoad.addr.toNat = .scratchpad ∧
      live.permits (reachOf rowLoad.agent) false rowLoad.addr.toNat 512 = true) ∧
    (scalarMisaligned (touch false 0x1FFFFFFFF 3 []) = false ∧
      live.permits (reachOf (touch false 0x1FFFFFFFF 3 []).agent) false 0x1FFFFFFFF 3 = false) ∧
    (WellFormed (.memoryAccess (touch false 0x1C0000003 4 [])) = true ∧ 0x1C0000003 % 4 ≠ 0) ∧
    (placeOf 0x3C0000000 = .working 1 ∧ coreHalfKey { die := 0, half := .w, num := 0 } = 0 ∧
      (let c : S8 := { live with clock := { live.clock with isolated := List.range 8 } }
       ∀ k < 8, 8 * 0 + k ∈ c.clock.isolated)) ∧
    (let c : S8 := { live with clock := { live.clock with isolated := [1024] } }
     1024 ∈ c.crossingsTo 0 0 (2 ^ 40 + 0x02400000) ∧ 1024 ∈ c.clock.isolated) ∧
    (placeOf (address 1 1 0) = .scratchpad ∧ (512 : Nat) ≠ 256 ∧ S8.reset.dieServes (field (address 1 1 0) 34 3) = false) := by
  decide +kernel

theorem test_write_stores : gives (exec (.memoryAccess (touch true 0x1C0000000 3 [1, 0, 255])) (at' live))
    (fun c => c.mem.read 0x1BFFFFFFF 5 = [0, 1, 0, 255, 0] && c.mem.wf) = true := by decide +kernel

theorem witness_ScrubFindsWords : placeOf (16 * (address 1 0 0 / 16)) = .scratchpad ∧ placeOf (16 * 0) = .hotPool ∧
    live.dieServes (field (16 * (address 1 0 0 / 16)) 34 3) = true ∧ live.dieServes (field 0 34 3) = true ∧ 0 ∉ live.mem.bad := by
  decide +kernel

theorem witness_ClocksAreKept :
    (live.clock.sourceOf 2 = 0 ∧ 2 ∉ live.clock.flagged ∧ 2 ∉ live.clock.oscFault) ∧
    (let c : S8 := { live with clock := { live.clock with oscFault := [2] } }; c.clock.sourceOf 2 = 0 ∧ 2 ∈ c.clock.oscFault) ∧
    (let c : S8 := { live with clock := { live.clock with flagged := [2] } }
     c.clock.sourceOf 2 = 0 ∧ 2 ∈ c.clock.flagged ∧ 2 ∉ c.clock.oscFault ∧
       (List.range 8).all (fun k => !(c.clock.flagsSeen.contains (16 + k))) = true ∧ (2 : Fin 8) ≠ 3) ∧
    (let c : S8 := { live with clock := { live.clock with source := [(2, 1)], switchedAt := [(2, 5)] },
                               power := { live.power with uptime := 10005 } }
     SMap.find c.clock.switchedAt 2 = some 5 ∧ 5 + 10000 ≤ c.power.uptime ∧ c.clock.sourceOf 2 = 1 ∧
       c.dict.get Obj.tickParentLane = 0xFF ∧ live.power.uptime < 5 + 10000 ∧
       ({ c with dict := c.dict.store Obj.tickParentLane 9 } : S8).dict.get Obj.tickParentLane ≠ 0xFF) := by decide +kernel

theorem test_clock_window : gives (exec (.clockMonitorWindow 2 0) (at' live))
    (fun c => c.clock.sourceOf 2 = 1 && c.dict.count Obj.clockSourceFailCount 0 = 1) = true ∧
    gives (exec (.clockMonitorWindow 2 1020) (at' live)) (fun c => !(c.clock.flagged.contains 2)) = true ∧
    gives (exec (.clockMonitorWindow 2 979) (at' live)) (fun c => c.clock.flagged.contains 2) = true := by decide +kernel

theorem test_trim_follows : gives (exec (.oscDiscipline 2 (-26)) (at' live)) (fun c => SMap.getD c.clock.oscMoves 2 0 = 1) = true ∧
    gives (exec (.holdoverSteer 2) (at' { live with clock := { live.clock with source := [(2, 1)], switchedAt := [(2, 5)] },
                                                     power := { live.power with uptime := 10005 } }))
      (fun c => c.clock.sourceOf 2 = 3) = true := by decide +kernel

/-- HalfClockControl as it is after reset: every half undivided. -/
def undivided : Bytes := live.dict.halfControl

theorem witness_HalfClocksAndCrossings :
    (live.writeArrives (put undivided) Obj.halfClockControl ∧
      (∀ h < 16, 1 ≤ controlDivider (byteAt undivided h) ∧ controlDivider (byteAt undivided h) ≤ 16) ∧
      (∀ h < 16, (controlDivider (byteAt undivided h) = 1 ∧ controlStop (byteAt undivided h) = false) ∨
        field (live.dict.get Obj.halfService) h 1 = 0) ∧ breaksRatio undivided = false) ∧
    (let c : S8 := { live with dict := live.dict.store Obj.halfService 0xFF3F }
     let v : Bytes := undivided.take 6 ++ [7] ++ undivided.drop 7
     c.writeArrives (put v) Obj.halfClockControl ∧ breaksRatio v = true ∧ controlDivider (byteAt v 6) = 7 ∧
       (∀ h < 16, (controlDivider (byteAt v h) = 1 ∧ controlStop (byteAt v h) = false) ∨ field (c.dict.get Obj.halfService) h 1 = 0)) ∧
    SMap.getD ({ live with clock := { live.clock with halfState := [(3, 3)] } } : S8).clock.halfState (halfKey 1 .e) 0 = 3 ∧
    live.writeArrives (put [0xFF, 0xFF]) Obj.halfService ∧ live.run.running = none ∧
    crossingKey (.seam 1 2) ∉ live.clock.isolated := by unfold S8.writeArrives; decide +kernel

/-- A module in which core 3 of die 0 has a transfer out to half E under tag 2. -/
def crossing : S8 :=
  { live with cores := { live.cores with
      transfers := [(16 * 3 + 2, { source := scratchRow 3 0, dest := scratchRow 40 0, rows := 1, status := none, machineMode := true })] } }

/-- The way of core 3 to a row of core 4 of the other half: that core's crossing, then the seam crossing of row 0. -/
theorem crossing_way : crossing.crossingsTo 0 3 (scratchRow 40 0) = [168, 0] := by
  have h : crossing.crossingsTo 0 3 (scratchRow 40 0) = [168] ++ crossing.seamOnWay 0 (gridOf 0 3) (gridOf 1 4) := rfl
  rw [h, S8.seamOnWay_of_row _ _ _ _ (by decide)]
  decide

theorem witness_CrossingsIsolateThemselves :
    (let r : RowTransfer := { source := scratchRow 3 0, dest := scratchRow 40 0, rows := 1, status := none, machineMode := true }
     crossingKey (.seam 0 0) ∉ crossing.clock.isolated ∧ SMap.find crossing.cores.transfers 50 = some r ∧
       crossing.crossesSeam 0 0 50 r = true ∧ SMap.find crossing.cores.xferStalls (50 / 16) = none) ∧
    (let c : S8 := { crossing with cores := { crossing.cores with xferStalls := [(3, (5, 2))] } }
     SMap.find c.cores.xferStalls (50 / 16) = some (5, 50 % 16) ∧ SMap.find c.cores.tagStalls (50 / 16) = none) ∧
    (let sh : Sheet := Sheet.ofBytes []
     let c : S8 := { live with run := { live.run with
       running := some { sh with trees := [{ TreeEntry.ofBytes [] with kind := 4, path := 0x8003 }] } } }
     ∃ sh, c.run.running = some sh ∧ sh.namesBridge 3 = true) ∧
    crossingKey (.bridge 3) ∈ ({ live.clock with isolated := [crossingKey (.bridge 3)] } : Clocks).isolated := by
  refine ⟨⟨by decide +kernel, by decide +kernel, by simp [S8.crossesSeam, crossing_way], by decide +kernel⟩, by decide +kernel, ⟨_, rfl, by decide +kernel⟩, by decide +kernel⟩

/-! ### The dictionary -/

/-- A dictionary frame: RequestId 9, the object, Op, Length, TransferId and the bytes after them (R463). -/
def dictPayload (obj op length id : Nat) (value : Bytes) : Bytes :=
  leBytes 4 9 ++ leBytes 2 (obj / 256) ++ leBytes 1 obj ++ leBytes 1 op ++ leBytes 4 length ++ leBytes 2 id ++ [0, 0] ++ value

/-- A segment frame: TransferId, Op, Offset and Count (R468). -/
def segmentPayload (id op offset count : Nat) (value : Bytes) : Bytes :=
  leBytes 2 id ++ leBytes 1 op ++ [0] ++ leBytes 4 offset ++ leBytes 2 count ++ zeros 6 ++ value

/-- A transfer under number 5 on port A. -/
def transfer (write : Bool) (length : Nat) : DictTransfer :=
  { id := 5, port := .a, write := write, obj := 0x700001, requestId := 4, length := length, segments := [], snapshot := zeros length,
    lastCycle := 0 }

/-- A module with that transfer open. -/
def busy (write : Bool) (length : Nat) : S8 := { live with dict := { live.dict with transfers := [transfer write length] } }

/-- The read of an inline value, of one in segments, and with four transfers open. -/
theorem witness_ReadIsAnswered :
    (live.frameArrives (frame 0x10 0 (dictPayload Obj.powerCap 0 0 0 [])) (view 0x10 0 (dictPayload Obj.powerCap 0 0 0 [])) ∧
      live.ports.a.answers.length < 32 ∧ live.boot.anyFirmware = true ∧
      (view 0x10 0 (dictPayload Obj.powerCap 0 0 0 [])).at 7 1 = 0 ∧
      ((live.goodFrame .a).readObject (view 0x10 0 (dictPayload Obj.powerCap 0 0 0 [])).obj).2.length = 2) ∧
    (live.frameArrives (frame 0x10 0 (dictPayload 0x400005 0 0 0 [])) (view 0x10 0 (dictPayload 0x400005 0 0 0 [])) ∧
      ((live.goodFrame .a).readObject (view 0x10 0 (dictPayload 0x400005 0 0 0 [])).obj).2.length = 576 ∧
      (live.goodFrame .a).dict.openOn .a < 4) ∧
    (4 ≤ ({ live.dict with transfers := List.replicate 4 (transfer false 576) } : Dict).openOn .a) := by
  unfold S8.frameArrives; decide +kernel

theorem witness_WritePerformsItsObject :
    (let v := view 0x11 0 (dictPayload Obj.powerCap 0 2 0 (leBytes 2 1500))
     live.frameArrives (frame 0x11 0 (dictPayload Obj.powerCap 0 2 0 (leBytes 2 1500))) v ∧ v.type = 0x11 ∧ v.at 7 1 = 0 ∧
       v.at 8 4 ≤ 208 ∧ live.ports.owner = .a ∧ writeCheck v.obj v.value = statusOk ∧
       live.frameBreaks (frame 0x11 0 (dictPayload Obj.powerCap 0 2 0 (leBytes 2 1500))) = none) ∧
    live.frameBreaks (frame 0x11 0 (dictPayload Obj.halfClockControl 0 16 0 (undivided.take 6 ++ [7] ++ undivided.drop 7))) = none ∧
    ({ live with dict := live.dict.store Obj.halfService 0xFF3F } : S8).frameBreaks
      (frame 0x11 0 (dictPayload Obj.halfClockControl 0 16 0 (undivided.take 6 ++ [7] ++ undivided.drop 7))) = some 450 ∧
    ((ownEffects (objDie 0x200010)).find? (fun e => e.1 = normObj 0x200010) = none ∧
      (objInfo 0x200010).map (fun i => i.access) = some .rwb ∧
      (ownEffects (objDie 0x200014)).find? (fun e => e.1 = normObj 0x200014) = none ∧
      (objInfo 0x200014).map (fun i => i.access = .rw && !(i.type = .domain)) = some true) := by
  unfold S8.frameArrives; decide +kernel

theorem witness_SegmentedTransfersRun :
    (live.frameArrives (frame 0x11 0 (dictPayload 0x700001 1 1552 0 [])) (view 0x11 0 (dictPayload 0x700001 1 1552 0 [])) ∧
      (view 0x11 0 (dictPayload 0x700001 1 1552 0 [])).at 7 1 = 1 ∧ openCheck 0x700001 1552 = statusOk ∧
      (view 0x11 0 (dictPayload 0x700001 1 1552 0 [])).obj = 0x700001 ∧ live.dict.openOn .a < 4) ∧
    (let c := busy true 300
     let v := view 0x12 0 (segmentPayload 5 0 100 200 (zeros 200))
     c.frameArrives (frame 0x12 0 (segmentPayload 5 0 100 200 (zeros 200))) v ∧ v.at 2 1 = 0 ∧
       c.dict.transfer .a (v.at 0 2) = some (transfer true 300) ∧ 0 < v.at 8 2 ∧ v.at 8 2 ≤ 208 ∧ v.at 4 4 + v.at 8 2 ≤ 300 ∧
       segmentsCover 300 [(v.at 4 4, bytesAt v.payload 16 (v.at 8 2))] = false ∧
       segmentsCover 200 [(0, bytesAt v.payload 16 (v.at 8 2))] = true) ∧
    writeCheck (transfer true 300).obj (assemble 300 [(0, zeros 208), (208, zeros 92)]) ≠ statusOk ∧
    ((busy true 300).frameArrives (frame 0x11 0 (dictPayload 0x700001 2 0 5 [])) (view 0x11 0 (dictPayload 0x700001 2 0 5 [])) ∧
      (busy true 300).dict.transfer .a ((view 0x11 0 (dictPayload 0x700001 2 0 5 [])).at 12 2) = some (transfer true 300)) ∧
    ((busy true 300).frameArrives (frame 0x12 0 (segmentPayload 5 1 0 0 [])) (view 0x12 0 (segmentPayload 5 1 0 0 [])) ∧
      (view 0x12 0 (segmentPayload 5 1 0 0 [])).at 2 1 = 1) ∧
    ((busy false 576).frameArrives (frame 0x12 0 (segmentPayload 5 2 416 0 [])) (view 0x12 0 (segmentPayload 5 2 416 0 [])) ∧
      (view 0x12 0 (segmentPayload 5 2 416 0 [])).at 2 1 = 2 ∧ (view 0x12 0 (segmentPayload 5 2 416 0 [])).at 4 4 < 576) ∧
    ((busy true 300).dict.transfer .a (5 : BitVec 16).toNat = some (transfer true 300) ∧ (transfer true 300).lastCycle + 4096 ≤ 4096 ∧
      (busy false 576).dict.transfer .a 5 = some (transfer false 576) ∧ (transfer false 576).lastCycle + 64 ≤ 64) := by
  unfold S8.frameArrives; decide +kernel

/-- The last segment of 576 bytes starts at byte 416 and says that no more comes (R469). -/
theorem test_segments : (segmentFrames 5 (zeros 576) 0).map (fun u => (leAt u.payload 4 4, leAt u.payload 8 2, u.flags)) =
    [(0, 208, 1), (208, 208, 1), (416, 160, 0)] := by decide +kernel

/-- A value that names element 0 of DroopCount. -/
def named (mask count : Nat) : Bytes := leBytes 2 (Obj.droopCount / 256) ++ leBytes 1 Obj.droopCount ++ leBytes 1 mask ++ leBytes 4 0 ++
  leBytes 4 count

/-- A module whose DroopCount has counted 3 and holds its flag. -/
def drooped : S8 := { live with dict := live.dict.raise 0 Obj.droopCount 0 3 0 0 }

theorem witness_FlagsClearAndMask :
    (drooped.writeArrives (put (named 0 3)) Obj.eventClear ∧ namedCounter (named 0 3) = (Obj.droopCount, 0) ∧
      drooped.isEventCounter Obj.droopCount 0 = true ∧ leAt (named 0 3) 8 4 = drooped.dict.count Obj.droopCount 0) ∧
    (SMap.find drooped.dict.flags (objKey Obj.droopCount 0) = some { step := 0, unit := 0, value := 0 } ∧
      leAt (named 0 2) 8 4 ≠ drooped.dict.count Obj.droopCount 0 ∧ drooped.writeArrives (put (named 0 2)) Obj.eventClear) ∧
    (live.writeArrives (put (named 1 0)) Obj.eventMask ∧ leAt (named 1 0) 3 1 = 1 ∧ Obj.droopCount ∉ nonMaskable) ∧
    (live.writeArrives (put (named 2 0)) Obj.eventMask ∧ 1 < leAt (named 2 0) 3 1) ∧
    (let v := leBytes 2 (Obj.stepOverrunCount / 256) ++ leBytes 1 Obj.stepOverrunCount ++ [1] ++ zeros 8
     live.writeArrives (put v) Obj.eventMask ∧ (namedCounter v).1 ∈ nonMaskable ∧
       live.isEventCounter (namedCounter v).1 (namedCounter v).2 = true) ∧
    (SMap.find live.dict.flags (objKey Obj.droopCount 0) = none ∧ live.isEventCounter Obj.powerCap 0 = false) ∧
    objKey Obj.droopCount 0 ≠ objKey Obj.eventQueueOverflowCount 0 ∧
    (objKey Obj.droopCount 0 ∈ ({ live.dict with masked := [objKey Obj.droopCount 0] } : Dict).masked ∧
      (0 : Nat) < 1 ∧ live.dict.count Obj.droopCount 0 < 2 ^ 32) := by unfold S8.writeArrives; decide +kernel

/-- An event frame, maskable or not. -/
def event (nonMaskable : Bool) : EventFrame :=
  { obj := Obj.droopCount, element := 0, counter := 1, nonMaskable := nonMaskable, mark := { step := 0, unit := 0, value := 0 } }

/-- A queue full with 240 maskable frames behind 16 others. -/
def full : Dict := { live.dict with queue := List.replicate 16 (event true) ++ event false :: List.replicate 239 (event false) }

theorem witness_EventsAreRaisedAndQueued :
    full.queue.length = 256 ∧ (full.queue.filter (fun g => !g.nonMaskable)).length = 240 ∧
    (event true).nonMaskable = true ∧ (event false).nonMaskable = false ∧ live.dict.queue.length < 256 ∧
    (let c : S8 := { live with ports := { live.ports with a := { live.ports.a with lastGood := some 0 } },
                               dict := { live.dict with queue := [event false] } }
     c.dict.queue.take c.eventRoom = [event false] ∧ c.ports.live .a = true) := by decide +kernel

theorem test_event_limit : (full.enqueue (event true)).queue.length = 256 ∧ (full.enqueue (event true)).count Obj.eventQueueOverflowCount 0 = 1 ∧
    (({ live.dict with queue := List.replicate 240 (event false) } : Dict).enqueue (event false)).queue.length = 240 ∧
    (({ live.dict with queue := List.replicate 240 (event false) } : Dict).enqueue (event true)).queue.length = 241 := by decide +kernel

theorem witness_SettingsAreSavedAndRestored : live.writeArrives (put [1]) Obj.configSave ∧ valueOf [1] = 1 ∧
    live.writeArrives (put [1]) Obj.configRestoreDefaults ∧ live.dict.pending = [] ∧
    savedObject Obj.powerCap = true ∧ (objInfo Obj.powerCap).isSome = true ∧ savedObject Obj.runStartStep = false := by
  unfold S8.writeArrives; decide +kernel

/-! ### Start-up, firmware, steps and runs -/

/-- A module whose starters run. -/
def starting : S8 := { live with boot := { live.boot with state := (List.range 8).map (fun d => (d, 1)), coordinator := 0xFF } }

/-- A module off, with its input good. -/
def off (resetLow pwrGood railsGood : Bool) : S8 :=
  { S8.reset with boot := { Boot.reset with inputGood := true, resetLow := resetLow, pwrGood := pwrGood, railsGood := railsGood } }

theorem test_power_loss : [Instr.modReset, .carrierRailFault, .inputVoltageStop].all (fun i =>
    gives (exec i (at' { live with boot := { live.boot with joinWait := 7 } }))
      (fun c => !c.boot.anyFirmware && c.boot.joinWait = 7 && c.run.lostDies.length = 8)) = true := by decide +kernel

theorem witness_PowerComesAndGoes :
    ((off false false true).boot.inputGood = true ∧ (off false false true).boot.handoverState ≠ 4 ∧
      (off false false true).boot.resetLow = false ∧ (off false false true).boot.pwrGood = false) ∧
    ((off true true true).boot.resetLow = true ∧ (off false true false).boot.railsGood = false ∧
      (off false true false).boot.resetLow = false) ∧
    S8.reset.boot.inputGood = true ∧ ({ Boot.reset with inputGood := false } : Boot).inputGood = false := by decide +kernel

/-- A boot attempt that cannot read its image; a readable one is started where its length, revision and signature are right, whatever
the keys are. -/
theorem witness_FirmwareIsStartedAndLoaded :
    (SMap.getD starting.boot.state (3 : Die) 0 = 1 ∧ starting.boot.attemptSlot 3 = 0 ∧ starting.boot.coordinator = 0xFF ∧
      imageResult (starting.boot.imageBytes 3 0) ≠ 0 ∧ starting.cellarReachable 3 = true ∧ S8.reset.cellarReachable 3 = false) ∧
    live.writeArrives (put (leBytes 4 4096)) Obj.firmwareLoadRequest ∧
    (let c : S8 := { live with boot := { live.boot with loadState := 1, loadLength := 4096 } }
     let p := [6, 0, 0, 0] ++ leBytes 4 16 ++ leBytes 2 208 ++ zeros 6 ++ zeros 208
     let v := view 0x30 0 p
     c.frameArrives (frame 0x30 0 p) v ∧ v.at 0 1 = 6 ∧ c.ports.owner = .a ∧ 0 < v.at 8 2 ∧ v.at 8 2 ≤ 208 ∧
       v.at 4 4 + v.at 8 2 ≤ c.boot.loadLength ∧
       segmentsCover 4096 (c.boot.segments ++ [(v.at 4 4, bytesAt v.payload 16 (v.at 8 2))]) = false ∧
       segmentsCover 208 [(0, bytesAt v.payload 16 (v.at 8 2))] = true ∧ imageResult (zeros 208) ≠ 0) := by
  unfold S8.writeArrives S8.frameArrives; decide +kernel

theorem witness_CoordinatorAndHandover :
    (({ live with boot := { live.boot with coordinator := 0xFF } } : S8).coordinators = [0, 1, 2, 3, 4, 5, 6, 7]) ∧
    (let c : S8 := { live with boot := { live.boot with
       images := [(0, { state := 1, bytes := zeros 4 ++ [9] }), (6, { state := 1, bytes := zeros 4 ++ [8] })] } }
     SMap.getD c.boot.state 3 0 = 3 ∧ c.boot.coordinator < 8 ∧ c.cellarReachable 0 = true ∧ c.cellarReachable 3 = true ∧
       c.boot.release 3 (SMap.getD c.boot.running 3 0) ≠ c.boot.release 0 (SMap.getD c.boot.running 0 0)) ∧
    live.writeArrives (put (leBytes 8 100)) Obj.handoverStep ∧
    (let c : S8 := { live with boot := { live.boot with handoverState := 2, switchedAt := some 1000 }, run := { live.run with step := 1049576 } }
     c.boot.handoverState = 2 ∧ c.boot.switchedAt = some 1000 ∧ 1000 + c.dict.get Obj.handoverConfirmSteps ≤ c.run.step) := by
  unfold S8.writeArrives; decide +kernel

/-- A sheet with nothing in it. -/
def emptySheet : Sheet := Sheet.ofBytes []

/-- A core task of die 0's core W 3, of every track, at phase 0. -/
def task (kind : Nat) : CoreTask :=
  { CoreTask.ofBytes [] with core := { die := 0, half := 0, num := 3 }, kind := kind, laneCount := 96, inputRow := 0, outputRow := 4 }

/-- A module that runs a sheet, lanes 0 to 3 active at phase 0. -/
def running (sh : Sheet) : S8 := { lit with run := { lit.run with running := some sh, active := [(0, [0, 1, 2, 3])] } }

theorem witness_BoundaryClosesAndOpensSteps : live.stepEnds = true ∧ (running emptySheet).stepEnds = false ∧
    ({ live.dict with pending := [(objKey Obj.rindMode 0, 1)] } : Dict).pending.all (fun e => !(live.pendingFails e.1 e.2)) = true := by
  decide +kernel

theorem witness_WorkEndsOrOverruns :
    ((running emptySheet).run.running ≠ none ∧ (running emptySheet).halfServes (halfKey 1 .e) = true ∧
      SMap.find (running emptySheet).run.halfDone (halfKey 1 .e) = none ∧ halfKey 1 .e ∉ (running emptySheet).run.overrun) ∧
    live.run.running = none ∧
    (let c := running { emptySheet with tasks := [task 3] }
     c.coreRuns (coreKey { die := 0, half := .w, num := 3 }) = true ∧ c.cores.xreg (coreKey { die := 0, half := .w, num := 3 }) 0 = 0 ∧
       (task 3).core.key = coreKey { die := 0, half := .w, num := 3 } ∧ 0 ∉ c.run.tasksEnded) := by decide +kernel

theorem witness_RunsAreLoadedAndStarted :
    (let p := [2, 8, 0, 0] ++ leBytes 4 268435248 ++ leBytes 2 208 ++ zeros 6 ++ zeros 208
     let v := view 0x30 0 p
     live.frameArrives (frame 0x30 0 p) v ∧ v.at 0 1 = 2 ∧ live.ports.owner = .a ∧ v.at 1 1 ≤ 8 ∧ 0 < v.at 8 2 ∧ v.at 8 2 ≤ 208 ∧
       v.at 4 4 + v.at 8 2 ≤ 268435456) ∧
    live.writeArrives (put [3]) Obj.runLoadRequest ∧
    (let c : S8 := { live with run := { live.run with loadBuffer := 3, buffers := [(3, { live.run.buffer 3 with state := 2 })] } }
     (c.run.buffer c.run.loadBuffer).state = 2) ∧
    (live.writeArrives (put (leBytes 8 64)) Obj.runStartStep ∧ live.run.step + 64 ≤ valueOf (leBytes 8 64)) ∧
    (live.writeArrives (put (leBytes 8 63)) Obj.runStartStep ∧ valueOf (leBytes 8 63) < live.run.step + 64) := by
  unfold S8.writeArrives S8.frameArrives; decide +kernel

theorem test_sheet_refused : gives (exec .runLoadComplete (at' { live with
    run := { live.run with loadBuffer := 3, buffers := [(3, { live.run.buffer 3 with state := 2 })] } }))
    (fun c => (c.run.buffer 3).state = 4 && (c.run.buffer 3).reason = 1) = true := by decide +kernel

/-! ### Pours, sums and transfers -/

/-- A pour instruction of logical vat 5 of die 0 for slot 3, lane 2, with its vector at row 0 of core W 0. -/
def pour (direction phase slotKind average reduction : Nat) : PourInstr :=
  { PourInstr.ofWord 0 with opcode := 0x50, direction := direction, phase := phase, slotKind := slotKind, average := average, slot := 3,
                            lane := 2, vat := 5, reduction := reduction, tag := 77 }

/-- Reduction 1 of width 8 at phase 0: its tree is the entries after the header at index 0. -/
def reduction1 (carry : Bool) : Reduction :=
  { Reduction.ofBytes [] with number := 1, width := 8, carry := carry, limit := 1000, contributions := 1,
                              outCore := { die := 0, half := 0, num := 9 }, outRow := 20 }

/-- Its tree: a header, the leaf of unit 0 and a root on the mesh, which is the leaf's parent. -/
def tree1 : List TreeEntry :=
  [{ TreeEntry.ofBytes [] with parent := 2 }, { TreeEntry.ofBytes [] with kind := 1, parent := 2 },
   { TreeEntry.ofBytes [] with kind := 3, operands := 1 }]

/-- A sheet that binds vat 5 of die 0, slot 3 of which performs a pour. -/
def pourSheet (p : PourInstr) : Sheet :=
  { emptySheet with plans := [(List.range 128).map (fun i => { kind := 0, reserved := 0, start := 12 + i })],
                    bindings := [{ Binding.ofBytes [] with num := 5, count := 1 }], instrs := [p], reductions := [reduction1 false],
                    trees := tree1 }

/-- A module with a pour posted in the maintenance slot 3 of vat 5. -/
def posted (p : PourInstr) : S8 := { lit with vats := { lit.vats with posted := [(slotKey 5 3, p)] } }

/-- A module that runs that sheet, with vat 5 in service. -/
def pouring (p : PourInstr) : S8 := { running (pourSheet p) with mem := lit.mem.setState 5 2 }

theorem witness_PoursStart :
    (∀ p ∈ [pour 0 0 2 0 0xFFF, pour 0 1 2 0 0xFFF, pour 1 2 2 0 0xFFF],
      (posted p).performed 5 3 = some p ∧ p.slotKind ≠ 0 ∧ 5 ∉ (posted p).vats.unbacked ∧ (posted p).malformedNow 5 p.slot p = false) ∧
    (let p := pour 0 0 0 1 1
     p.kind = .double ∧ (pouring p).performed 5 3 = some p ∧ (pouring p).laneIdle 5 p = false ∧
       (pouring p).malformedNow 5 p.slot p = false) ∧
    ((posted (pour 1 2 2 0 0xFFF)).performed 5 4 = some (pour 1 2 2 0 0xFFF) ∧ (pour 1 2 2 0 0xFFF).slot ≠ 4) ∧
    (pour 0 0 2 0 0xFFF).kind = .high ∧ (pour 0 1 2 0 0xFFF).kind = .low ∧ (pour 1 2 2 0 0xFFF).kind = .reverse ∧
    vatKey (.ct 0 5) = 5 ∧
    ((posted (pour 0 0 2 0 1)).malformedNow 5 3 (pour 0 0 2 0 1) = true ∧ (posted (pour 0 0 2 0 1)).performed 5 3 = some (pour 0 0 2 0 1))
    := by decide +kernel

theorem test_pour_fault : gives (exec (.highPour (.ct 0 5) 3) (at' (posted (pour 0 0 2 0 1))))
    (fun c => SMap.getD c.vats.faultTag 0 0 = 77 && c.dict.count (dieObj Obj.pourFaultCount 0) 0 = 1) = true := by decide +kernel

theorem witness_FetchWindowReadsTheVector :
    (WellFormed (.fetchWindow (.ct 0 5) 3 { words := [], mesh := { corrected := 0, flits := [] } }) = true ∧ (posted (pour 0 0 2 0 0xFFF)).aheadSlot 5 3 = false ∧
      (posted (pour 0 0 2 0 0xFFF)).slotEntry 5 3 = some (pour 0 0 2 0 0xFFF)) ∧
    (live.aheadSlot 5 3 = false ∧ live.slotEntry 5 3 = none) := by decide +kernel

/-- A pour in flight. -/
def flight : Flight := { instr := pour 0 0 2 0 0xFFF, fetched := live.fetchedOf 5 3 (pour 0 0 2 0 0xFFF), physical := 5 }

/-- A sheet whose slot 9 of vat 5 is a reserve slot. -/
def reserveSheet : Sheet :=
  { pourSheet (pour 0 0 0 0 1) with plans := [(List.range 128).map (fun i => { kind := if i = 9 then 1 else 0, reserved := 0, start := 12 + i })] }

/-- A module in which lane 2 waits, after slot 3, for that reserve slot. -/
def reserving : S8 := { running reserveSheet with vats := { lit.vats with waiting := [(5, [(2, 3)])] } }

/-- A held result of lane 2. -/
def held : Hold := { vat := 5, physical := 5, instr := pour 0 0 0 0 1, fetched := flight.fetched, values := [], halved := false, status := 0 }

theorem witness_CodesArriveAndHoldsAreReleased :
    (WellFormed (.pourCodesReachRind (.ct 0 5) 3 (List.replicate 2112 0) 100 []) = true ∨
      WellFormed (.pourCodesReachRind (.ct 0 5) 3 (List.replicate 2048 0) 100 []) = true) ∧
    SMap.find ({ live.vats with flights := [(slotKey 5 3, flight)] } : Vats).flights (slotKey 5 3) = some flight ∧
    (reserving.kindOfSlot 5 9 = 1 ∧ slotKey 5 9 ∉ reserving.vats.decided ∧ reserving.power.stageOf (vatHalf 5) < 2 ∧
      (SMap.getD reserving.vats.waiting 5 []).filter (fun e => e.2 < 9) = [(2, 3)] ∧
      reserving.slotEntry 5 3 = some (pour 0 0 0 0 1)) ∧
    2 ≤ ({ reserving with power := { reserving.power with stage := [(0, 2)] } } : S8).power.stageOf (vatHalf 5) ∧
    (WellFormed (.unrepairedRelease (.ct 0 5) 2 100 []) = true ∧
      (let c : S8 := { reserving with vats := { reserving.vats with releasing := [slotKey 5 2], holds := [held] } }
       slotKey 5 2 ∈ c.vats.releasing ∧ c.vats.holds.find? (fun g => g.vat = 5 ∧ g.instr.lane = 2) = some held)) := by decide +kernel

/-- A lane's high pour in flight that opens its set. -/
def opening : Flight := { instr := pour 0 0 0 0 1, fetched := live.fetchedOf 5 3 (pour 0 0 0 0 1), physical := 5 }

theorem witness_HighPourOpensItsSet :
    (let c := running (pourSheet (pour 0 0 0 0 1))
     correctedIn [] (unitBase (unitOfVat 5)) 0x550000 = [] ∧ badIn c.mem [] (unitBase (unitOfVat 5)) 0x550000 = [] ∧
       opening.instr.direction = 0 ∧ opening.instr.phase = 0 ∧ opening.instr.average = 0 ∧ opening.instr.slotKind = 0 ∧
       opening.instr.accumulate = 0 ∧ opening.instr.reduction ≠ 0xFFF ∧ c.run.running = some (pourSheet (pour 0 0 0 0 1)) ∧
       (pourSheet (pour 0 0 0 0 1)).reduction opening.instr.reduction = some (reduction1 false) ∧
       toBeHeld opening.instr opening.fetched = false ∧ (0 : Nat) < (reduction1 false).width) := by decide +kernel

theorem test_throttled_reserve : gives (exec (.reserveDecision (.ct 0 5) 9)
    (at' { reserving with power := { reserving.power with stage := [(0, 2)] } }))
    (fun c => c.vats.releasing = [slotKey 5 2] && c.vats.granted = []) = true := by decide +kernel

/-- A contribution of one column at the accumulator's grid. -/
def contributionOf (x : Int) : Contribution :=
  { vat := 5, reverse := true, reduction := reduction1 false, lane := 2, exponent := 1, halved := false, poison := false, status := 0, p := [x] }

theorem witness_ReductionTreesAddUp :
    (0 : Nat) < (emptyCols (reduction1 false).width).length ∧ 0 < (contributionOf 5).p.length ∧ 0 < (reduction1 false).width ∧
    (let c := running (pourSheet (pour 0 0 0 0 1))
     (pourSheet (pour 0 0 0 0 1)).reduction 1 = some (reduction1 false) ∧ (reduction1 false).carry = false ∧
       (((pourSheet (pour 0 0 0 0 1)).treeOf (reduction1 false)).map (·.2)).filter (fun t => t.kind = 1 && !(c.passedOver t)) =
         [{ TreeEntry.ofBytes [] with kind := 1, parent := 2 }] ∧
       ({ c with run := { c.run with active := [(0, [2])] } } : S8).run.activeLanes 0 = [2] ∧
       (pourSheet (pour 0 0 0 0 1)).treeEntry (reduction1 false) 2 = some { TreeEntry.ofBytes [] with kind := 3, operands := 1 } ∧
       c.passedOver { TreeEntry.ofBytes [] with kind := 3, operands := 1 } = false ∧ c.run.laneActive 0 2 = true ∧
       ({ c with vats := { c.vats with operands := [(operandKey 1 2 2 0, Partial.zero 8)] } } : S8).operandsOf
         (pourSheet (pour 0 0 0 0 1)) (reduction1 false) 2 2 = some [Partial.zero 8]) ∧
    (accMax - (1 : Int) ≤ accMax ∧ (5 : Int) ∈ (limitResult false [5]).1 ∧ (5 : Int) ∈ (limitResult true [5]).1) := by decide +kernel

theorem test_saturation : ({ value := accMax, poison := false, saturated := false } : Acc).add { value := 1, poison := true, saturated := false } =
    { value := accMax, poison := true, saturated := true } := by decide +kernel

/-- A carried set of lane 2 with one accumulator that is not zero. -/
def carriedSet : Partial := { cols := [{ value := -5, poison := true, saturated := false }] ++ emptyCols 7, status := 3 }

/-- A sheet whose reduction 1 is carried. -/
def carrySheet : Sheet := { pourSheet (pour 0 0 0 0 1) with reductions := [reduction1 true] }

/-- A module that runs it, the set saved. -/
def carrying : S8 :=
  { running carrySheet with
    vats := { lit.vats with carried := [setKey 0 1 2] }
    mem := lit.mem.write (carrySheet.saveAddr (reduction1 true) 0 2) (carriedSet.saveBytes 8) }

theorem witness_SetsAreCarried :
    (carrySheet.reduction 1 = some (reduction1 true) ∧
      carrying.run.laneActive 0 2 = true ∧ carrying.hasPours carrySheet 1 = true ∧ unitKey { die := 0, num := 0 } = 0) ∧
    (setKey 0 1 2 ∈ carrying.vats.carried ∧ carriedSet.cols.length = 8 ∧ carriedSet.status < 2 ^ 16 ∧ carrying.mem.bad = [] ∧
      carriedSet.cols.all (fun a => -accMax ≤ a.value && a.value ≤ accMax) = true) := by decide +kernel

/-- Its saved rows read as they were written. -/
theorem witness_SavedRows : carrying.mem.read (carrySheet.saveAddr (reduction1 true) 0 2) (65 * 512) = carriedSet.saveBytes 8 := by
  have h : (carriedSet.saveBytes 8).length = 65 * 512 := by simp [Partial.saveBytes]
  rw [← h]
  exact Mem.read_write _ _ _

/-- A transfer of rows over a bridge, or a link. -/
def transferOf (bridge : Bool) : Transfer :=
  { Transfer.ofBytes [] with kind := 1, bridge := bridge, destModule := 0, length := 48, dest := { die := 1, half := 0, num := 2 }, destRow := 7 }

/-- A module, number 3 of its run, whose sheet has that transfer. -/
def transferring (bridge : Bool) : S8 :=
  let c := running { emptySheet with transfers := [transferOf bridge] }
  { c with
    run := { c.run with moduleIndex := some (if bridge then 0 else 3) }
    fab := { c.fab with arriving := [(72 * 65536, (zeros 48, 1, true, some 1))] } }

theorem witness_TransfersStartAndArrive :
    ((transferring true).run.sends (transferOf true) = true ∧ 0 ∉ (transferring true).run.transfersSent ∧ (transferOf true).bridge = true) ∧
    ((transferring false).run.sends (transferOf false) = true ∧ (transferOf false).bridge = false) ∧
    (SMap.find (transferring true).fab.arriving (72 * 65536 + 0) = some (zeros 48, 1, true, some 1) ∧
      0 ∉ (transferring true).run.transfersArrived ∧ (transferOf true).kind ≠ 0 ∧
      ({ record := 0, mesh := { corrected := 0, flits := [] } } : Carried).mesh.flits = []) := by decide +kernel

/-! ### Turning -/

/-- A module whose vat 5 of die 0 holds block 0 of wheel 1 version 1, all of whose weights are zero but that of row 0, column 0. -/
def golden : S8 :=
  { lit with
    wheels := { lit.wheels with content := [(5, (2 ^ 32 + 1, 0))] }
    cellar := { lit.cellar with
      golden := [((2 ^ 32 + 1) * 65536, zeros 512 ++ leBytes 4 576 ++ leBytes 4 4203520 ++ zeros 56 ++ zeros 512 ++ [255])] } }

/-- A calibration under way. -/
def calibration : Calibration := { startStep := 0, first := false, spoilt := false, answers := [] }

theorem witness_MeasurementsAndCalibrations :
    (live.boot.pwrGood = true ∧ live.turn.converting = none ∧ live.writeArrives (put [1]) Obj.measStart ∧ valueOf [1] = 1) ∧
    (({ live.turn with converting := some (0, 0, 0) } : Turning).converting ≠ none ∧ (0 : Int) ≤ 1200000000 ∧
      (1200000000 : Int) < 2499961853 ∧ (0 : Int) < 2499961853) ∧
    (WellFormed (.referenceCheck (List.replicate 51 31457)) = true ∧ live.dict.get Obj.measFirmwareHold = 0) ∧
    ((let c : S8 := { golden with mem := golden.mem.setState 5 2 }
      c.calibrationTurn 5 = true ∧ vatHalf 5 ∉ c.cores.starved)) ∧
    live.calibrationDue 5 = false ∧
    (8 ≤ ({ live with turn := { live.turn with
      calibrations := (List.range 8).map (fun k => (k, calibration)) } } : S8).calibrating (unitOfVat 5)) := by
  unfold S8.writeArrives; decide +kernel

/-- 1.2 V is code 31,457 (R148). -/
theorem test_conversion : measCode 1200000000 = 31457 ∧ measCode 0 = 0 ∧ measCode 2500000000 = 65535 := by decide +kernel

/-- A round of a charge-trap vat whose codes are all one. -/
def roundOf (code : BitVec 10) : List ProbeCodes :=
  List.replicate 20 (List.replicate 2144 code) ++ List.replicate 6 (List.replicate 4096 code)

/-- Two rounds whose references disagree. What an accepted calibration asks of the codes is not evaluated here. -/
theorem witness_CalibrationIsRejected : WellFormed (.calibrationComplete (.ct 0 5) (roundOf 500) (roundOf 700)) = true ∧
    SMap.find ({ golden.turn with calibrations := [(5, calibration)] } : Turning).calibrations 5 = some calibration ∧
    calibration.spoilt = false ∧ ({ calibration with spoilt := true } : Calibration).spoilt = true ∧ vatHalf 5 ∉ golden.cores.starved ∧
    golden.mem.committed (unitOfVat 5) = false ∧
    (∃ g, golden.goldenOf 5 = some g ∧
      referencesAgree 5 (golden.roundValues 5 g [] ((roundOf 500).map (fun p => p.map BitVec.toNat)))
        (golden.roundValues 5 g [] ((roundOf 700).map (fun p => p.map BitVec.toNat))) = false) ∧
    (golden.turn.qualityOf 5).retries + 1 < golden.dict.get Obj.calibrationRetryLimit :=
  ⟨by decide +kernel, by decide +kernel, by decide +kernel, by decide +kernel, by decide +kernel, by decide +kernel,
    ⟨_, rfl, by decide +kernel⟩, by decide +kernel⟩

/-- A module with vat 5 in service and its calibration under way. -/
def judged : S8 :=
  { golden with mem := golden.mem.setState 5 2, turn := { golden.turn with calibrations := [(5, calibration)] } }

/-- A pour whose codes are all 512 reads 512 everywhere. -/
theorem codeAt_mid (round : List (List Nat)) (h : ∀ c ∈ round, ∀ x ∈ c, x = 512) (v : List Nat) (hv : v ∈ round) (p : Nat) :
    codeAt v p = 512 := by
  unfold codeAt
  rw [List.getD_eq_getElem?_getD]
  cases hx : v[p]? with
  | none => rfl
  | some x => rw [Option.getD_some, h v hv x (List.mem_of_getElem? hx)]; rfl

theorem foldl_zero {α : Type} (f : Int → α → Int) (l : List α) (h : ∀ x ∈ l, f 0 x = 0) : l.foldl f 0 = 0 := by
  induction l with
  | nil => rfl
  | cons x l ih =>
    rw [List.foldl_cons, h x (List.mem_cons_self ..)]
    exact ih (fun y hy => h y (List.mem_cons_of_mem _ hy))

theorem gainFrom_zero (answers results : List Int) (h : ∀ x ∈ results, x = 0) : usableGain (gainFrom answers results) = true := by
  have hd : (answers.zip results).foldl (fun a e => a + e.1 * e.2) 0 = 0 := by
    apply foldl_zero
    intro e he
    rw [h e.2 (List.of_mem_zip he).2]; simp
  unfold gainFrom usableGain
  simp only [hd, if_true]
  have := Nat.mod_lt (Config.quotientCorner (2 ^ 15 * answers.foldl (fun a x => a + x * x) 0)) (show 0 < 0xC000 by decide)
  simp only [Bool.and_eq_true, decide_eq_true_eq]
  constructor <;> omega

/-- A round of codes of 512 leaves every pair's gain open within the usable range. -/
theorem mid_usable (c : S8) (k : Nat) (g : Golden) (answers : Bytes) (round : List (List Nat)) (h : ∀ x ∈ round, ∀ y ∈ x, y = 512)
    (he : c.mem.entries k = []) (p : Nat) (hp : p < pairCount k) :
    usableGain ((c.roundValues k g answers round).pairGains.getD p 0) = true := by
  have hpg : ∀ f : Nat → Int, (∀ q, usableGain (f q) = true) →
      usableGain (((List.range (pairCount k)).map f).getD p 0) = true := by
    intro f hf
    rw [List.getD_eq_getElem?_getD, List.getElem?_map, List.getElem?_range hp]
    exact hf p
  unfold S8.roundValues
  extract_lets map entries minDrive hs standard offsets first pairGains
  have key : ∀ q, usableGain (if firstReference k ≤ q ∧ q < firstChecksum k then 0x8000
    else gainFrom ((List.range 16).map (fun i => answerAt answers k map i q))
      (standard.map (fun e => roundStage3 k minDrive first e.1 e.2 q + residualTerm entries map e.2 q))) = true := by
    intro q
    split
    · decide
    · apply gainFrom_zero
      intro x hx
      obtain ⟨e, hmem, rfl⟩ := List.mem_map.mp hx
      have h1 : e.1 ∈ round := List.mem_of_mem_drop (List.mem_of_mem_take (List.of_mem_zip hmem).1)
      have hc := codeAt_mid round h e.1 h1
      have ho : ∀ q, offsets.getD q 0 = 0 := by
        intro q
        rw [List.getD_eq_getElem?_getD, List.getElem?_map]
        rcases (List.range (pairCount k))[q]? with _ | q'
        · rfl
        · simp only [Option.map_some, Option.getD_some]
          unfold roundOffset
          rw [foldl_zero _ _ (fun x hx => by
            rw [codeAt_mid round h x (List.mem_of_mem_take hx), codeAt_mid round h x (List.mem_of_mem_take hx)]; rfl)]
          rfl
      have hr : residualTerm entries map e.2 q = 0 := by
        unfold residualTerm
        rw [show entries = [] from he]; rfl
      have hfo : first.offsets = offsets := rfl
      rw [hr, Int.add_zero]
      unfold roundStage3
      simp only [hc, hfo, ho]
      simp [saturated, rneDiv]
  split <;> exact hpg _ key

/-- What a round agrees with: itself. -/
theorem same_round_agrees (k : Nat) (a : RoundValues) : disagreeing k a a = [] ∧ referencesAgree k a a = true := by
  constructor
  · unfold disagreeing
    rw [List.filter_eq_nil_iff]
    intro p _
    simp
  · simp [referencesAgree, gainsAgree]

/-- Two equal rounds of codes of 512: the calibration is accepted. -/
theorem witness_CalibrationIsAccepted (g : Golden) (a : RoundValues)
    (ha : a = judged.roundValues 5 g calibration.answers ((roundOf 512).map (fun p => p.map BitVec.toNat))) :
    WellFormed (.calibrationComplete (.ct 0 5) (roundOf 512) (roundOf 512)) = true ∧
    SMap.find judged.turn.calibrations 5 = some calibration ∧ calibration.spoilt = false ∧ vatHalf 5 ∉ judged.cores.starved ∧
    judged.mem.committed (unitOfVat 5) = false ∧ judged.turn.rewriteOf 5 = none ∧ judged.mem.vatState 5 = 2 ∧
    disagreeing 5 a a = [] ∧ referencesAgree 5 a a = true ∧
    ∀ p < dataColumns 5 + mapSlots 5, usableGain (a.pairGains.getD p 0) = true := by
  refine ⟨by decide +kernel, by decide +kernel, rfl, by decide +kernel, by decide +kernel, by decide +kernel, by decide +kernel,
    (same_round_agrees 5 a).1, (same_round_agrees 5 a).2, fun p hp => ?_⟩
  rw [ha]
  refine mid_usable _ _ _ _ _ ?_ (by decide +kernel) p (lt_of_lt_of_le hp (by decide))
  have hr : ((roundOf 512).map (fun p => p.map BitVec.toNat)).all (fun x => x.all (· = 512)) = true := by decide +kernel
  simpa only [List.all_eq_true, decide_eq_true_eq] using hr

/-- The module holds the vat's golden data. -/
theorem witness_JudgedIsHeld : (judged.goldenOf 5).isSome = true := by decide +kernel

/-- A localisation of vat 5 in a stage. -/
def localising (stage : Nat) : S8 :=
  { golden with turn := { golden.turn with
    localisations := [(5, { stage := stage, group := 0, columns := [], blocks := [], waiting := [] })] } }

theorem witness_FaultsAreRepaired :
    (SMap.find (localising 1).turn.localisations 5 = some { stage := 1, group := 0, columns := [], blocks := [], waiting := [] } ∧
      3 * ((localising 1).turn.qualityOf 5).normError < 1) ∧
    (SMap.find (localising 2).turn.localisations 5 = some { stage := 2, group := 0, columns := [], blocks := [], waiting := [] } ∧
      (224 : Nat) ≤ 224 ∧ vatHalf 5 ∉ golden.cores.starved) ∧
    (∃ g, golden.goldenOf 5 = some g ∧
      (0, 0) ∈ SMap.getD ({ golden.turn with absorbing := [(5, [(0, 0), (1, 0)])] } : Turning).absorbing 5 [] ∧
      2 ≤ golden.turningSlotsLeft 5 ∧ ((100 : Int) - 0 - 256 * g.target 1 0).natAbs ≤ 128 ∧
      (128 < ((40000 : Int) - 0 - 256 * g.target 0 0).natAbs ∧ 256 * (g.target 0 0).natAbs < ((40000 : Int) - 0).natAbs ∧
        (if 256 * g.target 0 0 < (40000 : Int) - 0 then (40000 : Int) - 256 * g.target 0 0 else 0 + 256 * g.target 0 0) ≤ 40960) ∧
      (128 < ((0 : Int) - 0 - 256 * g.target 0 0).natAbs ∧ ((0 : Int) - 0).natAbs ≤ 256 * (g.target 0 0).natAbs)) ∧
    (SMap.getD ({ golden.turn with moving := [(5, [(7, 2050)])] } : Turning).moving 5 []).find? (fun e => e.1 = 7) = some (7, 2050) ∧
    ({ golden with turn := { golden.turn with programming := [5] } } : S8).engineServes 5 = true ∧
    (∃ g place, golden.goldenOf 5 = some g ∧ SMap.find golden.wheels.content 5 = some (2 ^ 32 + 1, 0) ∧
      golden.poolPlace 5 g = some place ∧ WellFormed (.programmeVerifyDone (.ct 0 5) [] 0) = true) :=
  ⟨by decide +kernel, by decide +kernel, ⟨_, rfl, by decide +kernel⟩, by decide +kernel, by decide +kernel,
    ⟨_, (0, 0, min 128 (ceilDiv 0 64 + golden.dict.get Obj.rindResidualReserve)), rfl, by decide +kernel, by decide +kernel, by decide +kernel⟩⟩

/-- A rewrite of service number 5 that is requested. -/
def rewrite5 : Rewrite :=
  { service := 5, source := 5, spare := 5, state := 1, tries := 0, tried := [], fault := false, unitCause := false, content := 0 }

/-- A module with that rewrite due, all of whose spare numbers of the half but the first are unbacked. -/
def rewriting : S8 :=
  { golden with
    turn := { golden.turn with rewrites := [(5, rewrite5)] }
    vats := { golden.vats with unbacked := (spareNumbers 0 false).drop 1 } }

theorem witness_VatsAreRewritten :
    (live.writeArrives (put (leBytes 2 5)) (dieObj Obj.rewriteRequest 0) ∧ live.vats.physical 5 = 5 ∧ live.dieServes 0 = true ∧
      isServiceVat 5 = true ∧ 5 ∉ live.vats.unbacked ∧ SMap.find live.turn.rewrites 5 = none) ∧
    SMap.find rewriting.turn.rewrites 5 = some rewrite5 ∧
    (rewriting.rewriteDue 5 = some rewrite5 ∧ rewriting.dieServes 0 = true ∧
       (rewriting.turn.programming.filter (fun p => vatHalf p = vatHalf 5)).length < rewriting.dict.get Obj.rewriteConcurrency ∧
       vatHalf 5 ∉ rewriting.cores.starved ∧ (rewriting.goldenOf 5).isSome = true ∧
       SMap.find rewriting.wheels.content 5 = some (2 ^ 32 + 1, 0)) := by unfold S8.writeArrives; decide +kernel

/-- The spare that is left may be taken, if the test record calls it healthy. -/
theorem witness_SpareIsTaken (k : Nat) (hk : (spareNumbers 0 false).head? = some k) (h : Config.vatBad k = false) :
    ∃ g, rewriting.goldenOf 5 = some g ∧ rewriting.rewriteSpares rewrite5 g = [k] := by
  have e : k = 1024 := by
    have : (spareNumbers 0 false).head? = some 1024 := by decide +kernel
    exact (Option.some.inj (this.symm.trans hk)).symm
  subst e
  refine ⟨_, rfl, ?_⟩
  have f : ((spareNumbers 0 false).filter (fun l => !(rewriting.vats.unbacked.contains l))).map rewriting.vats.physical = [1024] := by
    decide +kernel
  unfold S8.rewriteSpares S8.spareVats
  rw [show vatHalf rewrite5.source = 0 from rfl, show isCulture rewrite5.source = false from rfl, f, List.filter_cons]
  simp only [h]
  decide +kernel

/-! ### Cores -/

/-- Core W 3 of die 0. -/
def core3 : Core := { die := 0, half := .w, num := 3 }

/-- A module whose core 3 holds values in registers 1 and 2. -/
def holding (a b : Nat) : S8 :=
  { lit with cores := { lit.cores with x := [(32 * 3 + 1, BitVec.ofNat 64 a), (32 * 3 + 2, BitVec.ofNat 64 b)] } }

/-- A row transfer from row 0 to row 1 of the core's own scratchpad. -/
def rowTransfer (status : Option Nat) : RowTransfer :=
  { source := scratchRow 3 0, dest := scratchRow 3 1, rows := 1, status := status, machineMode := true }

theorem witness_RowTransfersAndCoreMoves :
    (let c := holding (scratchRow 3 0) (scratchRow 3 1)
     c.coreRuns 3 = true ∧ coreKey core3 = 3 ∧ c.cores.xreg 3 1 = scratchRow 3 0 ∧ c.cores.xreg 3 2 = scratchRow 3 1 ∧
       field (scratchRow 3 1) 0 48 = scratchRow 3 1 ∧ field (scratchRow 3 1) 48 10 + 1 = 1 ∧ c.cores.freeTags 3 ≠ [] ∧
       c.xferPermitted 3 (rowTransfer none) = true) ∧
    (({ lit.cores with transfers := (List.range 16).map (fun t => (16 * 3 + t, rowTransfer none)) } : Cores).freeTags 3 = []) ∧
    (let c : Cores := { (holding 5 0).cores with transfers := [(16 * 3 + 5, rowTransfer (some 0))] }
     c.xreg 3 1 = 5 ∧ SMap.find c.transfers (16 * 3 + 5) = some (rowTransfer (some 0)) ∧ (5 : Nat) < 16) ∧
    (let c : Cores := { (holding 5 0).cores with transfers := [(16 * 3 + 5, rowTransfer none)] }
     SMap.find c.transfers (16 * 3 + 5) = some (rowTransfer none) ∧ SMap.find c.xferStalls 3 = none ∧
       badIn lit.mem [] (rowTransfer none).source 512 = [] ∧ (rowTransfer none).rows = 1) ∧
    SMap.find ({ lit.cores with tagStalls := [(3, (5, rowTransfer none))] } : Cores).tagStalls 3 = some (5, rowTransfer none) ∧
    (live.writeArrives (put (leBytes 2 (64 * 32 + 32))) (dieObj Obj.coreMoveRequest 0) ∧
      live.moveRefusal 0 (field (valueOf (leBytes 2 (64 * 32 + 32))) 6 6) 32 = 2) := by unfold S8.writeArrives; decide +kernel

/-- An expert group of core 3, with one expert whose slots are those of vat 5. -/
def group1 : ExpertGroup :=
  { ExpertGroup.ofBytes [] with experts := 1, topK := 1, core := { die := 0, half := 0, num := 3 }, deadline := 900, firstReduction := 1,
                                capacity := [1] }

/-- A sheet with that group. -/
def expertSheet : Sheet :=
  { pourSheet (pour 0 0 0 0 1) with bindings := [{ Binding.ofBytes [] with num := 5, count := 1, expert := true }], groups := [group1] }

theorem witness_PoursArePostedAndPatched :
    (let p := pour 0 0 2 0 0xFFF
     let c := holding (p.toWord % 2 ^ 64) (p.toWord / 2 ^ 64)
     c.coreRuns 3 = true ∧ PourInstr.ofWord (c.cores.xreg 3 1 + 2 ^ 64 * c.cores.xreg 3 2) = p ∧ p.target 0 = 5 ∧
       p.malformedForm c.run.running 0 2 (c.kindAfter 5 p.slot) p.slot false = false ∧ vatHalf 5 = coreHalfKey core3 ∧ 5 ∉ c.vats.unbacked ∧
       c.statePermits (c.vats.physical 5) p = true ∧ c.kindOfSlot 5 p.slot = 2 ∧ c.windowBegun 5 p.slot 0 = false ∧
       ({ c with vats := { c.vats with windows := [slotKey 5 3] } } : S8).windowBegun 5 p.slot 0 = true ∧
       c.vats.ahead.contains (slotKey 5 3) = false ∧
       (let d : S8 := { c with vats := { c.vats with windows := [slotKey 5 3], ahead := [slotKey 5 3] } }
        d.vats.ahead.contains (slotKey 5 3) = true ∧ d.windowBegun 5 p.slot 0 = true) ∧
       (running (pourSheet (pour 0 0 0 0 1))).kindOfSlot 5 3 ≠ 2) ∧
    (let a := 3 * 256
     let b := 2
     expertSheet.groups = [group1] ∧ group1.core.key = 3 ∧ (5 : Nat) < group1.deadline ∧ field a 0 8 < group1.experts ∧
       (expertSheet.expertSlots group1 (field a 0 8)).any (fun x => x.2.contains (field a 8 7)) = true ∧
       expertSheet.patchMalformed group1 (field a 0 8) (field a 8 7) (field b 0 7) (field b 16 10) = false) := by decide +kernel

theorem witness_AccumulatorSets : (lit.cores.accSetKey core3 0 = some (setKey 0 0 0) ∧ (lit.vats.set (setKey 0 0 0)).opened = false) ∧
    (({ lit.vats with sets := [(setKey 0 0 0, { opened := true, restored := false, cols := [], status := 0 })] } : Vats).set
      (setKey 0 0 0)).opened = true ∧
    (∃ a ∈ lit.cores.accRows core3 0, badIn ({ lit.mem with bad := [a / 16] } : Mem) [] a 512 ≠ []) ∧
    ∀ a ∈ lit.cores.accRows core3 0, badIn lit.mem [] a 512 = [] := by
  refine ⟨by decide +kernel, by decide +kernel, ⟨(lit.cores.accRows core3 0).headD 0, by decide +kernel, by decide +kernel⟩,
    by decide +kernel⟩

theorem witness_CoreInstructions : lit.coreRuns (coreKey core3) = true ∧ (4 : Fin 32).val % 4 = 0 ∧ (5 : Fin 32).val % 4 ≠ 0 ∧
    (lit.cores.accGroup (coreKey core3) 4).all (fun a => !a.poison) = true ∧
    (field 0x0000700B 0 7 = 0x0B ∧ ¬(field 0x0000700B 12 3 = 0 ∧ field 0x0000700B 25 7 ≤ 1) ∧
      ¬(field 0x0000700B 12 3 = 3 ∧ field 0x0000700B 25 7 ≤ 1) ∧ field 0x0000700B 12 3 ≠ 1 ∧ field 0x0000700B 12 3 ≠ 2) ∧
    (field 0x0800002B 0 7 = 0x2B ∧ 3 < field 0x0800002B 25 7) := by decide +kernel

theorem test_illegal : gives (exec (.illegalCustom core3 false 0x0000700B) (at' lit))
    (fun c => SMap.find c.cores.traps 3 = some (2, 0x700B) && c.dict.count Obj.illegalCustomCount 0 = 1) = true := by decide +kernel

/-! ### Core tasks -/

/-- A RUNNING sequence of one prompt token, identifier 7, that entered phase 0 on lane 2 in step 0, with `left` tokens to produce. -/
def sequence (left : Nat) : Sequence :=
  { live.newSequence emptySheet 0 .a { Request.ofView (view 1 0 []) with promptLength := 1, maxNew := left } none none with
    state := .running, place := some (2, 0), prompt := [(0, 7)], entered := 1,
    entriesAt := [{ step := 0, entry := 0, lane := 2, culturePlace := none }] }

/-- A sheet of one phase whose task on core W 3 has a kind, with the reduction it rounds, a transfer and an attention record. -/
def taskSheet (kind : Nat) : Sheet :=
  { emptySheet with
    header := { emptySheet.header with phases := 1 },
    tasks := [task kind],
    reductions := [{ reduction1 false with outCore := { die := 0, half := 0, num := 3 }, outRow := 0 }],
    transfers := [{ transferOf false with source := { die := 0, half := 0, num := 3 }, lane := 2 }],
    groups := [group1],
    attention := [{ AttentionRecord.ofBytes [] with heads := 1 }] }

/-- A module that runs it, the sequence in slot 0. -/
def working (kind : Nat) : S8 := { running (taskSheet kind) with serve := { lit.serve with slots := [(0, sequence 5)] } }

theorem witness_VectorsAndRounding :
    ((working 0).taskWorks 0 0 2 (taskSheet 0) (task 0) ∧ (working 0).mem.badRows (task 0).core ((task 0).inRow 5 2) 5 = [] ∧
      (taskSheet 0).vectorRowsOf (task 0) ≤ 5) ∧
    ((working 1).taskWorks 0 1 2 (taskSheet 1) (task 1) ∧ ((taskSheet 1).resultAt (task 1)).isSome = true ∧
      (working 1).mem.badRows (task 1).core ((task 1).inRow (resultRows 8) 2) (resultRows 8) = []) := by
  unfold S8.taskWorks; decide +kernel

theorem witness_RoutinesAndStaging :
    (working 2).taskWorks 0 2 2 (taskSheet 2) (task 2) ∧
    ((working 6).taskWorks 0 6 2 (taskSheet 6) (task 6) ∧ (working 6).enteringToken 2 = some 7) ∧
    ((working 9).taskWorks 0 9 2 (taskSheet 9) (task 9) ∧
      ((taskSheet 9).transfers.find? (fun x => x.kind = 1 && x.source = (task 9).core && x.lane = 2)).isSome = true) := by
  unfold S8.taskWorks; decide +kernel

theorem witness_RowsAvoid : rowsAvoid (task 9).core 4 1 (scratchRow 3 5) := by unfold rowsAvoid; decide +kernel

/-- No row outside memory's bad words: whatever number of rows a routine reads, they decode. -/
theorem witness_RowsDecode (core : CoreRef) (row n : Nat) : lit.mem.badRows core row n = [] := by
  unfold Mem.badRows
  exact List.flatMap_eq_nil_iff.2 (fun i _ => rfl)

/-- Blocks of exponents 10 and 12 align at the larger; the poison scale poisons (R45). -/
theorem test_align : (buildPourVector [Block.zero, Block.zero] [] 8 8).1.exponent = 0 ∧
    (buildPourVector [{ Block.zero with scale := 0xFF }] [] 8 8).1.poison = true := by decide +kernel

theorem witness_RoutingAndSampling :
    ((taskSheet 5).groups[0]? = some group1 ∧
      (taskSheet 5).tasks.find? (fun t => t.kind = 5 && t.core = group1.core && t.phase = group1.phase) = some (task 5) ∧
      (working 5).dieServes group1.core.die = true) ∧
    ((∀ e ∈ [0, 1], SMap.getD ({ load := [], placed := [], overflow := 0, dropped := 0 } : Routing).load e 0 ≤ group1.capacity.getD e 0)) ∧
    (let c := working 4
     c.run.task 0 = some (taskSheet 4, task 4) ∧ (taskSheet 4).samples = true ∧ 3 ∉ c.cores.unbacked ∧
       c.dueOnLane (taskSheet 4) 2 0 = some (0, sequence 5, { step := 0, entry := 0, lane := 2, culturePlace := none }) ∧
       (sequence 5).ended = false ∧ (sequence 5).lastToken.map (fun x => x.2) ≠ some ((sequence 5).base + 0 + 1)) ∧
    (let c := running { emptySheet with tasks := [task 255] }
     c.run.firmwareTasks 0 = true ∧ c.halfServes 0 = true) := by decide +kernel

/-- With one choice and one expert of capacity 1, the second lane's choice is dropped (R198). -/
theorem test_routing : (((({ load := [], placed := [], overflow := 0, dropped := 0 } : Routing).lane group1 0 [0]).lane group1 1 [0]).dropped) = 1 := by
  decide +kernel

/-- A partial of a head with a number of records. -/
def headOf (count : Nat) : HeadPartial := { m := 0x3F800000, l := (0x3F800000, 0), v := List.replicate 512 (0, 0), count := count }

theorem witness_AttentionWalksAndCombines :
    (let c := working 0
     (taskSheet 0).attention.find? (fun a => a.layer = 0) = some { AttentionRecord.ofBytes [] with heads := 1 } ∧
       c.walkIndex (taskSheet 0) 0 2 = some (0, 1) ∧ 3 ∈ c.stripeList ∧ c.run.laneActive 0 2 = true ∧
       c.attn.opened 3 < 64) ∧
    (let c : S8 := { working 0 with attn := { (working 0).attn with
       partials := [(partialKey 0 2 0, { heads := [headOf 2], status := 0 }), (partialKey 0 2 1, { heads := [headOf 0], status := 1 }),
         (partialKey 0 2 28, { heads := [headOf 2], status := 0 }), (partialKey 0 2 29, { heads := [headOf 0], status := 1 })] } }
     let a : AttentionRecord := { AttentionRecord.ofBytes [] with heads := 1 }
     (∀ e ∈ halves, SMap.find c.attn.walks ((0 * 128 + 2) * 16 + e) = none) ∧ c.dieServes (a.nodeCore 0).die = true ∧
       c.dieServes (a.nodeCore 14).die = true ∧ (a.nodeCore 0).key ∉ c.cores.unbacked ∧ (a.nodeCore 14).key ∉ c.cores.unbacked ∧
       c.sourceServes (nodeOperands 0).1 = true ∧ c.sourceServes (nodeOperands 0).2 = true ∧ c.sourceServes (nodeOperands 14).1 = true ∧
       c.sourceServes (nodeOperands 14).2 = true ∧
       (SMap.find c.attn.partials (partialKey 0 2 (nodeOperands 0).1)).isSome = true ∧
       (SMap.find c.attn.partials (partialKey 0 2 (nodeOperands 0).2)).isSome = true ∧
       (SMap.find c.attn.partials (partialKey 0 2 (nodeOperands 14).1)).isSome = true ∧
       (SMap.find c.attn.partials (partialKey 0 2 (nodeOperands 14).2)).isSome = true) ∧
    (headOf 0).count = 0 ∧ (headOf 2).count ≠ 0 := by decide +kernel

/-! ### Ripening, the trier and tests -/

/-- A job's request: job 1, culture 9, an update every 64 steps, a part after `publish` of them, in steps from 64 on. -/
def jobRequest (publish : Nat) : Bytes :=
  [1, 0] ++ leBytes 2 9 ++ zeros 4 ++ leBytes 4 0x3F000000 ++ leBytes 4 0x3F000000 ++ zeros 4 ++ leBytes 4 64 ++ leBytes 4 publish ++
    zeros 4 ++ leBytes 8 64 ++ zeros 24

/-- A job in a state. -/
def job (state publish : Nat) : Job := { Job.ofRequest (jobRequest publish) with state := state, part := 3 }

/-- A module with that job. -/
def ripening (state : Nat) : S8 := { lit with ripen := { lit.ripen with jobs := [(1, job state 2)] } }

theorem witness_JobsAreDefined :
    (live.writeArrives (put (jobRequest 2)) Obj.ripenJobRequest ∧ (jobRequest 2).length = 64 ∧ leAt (jobRequest 2) 0 1 = 1 ∧
      SMap.find live.ripen.jobs 1 = none ∧ (job 5 2).live = false ∧ (job 1 2).inRange 0 = true ∧ (job 1 2).inRange 1 = false) ∧
    (live.writeArrives (put [1]) Obj.ripenJobStop ∧ valueOf [1] = 1) ∧ ({ job 2 2 with stopping := true } : Job).stopping = true ∧
    (live.writeArrives (put ([1, 0] ++ leBytes 2 3 ++ leBytes 8 64)) Obj.ripenPublishStep ∧
      SMap.find (ripening 4).ripen.jobs 1 = some (job 4 2) ∧ (job 4 2).part = 3 ∧
      leAt ([1, 0] ++ leBytes 2 3 ++ leBytes 8 64 : Bytes) 4 8 = (ripening 4).run.step + 64 ∧
      leAt ([1, 0] ++ leBytes 2 3 ++ leBytes 8 63 : Bytes) 4 8 < (ripening 4).run.step + 64 ∧ (job 3 2).state ≠ 4) := by
  unfold S8.writeArrives; decide +kernel

/-- A culture version whose place is verified. -/
def part : Culture :=
  { cultureId := 9, version := 3, state := 3, reason := 0, place := some 0, pins := 0, shape := 0, force := false, length := 0, sha := [],
    segments := [], waited := false, part := true, roles := [], targets := [], tries := 0, verified := true }

theorem witness_UpdatesAndParts :
    ((job 2 2).updateDue 128 = true ∧ (job 2 2).update.diverged = false ∧ (job 2 2).update.updates % (job 2 2).publishUpdates ≠ 0 ∧
      (job 2 1).update.updates % (job 2 1).publishUpdates = 0 ∧ (ripening 2).nextVersion 9 ≤ 0xFFFF) ∧
    ({ job 2 2 with master := [(0, 0x7F800000)] } : Job).update.diverged = true ∧
    (0 ∈ ({ job 2 2 with gradient := [(0, 0x3F800000)] } : Job).keys ∧ 1 ∉ ({ job 2 2 with gradient := [(0, 0x3F800000)] } : Job).keys) ∧
    (({ lit.cultures with table := [part] } : Cultures).find ((job 3 2).keyOf 3) = some part) := by decide +kernel

/-- An update at learning rate 0.5 takes half a gradient of 1 from a master weight of 1 (R391). -/
theorem test_update : ({ job 2 2 with master := [(0, 0x3F800000)], gradient := [(0, 0x3F800000)] } : Job).update.master = [(0, 0x3F000000)] := by
  decide +kernel

/-- A sheet with a kind-7 task on a ripening track 2, and the task that samples its logits. -/
def ripenSheet (samples : Bool) : Sheet :=
  { taskSheet 7 with tasks := [task 7] ++ (if samples then [task 4] else []),
                     tracks := [{ Track.ofBytes [] with number := 2, span := 1, ripen := true, stride := 1, residues := 1 },
                       { Track.ofBytes [] with number := 3, span := 1, companion := true }] }

/-- A module that runs it for job 1, a step after the loss was formed where `after`. -/
def training (samples after : Bool) : S8 :=
  let c := running (ripenSheet samples)
  { c with
    run := { c.run with carrying := [(2, 0)], step := if after then 1 else 0 }
    serve := { c.serve with slots := [(0, { sequence 5 with req := { (sequence 5).req with ripenJob := 1 } })] }
    ripen := { c.ripen with
      jobs := [(1, job 2 2)],
      passes := [{ job := 1, slot := 0, handle := 65536, lane := 2, entry := 0, sampling := 0, target := 3 }] } }

theorem witness_ForwardTasksKeepActivations :
    ((training false false).taskWorks 0 7 2 (ripenSheet false) (task 7) ∧ (job 2 2).runs = true ∧
      ((ripenSheet false).track 2).map (·.ripen) = some true ∧ (ripenSheet false).readsLogits (task 7) = false ∧
      SMap.find (training false false).run.carrying (128 * 0 + 2) = some 0 ∧
      (SMap.find (training false false).serve.slots 0).map (fun q => q.req.ripenJob) = some 1) := by unfold S8.taskWorks; decide +kernel

theorem witness_LossAndGradient :
    ((training true false).taskWorks 0 7 2 (ripenSheet true) (task 7) ∧ (ripenSheet true).readsLogits (task 7) = true ∧
      ((training true false).ripen.passes.find? (fun p => p.job = 1 && p.lane = 2 && p.sampling = (training true false).run.step)).isSome
        = true) ∧
    ((training false true).taskWorks 0 7 3 (ripenSheet false) (task 7) ∧
      (((ripenSheet false).track 3).map (·.ripen)).getD false = false ∧
      ((training false true).ripen.passes.find? (fun p => p.job = 1 && p.lane + 1 = 3 &&
        p.phase (ripenSheet false) (training false true).run.step = some 0)).isSome = true) := by unfold S8.taskWorks; decide +kernel

/-- A trier record of vat 0 whose vector has exponent 5. -/
def sample : TrierRecord :=
  { step := 0, vat := 0, physical := 0, lane := 0, form := 0, status := 0, content := 0, generation := 0, rows := 5 :: zeros 2559,
    results := [], tolerance := 0, cores := [], computed := [], probes := [], reference := [], verdict := 0 }

/-- A module that runs a sheet with a checking task on core 3, whose unit 0 has retained that result. -/
def sampling : S8 :=
  let c := running { emptySheet with tasks := [task 8] }
  { c with
    mem := c.mem.setState 0 2
    trier := { c.trier with results := [(0, sample)], records := [(recordKey 0 4, sample)] }
    wheels := { golden.wheels with content := [(0, (2 ^ 32 + 1, 0))] }
    cellar := golden.cellar }

theorem witness_SamplesAreChecked :
    (sampling.run.running ≠ none ∧ 0 ∉ sampling.vats.unitsRetired ∧
      sampling.run.step % sampling.dict.get Obj.trierInterval = sampleOffset (sampling.dict.get Obj.trierInterval) 0 ∧
      nextOf (sampling.rotationOf 0) (SMap.find sampling.trier.rotation 0) = some 0 ∧
      sampling.retained 0 (sampling.run.step / sampling.dict.get Obj.trierInterval % 96) = some sample ∧
      sampling.freeRecord (vatHalf 0) = some 0 ∧ sampling.sampleable 0 sample = true ∧ sampling.retained 1 0 = none) ∧
    (SMap.find sampling.trier.records (recordKey (halfKey 0 .w) 4) = some sample ∧ sampling.mayCompute sample 3 = true ∧
      (sampling.goldenOf sample.physical).isSome = true) ∧
    (0 < sampling.dict.get Obj.trierVerdictSteps) := by decide +kernel

theorem witness_DigestsAreRecomputed :
    (let u : Wheel := { wheelId := 1, version := 1, state := 2, reason := 0,
                        manifest := { wheelId := 1, version := 1, shardCount := 1, blockCount := 1, vocabulary := 0, shards := [] },
                        placement := [{ block := 0, vat := 5, lostDie := 0xFF }], verified := [0], fetching := [], ready := [0], targets := [],
                        tries := [], digest := [] }
     u.needed = [0] ∧ golden.shardHeld u 0 = true) ∧ golden.wheels.table = [] := by decide +kernel

/-- A vat in service that holds nothing golden does not match. -/
theorem witness_TablesDiffer (c : S8) (h : SMap.find c.wheels.content 5 = none) : c.tablesMatch 5 = false := by
  simp [S8.tablesMatch, h]

/-- A pack of one vat kernel. -/
def pack1 : Bytes := [1, 0, 1, 0] ++ zeros 508 ++ ([1, 0, 0, 0] ++ leBytes 4 576 ++ leBytes 4 2560 ++ leBytes 4 100) ++ zeros 48

/-- Core 3 of half W of die 0 in a CoreState, its latest test long ago. -/
def testing (state : Nat) : S8 :=
  { lit with cores := { lit.cores with states := [(3, state)] }, run := { lit.run with step := 2 ^ 40 } }

theorem witness_PacksAndVats :
    (live.writeArrives (put (leBytes 4 4096 ++ leBytes 4 3 ++ zeros 4)) Obj.testPackLoadRequest ∨
      live.writeArrives (put (leBytes 4 4096 ++ leBytes 4 3)) Obj.testPackLoadRequest) ∧
    (let c : S8 := { live with trier := { live.trier with packState := 1, packId := 3, packLength := 4096 } }
     let p := [4, 0, 0, 0] ++ leBytes 4 3 ++ leBytes 4 16 ++ leBytes 2 208 ++ zeros 2 ++ zeros 208
     let v := view 0x30 0 p
     c.frameArrives (frame 0x30 0 p) v ∧ v.at 0 1 = 4 ∧ c.ports.owner = .a ∧ v.at 4 4 = c.trier.packId ∧ v.handle = 0 ∧ 0 < v.at 12 2 ∧
       v.at 12 2 ≤ 208 ∧ v.at 8 4 + v.at 12 2 ≤ 4096 ∧
       segmentsCover 4096 (c.trier.segments ++ [(v.at 8 4, bytesAt v.payload 16 (v.at 12 2))]) = false) ∧
    (let c : S8 := { live with trier := { live.trier with pack := some pack1 } }
     WellFormed (.vatTest (.ct 0 5) 0 (List.replicate 2144 512) (List.replicate 2144 0)) = true ∧ 0 < leAt c.trier.activePack 2 2 ∧
       (kernelEntry c.trier.activePack 0).kind = 1 ∧ unitOfVat 5 ∉ c.vats.unitsRetired ∧ pairCount 5 = 2144) := by
  unfold S8.writeArrives S8.frameArrives; decide +kernel

/-- Which cores and routers of a module are sound is its test record's to say. -/
theorem witness_CoresAreTested :
    ((testing 0).testDue 3 = true ∧ (testing 0).coreState 3 = 0 ∧ (testing 1).coreState 3 = 1 ∧ (testing 0).dieServes 0 = true) ∧
    (let c : S8 := { testing 0 with trier := { lit.trier with
       cores := [(3, { lit.trier.coreTest 3 with due := true, deferral := 64 })] } }
     (c.trier.coreTest 3).due = true ∧ (c.trier.coreTest 3).overdue = false ∧ 64 ≤ (c.trier.coreTest 3).deferral) ∧
    ((testing 3).coreState 3 = 3 ∧ (testing 3).cores.moves = [] ∧ (testing 3).cores.logicalOf 3 = some 3 ∧
      (({ emptySheet with tasks := [task 3] } : Sheet).namesCore 3 = true)) ∧
    (let c (spare : Nat) : S8 := { testing 0 with cores := { lit.cores with
       states := (List.range 36).map (fun i => (i, if i = 32 then spare else 0)) } }
     (c 1).halfTests 0 = false ∧ (c 1).healthySpares 0 ≠ [] ∧ (c 0).halfTests 0 = false ∧ (c 0).healthySpares 0 = [] ∧
       (c 3).halfTests 0 = true) ∧
    ((testing 0).halfServes (halfKey 0 .w) = true ∧ lit.nodeAt 0 0 5 = false) := by decide +kernel

/-! ### Links -/

/-- A flit of a kind on lane 0. -/
def flitOf (kind : Nat) (payload : Bytes) : FlitView :=
  { kind := kind, seq := 0, transfer := 0, flit := 0, last := false, replay := false, payload := padTo 48 payload }

/-- A barrier flit. -/
def barrier (direction : Nat) : Bytes :=
  BarrierFlit.payload { direction := direction, overrun := false, lostChild := false, step := 0, tick := 900, lostChildren := 0, closed := [4],
                        sender := 1, announce := [(2, 5)] }

/-- A module of a run, with a child on lane 0 and, where it is no root, a parent. -/
def inRun (root : Bool) : S8 :=
  running { emptySheet with barrier := [{ BarrierRecord.ofBytes [] with parent := if root then 0xFFFF else 0, children := 1, childLane := [0] }] }

theorem witness_FlitsAreReceived :
    (lit.flitArrives (flit (flitOf kindBulk [7])) (flitOf kindBulk [7]) ∧ (lit.fab.lane 0).expected = 0 ∧
      (lit.fab.lane 0).discarding = false ∧ SMap.find lit.fab.arriving (0 * 65536 + 0) = none) ∧
    (let c : S8 := { lit with fab := lit.fab.setLane 0 { lit.fab.lane 0 with discarding := true, missed := true, expected := 2 } }
     let v : FlitView := { flitOf kindBulk [7] with replay := true }
     c.flitArrives (flit v) v ∧ v.seq ≠ (c.fab.lane 0).expected ∧ (c.fab.lane 0).discarding = true ∧ (c.fab.lane 0).missed = true) ∧
    (lit.flitArrives (flit { flitOf kindBulk [7] with seq := 1 }) { flitOf kindBulk [7] with seq := 1 }) ∧
    flitData ((flit (flitOf kindBulk [])).raw.set 0 1 |>.set 1 1) = none ∧
    (lit.flitArrives (flit (flitOf kindCredit (leBytes 4 5 ++ zeros 2 ++ [3, 8]))) (flitOf kindCredit (leBytes 4 5 ++ zeros 2 ++ [3, 8])) ∧
      (lit.fab.lane 0).queue = [] ∧ field (leAt (flitOf kindCredit (leBytes 4 5 ++ zeros 2 ++ [3, 8])).payload 6 1) 0 1 = 1 ∧
      field (leAt (flitOf kindCredit (leBytes 4 5 ++ zeros 2 ++ [3, 8])).payload 6 1) 1 1 = 1 ∧ (lit.fab.lane 8).state ≠ 3) ∧
    (lit.flitArrives (flit (flitOf kindToken (zeros 2 ++ [4, 0]))) (flitOf kindToken (zeros 2 ++ [4, 0])) ∧
      leAt (flitOf kindToken (zeros 2 ++ [4, 0])).payload 4 8 = lit.run.step ∧
      leAt (flitOf kindToken (zeros 4 ++ [1])).payload 4 8 ≠ lit.run.step) ∧
    SMap.find ({ lit.fab with arriving := [(5, ([], 2, false, some 4)), (6, ([], 2, true, some 2))] } : Fabric).arriving (0 * 65536 + 5) =
      some ([], 2, false, some 4) := by unfold S8.flitArrives; decide +kernel

/-- One wrong symbol in a word of a flit is corrected and counted (R251, R397). -/
theorem test_flit_corrected : gives (exec (.bulkFlitRx { lane := 0, raw := (flit (flitOf kindBulk [7])).raw.set 9 99 }) (at' lit))
    (fun c => (c.fab.lane 0).expected = 1 && c.dict.count Obj.flitCorrectedCount 0 = 1) = true := by decide +kernel

theorem witness_BarrierAndTickFlitsAreTaken :
    (lit.flitArrives (flit (flitOf kindBarrier (barrier 0))) (flitOf kindBarrier (barrier 0)) ∧
      (BarrierFlit.ofPayload (flitOf kindBarrier (barrier 0)).payload).direction = 0 ∧
      (BarrierFlit.ofPayload (flitOf kindBarrier (barrier 0)).payload).step = (inRun true).run.step ∧
      (BarrierFlit.ofPayload (flitOf kindBarrier (barrier 0)).payload).closed = [4] ∧ (inRun true).run.barrier.isSome = true ∧
      ((inRun true).run.barrier.map (·.lanes)) = some [0]) ∧
    ((BarrierFlit.ofPayload (flitOf kindBarrier (barrier 1)).payload).direction = 1 ∧ (inRun false).run.isRoot = false ∧
      (inRun false).run.release = none) ∧
    ((BarrierFlit.ofPayload (flitOf kindBarrier (barrier 2)).payload).direction = 2 ∧ lit.fab.isolated = false ∧
      ({ lit.run with lostDies := List.range 8 } : Run).lostDies.length = 8) ∧
    (live.tickLanes = [] ∧ 5 ∈ lit.tickLanes ∧ (∀ m ∈ lit.tickLanes, (lit.fab.lane m).lit = true) ∧ (lit.fab.lane 5).control = []) ∧
    (∃ l ∈ [0], l / 9 = (0 : LinkLane).val / 9) ∧
    (lit.flitArrives (flit (flitOf kindTick (zeros 12 ++ [1]))) (flitOf kindTick (zeros 12 ++ [1])) ∧ lit.hasTickParent = false ∧
      ({ lit with dict := lit.dict.store Obj.tickParentLane 0 } : S8).hasTickParent = true ∧
      leAt (flitOf kindTick (zeros 12 ++ [1])).payload 12 8 ≠ 0) := by unfold S8.flitArrives; decide +kernel

theorem witness_LanesTrainAndFail :
    ((4 : Fin 9).val ≠ (5 : LinkLane).val % 9 ∧ (5 : Fin 9).val = (5 : LinkLane).val % 9 ∧
      (trunkLanes 0).all (fun n => n = 5 || !(live.fab.lane n).lit) = true) ∧
    ((lit.fab.lane 5).state ≠ 3 ∧ lit.fab.laneChanges = [] ∧ (5 : Nat) ≠ 8 ∧
      (let c := lit.fab.setLane 8 { lit.fab.lane 8 with state := 1 }
       (c.lane 8).state = 1 ∧ (c.lane 8).replaces = 0) ∧
      (let c := lit.fab.setLane 8 { lit.fab.lane 8 with state := 2, replaces := 3 }
       (c.lane 8).state = 2 ∧ (c.lane 8).replaces ≠ 6 ∧ (c.lane 8).replaces = 2 + 1) ∧ 5 ∉ lit.fab.unbacked ∧ (8 : LinkLane).val % 9 = 8) ∧
    (let c : Fabric := { live.fab with lanes := [(4, { LinkLaneState.fresh with state := 0, peerModule := 7, peerDie := 2 })] }
     (trunkLanes 0).all (fun n => n = 5 || !(c.lane n).lit || ((c.lane n).peerModule = 7 && (c.lane n).peerDie = 2)) = true) ∧
    ((2 : Fin 10).val ∉ lit.fab.bridgesFailed ∧
      SMap.getD lit.fab.groupsUsed 2 0 + (lit.fab.groupDue.filter (fun b => b = 2)).length = 0) := by decide +kernel

theorem test_lane_fails : gives (exec (.laneFail 5) (at' { lit with fab := lit.fab.setLane 8 { lit.fab.lane 8 with state := 1 } }))
    (fun c => c.fab.laneChanges = [(5, 8)] && (c.fab.lane 5).state = 3 && c.dict.count Obj.laneFailCount 0 = 1) = true := by decide +kernel

/-! ### Serving -/

/-- The run of the worked example of R311: 180 phases, two entry steps, one class I track of stride 192. -/
def admitSheet : Sheet :=
  { emptySheet with
    header := { emptySheet.header with
      format := 1, runModules := 1, wheelId := 1, lanes := 96, entrySteps := 2, wheelVersion := 1, phases := 180, lastPhase := 179
      strideI := 192, strideS := 768, startStep := 7331840 }
    tracks := [{ number := 17, kind := 0, span := 1, ripen := false, companion := false, stride := 192, residues := 192, dieMask := 0xFF },
               { number := 18, kind := 1, span := 1, ripen := false, companion := false, stride := 768, residues := 768, dieMask := 0xFF }] }

/-- A wheel version that is READY. -/
def readyWheel : Wheel :=
  { wheelId := 1, version := 1, state := 2, reason := 0,
    manifest := { wheelId := 1, version := 1, shardCount := 0, blockCount := 0, vocabulary := 16, shards := [] },
    placement := [], verified := [], fetching := [], ready := [], targets := [], tries := [], digest := [] }

/-- A module that serves it, in step 7,340,032. -/
def admitting : S8 :=
  { running admitSheet with
    run := { (running admitSheet).run with step := 7340032, origin := 7331840, moduleIndex := some 0 }
    wheels := { lit.wheels with table := [readyWheel] } }

/-- The payload of a request of a class for a prompt, with a pause key. -/
def asks (cls promptLength key : Nat) : Bytes :=
  leBytes 4 5 ++ leBytes 1 cls ++ [0, 1, 0] ++ leBytes 4 0 ++ leBytes 4 0 ++ leBytes 4 promptLength ++ leBytes 4 400 ++ leBytes 4 0 ++
    leBytes 4 0x3F800000 ++ leBytes 8 7 ++ List.replicate 32 0xFF ++ leBytes 4 0 ++ leBytes 8 key

/-- The image of a sequence that held one position, its digest that of its bytes. -/
def pausedImage : PauseImage :=
  let fields := [1, 0, 0, 0, 2, 0, 0, 0, 0, 0, 0, 1, 1] ++ zeros 99
  { header := fields ++ sha256 (fields ++ zeros 32), frames := [] }

/-- A stored entry. -/
def storedEntry : PauseEntry :=
  { nonce := 9, expiry := 0xFFFFFFFF, length := 2, pages := 1, layerTag := admitSheet.layerTag, state := 2, image := pausedImage, stripe := 0 }

/-- The module with that image under entry 3. -/
def resuming : S8 := { admitting with cellar := { admitting.cellar with index := [(3, storedEntry)] } }

theorem witness_RequestsAreAcceptedOrRefused :
    (admitting.frameArrives (frame 1 0 (asks 2 200000 0)) (view 1 0 (asks 2 200000 0)) ∧
      admitting.requestDecides (frame 1 0 (asks 2 200000 0)) (view 1 0 (asks 2 200000 0)) ∧
      admitting.run.running = some admitSheet ∧
      (admitting.goodFrame .a).decideRequest 1 ((admitting.goodFrame .a).pick (admitting.goodFrame .a).freeSlots)
        (Request.ofView (view 1 0 (asks 2 200000 0))) (view 1 0 (asks 2 200000 0)) = .accept none) ∧
    (admitting.frameArrives (frame 1 0 (asks 3 1 0)) (view 1 0 (asks 3 1 0)) ∧
      admitting.requestDecides (frame 1 0 (asks 3 1 0)) (view 1 0 (asks 3 1 0)) ∧
      (admitting.goodFrame .a).decideRequest 1 ((admitting.goodFrame .a).pick (admitting.goodFrame .a).freeSlots)
        (Request.ofView (view 1 0 (asks 3 1 0))) (view 1 0 (asks 3 1 0)) = .refuse 0x09) := by
  unfold S8.frameArrives S8.requestDecides; decide +kernel

/-- The request that resumes it. -/
def resumeView : FrameView := view 6 0 (asks 2 200000 (pauseKey 3 9))

theorem resuming_named : (resuming.goodFrame .a).cellar.named (Request.ofView resumeView).pauseKey = some (3, storedEntry) := by
  have h : (Request.ofView resumeView).pauseKey = pauseKey 3 9 := by decide +kernel
  rw [h]; rfl

theorem resuming_content :
    (resuming.goodFrame .a).contentMissing admitSheet (Request.ofView resumeView) (some storedEntry) = false := by
  have h : (pausedImage.wheelId = admitSheet.header.wheelId ∧ pausedImage.wheelVersion = admitSheet.header.wheelVersion) ∧
    (Request.ofView resumeView).wheelVersion = 0 := by decide +kernel
  have a : imageAllowed admitSheet (Request.ofView resumeView) storedEntry = true := by
    simp [imageAllowed, storedEntry, h]
  have b : ((Request.ofView resumeView).wheelId ≠ admitSheet.header.wheelId) = False ∧
    (resuming.goodFrame .a).wheelReady admitSheet.header.wheelId admitSheet.header.wheelVersion = true ∧
    ((resuming.goodFrame .a).cultureFor (Request.ofView resumeView) (some storedEntry)).isNone = false := by
    refine ⟨by simp; decide +kernel, by decide +kernel, by decide +kernel⟩
  simp [S8.contentMissing, a, h, b]

theorem witness_RequestsAreAcceptedOrRefused_resume :
    resuming.frameArrives (frame 6 0 (asks 2 200000 (pauseKey 3 9))) resumeView ∧
      resuming.requestDecides (frame 6 0 (asks 2 200000 (pauseKey 3 9))) resumeView ∧
      resuming.run.running = some admitSheet ∧
      (resuming.goodFrame .a).cellar.named (Request.ofView resumeView).pauseKey = some (3, storedEntry) ∧
      (resuming.goodFrame .a).decideRequest 6 ((resuming.goodFrame .a).pick (resuming.goodFrame .a).freeSlots)
        (Request.ofView resumeView) resumeView = .accept none := by
  refine ⟨by unfold S8.frameArrives; decide +kernel, by unfold S8.requestDecides; decide +kernel, rfl, resuming_named, ?_⟩
  have a : (resuming.goodFrame .a).badRequest 6 (Request.ofView resumeView) resumeView = false := by decide +kernel
  have b : (resuming.goodFrame .a).run.running = some admitSheet := rfl
  have c : (resuming.goodFrame .a).cellar.expired storedEntry = false := by decide +kernel
  have d : ¬ 8192 ≤ (resuming.goodFrame .a).serve.slots.length := by decide +kernel
  have e : storedEntry.length = 2 := rfl
  have f : (Request.ofView resumeView).promptLength = 200000 ∧ (Request.ofView resumeView).maxNew = 400 := by decide +kernel
  have g : (resuming.goodFrame .a).placeRequest admitSheet (Request.ofView resumeView) 200001 200402 (some storedEntry) = .accept none := by
    decide +kernel
  have h : (resuming.goodFrame .a).powerRefuses admitSheet none = false := by decide +kernel
  have k : (resuming.goodFrame .a).framesFit (addFrames [] []) = true := by decide +kernel
  have m := resuming_named
  have n := resuming_content
  generalize resuming.goodFrame .a = x at *
  simp [S8.decideRequest, a, b, c, d, e, f, g, h, k, m, n, S8.framesOf]

/-- The worked example of R311: first entry, e_p and F_0 of a prompt of 1,000 tokens on residue 100, and FirstTokenTicks. -/
theorem test_promise :
    (let t := admitSheet.tracks.getD 0 (Track.ofBytes [])
     let p := admitting.promise admitSheet 1000 16 16 t 100
     p.first = 7340189 ∧ p.last = 7352100 ∧ p.firstToken = 7352281 ∧ p.track.stride = 192 ∧
       (p.firstToken - 7340032 + 1) * 65536 + 2786 = 802818786) := by decide +kernel

theorem witness_PromiseMeetsItsResidue :
    100 < (admitSheet.tracks.getD 0 (Track.ofBytes [])).stride ∧ admitting.run.origin ≤ admitting.run.step := by decide +kernel

/-- The acceptance the example's unit answers. -/
theorem test_acceptance :
    (let p := admitting.promise admitSheet 1000 16 16 (admitSheet.tracks.getD 0 (Track.ofBytes [])) 100
     let a := admitting.acceptance 3 1 291 (Request.ofView (view 1 0 (asks 0 1000 0))) (some p)
     a.firstTokenTicks = 802818786 ∧ a.track = 17 ∧ a.residue = 100 ∧ a.fill = 16 ∧ a.stride = 192) := by decide +kernel

/-- A request kept from the port before, for RequestId 5. -/
def keeping : S8 :=
  { admitting with ports := { admitting.ports with kept := [(.a, refusalRecord 0 1 5 0 9)] } }

theorem witness_RequestsAreScreened :
    (admitting.frameArrives (frame 4 0 []) (view 4 0 []) ∧ (view 4 0 []).type = 4 ∧ admitting.ports.owner = .a ∧
      admitting.ports.justMoved = false ∧ ({ admitting.ports with owner := .b } : Ports).owner ≠ .a ∧
      ({ admitting.ports with movedAt := some 0, cycle := 1 } : Ports).justMoved = true ∧ 8 ≤ (8 : Fin 16).val) ∧
    (keeping.frameArrives (frame 1 0 (asks 0 1 0)) (view 1 0 (asks 0 1 0)) ∧
      keeping.ports.kept.find? (fun k => k.1 = .a && k.2.requestId = (view 1 0 (asks 0 1 0)).at 0 4) =
        some (.a, refusalRecord 0 1 5 0 9)) := by unfold S8.frameArrives; decide +kernel

/-- A sequence in slot 0, of handle 8,192. -/
def serving (q : Sequence) : S8 := { admitting with serve := { admitting.serve with slots := [(0, q)] } }

/-- One parked, its image under entry 3. -/
def parked : S8 :=
  { admitting with
    serve := { admitting.serve with slots := [(0, { sequence 5 with state := .parked, entry := some 3 })] }
    cellar := { admitting.cellar with index := [(3, { storedEntry with layerTag := 0 })] } }

theorem witness_CancelAndPauseTakeEffect :
    ((serving (sequence 5)).frameArrives (frame 4 8192 (leBytes 4 5)) (view 4 8192 (leBytes 4 5)) ∧
      (serving (sequence 5)).requestDecides (frame 4 8192 (leBytes 4 5)) (view 4 8192 (leBytes 4 5)) ∧
      handleRequestOk (view 4 8192 (leBytes 4 5)) = true ∧
      (serving (sequence 5)).serve.named (view 4 8192 (leBytes 4 5)).handle = some (0, sequence 5) ∧
      (sequence 5).state = .running ∧ (sequence 5).completion = none ∧ (sequence 5).pauseAsked = none) ∧
    ((serving (sequence 5)).frameArrives (frame 5 8192 (leBytes 4 5)) (view 5 8192 (leBytes 4 5)) ∧
      (serving (sequence 5)).requestDecides (frame 5 8192 (leBytes 4 5)) (view 5 8192 (leBytes 4 5)) ∧
      (serving (sequence 5)).serve.named (view 5 8193 (leBytes 4 5)).handle = none) := by
  unfold S8.frameArrives S8.requestDecides; decide +kernel

theorem spareTaken_nil (c : Cellar) (h : c.spareUsed = []) : c.spareTaken = 0 := by
  simp [Cellar.spareTaken, h, SMap.getD, List.range_succ]

theorem room_of (s : S8) (q : Sequence) (used : Nat) (h : s.cellar.spareUsed = []) (u : s.cellar.used = used)
    (f : 16384 * 64 * pagesField (s.pauseNeed q).1 + s.dict.get Obj.cellarForcedReserve * 2 ^ 30 ≤ Config.pauseBytes - used)
    (e : 8192 + (s.pauseNeed q).2 ≤ s.cellar.entriesFree) : s.cellarFull q = false := by
  simp only [S8.cellarFull, Cellar.free, spareTaken_nil _ h, u, Bool.or_eq_false_iff, decide_eq_false_iff_not]
  omega

theorem room_serving : (serving (sequence 5)).cellarFull (sequence 5) = false :=
  room_of _ _ 0 rfl (by decide +kernel) (by decide +kernel) (by decide +kernel)

theorem room_parked : parked.cellarFull { sequence 5 with state := .parked, entry := some 3 } = false :=
  room_of _ _ (64 * 16384) rfl (by decide +kernel) (by decide +kernel) (by decide +kernel)

theorem witness_CancelAndPauseTakeEffect_parked :
    parked.frameArrives (frame 5 8192 (leBytes 4 5)) (view 5 8192 (leBytes 4 5)) ∧
      parked.requestDecides (frame 5 8192 (leBytes 4 5)) (view 5 8192 (leBytes 4 5)) ∧
      parked.serve.named 8192 = some (0, { sequence 5 with state := .parked, entry := some 3 }) ∧
      (SMap.find parked.cellar.index 3).isSome = true ∧ storedEntry.state ≠ 1 := by
  unfold S8.frameArrives S8.requestDecides; decide +kernel

/-- Prompt token 3 at index 0. -/
def promptPayload (token : Nat) : Bytes := [1, 0, 0, 0] ++ leBytes 4 0 ++ leBytes 2 1 ++ [0, 0] ++ leBytes 4 token

theorem witness_FramesBringPromptTokens :
    (live.frameArrives (frame 0x3F 0 []) (view 0x3F 0 [])) ∧
    (((frame 0x3F 0 []).raw.set 0 1 |>.set 1 1).length = 256 ∧ live.portAnswers .a = true ∧
      frameData ((frame 0x3F 0 []).raw.set 0 1 |>.set 1 1) = none) ∧
    (let raw := UpFrame.raw { type := 0x3F, handle := 0, flags := 0, payload := [] } 9 0
     raw.length = 256 ∧ ((frameData raw).map (fun d => (FrameView.ofData d).cycle)) = some 9 ∧ live.ports.cycle = 0) ∧
    ((serving (sequence 5)).frameArrives (frame 0x30 8192 (promptPayload 3)) (view 0x30 8192 (promptPayload 3)) ∧
      (view 0x30 8192 (promptPayload 3)).at 0 1 = 1 ∧ (serving (sequence 5)).ports.owner = .a ∧
      (serving (sequence 5)).serve.named (view 0x30 8192 (promptPayload 3)).handle = some (0, sequence 5) ∧
      (sequence 5).state = .running ∧ (view 0x30 8192 (promptPayload 3)).at 8 2 = 1 ∧
      (view 0x30 8192 (promptPayload 3)).at 4 4 + 1 ≤ (sequence 5).req.promptLength ∧
      (serving (sequence 5)).run.running = some admitSheet ∧
      3 < ((serving (sequence 5)).goodFrame .a).vocabulary admitSheet ∧ ((serving (sequence 5)).goodFrame .a).vocabulary admitSheet ≤ 16 ∧
      (sequence 5).completion = none ∧ admitting.serve.named 8192 = none) := by
  unfold S8.frameArrives; decide +kernel

theorem test_bad_prompt : gives (exec (.bulkPromptTokens (frame 0x30 8192 (promptPayload 16))) (at' (serving (sequence 5)))) (fun c =>
    (((SMap.find c.serve.slots 0).bind (·.completion)).map (fun r => (r.outcome, r.error))) = some (3, 3)) = true := by decide +kernel

theorem witness_CyclesTurn :
    live.writeArrives (put [1]) Obj.ownerRelease ∧ valueOf (put [1]).value = 1 ∧ live.portAnswers .a = true ∧
      ({ live.ports with releaseAsked := true } : Ports).moves = true ∧ live.ports.moves = false ∧
      ({ live.ports with cycle := 100, b := { live.ports.b with lastGood := some 99 } } : Ports).moves = true := by
  unfold S8.writeArrives; decide +kernel

/-! ### The cellar -/

/-- An entry whose image is being written. -/
def writing : PauseEntry := { storedEntry with state := 1, layerTag := 0 }

/-- A module whose slot 0 holds a sequence, with an entry under number 3. -/
def withImage (q : Sequence) (e : PauseEntry) : S8 :=
  { serving q with cellar := { admitting.cellar with index := [(3, e)], restores := [(0, 64)] } }

theorem witness_ImagesCarryTheirDigest : (zeros 10240).length = 10240 := List.length_replicate

theorem witness_PauseImagesReachTheCellar :
    (let q := { sequence 5 with state := .parked, entry := some 3, entriesAt := [] }
     SMap.find (withImage q writing).serve.slots 0 = some q ∧ (withImage q writing).mayWrite q writing = true) ∧
    (let q := { sequence 5 with state := .pausing, entry := some 3, entriesAt := [] }
     q.entry = some 3 ∧ SMap.find (withImage q writing).cellar.index 3 = some writing ∧ (withImage q writing).mayWrite q writing = true) ∧
    (admitSheet.stillFlying (sequence 5) 0).isEmpty = false := by decide +kernel

theorem witness_PauseKeysNameStoredImages : 3 < 2 ^ 16 ∧ 0 < 9 ∧ 9 < 2 ^ 32 ∧ (admitting.cellar.named (pauseKey 3 9)).isNone = true ∧
    (({ admitting.cellar with index := [(3, { writing with state := 2 })] } : Cellar).named (pauseKey 3 9)).isSome = true := by decide +kernel

theorem witness_RestoresEnd :
    (let q := { sequence 5 with entry := some 3, restoring := true }
     let e := { storedEntry with state := 3, layerTag := 0 }
     0 ∈ (withImage q e).cellar.reading ∧ (withImage q e).cellarsAway.length < 2 ∧ (withImage q e).blocksSuffice e.image = true ∧
       SMap.find (withImage q e).serve.slots 0 = some q ∧
       SMap.find (withImage q e).cellar.index 3 = some e ∧ sha256 e.image.stored = e.image.digest ∧ (withImage q e).run.layersHeld = 0) ∧
    sha256 { pausedImage with header := pausedImage.header.set 5 1 }.stored ≠ { pausedImage with header := pausedImage.header.set 5 1 }.digest := by
  decide +kernel

/-- A stored entry of one page, from the first stripe of the Pause partition on. -/
def paged : PauseEntry :=
  { nonce := 9, expiry := 5, length := 2, pages := 1, layerTag := 0, state := 2, image := { header := zeros 16384, frames := [] }
    stripe := firstPauseStripe }

theorem paged_holds : paged.holds firstPauseStripe = true := by
  simp [-List.reduceReplicate, PauseEntry.holds, PauseImage.pages, PauseImage.stored, paged, zeros, ceilDiv, bytesAt, padTo_length]

/-- With no block to take, a restore into a layer goes on. -/
theorem witness_BlocksAreShort (s : S8) (image : PauseImage) (h : s.run.layersHeld = 1) (b : s.attn.blocks = 0) :
    s.blocksSuffice image = false := by
  simp [S8.blocksSuffice, h, b]

theorem witness_LayerIsHeld :
    ({ admitting.run with
      running := some { admitSheet with attention := [{ AttentionRecord.ofBytes [] with heads := 1 }] } } : Run).layersHeld = 1 ∧
    ({ admitting.attn with blocks := 0 } : Attention).blocks = 0 := by decide +kernel

theorem witness_StripesAreKeptSound :
    (live.cellarReachable 2 = true ∧ 2 ∉ SMap.getD live.cellar.narrow 7 [] ∧ live.missingPages 7 2 = []) ∧
    ({ live with cellar := { live.cellar with lostPages := [(firstPauseStripe, [4])] } }.missingPages firstPauseStripe 2 ≠ [] ∧
      ({ live with cellar := { live.cellar with index := [(3, paged)] } } : S8).serve.ownerOf 3 = none ∧ (2 : Nat) < 3 ∧ (64 : Nat) < 65) ∧
    2 ≤ ({ live with power := { live.power with tripped := [(1, 0), (2, 0)] } } : S8).cellarsAway.length ∧
    (let c : S8 := { live with cellar := { live.cellar with narrow := [(7, [4])] } }
     SMap.getD c.cellar.narrow 7 [] = [4] ∧ 4 ∉ c.cellarsAway ∧ SMap.getD c.cellar.lostPages 7 [] = []) := by decide +kernel

theorem test_scrub_rewrites : gives (exec (.scrubPass 7 3 0 .readable) (at' live)) (fun c => c.cellar.written = 18432 * 8) = true ∧
    gives (exec (.scrubPass 7 2 64 .readable) (at' live)) (fun c => c.cellar.written = 0) = true := by decide +kernel

theorem witness_SecondsExpireKeys :
    live.boot.anyFirmware = true ∧ S8.reset.boot.anyFirmware = false ∧ SMap.sorted live.cellar.index = true ∧
    (let c : S8 := { live with cellar := { live.cellar with index := [(3, { writing with state := 2, expiry := 5 })], seconds := 4 } }
     c.writeArrives (put (leBytes 8 (pauseKey 3 9) ++ leBytes 4 60)) Obj.pauseKeyExtend ∧
      (c.cellar.named (pauseKey 3 9)).isSome = true ∧ c.cellar.expired { writing with state := 2, expiry := 5 } = false ∧
      ({ c.cellar with seconds := 5 } : Cellar).expired { writing with state := 2, expiry := 5 } = true ∧ c.cellar.named 4 = none) := by
  unfold S8.writeArrives; decide +kernel

theorem test_image_expires :
    gives (exec .cellarSecond (at' { live with cellar := { live.cellar with index := [(3, { writing with state := 2, expiry := 5 })], seconds := 4 } }))
      (fun c => c.cellar.index = [] && c.cellar.seconds = 5 && c.dict.count Obj.pauseExpiredCount 0 = 1) = true := by decide +kernel

/-! ### Wheels -/

/-- A manifest of wheel 2 version 1: one shard of one block. Its signature, made outside, is under the key of exponent 1 and modulus
2^3072 − 1, with a salt of zeros. -/
def manifestBytes : Bytes :=
  [1, 0, 2, 0] ++ leBytes 4 1 ++ leBytes 4 1 ++ leBytes 4 1 ++ leBytes 4 16 ++ zeros 44 ++ leBytes 4 4207616 ++ zeros 36 ++ leBytes 384
    0xbcfd037e8f38111b6cb9c2f803eb3b7e5872c7f662e643823d389c8535afc1a3bde91574c16602e9173970dd3853202170f44b6ed7ed19c56ad985b34441b8221fc117b0449308b51f5f8dd9805516321c1dd73adbe3a6180608d2ce086ef4ccf84afcaa84eeaac67e4a0f837fb17eb3f56b6810d15e5b697fa43d0afe1ee5fc6ce40a89f3679c5498b2f022bd84a565d1a446ff437931f20160da43a6d6ec863a71d0331130f7ae718c6419884f342ac3b174b52fc7a30380c95ebbad4a5b2a22a5b0e6769639f6e3ebb20ddbbae02e6c04daf1d4016061e53e3ef891bf86755e8e5ba43294be79a1f49cb228ba9eb2bef209065c8d1cea0d9212ef34fa8276cc287ce613377c32afaa6ee59f353a1b34c62e5e0e41ffbc1beed2bc0493d2bdbf4a7241679ee0c23a35c55e912db1578307960997def84dbc7daf8161b0577e3542c328a698d8fa72a5d74adc0ea3257a823c26ce7e5bc40683e872f6385cbb767e0db6ea63ebf1985addfcb6c89e639a8bb02d4d9c4398264e10a630a8f53e

/-- A placement table that puts block 0 on vat 5. -/
def placementBytes : Bytes := [2, 0, 0, 0] ++ leBytes 4 1 ++ leBytes 4 1 ++ zeros 4 ++ leBytes 4 0 ++ leBytes 2 5 ++ [0xFF, 0]

/-- A module that knows the publisher, with a manifest and a placement table written. -/
def offered (manifest : Bytes) : S8 :=
  { live with
    dict := { live.dict with blobs := [(objKey Obj.publisherKeys 0, List.replicate 384 0xFF ++ [1, 0, 0, 0])] }
    wheels := { live.wheels with manifest := manifest, placement := placementBytes } }

/-- A wheel version in a state. -/
def wheelOf (id state : Nat) : Wheel := { readyWheel with wheelId := id, state := state }

theorem witness_WheelsAreLoadedAndUnloaded :
    ((offered manifestBytes).writeArrives (put [1, 0, 0, 0, 2, 0, 0, 0]) Obj.wheelLoadRequest ∧
      field (valueOf [1, 0, 0, 0, 2, 0, 0, 0]) 32 8 = 2 ∧ field (valueOf [1, 0, 0, 0, 2, 0, 0, 0]) 0 32 = 1 ∧ (offered manifestBytes).loadReason 2 1 = 0) ∧
    ((offered []).writeArrives (put [1, 0, 0, 0, 2, 0, 0, 0]) Obj.wheelLoadRequest ∧ (offered []).loadReason 2 1 = 2) ∧
    (let c : S8 := { admitting with wheels := { admitting.wheels with table := [readyWheel, wheelOf 2 1, wheelOf 3 2] } }
     c.writeArrives (put [1, 0, 0, 0, 2, 0, 0, 0]) Obj.wheelUnload ∧ c.wheels.find (field (valueOf [1, 0, 0, 0, 2, 0, 0, 0]) 0 40) = some (wheelOf 2 1) ∧
      c.wheels.find (field (valueOf [1, 0, 0, 0, 1, 0, 0, 0]) 0 40) = some readyWheel ∧ c.run.usesWheel readyWheel = true ∧
      c.wheels.find (field (valueOf [1, 0, 0, 0, 3, 0, 0, 0]) 0 40) = some (wheelOf 3 2) ∧ c.run.usesWheel (wheelOf 3 2) = false) := by
  unfold S8.writeArrives; decide +kernel

/-- A fetch from the first source. -/
def fetch (idle : Bool) (segments : List (Nat × Bytes)) : ShardFetch := { segments := segments, source := 0, wait := 1, idle := idle }

/-- A wheel version that loads, one shard of four bytes with a digest. -/
def loadingWheel (digest : Bytes) (f : ShardFetch) : Wheel :=
  { wheelOf 2 1 with manifest := { readyWheel.manifest with shards := [(4, digest)] }, fetching := [(0, f)] }

/-- A module that loads it from trunk 0 and then the control node. -/
def fetching (digest : Bytes) (f : ShardFetch) : S8 :=
  { lit with
    dict := { lit.dict with blobs := [(objKey Obj.wheelSources 0, [0, 1, 0, 2])] }
    wheels := { lit.wheels with table := [loadingWheel digest f] } }

/-- Two bytes of shard 0 of wheel 2 from offset 2. -/
def shardPayload : Bytes := [3, 2, 0, 0] ++ leBytes 4 0 ++ leBytes 4 2 ++ leBytes 2 2 ++ zeros 2 ++ [3, 4]

/-- A flit of Transfer 0xFFFF. -/
def shardFlit (payload : Bytes) : FlitView := { flitOf kindBulk payload with transfer := 0xFFFF }

theorem witness_ShardsAreFetched :
    ((fetching [] (fetch false [])).frameArrives (frame 0x30 0 shardPayload) (view 0x30 0 shardPayload) ∧
      (view 0x30 0 shardPayload).at 0 1 = 3 ∧ (fetching [] (fetch false [])).ports.owner = .a ∧
      (fetching [] (fetch false [])).wheels.fetcher ((view 0x30 0 shardPayload).at 4 4)
        (fun u g => decide (u.wheelId = (view 0x30 0 shardPayload).at 1 1) && !g.idle) = some (loadingWheel [] (fetch false []), fetch false []) ∧
      (view 0x30 0 shardPayload).at 12 2 = 2 ∧
      (view 0x30 0 shardPayload).at 8 4 + 2 ≤ (loadingWheel [] (fetch false [])).shardLength 0) ∧
    ((fetching [] (fetch false [])).flitArrives (flit (shardFlit (zeros 8 ++ [1, 2, 3, 4]))) (shardFlit (zeros 8 ++ [1, 2, 3, 4])) ∧
      ((fetching [] (fetch false [])).fab.lane 0).expected = 0 ∧ ((fetching [] (fetch false [])).fab.lane 0).discarding = false ∧
      field (leAt (shardFlit (zeros 8 ++ [1, 2, 3, 4])).payload 0 4) 28 4 = 0 ∧
      (fetching [] (fetch false [])).wheels.fetcher 0 (fun _ g => !g.idle && (fetching [] (fetch false [])).dict.sources[g.source]? =
        some (256 + 0 / 9)) = some (loadingWheel [] (fetch false []), fetch false [])) := by
  unfold S8.frameArrives S8.flitArrives; decide +kernel

/-- A module that stores shard 0 of wheel 2 version 1. -/
def storing : S8 := { lit with cellar := { lit.cellar with golden := [((2 * 2 ^ 32 + 1) * 65536, [1, 2, 3, 4])] } }

theorem witness_ShardsAreFetched_requests :
    (let v := shardFlit ([0, 0, 0, 0x10, 2, 0, 0, 0] ++ leBytes 4 1)
     storing.flitArrives (flit v) v ∧ field (leAt v.payload 0 4) 28 4 = 1 ∧
      SMap.find storing.cellar.golden ((leAt v.payload 4 1 * 2 ^ 32 + leAt v.payload 8 4) * 65536 + field (leAt v.payload 0 4) 0 28) =
        some [1, 2, 3, 4] ∧ (trunkLanes (0 / 9)).find? (fun m => (storing.fab.lane m).state = 0) = some 0) := by
  unfold S8.flitArrives; decide +kernel

theorem witness_ShardsAreFetched_ends :
    (let f := fetch false [(0, [1, 2]), (2, [3, 4])]
     (fetching (sha256 [1, 2, 3, 4]) f).wheels.fetcher 0 (fun u f => !f.idle && u.whole 0 f) = some (loadingWheel (sha256 [1, 2, 3, 4]) f, f) ∧
      sha256 (assemble ((loadingWheel [] f).shardLength 0) f.segments) = ((loadingWheel (sha256 [1, 2, 3, 4]) f).manifest.shards.getD 0 (0, [])).2 ∧
      sha256 (assemble ((loadingWheel [] f).shardLength 0) f.segments) ≠ ((loadingWheel [] f).manifest.shards.getD 0 (0, [])).2 ∧
      f.source + 1 < (fetching [] f).dict.sources.length) ∧
    ((fetching [] (fetch false [])).wheels.fetcher 0 (fun u f => !f.idle && !(u.whole 0 f)) =
      some (loadingWheel [] (fetch false []), fetch false [])) ∧
    ((fetching [] (fetch true [])).wheels.fetcher 0 (fun _ f => f.idle) = some (loadingWheel [] (fetch true []), fetch true []) ∧
      (fetching [] (fetch true [])).dict.sources ≠ []) := by decide +kernel

/-- A shard that is not the manifest's is counted and asked of the next source (R362). -/
theorem test_shard_corrupt : gives (exec (.shardReceived 0) (at' (fetching [] (fetch false [(0, [1, 2, 3, 4])])))) (fun c =>
    c.dict.count Obj.shardCorruptCount 0 = 1 && (c.wheels.table.any (fun u => (SMap.find u.fetching 0).any (fun f => f.source = 1)))) = true := by
  decide +kernel

/-- Charge-trap vat 5 of die 0. -/
def vat5 : Vat := .ct 0 5

/-- A module whose vat 5 was programmed for entry 0 of wheel 2, its calibration ended. -/
def programmed (bad : Bool) : S8 :=
  { lit with
    wheels := { lit.wheels with table := [{ loadingWheel [] (fetch false []) with targets := [(0, 5)] }] }
    turn := { lit.turn with quality := [(5, { Quality.none with calibrated := true, unstable := bad })] } }

theorem witness_BlocksAreVerifiedAndWheelsDrained :
    ((programmed false).wheels.entryOn (vatKey vat5)).map (·.2) = some 0 ∧ (programmed false).calibrationEnded (vatKey vat5) = true ∧
      (programmed false).readVerified (vatKey vat5) = true ∧ (programmed true).readVerified (vatKey vat5) = false ∧
      (programmed true).calibrationEnded (vatKey vat5) = true ∧ lit.wheels.entryOn (vatKey vat5) = none := by decide +kernel

theorem witness_BlocksAreVerifiedAndWheelsDrained_drain :
    admitting.writeArrives (put (leBytes 8 7340096)) Obj.wheelDrainStep ∧ admitting.run.step + 64 ≤ valueOf (leBytes 8 7340096) ∧
      admitting.writeArrives (put (leBytes 8 7340095)) Obj.wheelDrainStep ∧ valueOf (leBytes 8 7340095) < admitting.run.step + 64 := by
  unfold S8.writeArrives; decide +kernel

/-! ### Cultures -/

/-- A culture request of ID 9 version 3. -/
def cultureRequest (id version length : Nat) (sha : Bytes) : Bytes :=
  leBytes 2 id ++ leBytes 2 version ++ zeros 4 ++ leBytes 4 length ++ padTo 32 sha

/-- A version being received. -/
def receiving (length : Nat) (sha : Bytes) (segments : List (Nat × Bytes)) : Culture :=
  { part with state := 1, place := none, part := false, verified := false, length := length, sha := sha, segments := segments }

/-- A module that holds it in its table, with a place of shape 0. -/
def culturing (v : Culture) : S8 :=
  { running { emptySheet with places := [{ place := 0, group := 0, roles := 1, vats := [0xFFFF], shape := 0 }] } with
    cultures := { lit.cultures with table := [v] } }

/-- One byte of version 3 of culture 9 at offset 0. -/
def culturePayload (count : Nat) : Bytes := [5, 0] ++ leBytes 2 9 ++ leBytes 2 3 ++ zeros 2 ++ leBytes 4 0 ++ leBytes 2 count ++ zeros 2 ++ [1]

theorem witness_CulturesAreReceived :
    (live.writeArrives (put (cultureRequest 9 3 1053184 [])) Obj.cultureLoadRequest ∧
      (cultureRequest 9 3 1053184 []).length = 44 ∧ (live.cultures.table.filter (fun u => u.state ≠ 6)).length < 512 ∧
      live.cultureReason (Culture.ofRequest (cultureRequest 9 3 1053184 [])) 0 = 0 ∧
      field (leAt (cultureRequest 9 3 1053184 []) 4 1) 1 1 = 0 ∧
      live.writeArrives (put (cultureRequest 9 3 1053183 [])) Obj.cultureLoadRequest ∧
      live.cultureReason (Culture.ofRequest (cultureRequest 9 3 1053183 [])) 0 = 2 ∧
      (culturing (receiving 9 [] [])).cultureReason (Culture.ofRequest (cultureRequest 9 3 1053184 [])) 0 = 3 ∧
      (culturing (receiving 9 [] [])).cultureReason (Culture.ofRequest (cultureRequest 9 4 1053184 [])) 0 = 0) ∧
    (let v := view 0x30 0 (culturePayload 1)
     (culturing (receiving 2 [] [])).frameArrives (frame 0x30 0 (culturePayload 1)) v ∧ v.at 0 1 = 5 ∧
      (culturing (receiving 2 [] [])).ports.owner = .a ∧
      (culturing (receiving 2 [] [])).cultures.find (v.at 2 2 * 65536 + v.at 4 2) = some (receiving 2 [] []) ∧
      v.handle = 0 ∧ v.at 12 2 = 1 ∧ v.at 8 4 + 1 ≤ (receiving 2 [] []).length ∧ segmentsCover 2 [(0, [1])] = false ∧
      segmentsCover 1 [(0, [1])] = true ∧ sha256 (assemble 1 [(0, [1])]) ≠ [] ∧ cultureMalformed (assemble 1 [(0, [1])]) 9 3 = true) := by
  unfold S8.writeArrives S8.frameArrives; decide +kernel

/-- The image of version 3 of culture 9, of one role, every weight 0. -/
def cultureImage : Bytes := [1, 0, 9, 0, 3, 0, 0, 1] ++ List.replicate 1053176 0

theorem cultureImage_length : cultureImage.length = 1053184 := by
  unfold cultureImage; rw [List.length_append, List.length_replicate]; rfl

theorem cultureImage_weights : ∀ x ∈ cultureImage, x ≠ 0x80 := by
  intro x hx
  rcases List.mem_append.mp hx with h | h
  · exact (by decide : ∀ y ∈ ([1, 0, 9, 0, 3, 0, 0, 1] : Bytes), y ≠ 0x80) x h
  · rw [List.eq_of_mem_replicate h]; decide

theorem byteAt_ne (b : Bytes) (h : ∀ x ∈ b, x ≠ 0x80) (i : Nat) : byteAt b i ≠ 0x80 := by
  unfold byteAt
  rw [List.getD_eq_getElem?_getD]
  cases e : b[i]? with
  | none => simp
  | some x => simpa using h x (List.mem_of_getElem? e)

theorem cultureImage_formed : cultureMalformed cultureImage 9 3 = false := by
  have a : leAt cultureImage 0 2 = 1 ∧ leAt cultureImage 2 2 = 9 ∧ leAt cultureImage 4 2 = 3 ∧ leAt cultureImage 7 1 = 1 := by decide +kernel
  have b (i : Nat) : byteAt (roleBlock cultureImage 0) i ≠ 0x80 := by
    refine byteAt_ne _ (fun x hx => cultureImage_weights x ?_) i
    exact List.mem_of_mem_drop (List.mem_of_mem_take hx)
  simp [cultureMalformed, a, cultureImage_length]
  exact fun i _ => b i

theorem cultureImage_covers : segmentsCover 1053184 [(0, cultureImage), (0, [1])] = true := by
  simp only [segmentsCover, List.all_eq_true, List.any_cons, cultureImage_length, Bool.or_eq_true]
  intro i hi
  rw [List.mem_range] at hi
  left; simp [hi]

theorem cultureImage_first : overlay (zeros 1053184) 0 cultureImage = cultureImage := by
  have z : (zeros 1053184).length = 1053184 := List.length_replicate
  unfold overlay
  rw [List.take_zero, List.nil_append, Nat.sub_zero, Nat.zero_add, z, cultureImage_length, List.take_of_length_le
    (Nat.le_of_eq cultureImage_length), List.drop_eq_nil_of_le (Nat.le_of_eq z), List.append_nil]

theorem cultureImage_again : overlay cultureImage 0 [1] = cultureImage := by
  unfold overlay
  rw [cultureImage_length, List.take_zero, List.nil_append, Nat.sub_zero, List.take_of_length_le (by decide)]
  rfl

theorem cultureImage_assembled : assemble 1053184 [(0, cultureImage), (0, [1])] = cultureImage := by
  unfold assemble
  rw [List.foldl_cons, List.foldl_cons, List.foldl_nil, cultureImage_first, cultureImage_again]

/-- The version whose image is there, but for a frame that brings its first byte again. -/
def lastByte : Culture := receiving 1053184 (sha256 cultureImage) [(0, cultureImage)]

theorem witness_CulturesAreReceived_whole :
    segmentsCover lastByte.length (lastByte.segments ++ [(0, [1])]) = true ∧
      assemble lastByte.length (lastByte.segments ++ [(0, [1])]) = cultureImage ∧ lastByte.sha = sha256 cultureImage ∧
      cultureMalformed cultureImage lastByte.cultureId lastByte.version = false := by
  dsimp only [lastByte, receiving, part, List.singleton_append]
  exact ⟨cultureImage_covers, cultureImage_assembled, Eq.refl _, cultureImage_formed⟩

theorem cultureImage_shape : leAt cultureImage 8 4 = 0 := by decide +kernel

theorem witness_CulturesAreWrittenAndUnloaded :
    (let v := { part with verified := false, tries := 2 }
     (culturing v).cultures.table.find? (fun v => v.state = 3 && v.place = some 0 && !v.verified) = some v ∧
      ((culturing v).run.placeRecord 0).isSome = true ∧ v.targets = []) ∧
    (let v := { part with verified := false, targets := [(0, 5)] }
     let c (bad : Bool) : S8 := { culturing v with turn := (programmed bad).turn }
     (∃ e ∈ v.targets, (culturing v).calibrationEnded e.2 = false) ∧ (∀ e ∈ v.targets, (c true).calibrationEnded e.2 = true) ∧
       (∃ e ∈ v.targets, (c true).readVerified e.2 = false)) ∧
    (let v := { part with state := 4 }
     (culturing v).writeArrives (put (leBytes 4 (9 * 65536 + 3))) Obj.cultureUnload ∧
      (culturing v).cultures.find (valueOf (leBytes 4 (9 * 65536 + 3))) = some v ∧ v.pins = 0 ∧ v.state = 4) ∧
    ((culturing { part with pins := 1 }).cultures.find (valueOf (leBytes 4 (9 * 65536 + 3))) = some { part with pins := 1 }) := by
  unfold S8.writeArrives; decide +kernel

/-- The third failure ends a load (R375). -/
theorem test_third_failure : gives (exec (.cultureWriteComplete 0 false) (at' (culturing { part with verified := false, tries := 2 }))) (fun c =>
    c.cultures.table.map (fun v => (v.state, v.reason)) = [(6, 6)]) = true := by decide +kernel

/-! ### Encodings -/

theorem witness_HoopCodeCorrectsOneSymbol : 0 < ([5, 6] : Bytes).length ∧ ([5, 6] : Bytes).length ≤ 30 ∧ 3 < ([5, 6] : Bytes).length + 2 ∧
    (0x80 : Byte) ≠ 0 ∧ hoopDecode (([5, 6] ++ hoopCheck [5, 6]).modify 3 (fun x => x ^^^ 0x80)) = .corrected [5, 6] := by decide +kernel

theorem witness_FramesAndFlitsRoundTrip :
    (zeros 240).length = 240 ∧ (zeros 56).length = 56 ∧ (List.replicate 224 (7 : Byte)).length ≤ 224 ∧ (0xFF : Nat) < 2 ^ 8 ∧
      (padTo 48 []).length = 48 ∧ [4, 95].Pairwise (· < ·) ∧ (∀ t ∈ [4, 95], t < 96) ∧
      (∀ a ∈ [(2, 5)], a.1 < 0xFFFF ∧ a.2 < 2 ^ 8) := by decide +kernel

theorem witness_InstructionsAndEntriesRoundTrip :
    (let p := PourInstr.ofWord (2 ^ 128 - 1)
     p.opcode < 2 ^ 8 ∧ p.direction < 2 ^ 2 ∧ p.phase < 2 ^ 2 ∧ p.slotKind < 2 ^ 2 ∧ p.average < 2 ^ 2 ∧
      p.accumulate < 2 ∧ p.slot < 2 ^ 7 ∧ p.lane < 2 ^ 7 ∧ p.vatKind < 2 ∧ p.vat < 2 ^ 12 ∧ p.coreHalf < 2 ∧ p.coreNum < 2 ^ 6 ∧
      p.row < 2 ^ 10 ∧ p.reserved < 2 ^ 3 ∧ p.reduction < 2 ^ 12 ∧ p.reservedLow < 2 ^ 20 ∧ p.tag < 2 ^ 32 ∧ p.toWord = 2 ^ 128 - 1) ∧
    (let e : Entry := { row := 2047, col := 2047, delta := -(2 ^ 23), residual := true }
     Entry.ofWord e.toWord = some e ∧ field e.toWord 24 16 = 0 ∧ e.toWord < 2 ^ 64) := by decide +kernel

end Sys2Proof.Machine.Tests
end

/-! PROOFS. When a command completes, faults or is refused (R3), and what an inline dictionary write does (R458, R459, R463 to R467). -/

namespace Sys2Proof.Machine

/-! ### The limits that the S8 does not check (R3) -/

/-- The rules that state a limit which the S8 relies on and does not check: a run's start, a drain, a publication and the clock ratios. -/
def isUncheckedRule (r : Nat) : Prop := r = 210 ∨ r = 371 ∨ r = 392 ∨ r = 450

theorem S8.brokenMust_isUncheckedRule {s : S8} {port : Port} {obj r : Nat} {value : Bytes}
    (h : s.brokenMust port obj value = some r) : isUncheckedRule r := by
  unfold S8.brokenMust at h
  unfold isUncheckedRule
  split at h
  · split_ifs at h <;> simp only [Option.some.injEq] at h <;> omega
  · cases h

theorem S8.frameBreaks_isUncheckedRule {s : S8} {f : Frame} {r : Nat} (h : s.frameBreaks f = some r) : isUncheckedRule r := by
  unfold S8.frameBreaks at h
  split at h
  · cases h
  · simp only [] at h
    split at h
    · exact S8.brokenMust_isUncheckedRule h
    · cases h

/-- An object write faults only by an unchecked limit that it breaks. -/
theorem S8.performWriteOr_error {s : S8} {w : ObjWrite} {obj : Nat} {effect : WriteEffect} {e : Fault}
    (h : s.performWriteOr w obj effect = .error e) : ∃ r, isUncheckedRule r ∧ e = .undefinedByR3 r := by
  unfold S8.performWriteOr at h
  split at h
  case h_1 r hr => exact ⟨r, S8.brokenMust_isUncheckedRule hr, (Except.error.inj h).symm⟩
  case h_2 => cases h

/-! ### Outcomes of the commands that can meet such a limit -/

theorem actOr_of_not_wf {i : Instr} {s : State} {f : S8 → Except Fault S8} (h : WellFormed i = false) :
    actOr i s f = .refused .illFormed := by simp [actOr, h]

/-- If such a command faults, it was well-formed and its meaning gave the fault. -/
theorem actOr_fault {i : Instr} {s : State} {f : S8 → Except Fault S8} {e : Fault} (h : actOr i s f = .fault e) :
    WellFormed i = true ∧ f s.chip = .error e := by
  cases hw : WellFormed i with
  | false => rw [actOr_of_not_wf hw] at h; cases h
  | true =>
    cases hf : f s.chip with
    | ok c => rw [actOr_of_ok hw hf] at h; cases h
    | error e' => rw [actOr_of_error hw hf] at h; cases h; exact ⟨rfl, rfl⟩

/-- An object write performed as a command faults only by an unchecked limit. -/
theorem actOr_performWriteOr_fault {i : Instr} {s : State} {w : ObjWrite} {obj : Nat} {effect : WriteEffect} {e : Fault}
    (h : actOr i s (fun c => c.performWriteOr w obj effect) = .fault e) : ∃ r, isUncheckedRule r ∧ e = .undefinedByR3 r :=
  S8.performWriteOr_error (actOr_fault h).2

/-- A dictionary write frame faults where it breaks an unchecked limit. -/
theorem execDictWrite_of_breaks {f : Frame} {s : State} {r : Nat} (hl : f.raw.length = 256) (h : s.chip.frameBreaks f = some r) :
    execDictWrite f s = .fault (.undefinedByR3 r) := by
  refine actOr_of_error (by simp [WellFormed, hl]) ?_
  simp only [h]

/-- A dictionary write frame that breaks none is received. -/
theorem execDictWrite_of_sound {f : Frame} {s : State} (hl : f.raw.length = 256) (h : s.chip.frameBreaks f = none) :
    execDictWrite f s = .next { s with chip := s.chip.receive f 0x11 (fun c v => c.writeFrame f.port v) } := by
  refine actOr_of_ok (by simp [WellFormed, hl]) ?_
  simp only [h]

/-- A dictionary write frame faults only by an unchecked limit that it breaks. -/
theorem execDictWrite_fault {f : Frame} {s : State} {e : Fault} (h : execDictWrite f s = .fault e) :
    ∃ r, isUncheckedRule r ∧ e = .undefinedByR3 r := by
  have hl : f.raw.length = 256 := by simpa [WellFormed] using (actOr_fault h).1
  cases hb : s.chip.frameBreaks f with
  | none => rw [execDictWrite_of_sound hl hb] at h; cases h
  | some r =>
    rw [execDictWrite_of_breaks hl hb] at h
    cases h
    exact ⟨r, S8.frameBreaks_isUncheckedRule hb, rfl⟩

theorem exec_of_not_wf {i : Instr} (s : State) (h : WellFormed i = false) : exec i s = .refused .illFormed := by
  obtain ⟨f, hf⟩ | ⟨-, f, hf⟩ := exec_shape i s
  · rw [hf, act_of_not_wf h]
  · rw [hf, actOr_of_not_wf h]

theorem wellFormedCommandsComplete : Claims.WellFormedCommandsComplete := by
  intro i s
  refine ⟨exec_of_not_wf s, fun hw hrun hclock hdrain hpublish hdict => ?_⟩
  obtain ⟨f, hf⟩ | ⟨hi, -⟩ := exec_shape i s
  · exact ⟨_, hf.trans (act_of_wf hw), rfl⟩
  · obtain ⟨w, h⟩ | ⟨w, h⟩ | ⟨w, h⟩ | ⟨w, h⟩ | ⟨f, h⟩ := hi
    · exact absurd h (hrun w)
    · exact absurd h (hclock w)
    · exact absurd h (hdrain w)
    · exact absurd h (hpublish w)
    · exact absurd h (hdict f)

theorem faultsOnlyWhereUndefined : Claims.FaultsOnlyWhereUndefined := by
  intro i s e h
  obtain ⟨f, hf⟩ | ⟨hi, -⟩ := exec_shape i s
  · exact absurd (hf.symm.trans h) act_not_fault
  · refine ⟨?_, hi⟩
    obtain ⟨w, rfl⟩ | ⟨w, rfl⟩ | ⟨w, rfl⟩ | ⟨w, rfl⟩ | ⟨f, rfl⟩ := hi
    · rw [exec_runStartStep] at h; exact actOr_performWriteOr_fault h
    · rw [exec_halfClockControl] at h; exact actOr_performWriteOr_fault h
    · rw [exec_wheelDrainStep] at h; exact actOr_performWriteOr_fault h
    · rw [exec_ripenPublishStep] at h; exact actOr_performWriteOr_fault h
    · exact execDictWrite_fault h

/-- Settles O2: `act` never faults, and `actOr` only where `brokenMust` names a rule. -/
theorem commandsCompleteOrFaultByR3 : Obligations.CommandsCompleteOrFaultByR3 :=
  ⟨wellFormedCommandsComplete, faultsOnlyWhereUndefined⟩

/-! ### An inline dictionary write -/

/-- An object write that passes every check before the object's own effect performs the effect and answers its status. -/
theorem S8.writeObject_performs {s : S8} {port : Port} {requestId obj : Nat} {value : Bytes} {effect : WriteEffect}
    (hp : s.portAnswers port = true) (hr : (s.ports.get port).answers.length < requestLimit) (hf : s.boot.anyFirmware = true)
    (ho : s.ports.owner = port) (hv : writeCheck obj value = statusOk) :
    s.writeObject port requestId obj value effect =
      (effect s value).2.answerWrite port requestId obj (effect s value).1 value.length (s.dict.answerValue obj value) := by
  simp [S8.writeObject, hp, hf, ho, hv, Nat.not_le.2 hr]

/-- The effect of an inline write whose value fits the frame is the object's. -/
theorem inlineEffect_of_fits {obj length : Nat} (h : length ≤ inlineLimit) : inlineEffect obj length = objEffect obj := by
  funext s value
  simp [inlineEffect, Nat.not_lt.2 h]

/-- Marking a good frame changes neither whether a port answers, nor its waiting answers, nor the owner. -/
@[simp] theorem S8.goodFrame_portAnswers (s : S8) (p q : Port) : (s.goodFrame p).portAnswers q = s.portAnswers q := rfl

@[simp] theorem S8.goodFrame_owner (s : S8) (p : Port) : (s.goodFrame p).ports.owner = s.ports.owner := by simp [S8.goodFrame]

@[simp] theorem S8.goodFrame_answers (s : S8) (p : Port) :
    ((s.goodFrame p).ports.get p).answers = (s.ports.get p).answers := by simp [S8.goodFrame]

/-- An inline write frame handed on writes its object. -/
theorem S8.writeFrame_inline {c : S8} {p : Port} {v : FrameView} (hop : v.at 7 1 = 0) (hlen : v.at 8 4 ≤ inlineLimit) :
    c.writeFrame p v = c.writeObject p (v.at 0 4) v.obj v.value (objEffect v.obj) := by
  rw [S8.writeFrame, if_pos hop, inlineEffect_of_fits hlen]

/-! ### Objects with no effect of their own -/

/-- An RWB object with no effect of its own is held pending (R459). -/
theorem objEffect_of_rwb {obj : Nat} {i : ObjInfo} (hi : objInfo obj = some i)
    (hown : (ownEffects (objDie obj)).find? (fun e => e.1 = normObj obj) = none) (ha : i.access = .rwb) :
    objEffect obj = pendEffect obj := by simp [objEffect, hown, hi, ha]

/-- An object that is not RWB and has no effect of its own is stored (R458). -/
theorem objEffect_of_not_rwb {obj : Nat} {i : ObjInfo} (hi : objInfo obj = some i)
    (hown : (ownEffects (objDie obj)).find? (fun e => e.1 = normObj obj) = none) (ha : i.access ≠ .rwb) :
    objEffect obj = storeEffect obj := by simp [objEffect, hown, hi, ha]

/-- A stored value of fixed size is in effect. -/
theorem storeEffect_of_fixedSize {obj : Nat} {i : ObjInfo} (c : S8) (value : Bytes) (hi : objInfo obj = some i)
    (ht : i.type ≠ .domain) : storeEffect obj c value = (statusOk, { c with dict := c.dict.store obj (valueOf value) }) := by
  simp only [storeEffect, hi, Option.map_some]
  split
  case h_1 hd => exact absurd (Option.some.inj hd) ht
  case h_2 => rfl

/-- Settles O13: the frame is received, passes the checks of `writeObject`, and `objEffect` is the object's own effect or the common one. -/
theorem writePerformsItsObject : Obligations.WritePerformsItsObject := by
  refine ⟨?performs, fun f s r hl hb => execDictWrite_of_breaks hl hb, ?held⟩
  case performs =>
    intro f v s c harr htype hop hlen hroom hfirm howner hc hcheck hbreaks
    have hsent : exec (.dictWrite f) s = .next { s with chip := c.writeFrame f.port v } := by
      rw [exec_dictWrite, execDictWrite_of_sound harr.1 hbreaks, S8.receive_arrives harr htype, hc]
    have hwrite : c.writeFrame f.port v = (objEffect v.obj c v.value).2.answerWrite f.port (v.at 0 4) v.obj
        (objEffect v.obj c v.value).1 v.value.length (c.dict.answerValue v.obj v.value) := by
      subst hc
      rw [S8.writeFrame_inline hop hlen, S8.writeObject_performs _ _ _ _ hcheck]
      · exact (S8.goodFrame_portAnswers ..).trans harr.2.1
      · rw [S8.goodFrame_answers]; exact hroom
      · exact hfirm
      · rw [S8.goodFrame_owner]; exact howner
    rw [hsent, hwrite]
  case held =>
    intro obj i c value hi hown
    refine ⟨fun ha => ?_, fun ha ht => ?_⟩
    · rw [objEffect_of_rwb hi hown ha]
      exact ⟨rfl, rfl, SMap.find_insert_self ..⟩
    · rw [objEffect_of_not_rwb hi hown (by simp [ha]), storeEffect_of_fixedSize c value hi ht]
      exact ⟨rfl, by simp [Dict.get_store], rfl⟩

end Sys2Proof.Machine

/-! PROOFS. Lanes and bridges as they train, lose their signal and fail (R246, R250, R262, R265, R266). -/

namespace Sys2Proof.Machine

/-! ### What a lane serves as -/

/-- What a lane serves as: its LaneState, and the lane it replaces (R266, R267). Sending changes neither. -/
def LinkLaneState.role (l : LinkLaneState) : Nat × Nat := (l.state, l.replaces)

theorem LinkLaneState.state_of_role {l : LinkLaneState} {r : Nat × Nat} (h : l.role = r) : l.state = r.1 := congrArg Prod.fst h

theorem LinkLaneState.replaces_of_role {l : LinkLaneState} {r : Nat × Nat} (h : l.role = r) : l.replaces = r.2 := congrArg Prod.snd h

@[simp] theorem LinkLaneState.controlSlot_role (l : LinkLaneState) : l.controlSlot.role = l.role := by
  unfold LinkLaneState.controlSlot
  split <;> rfl

@[simp] theorem LinkLaneState.bulkSlot_role (l : LinkLaneState) : l.bulkSlot.role = l.role := by
  unfold LinkLaneState.bulkSlot
  split
  · rfl
  · split_ifs <;> rfl

@[simp] theorem LinkLaneState.pumpAll_role (l : LinkLaneState) : l.pumpAll.role = l.role := by
  refine List.foldlRecOn (motive := fun a : LinkLaneState => a.role = l.role) _ _ rfl fun a ha _ _ => ?_
  split_ifs <;> simp [ha]

@[simp] theorem LinkLaneState.idleSlots_role (l : LinkLaneState) : l.idleSlots.role = l.role := by
  simp only [LinkLaneState.idleSlots]
  split_ifs <;> rfl

/-! ### Sending control flits and moving a lane's data on -/

@[simp] theorem Fabric.lane_setLane_self (f : Fabric) (n : Nat) (l : LinkLaneState) : (f.setLane n l).lane n = l := by
  simp [Fabric.lane_setLane]

theorem Fabric.lane_setLane_ne (f : Fabric) {n m : Nat} (l : LinkLaneState) (h : m ≠ n) : (f.setLane n l).lane m = f.lane m := by
  simp [Fabric.lane_setLane, h]

/-- A lane's new state that serves as the old one did leaves what every lane serves as. -/
theorem Fabric.role_setLane (f : Fabric) {n : Nat} {l : LinkLaneState} (h : l.role = (f.lane n).role) (m : Nat) :
    ((f.setLane n l).lane m).role = (f.lane m).role := by
  by_cases hm : m = n
  · rw [hm, Fabric.lane_setLane_self, h]
  · rw [Fabric.lane_setLane_ne _ _ hm]

/-- Control flits change lanes and nothing else of the fabric. -/
theorem Fabric.sendControl_frame (f : Fabric) (n : Nat) (data : List Bytes) :
    f.sendControl n data = { f with lanes := (f.sendControl n data).lanes } := by
  unfold Fabric.sendControl
  split <;> rfl

@[simp] theorem Fabric.sendControl_role (f : Fabric) (n : Nat) (data : List Bytes) (m : Nat) :
    ((f.sendControl n data).lane m).role = (f.lane m).role := by
  unfold Fabric.sendControl
  split
  case h_1 => rfl
  case h_2 k _ => exact Fabric.role_setLane _ (by rw [LinkLaneState.pumpAll_role]; rfl) m

/-- Moving a lane's data on changes the lanes and what transfers are sent whole, and nothing else. -/
theorem S8.pumpLane_frame (s : S8) (n : Nat) : s.pumpLane n = { s with
    fab := { s.fab with lanes := (s.pumpLane n).fab.lanes }
    run := { s.run with transfersSent := (s.pumpLane n).run.transfersSent } } := rfl

@[simp] theorem S8.pumpLane_role (s : S8) (n m : Nat) : ((s.pumpLane n).fab.lane m).role = (s.fab.lane m).role := by
  refine Fabric.role_setLane _ ?_ m
  split_ifs <;> simp

/-! ### A lane goes down -/

theorem S8.laneDown_of_failed {s : S8} {n : Nat} (h : (s.fab.lane n).state = 3) : s.laneDown n = s := if_pos h

/-- A lane that goes down changes the lanes, is counted, and changes nothing else. -/
theorem S8.laneDown_frame {s : S8} {n : Nat} (h : (s.fab.lane n).state ≠ 3) : s.laneDown n = { s with
    fab := { s.fab with lanes := (s.laneDown n).fab.lanes }
    dict := s.dict.raise s.run.step Obj.laneFailCount 0 1 (unitField 6 n) 0 } := by
  simp only [S8.laneDown, if_neg h]
  split_ifs
  · rfl
  · rw [Fabric.sendControl_frame]; rfl

@[simp] theorem S8.laneDown_mem (s : S8) (n : Nat) : (s.laneDown n).mem = s.mem := by
  simp only [S8.laneDown]
  split_ifs <;> rfl

/-- A lane that goes down has failed and still names the lane it replaced. -/
theorem S8.laneDown_role_self (s : S8) (n : Nat) : ((s.laneDown n).fab.lane n).role = (3, (s.fab.lane n).replaces) := by
  by_cases h : (s.fab.lane n).state = 3
  · rw [S8.laneDown_of_failed h, LinkLaneState.role, h]
  · simp only [S8.laneDown, if_neg h]
    split_ifs
    · rw [Fabric.lane_setLane_self]; rfl
    · rw [Fabric.sendControl_role, Fabric.lane_setLane_self]; rfl

theorem S8.laneDown_role_ne (s : S8) {n m : Nat} (h : m ≠ n) : ((s.laneDown n).fab.lane m).role = (s.fab.lane m).role := by
  unfold S8.laneDown
  dsimp only
  split_ifs
  · rfl
  · rw [Fabric.lane_setLane_ne _ _ h]
  · rw [Fabric.sendControl_role, Fabric.lane_setLane_ne _ _ h]

/-- A lane notice changes the lanes and nothing else. -/
theorem S8.notice_frame (s : S8) (n : Nat) :
    s.notice n = { s with fab := { s.fab with lanes := (s.notice n).fab.lanes } } := by
  unfold S8.notice
  split
  · rfl
  · rw [Fabric.sendControl_frame]

@[simp] theorem S8.notice_role (s : S8) (n m : Nat) : ((s.notice n).fab.lane m).role = (s.fab.lane m).role := by
  unfold S8.notice
  split
  · rfl
  · exact Fabric.sendControl_role ..

/-- A lane found failed changes the lanes, is counted, and changes nothing else. -/
theorem S8.detectFail_frame {s : S8} {n : Nat} (h : (s.fab.lane n).state ≠ 3) : s.detectFail n = { s with
    fab := { s.fab with lanes := (s.detectFail n).fab.lanes }
    dict := s.dict.raise s.run.step Obj.laneFailCount 0 1 (unitField 6 n) 0 } := by
  have hd : s.detectFail n = (s.laneDown n).notice n := if_neg h
  rw [hd, S8.notice_frame (s.laneDown n) n, S8.laneDown_frame h]

theorem S8.detectFail_state {s : S8} {n : Nat} (h : (s.fab.lane n).state ≠ 3) : ((s.detectFail n).fab.lane n).state = 3 := by
  rw [S8.detectFail, if_neg h]
  exact LinkLaneState.state_of_role ((S8.notice_role ..).trans (S8.laneDown_role_self ..))

/-! ### A lane without backing -/

/-- A lane that becomes unbacked is noted, and its die is to be lost where the running sheet names the lane; nothing else changes. -/
theorem S8.laneUnbacked_of_backed {s : S8} {n : Nat} (h : n ∉ s.fab.unbacked) : s.laneUnbacked n = { s with
    fab := { s.fab with unbacked := insertNat n s.fab.unbacked }
    run := if (s.run.running.map (fun sh => sh.namesLane n)).getD false then s.run.lose (n / 9) else s.run
    dict := s.dict.note s.run.step eventUnitUnbacked (unitField 6 n) n } := by
  simp [S8.laneUnbacked, h]

theorem S8.mem_laneUnbacked (s : S8) (n : Nat) : n ∈ (s.laneUnbacked n).fab.unbacked := by
  by_cases h : n ∈ s.fab.unbacked
  · simp [S8.laneUnbacked, h]
  · simp [S8.laneUnbacked_of_backed h]

@[simp] theorem S8.laneUnbacked_lane (s : S8) (n m : Nat) : (s.laneUnbacked n).fab.lane m = s.fab.lane m := by
  unfold S8.laneUnbacked
  split_ifs <;> rfl

@[simp] theorem S8.laneUnbacked_mem (s : S8) (n : Nat) : (s.laneUnbacked n).mem = s.mem := by
  unfold S8.laneUnbacked
  split_ifs <;> rfl

/-! ### A trunk that has wholly failed -/

/-- Barrier flits change lanes and nothing else of the fabric. -/
theorem Fabric.foldl_sendBarrier_frame (f : Fabric) (lanes : List Nat) (b : BarrierFlit) :
    lanes.foldl (fun g l => g.sendBarrier l b) f = { f with lanes := (lanes.foldl (fun g l => g.sendBarrier l b) f).lanes } :=
  List.foldlRecOn (motive := fun g : Fabric => g = { f with lanes := g.lanes }) _ _ rfl fun g hg l _ => by
    rw [Fabric.sendBarrier, Fabric.sendControl_frame, hg]

/-- The collector changes the run and the lanes, and nothing else. -/
theorem S8.collect_frame (s : S8) :
    s.collect = { s with run := s.collect.run, fab := { s.fab with lanes := s.collect.fab.lanes } } := by
  unfold S8.collect
  dsimp only
  split
  · rfl
  · split
    · rfl
    · split
      · rw [Fabric.foldl_sendBarrier_frame]
      · rw [Fabric.sendBarrier, Fabric.sendControl_frame]

/-- A module cut off changes the run, the lanes, its mark of being cut off and the events, and nothing else. -/
theorem S8.isolate_frame (s : S8) : s.isolate = { s with
    dict := s.isolate.dict, run := s.isolate.run
    fab := { s.fab with lanes := s.isolate.fab.lanes, isolated := s.isolate.fab.isolated } } := by
  unfold S8.isolate
  dsimp only
  split
  · rfl
  · rw [Fabric.foldl_sendBarrier_frame]

/-- A trunk that is lost leaves memory and the lanes without backing. -/
theorem S8.trunkLost_frame (s : S8) (d : Nat) :
    (s.trunkLost d).fab.unbacked = s.fab.unbacked ∧ (s.trunkLost d).mem = s.mem := by
  unfold S8.trunkLost
  dsimp only
  split
  · exact ⟨rfl, rfl⟩
  · split
    · rw [S8.collect_frame]; exact ⟨rfl, rfl⟩
    · split
      · rw [S8.isolate_frame]; exact ⟨rfl, rfl⟩
      · exact ⟨rfl, rfl⟩

/-! ### Failing over -/

section FailOver
variable {s : S8} {n spare : Nat}

/-- The changes bound to a spare that no lane is bound to. -/
theorem laneChanges_filter_free {l : List (Nat × Nat)} (hfree : ∀ e ∈ l, e.2 ≠ spare) : l.filter (fun e => e.2 = spare) = [] := by
  simpa [List.filter_eq_nil_iff] using fun a b h => hfree (a, b) h

/-- A trunk whose spare has not failed has not failed. -/
theorem Fabric.not_trunkFailed_of_spare {f : Fabric} (hspare : spare = 9 * (n / 9) + 8) (h : (f.lane spare).state ≠ 3) :
    f.trunkFailed (n / 9) = false := by
  have hm : spare ∈ trunkLanes (n / 9) := by simp [trunkLanes, hspare]
  simp only [Fabric.trunkFailed, List.all_eq_false]
  exact ⟨spare, hm, by simpa using h⟩

/-- The spare takes a failed lane's traffic, and is to be bound to it at the next boundary (R266). -/
def S8.handOver (s : S8) (n spare : Nat) : S8 :=
  let l := s.fab.lane n
  let sp := s.fab.lane spare
  let fab := (s.fab.setLane n { l with unacked := [], queue := [], background := [] }).setLane spare
    { sp with queue := sp.queue ++ l.carriedOver, background := sp.background ++ l.background }
  S8.pumpLane { s with fab := { fab with laneChanges := s.fab.laneChanges ++ [(n, spare)] } } spare

theorem S8.handOver_frame (s : S8) (n spare : Nat) : s.handOver n spare = { s with
    fab := { s.fab with lanes := (s.handOver n spare).fab.lanes, laneChanges := s.fab.laneChanges ++ [(n, spare)] }
    run := { s.run with transfersSent := (s.handOver n spare).run.transfersSent } } := rfl

theorem S8.handOver_role (hn : n ≠ spare) (m : Nat) : ((s.handOver n spare).fab.lane m).role = (s.fab.lane m).role := by
  refine (S8.pumpLane_role ..).trans ((Fabric.role_setLane _ ?spare m).trans (Fabric.role_setLane _ ?lane m))
  case spare => rw [Fabric.lane_setLane_ne _ _ hn.symm]; rfl
  case lane => rfl

/-- A failed lane whose trunk's spare is free hands over to it, and the trunk is not lost. -/
theorem S8.failOver_toSpare (hspare : spare = 9 * (n / 9) + 8) (hn : n ≠ spare) (hfree : ∀ e ∈ s.fab.laneChanges, e.2 ≠ spare)
    (hsp : (s.fab.lane spare).state = 1) : s.failOver n = s.handOver n spare := by
  have hlive : (s.handOver n spare).fab.trunkFailed (n / 9) = false :=
    Fabric.not_trunkFailed_of_spare hspare (by
      rw [LinkLaneState.state_of_role (S8.handOver_role hn spare)]
      exact fun h => by simp [LinkLaneState.role, hsp] at h)
  have hbound : ¬((([] : List (Nat × Nat)).any (fun e => e.1 = n) ||
      ((s.fab.lane spare).state = 2 && (s.fab.lane spare).replaces = n + 1)) = true) := by simp [hsp]
  unfold S8.failOver
  dsimp only
  rw [← hspare, laneChanges_filter_free hfree, if_neg hn, if_neg hbound, if_pos (And.intro hsp (Eq.refl []))]
  exact if_neg fun h => absurd (hlive.symm.trans (Bool.and_eq_true_iff.1 h).1) (by decide)

/-- A lane whose trunk has no spare left is unbacked. -/
theorem S8.failOver_unbacked (hspare : spare = 9 * (n / 9) + 8) (hn : n ≠ spare) (hfree : ∀ e ∈ s.fab.laneChanges, e.2 ≠ spare)
    (hsp : (s.fab.lane spare).state = 2) (hother : (s.fab.lane spare).replaces ≠ n + 1) : s.failOver n = s.laneUnbacked n := by
  have hlive : (s.laneUnbacked n).fab.trunkFailed (n / 9) = false := Fabric.not_trunkFailed_of_spare hspare (by simp [hsp])
  simp [S8.failOver, ← hspare, hn, laneChanges_filter_free hfree, hsp, hother, hlive]

/-- Whether a trunk is then found lost changes neither memory nor the lanes without backing. -/
theorem S8.trunkChecked_frame (c : S8) (lost : Bool) (d : Nat) :
    (if lost then c.trunkLost d else c).fab.unbacked = c.fab.unbacked ∧ (if lost then c.trunkLost d else c).mem = c.mem := by
  cases lost
  · exact ⟨rfl, rfl⟩
  · exact S8.trunkLost_frame c d

/-- The failure of a spare leaves the lane it replaces unbacked. -/
theorem S8.failOver_spare {k : Nat} (hspare : n = 9 * (n / 9) + 8) (hk : (s.fab.lane n).replaces = k + 1) :
    k ∈ (s.failOver n).fab.unbacked ∧ (s.failOver n).mem = s.mem := by
  unfold S8.failOver
  simp only [← hspare, if_true, hk, ne_eq, Nat.add_one_ne_zero, not_false_eq_true, Nat.add_sub_cancel, List.foldl_cons, List.foldl_nil]
  rw [(S8.trunkChecked_frame ..).1, (S8.trunkChecked_frame ..).2]
  exact ⟨S8.mem_laneUnbacked .., S8.laneUnbacked_mem ..⟩

end FailOver

/-! ### Training -/

/-- Is a lane that trains miswired: does its peer differ from its trunk's, or is it not lane n to lane n? (R250) -/
def S8.miswired (s : S8) (n : Nat) (peer : PeerReport) (peerDie : Die) (peerLane : Fin 9) : Bool :=
  peerLane.val ≠ n % 9 || (trunkLanes (n / 9)).any (fun m =>
    m ≠ n && (s.fab.lane m).lit && ((s.fab.lane m).peerModule, (s.fab.lane m).peerDie) ≠ (peer.number, peerDie.val))

/-- The state that a lane takes when it has trained (R250, R267). -/
def trainedState (bad agreed : Bool) (n : Nat) : Nat := if bad then 5 else if !agreed then 4 else if n % 9 = 8 then 1 else 0

/-- The module once a lane has trained, miswired or not (R250). -/
def S8.trained (c : S8) (n : Nat) (peer : PeerReport) (peerDie latency : Nat) (bad : Bool) : S8 :=
  let fab := c.fab.setLane n { LinkLaneState.fresh with
    state := trainedState bad peer.agreed n, peerModule := peer.number, peerDie := peerDie, latency := latency }
  { c with
    fab := if !bad && peer.agreed then
      { fab with unbacked := eraseNat n fab.unbacked, trunksLost := eraseNat (n / 9) fab.trunksLost } else fab
    run := if !bad && peer.agreed then { c.run with farLost := c.run.farLost.filter (fun e => e ≠ (peer.number, peerDie)) } else c.run
    dict := c.dict.raise c.run.step Obj.trunkMiswireCount 0 (if bad then 1 else 0) (unitField 6 n) peer.number }

theorem exec_laneTraining_next (lane : LinkLane) (peer : PeerReport) (peerDie : Die) (peerLane : Fin 9) (latency16 : Nat) (s : State) :
    exec (.laneTraining lane peer peerDie peerLane latency16) s = .next { s with
      chip := s.chip.trained lane peer peerDie latency16 (s.chip.miswired lane peer peerDie peerLane) } :=
  (exec_laneTraining ..).trans (act_of_wf rfl)

section Training
variable (c : S8) (n : Nat) (peer : PeerReport) (peerDie latency : Nat) (bad : Bool)

theorem S8.trained_frame : c.trained n peer peerDie latency bad = { c with
    fab := { c.fab with
      lanes := (c.trained n peer peerDie latency bad).fab.lanes, unbacked := (c.trained n peer peerDie latency bad).fab.unbacked
      trunksLost := (c.trained n peer peerDie latency bad).fab.trunksLost }
    run := { c.run with farLost := (c.trained n peer peerDie latency bad).run.farLost }
    dict := (c.trained n peer peerDie latency bad).dict } := by
  unfold S8.trained
  cases !bad && peer.agreed <;> rfl

/-- A lane that trains has exchanged nothing (R250). -/
theorem S8.trained_lanes : (c.trained n peer peerDie latency bad).fab.lanes = (c.fab.setLane n { LinkLaneState.fresh with
    state := trainedState bad peer.agreed n, peerModule := peer.number, peerDie := peerDie, latency := latency }).lanes := by
  unfold S8.trained
  cases !bad && peer.agreed <;> rfl

theorem S8.trained_lane_self : (c.trained n peer peerDie latency bad).fab.lane n = { LinkLaneState.fresh with
    state := trainedState bad peer.agreed n, peerModule := peer.number, peerDie := peerDie, latency := latency } := by
  rw [Fabric.lane, S8.trained_lanes]
  exact Fabric.lane_setLane_self ..

theorem S8.trained_lane_ne {m : Nat} (h : m ≠ n) : (c.trained n peer peerDie latency bad).fab.lane m = c.fab.lane m := by
  rw [Fabric.lane, S8.trained_lanes]
  exact Fabric.lane_setLane_ne _ _ h

end Training

theorem S8.miswired_of_otherLane {s : S8} {n : Nat} {peer : PeerReport} {peerDie : Die} {peerLane : Fin 9}
    (h : peerLane.val ≠ n % 9) : s.miswired n peer peerDie peerLane = true := by simp [S8.miswired, h]

theorem S8.not_miswired {s : S8} {n : Nat} {peer : PeerReport} {peerDie : Die} {peerLane : Fin 9} (h : peerLane.val = n % 9)
    (hpeer : ∀ m ∈ trunkLanes (n / 9), m ≠ n → (s.fab.lane m).lit = true →
      (s.fab.lane m).peerModule = peer.number ∧ (s.fab.lane m).peerDie = peerDie.val) :
    s.miswired n peer peerDie peerLane = false := by
  simp only [S8.miswired, h, ne_eq, not_true_eq_false, decide_false, Bool.false_or, List.any_eq_false, Bool.and_eq_true,
    decide_eq_true_eq, Prod.mk.injEq]
  exact fun m hm ⟨⟨hmn, hlit⟩, hdiff⟩ => hdiff (hpeer m hm hmn hlit)

/-! ### Bridges -/

/-- A bridge whose spare groups are used up has failed, and its die is to be lost where the running sheet names the bridge. -/
theorem S8.bridgeLoss_frame (s : S8) (n : Nat) : s.bridgeLoss n = { s.run with losing := (s.bridgeLoss n).losing } := by
  unfold S8.bridgeLoss
  split
  · rfl
  · split <;> rfl

theorem exec_laneFail_next (lane : LinkLane) (s : State) :
    exec (.laneFail lane) s = .next { s with chip := (s.chip.laneDown lane).failOver lane } :=
  (exec_laneFail ..).trans (act_of_wf rfl)

theorem exec_laneSignalLoss_next (lane : LinkLane) (s : State) :
    exec (.laneSignalLoss lane) s = .next { s with chip := s.chip.detectFail lane } :=
  (exec_laneSignalLoss ..).trans (act_of_wf rfl)

/-- Settles O46: a lane that goes down keeps what every other lane serves as, so the spare's state decides what takes its traffic. -/
theorem lanesTrainAndFail : Obligations.LanesTrainAndFail := by
  refine ⟨?train, ?loss, ?toSpare, ?unbacked, ?spare, ?bridge⟩
  case train =>
    intro lane peer peerDie peerLane latency16 s
    refine ⟨_, exec_laneTraining_next .., ?frame, fun n hn => S8.trained_lane_ne _ _ _ _ _ _ hn, ?fresh, fun h => ?miswired,
      fun hlane hpeer => ?wired⟩
    case frame => exact congrArg (fun c => { s with chip := c }) (S8.trained_frame ..)
    case fresh => rw [S8.trained_lane_self]
    case miswired => rw [S8.trained_lane_self, S8.miswired_of_otherLane h]; rfl
    case wired =>
      rw [S8.not_miswired hlane hpeer, S8.trained_lane_self]
      refine ⟨by simp [S8.trained], fun ha => ?_, fun ha => ?_⟩
      · simp [trainedState, S8.trained, ha, Fabric.setLane]
      · simp [trainedState, S8.trained, ha]
  case loss =>
    intro lane s
    refine ⟨fun h => ?_, fun h => ⟨_, exec_laneSignalLoss_next .., ?_, S8.detectFail_state h⟩⟩
    · rw [exec_laneSignalLoss_next, S8.detectFail, if_pos h]
    · exact congrArg (fun c => { s with chip := c }) (S8.detectFail_frame h)
  case toSpare =>
    intro lane s spare hspare hn hlane hfree hsp
    have hdown := S8.laneDown_frame hlane
    have hsp' : ((s.chip.laneDown lane).fab.lane spare).state = 1 :=
      (LinkLaneState.state_of_role (S8.laneDown_role_ne s.chip hn.symm)).trans hsp
    have hover := S8.failOver_toSpare hspare hn (by rw [hdown]; exact hfree) hsp'
    refine ⟨_, exec_laneFail_next .., ?_, ?_⟩
    · rw [hover, S8.handOver_frame]
      rw [hdown]
    · rw [hover]
      exact LinkLaneState.state_of_role ((S8.handOver_role hn lane).trans (S8.laneDown_role_self ..))
  case unbacked =>
    intro lane s spare hspare hlane hn hfree hsp hother hbacked
    have hdown := S8.laneDown_frame hlane
    have hrole := S8.laneDown_role_ne s.chip hn.symm
    have hover := S8.failOver_unbacked hspare hn (by rw [hdown]; exact hfree) ((LinkLaneState.state_of_role hrole).trans hsp)
      (by rw [LinkLaneState.replaces_of_role hrole]; exact hother)
    have hgone := S8.laneUnbacked_of_backed (s := s.chip.laneDown lane) (n := lane) (by rw [hdown]; exact hbacked)
    refine ⟨_, exec_laneFail_next .., ?_, ?_, fun hnamed => ?_, fun hnot => ?_⟩
    · rw [hover, hgone, hdown]
      split_ifs <;> rfl
    · rw [hover]
      exact (congrArg _ (S8.laneUnbacked_lane ..)).trans (LinkLaneState.state_of_role (S8.laneDown_role_self ..))
    · rw [hover, hgone, hdown]
      simp [hnamed, Run.lose]
    · rw [hover, hgone, hdown]
      simp [hnot]
  case spare =>
    intro lane s k hlane hk
    have hk' : ((s.chip.laneDown lane).fab.lane lane).replaces = k + 1 :=
      (LinkLaneState.replaces_of_role (S8.laneDown_role_self ..)).trans hk
    obtain ⟨hmem, hkept⟩ := S8.failOver_spare (by omega) hk'
    exact ⟨_, exec_laneFail_next .., rfl, hkept.trans (S8.laneDown_mem ..), hmem⟩
  case bridge =>
    intro bridge s used hworks hused
    refine ⟨fun h => ?_, fun h => ⟨_, (exec_bridgeWireFail ..).trans (act_of_wf rfl), ?_⟩⟩
    · rw [exec_bridgeWireFail, execBridgeWireFail, act_of_wf rfl]
      simp [hworks, ← hused, h]
    · simp only [List.contains_eq_mem, hworks, ← hused, Nat.not_lt.2 h, decide_false, if_false, Bool.false_eq_true]
      rw [S8.bridgeLoss_frame]

end Sys2Proof.Machine

/-! PROOFS. The cellar: restores, stripes, seconds and keys (R329 to R331, R335, R342, R343, R345, R347 to R349). -/

namespace Sys2Proof.Machine

/-! ### What a raised event counts and flags -/

section Events
variable {d : Dict} {step obj amount unit value o : Nat}

theorem objKey_zero_inj {a b : Nat} : objKey a 0 = objKey b 0 ↔ a = b := by simp [objKey]

/-- An overflow of the queue counts itself and nothing else. -/
theorem Dict.overflow_count (h : o ≠ Obj.eventQueueOverflowCount) : (d.overflow step).count o 0 = d.count o 0 := by
  simp only [Dict.overflow, Dict.count]
  exact SMap.getD_put_ne _ _ _ _ (mt objKey_zero_inj.1 h)

theorem Dict.overflow_flag (h : o ≠ Obj.eventQueueOverflowCount) :
    SMap.find (d.overflow step).flags (objKey o 0) = SMap.find d.flags (objKey o 0) :=
  SMap.find_insert_ne _ _ (mt objKey_zero_inj.1 h)

/-- Queueing a frame counts and flags an overflow of the queue and nothing else. -/
theorem Dict.enqueue_count (f : EventFrame) (h : o ≠ Obj.eventQueueOverflowCount) : (d.enqueue f).count o 0 = d.count o 0 := by
  have hover : (d.overflow f.mark.step).count o 0 = d.count o 0 := Dict.overflow_count h
  unfold Dict.enqueue
  dsimp only
  split_ifs <;> first | rfl | exact hover

theorem Dict.enqueue_flag (f : EventFrame) (h : o ≠ Obj.eventQueueOverflowCount) :
    SMap.find (d.enqueue f).flags (objKey o 0) = SMap.find d.flags (objKey o 0) := by
  have hover := Dict.overflow_flag (d := d) (step := f.mark.step) h
  unfold Dict.enqueue
  dsimp only
  split_ifs <;> first | rfl | exact hover

/-- Raising an event adds to its own counter, modulo 2^32 (R471). -/
theorem Dict.raise_count_self (ha : amount ≠ 0) (h : obj ≠ Obj.eventQueueOverflowCount) :
    (d.raise step obj 0 amount unit value).count obj 0 = (d.count obj 0 + amount) % 2 ^ 32 := by
  simp only [Dict.raise, if_neg ha]
  split
  · rw [Dict.enqueue_count _ h]; exact SMap.getD_put_self ..
  · exact SMap.getD_put_self ..

/-- Raising an event leaves every other counter but that of the queue's overflows. -/
theorem Dict.raise_count_ne (ho : o ≠ obj) (h : o ≠ Obj.eventQueueOverflowCount) :
    (d.raise step obj 0 amount unit value).count o 0 = d.count o 0 := by
  have hkey := mt objKey_zero_inj.1 ho
  unfold Dict.raise
  dsimp only
  split_ifs
  · rfl
  · rw [Dict.enqueue_count _ h]; exact SMap.getD_put_ne _ _ _ _ hkey
  · exact SMap.getD_put_ne _ _ _ _ hkey

/-- Raising an event sets its flag, with its step, unit and value (R471). -/
theorem Dict.raise_flag_self (ha : amount ≠ 0) (h : obj ≠ Obj.eventQueueOverflowCount) :
    SMap.find (d.raise step obj 0 amount unit value).flags (objKey obj 0) = some { step := step, unit := unit, value := value } := by
  simp only [Dict.raise, if_neg ha]
  split
  · rw [Dict.enqueue_flag _ h]; exact SMap.find_insert_self ..
  · exact SMap.find_insert_self ..

/-- Raising an event leaves every other flag but that of the queue's overflows. -/
theorem Dict.raise_flag_ne (ho : o ≠ obj) (h : o ≠ Obj.eventQueueOverflowCount) :
    SMap.find (d.raise step obj 0 amount unit value).flags (objKey o 0) = SMap.find d.flags (objKey o 0) := by
  have hkey := mt objKey_zero_inj.1 ho
  unfold Dict.raise
  dsimp only
  split_ifs
  · rfl
  · rw [Dict.enqueue_flag _ h]; exact SMap.find_insert_ne _ _ hkey
  · exact SMap.find_insert_ne _ _ hkey

theorem S8.raise_count_self {s : S8} (ha : amount ≠ 0) (h : obj ≠ Obj.eventQueueOverflowCount) :
    (s.raise obj 0 amount unit value).dict.count obj 0 = (s.dict.count obj 0 + amount) % 2 ^ 32 := Dict.raise_count_self ha h

theorem S8.raise_count_ne {s : S8} (ho : o ≠ obj) (h : o ≠ Obj.eventQueueOverflowCount) :
    (s.raise obj 0 amount unit value).dict.count o 0 = s.dict.count o 0 := Dict.raise_count_ne ho h

end Events

/-! ### Fields of joined bytes -/

@[simp] theorem leBytes_length (n v : Nat) : (leBytes n v).length = n := by
  induction n generalizing v with
  | zero => rfl
  | succ n ih => simp [leBytes, ih]

/-- A field written in n bytes reads back modulo 256^n (R5). -/
theorem leNat_leBytes (n v : Nat) : leNat (leBytes n v) = v % 256 ^ n := by
  induction n generalizing v with
  | zero => simp [leBytes, leNat, Nat.mod_one]
  | succ n ih => rw [leBytes, leNat, ih, BitVec.toNat_ofNat, Nat.pow_succ' (m := 256), Nat.mod_mul (x := v)]

/-- Bytes cut at a length that they have are cut in their first part. -/
theorem padTo_append {n : Nat} {a : Bytes} (b : Bytes) (h : n ≤ a.length) : padTo n (a ++ b) = a.take n := by
  induction n generalizing a with
  | zero => simp [padTo]
  | succ n ih =>
    cases a with
    | nil => simp at h
    | cons x a => simp [padTo, ih (Nat.le_of_succ_le_succ h)]

theorem padTo_of_length {n : Nat} {a : Bytes} (h : a.length = n) : padTo n a = a := by
  simpa [← h] using padTo_append (n := n) [] h.ge

/-- A field within the first of two joined strings is read there. -/
theorem leAt_append_left {a : Bytes} (b : Bytes) {i n : Nat} (h : i + n ≤ a.length) : leAt (a ++ b) i n = leAt a i n := by
  have hn : n ≤ (a.drop i).length := by simp; omega
  have ha := padTo_append [] hn
  rw [List.append_nil] at ha
  rw [leAt, leAt, bytesAt, bytesAt, List.drop_append_of_le_length (by omega), padTo_append b hn, ha]

/-- A field beyond the first of two joined strings is read in the second. -/
theorem leAt_append_right {a : Bytes} (b : Bytes) {i k n : Nat} (h : i = a.length + k) : leAt (a ++ b) i n = leAt b k n := by
  rw [leAt, leAt, bytesAt, bytesAt, h, List.drop_append, List.drop_eq_nil_of_le (by omega), List.nil_append, Nat.add_sub_cancel_left]

theorem leAt_leBytes (n v : Nat) : leAt (leBytes n v) 0 n = v % 256 ^ n := by
  rw [leAt, bytesAt, List.drop_zero, padTo_of_length (leBytes_length n v), leNat_leBytes]

theorem leNat_lt (b : Bytes) : leNat b < 256 ^ b.length := by
  induction b with
  | nil => simp [leNat]
  | cons x b ih =>
    have hx : x.toNat < 256 := x.isLt
    rw [leNat, List.length_cons, Nat.pow_succ']
    omega

theorem leAt_lt (b : Bytes) (i n : Nat) : leAt b i n < 256 ^ n := by
  simpa [leAt] using leNat_lt (bytesAt b i n)

/-! ### Restored frames (R345) -/

/-- A restored frame has the new handle, the publishing generation, bit 1 of Flags, and the stored frame's records. -/
theorem restoredFrame_fields (b : Bytes) (handle generation : Nat) :
    leAt (restoredFrame b handle generation) 0 4 = handle % 2 ^ 32 ∧
    leAt (restoredFrame b handle generation) 16 4 = generation % 2 ^ 32 ∧
    leAt (restoredFrame b handle generation) 7 1 = leAt b 7 1 ||| 2 ∧ (restoredFrame b handle generation).drop 20 = b.drop 20 := by
  have hflags : leAt b 7 1 ||| 2 < 2 ^ 8 := Nat.or_lt_two_pow (leAt_lt b 7 1) (by decide)
  unfold restoredFrame
  simp only [List.append_assoc]
  refine ⟨?handle, ?generation, ?flags, ?records⟩
  case handle => rw [leAt_append_left _ (by simp), leAt_leBytes]; rfl
  case generation =>
    rw [leAt_append_right (k := 12) _ (by simp), leAt_append_right (k := 9) _ (by simp), leAt_append_right (k := 8) _ (by simp),
      leAt_append_right (k := 0) _ (by simp), leAt_append_left _ (by simp), leAt_leBytes]
    rfl
  case flags =>
    rw [leAt_append_right (k := 3) _ (by simp), leAt_append_right (k := 0) _ (by simp), leAt_append_left _ (by simp), leAt_leBytes]
    exact Nat.mod_eq_of_lt hflags
  case records => simp [List.drop_append, List.drop_eq_nil_of_le]

/-! ### Restoring the layers (R271 to R275, R345) -/

theorem S8.publishLayer_frame (s : S8) (slot layer : Nat) (entries blocks : List Nat) (directory : Nat) :
    s.publishLayer slot layer entries blocks directory = { s with
      mem := (s.publishLayer slot layer entries blocks directory).mem
      dict := (s.publishLayer slot layer entries blocks directory).dict
      attn := { s.attn with publishing := (s.publishLayer slot layer entries blocks directory).attn.publishing } } := rfl

/-- A restored layer changes memory, what is to be published and the count of what that replaces, and nothing else. -/
theorem S8.restoreLayer_frame (s : S8) (slot : Nat) (q : Sequence) (image : PauseImage) (layer : Nat) (taken : List Nat) :
    (s.restoreLayer slot q image layer taken).1 = { s with
      mem := (s.restoreLayer slot q image layer taken).1.mem
      dict := (s.restoreLayer slot q image layer taken).1.dict
      attn := { s.attn with publishing := (s.restoreLayer slot q image layer taken).1.attn.publishing } } := rfl

/-- The layers of an image restored one after another, with the frames taken (R345). -/
def S8.restoreLayers (s : S8) (slot : Nat) (q : Sequence) (image : PauseImage) (layers : List Nat) : S8 × List Nat :=
  layers.foldl (fun (a : S8 × List Nat) x => a.1.restoreLayer slot q image x a.2) (s, [])

theorem S8.restoreLayers_frame (s : S8) (slot : Nat) (q : Sequence) (image : PauseImage) (layers : List Nat) :
    (s.restoreLayers slot q image layers).1 = { s with
      mem := (s.restoreLayers slot q image layers).1.mem
      dict := (s.restoreLayers slot q image layers).1.dict
      attn := { s.attn with publishing := (s.restoreLayers slot q image layers).1.attn.publishing } } :=
  List.foldlRecOn (motive := fun a : S8 × List Nat =>
    a.1 = { s with mem := a.1.mem, dict := a.1.dict, attn := { s.attn with publishing := a.1.attn.publishing } }) _ _ rfl
    fun a ha x _ => by rw [S8.restoreLayer_frame, ha]

/-- A restore that succeeds ends the sequence's wait, frees its entry and leaves the queues; beyond that it only restores layers. -/
theorem S8.restored_eq {s : S8} {slot : Nat} {q q' : Sequence} (n : Nat) (e : PauseEntry) (h : SMap.find s.serve.slots slot = some q') :
    s.restored slot q n e = { (s.restoreLayers slot q e.image (List.range (min s.run.layersHeld (leAt e.image.header 8 2)))).1 with
      serve := { s.serve with slots := SMap.insert s.serve.slots slot { q' with restoring := false, entry := none } }
      cellar := (s.cellar.release n).unqueue slot } := by
  rw [S8.restored, ← S8.restoreLayers]
  rw [S8.restoreLayers_frame]
  simp [S8.setSequence, h]

/-! ### A sequence ends with the loss of its image (R347) -/

@[simp] theorem Serving.releaseFrames_slots (v : Serving) (step : Nat) (frames : List Nat) :
    (v.releaseFrames step frames).slots = v.slots := by
  unfold Serving.releaseFrames; split <;> rfl

@[simp] theorem Serving.releaseFrames_finished (v : Serving) (step : Nat) (frames : List Nat) :
    (v.releaseFrames step frames).finished = v.finished := by
  unfold Serving.releaseFrames; split <;> rfl

/-- Freeing a slot changes the serving state, the pins of cultures and the cellar, and nothing else. -/
theorem S8.freeSlot_frame (s : S8) (slot : Nat) : s.freeSlot slot =
    { s with serve := (s.freeSlot slot).serve, cultures := (s.freeSlot slot).cultures, cellar := (s.freeSlot slot).cellar } := by
  unfold S8.freeSlot
  split <;> rfl

theorem S8.finish_frame (s : S8) (slot : Nat) (c : Completion) : s.finish slot c =
    { s with serve := (s.finish slot c).serve, cultures := (s.finish slot c).cultures, cellar := (s.finish slot c).cellar } := by
  unfold S8.finish
  split
  · rfl
  · dsimp only
    rw [S8.freeSlot_frame]

@[simp] theorem S8.finish_mem (s : S8) (slot : Nat) (c : Completion) : (s.finish slot c).mem = s.mem := by rw [S8.finish_frame]

@[simp] theorem S8.finish_run (s : S8) (slot : Nat) (c : Completion) : (s.finish slot c).run = s.run := by rw [S8.finish_frame]

@[simp] theorem S8.finish_dict (s : S8) (slot : Nat) (c : Completion) : (s.finish slot c).dict = s.dict := by rw [S8.finish_frame]

/-- A sequence that ends leaves its slot free, and its record is to be sent. -/
theorem S8.finish_ends {s : S8} {slot : Nat} {q : Sequence} (c : Completion) (h : SMap.find s.serve.slots slot = some q) :
    SMap.find (s.finish slot c).serve.slots slot = none ∧
      (s.finish slot c).serve.finished = s.serve.finished ++ [(s.serve.handle slot, q, c)] := by
  simp [S8.finish, h, S8.freeSlot]

/-- The loss of an image ends its sequence and breaks its promise: memory and the run stay (R347). -/
theorem S8.cellarLoss_ends {s : S8} {slot : Nat} {q : Sequence} (h : SMap.find s.serve.slots slot = some q) :
    (s.cellarLoss slot).mem = s.mem ∧ (s.cellarLoss slot).run = s.run ∧ SMap.find (s.cellarLoss slot).serve.slots slot = none ∧
    (s.cellarLoss slot).serve.finished = s.serve.finished ++ [(s.serve.handle slot, q, Completion.plain 3 4 true)] ∧
    (s.cellarLoss slot).dict.count Obj.promiseBrokenCount 0 = (s.dict.count Obj.promiseBrokenCount 0 + 1) % 2 ^ 32 := by
  obtain ⟨hslot, hfinished⟩ := S8.finish_ends (Completion.plain 3 4 true) h
  exact ⟨S8.finish_mem .., S8.finish_run .., hslot, hfinished,
    (S8.raise_count_self (by decide) (by decide)).trans (by rw [S8.finish_dict])⟩

/-- A restore whose image is at hand and sound succeeds once enough table blocks are free. -/
theorem exec_restoreComplete_readable {slot : SeqSlot} {s : State} {q : Sequence} {n : Nat} {e : PauseEntry}
    (hreading : slot.val ∈ s.chip.cellar.reading) (hslot : SMap.find s.chip.serve.slots slot = some q) (hentry : q.entry = some n)
    (hindex : SMap.find s.chip.cellar.index n = some e) (hsound : sha256 e.image.stored = e.image.digest)
    (haway : s.chip.cellarsAway.length < 2) : exec (.restoreComplete slot .readable) s = .next { s with
      chip := if s.chip.blocksSuffice e.image then s.chip.restored slot q n e else s.chip } := by
  rw [exec_restoreComplete, execRestoreComplete, act_of_wf rfl]
  simp [hslot, hreading, hentry, hindex, hsound, Nat.not_le.2 haway]

/-- A restore whose image cannot be read, or is not sound, loses it. -/
theorem exec_restoreComplete_lost {slot : SeqSlot} {read : ReadResult} {s : State} {q : Sequence} {n : Nat} {e : PauseEntry}
    (hreading : slot.val ∈ s.chip.cellar.reading) (hslot : SMap.find s.chip.serve.slots slot = some q) (hentry : q.entry = some n)
    (hindex : SMap.find s.chip.cellar.index n = some e)
    (hlost : read = .failed ∨ 2 ≤ s.chip.cellarsAway.length ∨ sha256 e.image.stored ≠ e.image.digest) :
    ∃ amount, exec (.restoreComplete slot read) s = .next { s with
      chip := (s.chip.raise Obj.cellarDataLostCount 0 amount 0 n).cellarLoss slot } := by
  rw [exec_restoreComplete, execRestoreComplete, act_of_wf rfl]
  by_cases hread : read = .failed ∨ 2 ≤ s.chip.cellarsAway.length
  · exact ⟨1, by simp [hslot, hreading, hentry, hindex, hread]⟩
  · have hsound : sha256 e.image.stored ≠ e.image.digest := by tauto
    exact ⟨0, by simp [hslot, hreading, hentry, hindex, hread, hsound, S8.raise]⟩

theorem restoresEnd : Claims.RestoresEnd := by
  refine ⟨?sound, ?lost, fun b handle generation _ => restoredFrame_fields b handle generation⟩
  case sound =>
    intro slot s q n e hreading hslot hentry hindex hsound haway
    have hexec := exec_restoreComplete_readable hreading hslot hentry hindex hsound haway
    refine ⟨fun hb => by rw [hexec, hb]; rfl, fun hb => ?_⟩
    rw [hb, if_pos rfl, S8.restored_eq n e hslot, S8.restoreLayers_frame] at hexec
    refine ⟨_, hexec, rfl, ?ends, ?others, ?freed, ?kept, ?memory⟩
    case ends => exact SMap.find_insert_self ..
    case others => exact fun m hm => SMap.find_insert_ne _ _ hm
    case freed => exact SMap.find_erase_self ..
    case kept => exact fun m hm => SMap.find_erase_ne _ hm
    case memory => exact fun h => by simp [h, S8.restoreLayers]
  case lost =>
    intro slot read s q n e hreading hslot hentry hindex hlost
    obtain ⟨amount, hexec⟩ := exec_restoreComplete_lost hreading hslot hentry hindex hlost
    obtain ⟨hmem, hrun, hfree, hfinished, hcount⟩ :=
      S8.cellarLoss_ends (s := s.chip.raise Obj.cellarDataLostCount 0 amount 0 n) (slot := slot) hslot
    refine ⟨_, hexec, rfl, hmem, hrun, hfree, hfinished, hcount.trans ?_⟩
    rw [S8.raise_count_ne (by decide) (by decide)]

/-! ### The XOR of pages (R329, R330) -/

/-- The bytewise XOR of two pages. -/
def xorPage (a b : Bytes) : Bytes := List.zipWith (· ^^^ ·) a b

theorem xorPages_eq (n : Nat) (pages : List Bytes) : xorPages n pages = pages.foldl xorPage (zeros n) := rfl

theorem xorPage_length {n : Nat} {a b : Bytes} (ha : a.length = n) (hb : b.length = n) : (xorPage a b).length = n := by
  simp [xorPage, ha, hb]

theorem xorPage_comm (a b : Bytes) : xorPage a b = xorPage b a := List.zipWith_comm_of_comm BitVec.xor_comm

theorem xorPage_assoc (a b c : Bytes) : xorPage (xorPage a b) c = xorPage a (xorPage b c) := by
  refine List.ext_getElem (by simp [xorPage, Nat.min_assoc]) fun i _ _ => ?_
  simp [xorPage, BitVec.xor_assoc]

theorem xorPage_self (a : Bytes) : xorPage a a = zeros a.length := by
  refine List.ext_getElem (by simp [xorPage, zeros]) fun i _ _ => ?_
  simp [xorPage, zeros]

/-- Two pages of one length whose XOR is zero are equal. -/
theorem eq_of_xorPage_eq_zeros {n : Nat} {a b : Bytes} (ha : a.length = n) (hb : b.length = n) (h : xorPage a b = zeros n) : a = b := by
  refine List.ext_getElem (ha.trans hb.symm) fun i hi hj => ?_
  have hx : (xorPage a b)[i]? = (zeros n)[i]? := by rw [h]
  have hn : i < n := ha ▸ hi
  simpa [xorPage, zeros, hi, hj, hn, List.getElem?_zipWith] using hx

theorem foldl_xorPage (l : List Bytes) (a p : Bytes) : l.foldl xorPage (xorPage p a) = xorPage p (l.foldl xorPage a) := by
  induction l generalizing a with
  | nil => rfl
  | cons q l ih => rw [List.foldl_cons, List.foldl_cons, xorPage_assoc, ih]

theorem xorPages_cons (n : Nat) (p : Bytes) (l : List Bytes) : xorPages n (p :: l) = xorPage p (xorPages n l) := by
  rw [xorPages_eq, xorPages_eq, List.foldl_cons, xorPage_comm, foldl_xorPage]

theorem xorPages_length {n : Nat} {l : List Bytes} (h : ∀ p ∈ l, p.length = n) : (xorPages n l).length = n := by
  induction l with
  | nil => simp [xorPages, zeros]
  | cons p l ih =>
    rw [xorPages_cons]
    exact xorPage_length (h p List.mem_cons_self) (ih fun q hq => h q (List.mem_cons_of_mem _ hq))

/-- The XOR of pages does not depend on their order. -/
theorem xorPages_perm (n : Nat) {l m : List Bytes} (h : l.Perm m) : xorPages n l = xorPages n m := by
  induction h with
  | nil => rfl
  | cons p _ ih => rw [xorPages_cons, xorPages_cons, ih]
  | swap p q l => rw [xorPages_cons, xorPages_cons, xorPages_cons, xorPages_cons, ← xorPage_assoc, ← xorPage_assoc, xorPage_comm p]
  | trans _ _ ih₁ ih₂ => exact ih₁.trans ih₂

/-- The pages of a full stripe are its data pages with their XOR put in at the parity's die (R329). -/
theorem stripePages_eq_insertIdx (n stripe : Nat) {data : List Bytes} (h : data.length = 7) :
    stripePages n stripe data = data.insertIdx (parityDie stripe) (xorPages n data) := by
  have hp : parityDie stripe < 8 := Nat.mod_lt _ (by decide)
  refine List.ext_getElem (by rw [List.length_insertIdx_of_le_length (by omega), h]; simp [stripePages]) fun i hi hj => ?_
  have hi8 : i < 8 := by simpa [stripePages] using hi
  rw [List.getElem_insertIdx]
  simp only [stripePages, List.getElem_map, List.getElem_range]
  rcases Nat.lt_trichotomy i (parityDie stripe) with hlt | heq | hgt
  · rw [dif_pos hlt, if_neg hlt.ne, if_pos hlt, List.getD_eq_getElem _ _ (by omega)]
  · rw [dif_neg (by omega), dif_pos heq, if_pos heq]
  · rw [dif_neg (by omega), dif_neg hgt.ne', if_neg hgt.ne', if_neg (by omega), List.getD_eq_getElem _ _ (by omega)]

/-- Any page of a full stripe is the XOR of the other seven (R330). -/
theorem rebuildPage_stripePages {n die : Nat} (stripe : Nat) {data : List Bytes} (hdata : data.length = 7)
    (hlen : ∀ p ∈ data, p.length = n) (hdie : die < 8) :
    rebuildPage n (stripePages n stripe data) die = (stripePages n stripe data).getD die [] := by
  have hparity : (xorPages n data).length = n := xorPages_length hlen
  have hperm : (stripePages n stripe data).Perm (xorPages n data :: data) := by
    rw [stripePages_eq_insertIdx n stripe hdata]
    exact List.perm_insertIdx _ _ (by have := Nat.mod_lt stripe (show 0 < 8 by decide); unfold parityDie; omega)
  have hdie' : die < (stripePages n stripe data).length := by simpa [stripePages] using hdie
  have hsum : xorPage ((stripePages n stripe data)[die]) (rebuildPage n (stripePages n stripe data) die) = zeros n := by
    rw [rebuildPage, ← List.eraseIdx_eq_take_drop_succ, ← xorPages_cons, xorPages_perm n (List.getElem_cons_eraseIdx_perm hdie'),
      xorPages_perm n hperm, xorPages_cons, xorPage_self, hparity]
  have hpage : ∀ p ∈ stripePages n stripe data, p.length = n := fun p hp => by
    rcases List.mem_cons.1 (hperm.mem_iff.1 hp) with rfl | hp
    · exact hparity
    · exact hlen p hp
  have hrest : (rebuildPage n (stripePages n stripe data) die).length = n :=
    xorPages_length fun p hp => hpage p (List.mem_of_mem_eraseIdx (i := die) (by rwa [List.eraseIdx_eq_take_drop_succ]))
  rw [List.getD_eq_getElem _ _ hdie']
  exact (eq_of_xorPage_eq_zeros (hpage _ (List.getElem_mem hdie')) hrest hsum).symm

/-! ### Pages and stripes that are read (R330, R331, R348, R349) -/

theorem S8.not_mem_cellarsAway {s : S8} {die : Nat} (h : s.cellarReachable die = true) : die ∉ s.cellarsAway := by
  simp [S8.cellarsAway, h]

/-- A read of a page of a reachable cellar counts the words it corrected, and a page that stays uncorrectable has failed. -/
theorem exec_cellarPageRead_reachable {stripe : Nat} {die : Die} {s : State} (corrected uncorrectable retries : Nat)
    (hreach : s.chip.cellarReachable die = true) (hwide : die.val ∉ SMap.getD s.chip.cellar.narrow stripe []) :
    exec (.cellarPageRead stripe die corrected uncorrectable retries) s = .next { s with
      chip := if uncorrectable = 0 then s.chip.raise Obj.cellarCorrectedCount 0 corrected (unitField 1 die) stripe
        else (s.chip.raise Obj.cellarCorrectedCount 0 corrected (unitField 1 die) stripe).pageFailed stripe die } := by
  rw [exec_cellarPageRead, execCellarPageRead, act_of_wf rfl]
  simp [hwide, S8.not_mem_cellarsAway hreach]

/-- A stripe that is rewritten to fresh blocks changes nothing but its record in the cellar (R330). -/
theorem S8.rewriteStripe_frame (s : S8) (stripe : Nat) : s.rewriteStripe stripe = { s with cellar := { s.cellar with
    narrow := (s.rewriteStripe stripe).cellar.narrow, lostPages := (s.rewriteStripe stripe).cellar.lostPages
    written := (s.rewriteStripe stripe).cellar.written, days := (s.rewriteStripe stripe).cellar.days } } := rfl

/-- A rewritten stripe lacks the pages of the cellars that cannot be reached, and no other (R330). -/
theorem S8.rewriteStripe_narrow (s : S8) (stripe : Nat) :
    SMap.getD (s.rewriteStripe stripe).cellar.narrow stripe [] = s.cellarsAway := SMap.getD_put_self ..

theorem S8.rewriteStripe_lostPages (s : S8) (stripe : Nat) :
    SMap.find (s.rewriteStripe stripe).cellar.lostPages stripe = none := SMap.find_erase_self ..

/-- Retiring a block takes its share of the die's spare, and may raise CellarSpareLow (R349). -/
theorem S8.retireBlock_spareUsed (s : S8) (die : Nat) :
    SMap.getD (s.retireBlock die).cellar.spareUsed die 0 = SMap.getD s.cellar.spareUsed die 0 + Config.flashBlock := by
  refine (SMap.getD_insert ..).trans (if_pos rfl)

theorem S8.retireBlock_count (s : S8) (die : Nat) {o : Nat} (hlow : o ≠ Obj.cellarSpareLowCount)
    (h : o ≠ Obj.eventQueueOverflowCount) : (s.retireBlock die).dict.count o 0 = s.dict.count o 0 :=
  S8.raise_count_ne hlow h

/-- A failed page whose stripe has its other pages has the stripe rewritten, is counted, and retires its block (R331). -/
theorem S8.pageFailed_rebuilt {s : S8} {stripe die : Nat} (h : s.missingPages stripe die = []) :
    s.pageFailed stripe die =
      ((s.rewriteStripe stripe).raise Obj.cellarRebuildCount 0 1 (unitField 1 die) stripe).retireBlock die := if_pos h

/-- A failed page whose stripe misses another page too is lost (R331). -/
theorem S8.pageFailed_lost {s : S8} {stripe die : Nat} (h : s.missingPages stripe die ≠ []) :
    s.pageFailed stripe die = s.dataLost stripe die := if_neg h

/-- A lost page on a stored image that no sequence awaits is recorded and counted, and the image is lost with it (R332, R347). -/
theorem S8.dataLost_image {s : S8} {stripe die n : Nat} {e : PauseEntry} (hpause : firstPauseStripe ≤ stripe)
    (hholds : s.cellar.index.find? (fun x => x.2.holds stripe) = some (n, e)) (howner : s.serve.ownerOf n = none) :
    s.dataLost stripe die = { s with
      dict := s.dict.raise s.run.step Obj.cellarDataLostCount 0 1 (unitField 1 die) n
      cellar := { s.cellar with
        index := SMap.insert s.cellar.index n { e with state := 4 }
        lostPages := SMap.modify s.cellar.lostPages stripe [] (insertNat die) } } := by
  simp [S8.dataLost, hpause, hholds, S8.raise, howner]

theorem stripesAreKeptSound : Claims.StripesAreKeptSound := by
  refine ⟨?decodes, ?fails, ?scrub, ?rebuild, fun n stripe die data hdata hlen hdie => rebuildPage_stripePages stripe hdata hlen hdie⟩
  case decodes =>
    intro stripe corrected retries die s hreach hwide
    rw [exec_cellarPageRead_reachable corrected 0 retries hreach hwide, if_pos rfl]
  case fails =>
    intro stripe corrected uncorrectable retries die s hreach hbad hwide
    have hexec := exec_cellarPageRead_reachable corrected uncorrectable retries hreach hwide
    rw [if_neg (Nat.pos_iff_ne_zero.1 hbad)] at hexec
    refine ⟨fun hrest => ?rebuilt, fun n e hmissing hpause hholds howner => ?lost⟩
    case rebuilt =>
      rw [S8.pageFailed_rebuilt (by exact hrest)] at hexec
      refine ⟨_, hexec, rfl, S8.rewriteStripe_narrow .., S8.rewriteStripe_lostPages .., S8.retireBlock_spareUsed .., ?_⟩
      rw [S8.retireBlock_count _ _ (by decide) (by decide), S8.raise_count_self (by decide) (by decide), S8.rewriteStripe_frame,
        S8.raise_count_ne (by decide) (by decide)]
    case lost =>
      rw [S8.pageFailed_lost (by exact hmissing), S8.dataLost_image hpause (by exact hholds) (by exact howner)] at hexec
      refine ⟨_, hexec, rfl, SMap.find_insert_self .., ?_, ?_⟩
      · simp [SMap.modify, SMap.getD_insert]
      · exact (Dict.raise_count_self (by decide) (by decide)).trans (by rw [S8.raise_count_ne (by decide) (by decide)])
  case scrub =>
    intro stripe retries corrected s
    refine ⟨_, (exec_scrubPass ..).trans (act_of_wf rfl), ?frame, fun hr hc => ?leaves, fun h => ?rewrites⟩
    case frame =>
      simp only [reduceCtorEq, if_false]
      split <;> rfl
    case leaves => simp [Nat.not_lt.2 hr, Nat.not_lt.2 hc]
    case rewrites =>
      simp only [reduceCtorEq, if_false, if_pos h]
      rfl
  case rebuild =>
    intro stripe s hlacks hback hpages
    have hgo : ¬(SMap.getD s.chip.cellar.narrow stripe [] = [] ∨
        (SMap.getD s.chip.cellar.narrow stripe []).any (fun d => s.chip.cellarsAway.contains d) = true ∨
        SMap.getD s.chip.cellar.lostPages stripe [] ≠ []) := by simpa [hlacks, hpages] using hback
    refine ⟨{ s with chip := s.chip.rewriteStripe stripe }, ?_, rfl, S8.rewriteStripe_narrow .., rfl⟩
    rw [exec_cellarRebuild, execCellarRebuild, act_of_wf rfl]
    dsimp only
    rw [if_neg hgo]

/-! ### Cellar seconds (R178, R342, R343) -/

theorem SMap.find_foldl_erase {α : Type} (keys : List Nat) (m : SMap α) (k : Nat) :
    SMap.find (keys.foldl SMap.erase m) k = if k ∈ keys then none else SMap.find m k := by
  induction keys generalizing m with
  | nil => simp
  | cons j keys ih =>
    rw [List.foldl_cons, ih, SMap.find_erase]
    by_cases hj : k = j <;> simp [hj]

/-- With rising keys, an entry of the list is what is found at its key. -/
theorem SMap.mem_iff_find {α : Type} {m : SMap α} (h : SMap.sorted m = true) {k : Nat} {v : α} :
    (k, v) ∈ m ↔ SMap.find m k = some v := by
  induction m with
  | nil => simp
  | cons e m ih =>
    obtain ⟨j, x⟩ := e
    obtain ⟨hlt, hs⟩ := (SMap.sorted_cons (j, x) m).1 h
    rw [SMap.find_cons, List.mem_cons, ih hs]
    by_cases hk : k = j
    · subst hk
      have hnone : SMap.find m k ≠ some v := fun hf => Nat.lt_irrefl k (hlt (k, v) ((ih hs).2 hf))
      simp [hnone, eq_comm]
    · simp [hk]

theorem Cellar.foldl_release (keys : List Nat) (c : Cellar) :
    keys.foldl Cellar.release c = { c with index := keys.foldl SMap.erase c.index } := by
  induction keys generalizing c with
  | nil => rfl
  | cons k keys ih => rw [List.foldl_cons, ih]; rfl

/-- The entries that are stored and have expired go, and no other (R343). -/
theorem find_expired_released {index : SMap PauseEntry} (hs : SMap.sorted index = true) (p : PauseEntry → Bool) (n : Nat) :
    SMap.find (((index.filter (fun e => p e.2)).map (fun e => e.1)).foldl SMap.erase index) n =
      (SMap.find index n).filter (fun e => !p e) := by
  have hgone : n ∈ (index.filter (fun e => p e.2)).map (fun e => e.1) ↔ ∃ e, SMap.find index n = some e ∧ p e = true := by
    simp [SMap.mem_iff_find hs]
  rw [SMap.find_foldl_erase]
  cases hf : SMap.find index n with
  | none => simp
  | some e => cases hp : p e <;> simp [hgone, hf, hp, Option.filter]

/-- The count after a second, and what of it is saved each minute (R342). -/
def Cellar.nextSecond (c : Cellar) : Cellar :=
  { c with
    seconds := (c.seconds + 1) % 2 ^ 32
    savedSeconds := if (c.seconds + 1) % 2 ^ 32 % 60 = 0 then (c.seconds + 1) % 2 ^ 32 else c.savedSeconds }

/-- A second changes the cellar's count, its index and the record of days, and the dictionary; nothing else. -/
theorem S8.cellarTick_frame (s : S8) : s.cellarTick = { s with
    dict := s.cellarTick.dict
    cellar := { s.cellar.nextSecond with
      index := ((s.cellar.index.filter (fun e => e.2.state = 2 && s.cellar.nextSecond.expired e.2)).map (fun e => e.1)).foldl
        SMap.erase s.cellar.index
      days := s.cellarTick.cellar.days } } := by
  unfold S8.cellarTick
  dsimp only
  rw [Cellar.foldl_release]
  split <;> rfl

/-- MeasFirmwareHold counts down with the seconds (R178). -/
theorem S8.cellarTick_hold (s : S8) :
    s.cellarTick.dict.get Obj.measFirmwareHold = s.dict.get Obj.measFirmwareHold - 1 := by
  unfold S8.cellarTick
  dsimp only
  split <;> simp [S8.raise, Dict.get_store]

/-! ### Extending a key (R342, R343) -/

/-- A key that names a stored, unexpired image is extended from now. -/
theorem pauseKeyExtendEffect_live {s : S8} {value : Bytes} {n : Nat} {e : PauseEntry} (hlen : value.length = 12)
    (hnamed : s.cellar.named (leAt value 0 8) = some (n, e)) (hlive : s.cellar.expired e = false) :
    pauseKeyExtendEffect s value = (statusOk, { s with cellar := { s.cellar with
      index := SMap.insert s.cellar.index n { e with expiry := (s.cellar.seconds + leAt value 8 4) % 2 ^ 32 }
      extendStatus := 0 } }) := by
  simp [pauseKeyExtendEffect, hlen, hnamed, hlive]

/-- Any other key is only reported. -/
theorem pauseKeyExtendEffect_refused {s : S8} {value : Bytes} (hlen : value.length = 12)
    (h : s.cellar.named (leAt value 0 8) = none ∨
      ∃ x, s.cellar.named (leAt value 0 8) = some x ∧ s.cellar.expired x.2 = true) :
    pauseKeyExtendEffect s value = (statusOk, { s with cellar := { s.cellar with extendStatus := 1 } }) := by
  obtain hnone | ⟨x, hx, hexpired⟩ := h
  · simp [pauseKeyExtendEffect, hlen, hnone]
  · simp [pauseKeyExtendEffect, hlen, hx, hexpired]

/-- A write of PauseKeyExtend that arrives is answered with OK after its effect. -/
theorem exec_pauseKeyExtend_arrives {w : ObjWrite} {s : State} {c : S8} (harr : s.chip.writeArrives w Obj.pauseKeyExtend)
    (heffect : pauseKeyExtendEffect s.chip w.value = (statusOk, c)) :
    exec (.pauseKeyExtend w) s = .next { s with chip := c.writeDone w Obj.pauseKeyExtend } := by
  rw [exec_pauseKeyExtend, execPauseKeyExtend, act_of_wf rfl, S8.performWrite_ok harr (by decide) (by rw [heffect]), heffect]

theorem secondsExpireKeys : Claims.SecondsExpireKeys := by
  refine ⟨?second, ?off, ?extend, ?refuse⟩
  case second =>
    intro s hfirm
    have hexec : exec .cellarSecond s = .next { s with chip := s.chip.cellarTick } := by
      rw [exec_cellarSecond, execCellarSecond, act_of_wf rfl, if_pos hfirm]
    refine ⟨_, hexec, ?_, S8.cellarTick_hold .., ?_, fun hs n => ?_⟩
    · rw [S8.cellarTick_frame]; rfl
    · rw [S8.cellarTick_frame]; rfl
    · rw [S8.cellarTick_frame]
      refine (find_expired_released hs (fun e => e.state = 2 && s.chip.cellar.nextSecond.expired e) n).trans ?_
      simp only [Cellar.expired, Cellar.nextSecond, Bool.and_assoc]
      rfl
  case off =>
    intro s hfirm
    rw [exec_cellarSecond, execCellarSecond, act_of_wf rfl, hfirm]
    rfl
  case extend =>
    intro w s n e harr hlen hnamed hlive
    exact ⟨_, exec_pauseKeyExtend_arrives harr (pauseKeyExtendEffect_live hlen hnamed hlive), rfl, SMap.find_insert_self ..,
      fun m hm => SMap.find_insert_ne _ _ hm⟩
  case refuse =>
    intro w s harr hlen hkey
    exact ⟨_, exec_pauseKeyExtend_arrives harr (pauseKeyExtendEffect_refused hlen hkey), rfl⟩

/-- Settles O54: a restore puts back layers and frees its entry, pages XOR to zero over their stripe, and what has expired is erased. -/
theorem cellarIsKept : Obligations.CellarIsKept := ⟨restoresEnd, stripesAreKeptSound, secondsExpireKeys⟩

end Sys2Proof.Machine

/-! PROOFS. Source blocks aligned to a pour vector (R45, R48). -/

namespace Sys2Proof.Machine

/-! ### Lists made of pieces of one length -/

section Pieces
variable {α β : Type} {f : α → List β} {n : Nat}

/-- Whole pieces are dropped with what they are made of. -/
theorem drop_flatMap_of_length (h : ∀ x, (f x).length = n) (l : List α) (i : Nat) :
    (l.flatMap f).drop (n * i) = (l.drop i).flatMap f := by
  induction l generalizing i with
  | nil => simp
  | cons x l ih =>
    cases i with
    | zero => simp
    | succ i => rw [List.flatMap_cons, Nat.mul_succ, Nat.add_comm, ← h x, List.drop_length_add_append, h x, ih, List.drop_succ_cons]

theorem length_flatMap_of_length (h : ∀ x, (f x).length = n) (l : List α) : (l.flatMap f).length = n * l.length := by
  simp [List.length_flatMap, h, Nat.mul_comm]

/-- Element i of piece b. -/
theorem getD_flatMap_of_length (h : ∀ x, (f x).length = n) {l : List α} {b i : Nat} (hb : b < l.length) (hi : i < n) (d : β) :
    (l.flatMap f).getD (n * b + i) d = (f l[b]).getD i d := by
  rw [List.getD_eq_getElem?_getD, ← List.getElem?_drop, drop_flatMap_of_length h, List.drop_eq_getElem_cons hb, List.flatMap_cons,
    List.getElem?_append_left (by rw [h]; exact hi), List.getD_eq_getElem?_getD]

end Pieces

/-! ### Limiting -/

theorem clampInt_mem {lo hi : Int} (h : lo ≤ hi) (v : Int) : lo ≤ clampInt lo hi v ∧ clampInt lo hi v ≤ hi := by
  unfold clampInt
  split
  · omega
  · split <;> omega

theorem clampInt_of_mem {lo hi v : Int} (hlo : lo ≤ v) (hhi : v ≤ hi) : clampInt lo hi v = v := by
  rw [clampInt, if_neg (by omega), if_neg (by omega)]

theorem clampInt_of_not_mem {lo hi v : Int} (h : v < lo ∨ hi < v) : clampInt lo hi v = lo ∨ clampInt lo hi v = hi := by
  unfold clampInt
  split
  · exact .inl rfl
  · exact .inr (if_pos (by omega))

/-! ### Pour vectors (R45, R48) -/

section PourVectors
variable (blocks : List Block) (lifted : List Nat) (zT sT : Nat)

/-- The aligned codes of a source block, each with whether it was clamped; an element of a lifted row is driven at zero. -/
def alignedBlock (b : Nat) : List (Int × Bool) :=
  (List.range 32).map (fun i =>
    if lifted.contains (32 * b + i) then (0, false)
    else alignCode (pourExponent blocks lifted) (blocks.getD b Block.zero).scale ((blocks.getD b Block.zero).codes.getD i 0))

theorem buildPourVector_exponent : (buildPourVector blocks lifted zT sT).1.exponent = pourExponent blocks lifted := rfl

theorem buildPourVector_codes : (buildPourVector blocks lifted zT sT).1.codes =
    (List.range blocks.length).flatMap (fun b => (alignedBlock blocks lifted b).map Prod.fst) :=
  List.flatMap_map ..

theorem buildPourVector_poison : (buildPourVector blocks lifted zT sT).1.poison = true ↔ ∃ b ∈ blocks, b.scale = 0xFF := by
  simp [buildPourVector]

/-- A block trips at either threshold. -/
theorem mem_buildPourVector_tripMap (b : Nat) : b ∈ (buildPourVector blocks lifted zT sT).1.tripMap ↔ b < blocks.length ∧
    (zT ≤ (buildPourVector blocks lifted zT sT).1.z.getD b 0 ∨ sT ≤ (buildPourVector blocks lifted zT sT).1.s.getD b 0) := by
  simp [buildPourVector]

theorem buildPourVector_fallback : (buildPourVector blocks lifted zT sT).1.fallback = true ↔
    (buildPourVector blocks lifted zT sT).1.tripMap ≠ [] :=
  decide_eq_true_iff

theorem pourExponent_le : pourExponent blocks lifted ≤ 0xFA := Nat.min_le_left ..

theorem alignedBlock_length (b : Nat) : ((alignedBlock blocks lifted b).map Prod.fst).length = 32 := by simp [alignedBlock]

theorem alignedBlock_getD {b i : Nat} (hi : i < 32) (d : Int) : ((alignedBlock blocks lifted b).map Prod.fst).getD i d =
    if lifted.contains (32 * b + i) then 0
    else (alignCode (pourExponent blocks lifted) (blocks.getD b Block.zero).scale ((blocks.getD b Block.zero).codes.getD i 0)).1 := by
  simp only [alignedBlock, List.getD_eq_getElem?_getD, List.getElem?_map, List.getElem?_range hi, Option.map_some, Option.getD_some]
  split <;> rfl

/-- The code of element i of block b. -/
theorem buildPourVector_code {b i : Nat} (hb : b < blocks.length) (hi : i < 32) (d : Int) :
    (buildPourVector blocks lifted zT sT).1.codes.getD (32 * b + i) d = if lifted.contains (32 * b + i) then 0
      else (alignCode (pourExponent blocks lifted) (blocks.getD b Block.zero).scale
        ((blocks.getD b Block.zero).codes.getD i 0)).1 := by
  rw [buildPourVector_codes, getD_flatMap_of_length (alignedBlock_length blocks lifted) (by simpa using hb) hi, List.getElem_range,
    alignedBlock_getD blocks lifted hi]

end PourVectors

/-- A code is clamped only above the pour exponent, and to a limit of the code range. -/
theorem alignCode_clamped {p scale : Nat} {x : Int} (h : (alignCode p scale x).2 = true) :
    p < scale ∧ ((alignCode p scale x).1 = 127 ∨ (alignCode p scale x).1 = -127) := by
  unfold alignCode at h ⊢
  split_ifs at h ⊢ with hzero hle
  exact ⟨Nat.lt_of_not_le hle, (clampInt_of_not_mem (of_decide_eq_true h)).symm⟩

/-- Settles O36: each element's code is read off its block, and the flags off the blocks' scales and counters. -/
theorem pourVectorsAlign : Obligations.PourVectorsAlign := by
  rintro blocks lifted zT sT v rfl
  refine ⟨pourExponent_le .., ?length, buildPourVector_poison .., ?lifted, ?code, mem_buildPourVector_tripMap _ _ _ _,
    buildPourVector_fallback .., fun p scale x => alignCode_clamped⟩
  case length => rw [buildPourVector_codes, length_flatMap_of_length (alignedBlock_length blocks lifted), List.length_range]
  case lifted =>
    intro r hr hlt
    have hcode := buildPourVector_code blocks lifted zT sT (b := r / 32) (i := r % 32) (by omega) (by omega) 1
    rwa [Nat.div_add_mod, if_pos (List.contains_iff_mem.2 hr)] at hcode
  case code =>
    intro b hb i hi hfree
    rw [buildPourVector_code _ _ _ _ hb hi, if_neg (mt List.contains_iff_mem.1 hfree), buildPourVector_exponent]

end Sys2Proof.Machine

/-! PROOFS. Core tasks write the rows of their lanes (R45, R57, R205, R206). -/

namespace Sys2Proof.Machine

/-! ### Core tasks and the rows that they write (R205) -/

/-- A task that works on a lane does its work. -/
theorem S8.onTask_of_works {s : S8} {index kind lane : Nat} {sh : Sheet} {t : CoreTask} (h : s.taskWorks index kind lane sh t)
    (f : Sheet → CoreTask → S8) : s.onTask index kind lane f = f sh t := by
  obtain ⟨htask, hkind, hdie, hback, hfirst, hlast, hactive, hended⟩ := h
  simp [S8.onTask, htask, hkind, hdie, hback, hfirst, hlast, hactive, hended]

/-- Rows that decode are read. -/
theorem S8.reading_of_good {s : S8} {core : CoreRef} {row n : Nat} (h : s.mem.badRows core row n = []) (f : Bytes → S8) :
    s.reading core row n f = f (s.mem.readRows core row n) := if_pos h

/-- A lane's outcome is its rows in memory and what the slots hold. -/
theorem S8.laneResult_frame (s : S8) (core : CoreRef) (row : Nat) (rows : Bytes) (phase lane status : Nat) :
    s.laneResult core row rows phase lane status = { s with
      mem := s.mem.writeRows core row rows
      serve := { s.serve with slots := (s.laneResult core row rows phase lane status).serve.slots } } := by
  unfold S8.laneResult
  dsimp only
  split
  · rfl
  · split <;> rfl

/-- What ends in a lane's outcome, apart from what it counts, writes the lane's rows and leaves the rest. -/
theorem S8.eq_of_laneResult {s c : S8} {core : CoreRef} {row : Nat} {rows : Bytes} {phase lane status : Nat} {d : Dict}
    (h : c = { s.laneResult core row rows phase lane status with dict := d }) :
    c = { s with mem := s.mem.writeRows core row rows, serve := { s.serve with slots := c.serve.slots }, dict := c.dict } := by
  rw [h, S8.laneResult_frame]

/-- A command whose work ends in a lane's outcome answers a module that differs in the lane's rows, the slots and counters. -/
theorem exec_of_laneResult {i : Instr} {s : State} {c : S8} {core : CoreRef} {row : Nat} {rows : Bytes} {phase lane status : Nat}
    {d : Dict} (hexec : exec i s = .next { s with chip := c })
    (hc : c = { s.chip.laneResult core row rows phase lane status with dict := d }) : ∃ u, exec i s = .next u ∧
      u = { s with chip := { s.chip with
        mem := s.chip.mem.writeRows core row rows
        serve := { s.chip.serve with slots := u.chip.serve.slots }, dict := u.chip.dict } } :=
  ⟨_, hexec, congrArg (fun c => { s with chip := c }) (S8.eq_of_laneResult hc)⟩

theorem Mem.byte_foldl_write {w : Nat → Nat × Bytes} {a : Nat} {l : List Nat}
    (h : ∀ i ∈ l, a < (w i).1 ∨ (w i).1 + (w i).2.length ≤ a) (m : Mem) :
    (l.foldl (fun m i => m.write (w i).1 (w i).2) m).byte a = m.byte a := by
  induction l generalizing m with
  | nil => rfl
  | cons i l ih =>
    have hi := h i List.mem_cons_self
    rw [List.foldl_cons, ih (fun j hj => h j (List.mem_cons_of_mem i hj)), Mem.byte_write, if_neg (by omega)]

/-- Writing rows changes no byte outside them. -/
theorem Mem.byte_writeRows_of_avoid {m : Mem} {core : CoreRef} {row : Nat} {b : Bytes} {a : Nat}
    (h : rowsAvoid core row (ceilDiv b.length 512) a) : (m.writeRows core row b).byte a = m.byte a :=
  Mem.byte_foldl_write (w := fun i => (rowAddr core (row + i), bytesAt b (512 * i) 512))
    (fun i hi => by simpa using h i (List.mem_range.1 hi)) m

/-! ### Pieces of bytes -/

/-- Bytes made longer keep what they hold. -/
theorem padTo_of_le {n : Nat} {b : Bytes} (h : b.length ≤ n) : padTo n b = b ++ zeros (n - b.length) := by
  induction n generalizing b with
  | zero => simp [List.eq_nil_of_length_eq_zero (Nat.le_zero.1 h), padTo, zeros]
  | succ n ih =>
    cases b with
    | nil => simpa [padTo, zeros, List.replicate_succ] using ih (b := []) (by simp)
    | cons x b => simp [padTo, ih (Nat.le_of_succ_le_succ h)]

theorem le_mul_ceilDiv (n : Nat) {d : Nat} (h : 0 < d) : n ≤ d * ceilDiv n d := by
  have hdiv := Nat.div_add_mod (n + d - 1) d
  have hmod := Nat.mod_lt (n + d - 1) h
  unfold ceilDiv
  omega

/-- A field of n bytes for each element, read at element i (R5). -/
theorem leAt_flatMap_leBytes {α : Type} (n : Nat) (f : α → Nat) {l : List α} {i : Nat} (hi : i < l.length) :
    leAt (l.flatMap (fun a => leBytes n (f a))) (n * i) n = f l[i] % 256 ^ n := by
  rw [leAt, bytesAt, drop_flatMap_of_length (fun a => leBytes_length n (f a)), List.drop_eq_getElem_cons hi, List.flatMap_cons,
    padTo_append _ (leBytes_length ..).ge, ← padTo_append [] (leBytes_length ..).ge, List.append_nil,
    padTo_of_length (leBytes_length ..), leNat_leBytes]

/-! ### Building pour vectors and rounding (R45, R57) -/

section OfLane
variable {s : S8} {sh : Sheet} {t : CoreTask} {r : Reduction} {lane index : Nat}

/-- What a task of kind 0 writes of a lane. -/
theorem S8.buildVector_eq {n : Nat} (hn : n = sh.vectorRowsOf t) (h : s.mem.badRows t.core (t.inRow n lane) n = []) :
    s.buildVector sh t lane = { s with
      mem := s.mem.writeRows t.core (t.outRow n lane)
        ((buildPourVector (splitBlocks (s.mem.readRows t.core (t.inRow n lane) n) (if n = 3 then 1024 else 2048))
          (((s.vectorVat sh t.core t.phase (t.outRow n lane) lane).map s.mem.liftedRows).getD [])
          (s.dict.get Obj.fallbackZThreshold) (s.dict.get Obj.fallbackSThreshold)).1.toBytes n)
      dict := (s.buildVector sh t lane).dict } := by
  subst hn
  rw [S8.buildVector, S8.reading_of_good h]

/-- The accumulators of a lane's result, as they stand in the task's input rows (R134). -/
def S8.resultAccs (s : S8) (t : CoreTask) (r : Reduction) (lane : Nat) : List Acc :=
  (List.range r.width).map (fun i => Acc.ofBytes
    (bytesAt (s.mem.readRows t.core (t.inRow (resultRows r.width) lane) (resultRows r.width)) (16 * i) 16))

/-- Accumulators rounded to W16, in whole rows (R57). -/
def w16Rows (width : Nat) (accs : List Acc) : Bytes :=
  padTo (512 * ceilDiv (2 * width) 512) (accs.flatMap (fun a => leBytes 2 a.roundW16))

/-- Accumulators rounded to N8 blocks, in whole rows (R57). -/
def n8Rows (width : Nat) (accs : List Acc) : Bytes := toSplit ((roundN8 accs width).map (·.1))

@[simp] theorem S8.resultAccs_length : (s.resultAccs t r lane).length = r.width := by simp [S8.resultAccs]

theorem w16Rows_length (width : Nat) (accs : List Acc) : (w16Rows width accs).length / 512 = ceilDiv (2 * width) 512 := by
  rw [w16Rows, padTo_length, Nat.mul_div_cancel_left _ (by decide)]

/-- The W16 value of column i. -/
theorem leAt_w16Rows {accs : List Acc} {i : Nat} (hi : i < accs.length) :
    leAt (w16Rows accs.length accs) (2 * i) 2 = (accs.map Acc.roundW16).getD i 0 % 65536 := by
  have hlen : (accs.flatMap (fun a => leBytes 2 a.roundW16)).length = 2 * accs.length :=
    length_flatMap_of_length (fun a => leBytes_length 2 _) accs
  rw [w16Rows, padTo_of_le (by rw [hlen]; exact le_mul_ceilDiv _ (by decide)), leAt_append_left _ (by omega),
    leAt_flatMap_leBytes 2 _ hi, List.getD_eq_getElem _ _ (by simpa using hi), List.getElem_map]
  rfl

theorem S8.roundLane_w16 (hr : sh.resultAt t = some r)
    (hbad : s.mem.badRows t.core (t.inRow (resultRows r.width) lane) (resultRows r.width) = [])
    (h : Config.roundsToW16 t.routine (s.run.argumentOf index t lane) = true) : ∃ status, s.roundLane sh index t lane =
      s.laneResult t.core (t.outRow ((w16Rows r.width (s.resultAccs t r lane)).length / 512) lane)
        (w16Rows r.width (s.resultAccs t r lane)) t.phase lane status := by
  rw [w16Rows_length]
  simp only [S8.roundLane, hr, S8.reading_of_good hbad, h, if_true]
  exact ⟨_, rfl⟩

theorem S8.roundLane_n8 (hr : sh.resultAt t = some r)
    (hbad : s.mem.badRows t.core (t.inRow (resultRows r.width) lane) (resultRows r.width) = [])
    (h : Config.roundsToW16 t.routine (s.run.argumentOf index t lane) = false) : ∃ status d, s.roundLane sh index t lane =
      { s.laneResult t.core (t.outRow ((n8Rows r.width (s.resultAccs t r lane)).length / 512) lane)
        (n8Rows r.width (s.resultAccs t r lane)) t.phase lane status with dict := d } := by
  simp only [S8.roundLane, hr, S8.reading_of_good hbad, h, Bool.false_eq_true, if_false]
  exact ⟨_, _, rfl⟩

/-- What a task of kind 9 writes of a lane (R206). -/
theorem S8.stageLane_eq {x : Transfer}
    (hx : sh.transfers.find? (fun x => x.kind = 1 && x.source = t.core && x.lane = lane) = some x)
    (hbad : s.mem.badRows t.core (t.inRow (stagedInputRows x.format x.length) lane) (stagedInputRows x.format x.length) = []) :
    ∃ status d, s.stageLane sh t lane = { s.laneResult t.core (t.outRow (ceilDiv x.length 512) lane)
      (padTo (512 * ceilDiv x.length 512) (stagedBytes x.format x.length
        (s.mem.readRows t.core (t.inRow (stagedInputRows x.format x.length) lane) (stagedInputRows x.format x.length))).1)
      t.phase lane status with dict := d } := by
  simp only [S8.stageLane, hx, S8.reading_of_good hbad]
  exact ⟨_, _, rfl⟩

end OfLane

/-- Settles O35: a task that works writes its lane's outcome, `laneResult`, which touches rows, slots and nothing else. -/
theorem tasksWriteTheirLanesRows : Obligations.TasksWriteTheirLanesRows := by
  refine ⟨?vectors, ?round, ?norm, ?embed, ?staging, fun m core row b a => Mem.byte_writeRows_of_avoid⟩
  case vectors =>
    rintro task lane s sh t n lifted b hworks hn hbad rfl rfl
    refine ⟨{ s with chip := s.chip.buildVector sh t lane }, ?_, ?_⟩
    · rw [exec_taskBuildPourVectors, execTaskBuildPourVectors, act_of_wf rfl, S8.onTask_of_works hworks]
    · exact congrArg (fun c => { s with chip := c }) (S8.buildVector_eq hn hbad)
  case round =>
    rintro task lane s sh t r n accs hworks hr rfl hbad rfl
    have hexec : exec (.taskRound task lane) s = .next { s with chip := s.chip.roundLane sh task t lane } := by
      rw [exec_taskRound, execTaskRound, act_of_wf rfl, S8.onTask_of_works hworks]
    cases hround : Config.roundsToW16 t.routine (s.chip.run.argumentOf task t lane) with
    | false =>
      obtain ⟨status, d, h⟩ := S8.roundLane_n8 hr hbad hround
      obtain ⟨u, hu, heq⟩ := exec_of_laneResult hexec h
      exact ⟨u, _, hu, heq, fun _ => rfl, nofun⟩
    | true =>
      obtain ⟨status, h⟩ := S8.roundLane_w16 hr hbad hround
      refine ⟨_, _, hexec, congrArg (fun c => { s with chip := c }) (S8.eq_of_laneResult h), nofun, fun _ => ⟨?dict, ?column⟩⟩
      case dict => rw [h]; rfl
      case column =>
        intro i hi
        have hcol := leAt_w16Rows (accs := s.chip.resultAccs t r lane) (i := i) (by simpa using hi)
        rwa [S8.resultAccs_length] at hcol
  case norm =>
    rintro task lane s sh t arg n out hworks rfl rfl rfl hbad
    refine exec_of_laneResult (c := s.chip.routineLane task 2 t lane _) ?_ rfl
    rw [exec_taskNormActivation, execTaskNormActivation, act_of_wf rfl, S8.onTask_of_works hworks, S8.reading_of_good hbad]
  case embed =>
    rintro task lane s sh t arg out token hworks rfl rfl htoken
    refine exec_of_laneResult (c := s.chip.routineLane task 6 t lane _) ?_ rfl
    rw [exec_taskEmbed, execTaskEmbed, act_of_wf rfl, S8.onTask_of_works hworks, htoken]
  case staging =>
    rintro task lane s sh t x n out hworks hx rfl rfl hbad
    obtain ⟨status, d, h⟩ := S8.stageLane_eq hx hbad
    refine exec_of_laneResult (c := s.chip.stageLane sh t lane) ?_ h
    rw [exec_taskTransferStaging, execTaskTransferStaging, act_of_wf rfl, S8.onTask_of_works hworks]

end Sys2Proof.Machine

/-! PROOFS. Contributions, the ranges of the rind, and reduction trees (R51 to R54, R80, R95, R132, R134, R240, R241). -/

namespace Sys2Proof.Machine

/-! ### Contributions (R53, R54, R80, R132) -/

/-- Accumulators with what is added to each, position by position. -/
def addEach (base adds : List Acc) : List Acc :=
  base.zipIdx.map (fun e => match adds[e.2]? with | some a => e.1.add a | none => e.1)

theorem addEach_getD {base adds : List Acc} {i : Nat} (hb : i < base.length) (ha : i < adds.length) (d : Acc) :
    (addEach base adds).getD i d = (base.getD i d).add adds[i] := by
  simp [addEach, List.getD_eq_getElem?_getD, List.getElem?_eq_getElem hb, List.getElem?_eq_getElem ha]

/-- The accumulators that a contribution adds, column by column. -/
def Contribution.addends (m : Mem) (c : Contribution) : List Acc :=
  ((List.range (min c.reduction.width c.p.length)).map (fun i => c.column m i)).map
    (fun k => { value := k.1 * 2 ^ (c.reduction.grid + 48).toNat, poison := c.poison, saturated := false })

@[simp] theorem Contribution.addends_length (m : Mem) (c : Contribution) :
    (c.addends m).length = min c.reduction.width c.p.length := by simp [Contribution.addends]

theorem Contribution.addends_value {m : Mem} {c : Contribution} {i : Nat} (h : i < (c.addends m).length) :
    (c.addends m)[i].value = (c.column m i).1 * 2 ^ (c.reduction.grid + 48).toNat := by simp [Contribution.addends]

/-- What is limited lies within the reduction's limit (R132). -/
theorem limitContribution_le (k : Int) (limit : Nat) : (limitContribution k limit).1.natAbs ≤ limit := by
  have h := clampInt_mem (lo := -(limit : Int)) (hi := limit) (by omega) k
  unfold limitContribution
  omega

/-- The key of the set that a contribution goes to (R80). -/
def Contribution.key (c : Contribution) : Nat := setKey (unitOfVat c.vat) c.reduction.number c.lane

section Add
variable (s : S8) (c : Contribution)

theorem S8.addContribution_opened : ((s.addContribution c).vats.set c.key).opened = true := by
  simp only [Vats.set, Contribution.key, S8.addContribution, SMap.getD_insert, if_true]

theorem S8.addContribution_cols : ((s.addContribution c).vats.set c.key).cols =
    addEach (if (s.vats.set c.key).opened then (s.vats.set c.key).cols else emptyCols c.reduction.width) (c.addends s.mem) := by
  simp only [Vats.set, Contribution.key, S8.addContribution, SMap.getD_insert, if_true]
  rfl

/-- Every other set is as it was. -/
theorem S8.addContribution_set_ne {k : Nat} (h : k ≠ c.key) : (s.addContribution c).vats.set k = s.vats.set k := by
  simp only [Vats.set, S8.addContribution, SMap.getD_insert]
  exact if_neg h

end Add

theorem contributionIsAddedExactly : Claims.ContributionIsAddedExactly := by
  intro s c key base hkey hbase
  obtain rfl : key = c.key := hkey
  subst hbase
  refine ⟨S8.addContribution_opened s c, ?column, fun k => S8.addContribution_set_ne s c, rfl, rfl,
    fun i => limitContribution_le ..⟩
  case column =>
    intro i hbase hp hwidth
    have hadd : i < (c.addends s.mem).length := by rw [Contribution.addends_length]; exact lt_min hwidth hp
    rw [S8.addContribution_cols, addEach_getD hbase hadd, Acc.add, Contribution.addends_value hadd]

/-! ### Ranges in the rind (R51, R54, R95) -/

theorem clamp48_mem (y : Int) : -(2 ^ 47) ≤ clamp48 y ∧ clamp48 y ≤ 2 ^ 47 - 1 := clampInt_mem (by decide) y

theorem limitResult_mem {p : List Int} {y f : Int} {halved : Bool} (hf : f = if halved then 2 else 1)
    (h : y ∈ (limitResult halved p).1) : -(f * pourUnitMax) ≤ y ∧ y ≤ f * pourUnitMax := by
  subst hf
  obtain ⟨x, -, rfl⟩ := List.mem_map.1 h
  exact clampInt_mem (by cases halved <;> decide) x

theorem PourInput.stage4_of_zero {i : PourInput} (h : i.exponent = 0) (p : Nat) : i.stage4 p = 0 := if_pos h

theorem PourInput.stage4_mem (i : PourInput) (p : Nat) : -(2 ^ 47) ≤ i.stage4 p ∧ i.stage4 p ≤ 2 ^ 47 - 1 := by
  unfold PourInput.stage4
  split
  · decide
  · split <;> exact clamp48_mem _

theorem Acc.add_mem (x y : Acc) : -accMax ≤ (x.add y).value ∧ (x.add y).value ≤ accMax := clampInt_mem (by decide) _

/-- The sum is marked where it leaves the accumulator's range (R54). -/
theorem Acc.add_saturated (x y : Acc) : (x.add y).saturated = (x.saturated || y.saturated || x.saturates y) := by
  simp [Acc.add, Acc.saturates]

theorem Acc.add_value_of_fits {x y : Acc} (h : x.saturates y = false) : (x.add y).value = x.value + y.value := by
  simp only [Acc.saturates, Bool.or_eq_false_iff, decide_eq_false_iff_not, Int.not_lt] at h
  exact clampInt_of_mem h.1 h.2

theorem rindValuesStayInRange : Claims.RindValuesStayInRange := by
  refine ⟨fun p y hy => ?whole, fun p y hy => limitResult_mem rfl hy, PourInput.stage4_mem, fun x y => ?sum,
    fun i p h => PourInput.stage4_of_zero h p⟩
  case whole => simpa using limitResult_mem rfl hy
  case sum =>
    obtain ⟨hlo, hhi⟩ := Acc.add_mem x y
    refine ⟨hlo, hhi, fun h => ⟨Acc.add_value_of_fits h, ?_⟩, fun h => ?_, rfl⟩
    · rw [Acc.add_saturated, h, Bool.or_false]
    · rw [Acc.add_saturated, h, Bool.or_true]

/-! ### Reading the leaves (R134) -/

/-- Judging leaves the vats. -/
theorem S8.judge_vats (s : S8) : s.judge.vats = s.vats := by
  unfold S8.judge S8.moduleDone
  dsimp only
  split
  · rw [S8.collect_frame]
  · rfl

section Leaves
variable (sh : Sheet) (r : Reduction) (lanes : List Nat) (mesh : List (RindUnit × Lane × MeshErr)) (lane : Nat) (t : TreeEntry)
  (p : Partial)

/-- What a node passes on changes operands and outgoing partials, and nothing else. -/
theorem Vats.passOn_frame (v : Vats) : v.passOn sh r lane t p = { v with
    operands := (v.passOn sh r lane t p).operands, outgoing := (v.passOn sh r lane t p).outgoing } := by
  unfold Vats.passOn
  split
  · rfl
  · split
    · split <;> rfl
    · rfl

/-- A node's partial becomes an operand of a parent that adds. -/
theorem Vats.passOn_operand {v : Vats} {parent : TreeEntry} (hparent : sh.treeEntry r t.parent = some parent)
    (hkind : parent.kind ≠ 4) : SMap.find (v.passOn sh r lane t p).operands (operandKey r.number lane t.parent t.slot) = some p := by
  simp only [Vats.passOn, hparent, if_neg hkind, SMap.find_insert_self]

theorem Vats.readLeaf_frame (v : Vats) : v.readLeaf sh r lanes mesh t = { v with
    operands := (v.readLeaf sh r lanes mesh t).operands, outgoing := (v.readLeaf sh r lanes mesh t).outgoing } :=
  List.foldlRecOn (motive := fun g : Vats => g = { v with operands := g.operands, outgoing := g.outgoing }) _ _ rfl
    fun g hg _ _ => by rw [Vats.passOn_frame, hg]

theorem Vats.foldl_readLeaf_frame (v : Vats) (leaves : List TreeEntry) : ∃ operands outgoing,
    leaves.foldl (fun a t => a.readLeaf sh r lanes mesh t) v = { v with operands := operands, outgoing := outgoing } :=
  ⟨_, _, List.foldlRecOn (motive := fun g : Vats => g = { v with operands := g.operands, outgoing := g.outgoing }) _ _ rfl
    fun g hg _ _ => by rw [Vats.readLeaf_frame, hg]⟩

end Leaves

/-- Work of a list of entries moves the halves' work ticks and nothing else in the run. -/
theorem Run.foldl_worked_frame (leaves : List TreeEntry) (tick : Nat) (r : Run) : ∃ workTick,
    leaves.foldl (fun a t => a.worked (2 * t.die + t.half) tick) r = { r with workTick := workTick } :=
  ⟨_, List.foldlRecOn (motive := fun g : Run => g = { r with workTick := g.workTick }) _ _ rfl
    fun g hg _ _ => by rw [Run.worked, hg]⟩

/-- The leaves that are read: those that are not passed over (R134). -/
def S8.readableLeaves (s : S8) (sh : Sheet) (r : Reduction) : List TreeEntry :=
  ((sh.treeOf r).map (·.2)).filter (fun t => t.kind = 1 && !(s.passedOver t))

section Read
variable {s : S8} {sh : Sheet} {r : Reduction} {reduction : Nat} (hsheet : s.run.running = some sh)
  (hred : sh.reduction reduction = some r) (hcarry : r.carry = false) (tick : Nat) (mesh : List (RindUnit × Lane × MeshErr))

include hsheet hred hcarry

/-- Reading the leaves changes operands, outgoing partials, the reads served, the work ticks and counters, and nothing else. -/
theorem S8.readLeaves_frame : s.readLeaves reduction tick mesh = { s with
    vats := { s.vats with
      operands := (s.readLeaves reduction tick mesh).vats.operands
      outgoing := (s.readLeaves reduction tick mesh).vats.outgoing
      readsServed := insertNat reduction s.vats.readsServed }
    run := { s.run with workTick := (s.readLeaves reduction tick mesh).run.workTick }
    dict := (s.readLeaves reduction tick mesh).dict } := by
  obtain ⟨operands, outgoing, hvats⟩ :=
    Vats.foldl_readLeaf_frame sh r (s.run.activeLanes r.phase) mesh s.vats (s.readableLeaves sh r)
  obtain ⟨workTick, hrun⟩ := Run.foldl_worked_frame (s.readableLeaves sh r) tick s.run
  rw [S8.readableLeaves] at hvats hrun
  simp only [S8.readLeaves, hsheet, hred, hcarry, Bool.false_eq_true, if_false, hvats, hrun]
  rfl

theorem S8.readLeaves_operands : (s.readLeaves reduction tick mesh).vats.operands =
    ((s.readableLeaves sh r).foldl (fun a t => a.readLeaf sh r (s.run.activeLanes r.phase) mesh t) s.vats).operands := by
  simp only [S8.readLeaves, hsheet, hred, hcarry, Bool.false_eq_true, if_false]
  rfl

end Read

/-! ### Adding up (R134, R240, R241) -/

/-- A root whose operands have all arrived writes their sum at its lane's rows and counts as delivered. -/
theorem S8.addNode_root {s : S8} {sh : Sheet} {r : Reduction} {t : TreeEntry} {ops : List Partial} {reduction lane node : Nat}
    (hsheet : s.run.running = some sh) (hred : sh.reduction reduction = some r) (hnode : sh.treeEntry r node = some t)
    (hkind : t.kind = 3) (hpass : s.passedOver t = false) (hactive : s.run.laneActive r.phase lane = true)
    (hops : s.operandsOf sh r lane node = some ops) (tick : Nat) (mesh : MeshErr) :
    s.addNode reduction lane node tick mesh = { s with
      vats := { s.vats with
        operands := (s.addNode reduction lane node tick mesh).vats.operands
        delivered := insertNat (reduction * 128 + lane) s.vats.delivered }
      mem := s.mem.writeRows r.outCore (r.outRow + resultRows r.width * lane)
        ((((sumPartials r.width ops).1.mark (sumPartials r.width ops).2).cross mesh).rows r.width)
      run := s.run.worked (2 * t.die + t.half) tick
      dict := ((s.dict.raise s.run.step Obj.accSatCount 0 (sumPartials r.width ops).2 (unitField 1 t.die) reduction).raise s.run.step
        Obj.fabricCorrectedCount 0 mesh.corrected (unitField 1 t.die) 0).raise s.run.step
          Obj.fabricUncorrectableCount 0 mesh.flits.length (unitField 1 t.die) 0 } := by
  have hacts : ¬((t.kind ≠ 2 ∧ t.kind ≠ 3) ∨ s.passedOver t = true ∨ (!s.run.laneActive r.phase lane) = true) := by
    simp [hkind, hpass, hactive]
  simp only [S8.addNode, hsheet, hred, hnode, if_neg hacts, hops, if_pos hkind]
  rfl

/-- A column off the mesh keeps its value, and is poisoned by an uncorrectable word of its flit (R241). -/
theorem Partial.cross_col {p : Partial} {i : Nat} (e : MeshErr) (h : i < p.cols.length) :
    (p.cross e).col i = { p.col i with poison := (p.col i).poison || e.flits.contains (i / 4) } := by
  unfold Partial.cross
  split
  case isTrue hnone => simp [hnone]
  case isFalse =>
    simp only [Partial.col, List.getD_eq_getElem?_getD, List.getElem?_map, List.getElem?_zipIdx, List.getElem?_eq_getElem h,
      Option.map_some, Option.getD_some, Nat.zero_add]
    cases e.flits.contains (i / 4) <;> simp

theorem field_orStatus_poison (status : Nat) : field (orStatus status statusPoison) 4 1 = 1 := by
  have h : (status ||| 16).testBit 4 = true := by rw [Nat.testBit_or, show Nat.testBit 16 4 = true from rfl, Bool.or_true]
  rw [Nat.testBit_eq_decide_div_mod_eq] at h
  exact of_decide_eq_true h

/-- Any uncorrectable word poisons the lane status (R241). -/
theorem Partial.cross_status {p : Partial} {e : MeshErr} (h : e.flits ≠ []) : field (p.cross e).status 4 1 = 1 := by
  rw [Partial.cross, if_neg h]
  exact field_orStatus_poison p.status

theorem treesAddUp : Claims.TreesAddUp := by
  refine ⟨?frame, ?leaf, ?root, fun p e => ⟨fun h => if_pos h, fun i hi => ?column, Partial.cross_status⟩,
    fun _ _ _ _ => ⟨rfl, rfl, rfl⟩⟩
  case frame =>
    intro reduction tick mesh s sh r hsheet hred hcarry
    exact ⟨_, (exec_reductionRead ..).trans (act_of_wf rfl), S8.readLeaves_frame hsheet hred hcarry tick mesh⟩
  case leaf =>
    intro reduction tick mesh s sh r t parent lane hsheet hred hcarry hleaves hlanes hparent hkind
    refine ⟨_, (exec_reductionRead ..).trans (act_of_wf rfl), ?_⟩
    dsimp only
    rw [S8.judge_vats, S8.readLeaves_operands hsheet hred hcarry, S8.readableLeaves, hleaves, hlanes]
    exact Vats.passOn_operand sh r lane t _ hparent hkind
  case root =>
    intro reduction lane node tick mesh s sh r t ops hsheet hred hnode hkind hpass hactive hops
    have hadd := S8.addNode_root hsheet hred hnode hkind hpass hactive hops tick mesh
    refine ⟨_, (exec_addNode ..).trans (act_of_wf rfl), ?_, ?_⟩
    · rw [hadd]
    · rw [hadd]; exact (mem_insertNat ..).2 (.inl rfl)
  case column => rw [Partial.cross_col e hi]; exact ⟨rfl, rfl⟩

/-- Settles O27: sums are limited by `clampInt`, which leaves a value in range alone; a root writes `sumPartials` of its operands. -/
theorem reductionTreesAddUp : Obligations.ReductionTreesAddUp :=
  ⟨contributionIsAddedExactly, rindValuesStayInRange, treesAddUp⟩

end Sys2Proof.Machine

/-! PROOFS. Words made of fields, pour instructions and pool entries (R77, R110). -/

namespace Sys2Proof.Machine

/-! ### Words made of fields -/

/-- The number whose fields, the lowest first, have these widths and values. -/
def packed (l : List (Nat × Nat)) : Nat :=
  match l with
  | [] => 0
  | e :: rest => e.2 + 2 ^ e.1 * packed rest

/-- The fields of a number from bit lo upwards, of these widths. -/
def fieldsOf (w lo : Nat) (widths : List Nat) : List (Nat × Nat) :=
  match widths with
  | [] => []
  | n :: rest => (n, field w lo n) :: fieldsOf w (lo + n) rest

theorem packed_lt {l : List (Nat × Nat)} (h : ∀ e ∈ l, e.2 < 2 ^ e.1) : packed l < 2 ^ (l.map Prod.fst).sum := by
  induction l with
  | nil => decide
  | cons e l ih =>
    have hrest := ih fun x hx => h x (List.mem_cons_of_mem e hx)
    have he := h e List.mem_cons_self
    rw [packed, List.map_cons, List.sum_cons, pow_add]
    calc e.2 + 2 ^ e.1 * packed l < 2 ^ e.1 * (packed l + 1) := by rw [Nat.mul_add_one]; omega
      _ ≤ 2 ^ e.1 * 2 ^ (l.map Prod.fst).sum := Nat.mul_le_mul_left _ hrest

/-- Adjacent fields put together are one field. -/
theorem packed_fieldsOf (w lo : Nat) (widths : List Nat) : packed (fieldsOf w lo widths) = field w lo widths.sum := by
  induction widths generalizing lo with
  | nil => simp [fieldsOf, packed, field, Nat.mod_one]
  | cons n widths ih =>
    rw [fieldsOf, packed, ih, List.sum_cons, field, field, field, pow_add, pow_add, Nat.mod_mul, Nat.div_div_eq_div_mul]

/-- A packed number, with anything below bit lo, has the fields that it is made of. -/
theorem fieldsOf_packed {l : List (Nat × Nat)} (h : ∀ e ∈ l, e.2 < 2 ^ e.1) {lo low : Nat} (hlow : low < 2 ^ lo) :
    fieldsOf (2 ^ lo * packed l + low) lo (l.map Prod.fst) = l := by
  induction l generalizing lo low with
  | nil => rfl
  | cons e l ih =>
    have he := h e List.mem_cons_self
    have hhead : field (2 ^ lo * packed (e :: l) + low) lo e.1 = e.2 := by
      rw [field, Nat.mul_add_div (Nat.two_pow_pos lo), Nat.div_eq_of_lt hlow, Nat.add_zero, packed, Nat.add_mul_mod_self_left,
        Nat.mod_eq_of_lt he]
    have hsplit : 2 ^ lo * packed (e :: l) + low = 2 ^ (lo + e.1) * packed l + (2 ^ lo * e.2 + low) := by
      rw [packed, pow_add]; ring
    have hbelow : 2 ^ lo * e.2 + low < 2 ^ (lo + e.1) := by
      calc 2 ^ lo * e.2 + low < 2 ^ lo * (e.2 + 1) := by rw [Nat.mul_add_one]; omega
        _ ≤ 2 ^ (lo + e.1) := by rw [pow_add]; exact Nat.mul_le_mul_left _ he
    rw [List.map_cons, fieldsOf, hhead, hsplit, ih (fun x hx => h x (List.mem_cons_of_mem e hx)) hbelow]

/-- A number packed from bit 0 has the fields that it is made of. -/
theorem fieldsOf_packed_zero {l : List (Nat × Nat)} (h : ∀ e ∈ l, e.2 < 2 ^ e.1) :
    fieldsOf (packed l) 0 (l.map Prod.fst) = l := by
  simpa using fieldsOf_packed h (lo := 0) (low := 0) (by decide)

/-! ### Signed fields -/

theorem toSigned_ofSigned {n : Nat} {v : Int} (hlo : -(2 ^ n) ≤ v) (hhi : v < 2 ^ n) :
    toSigned (n + 1) (ofSigned (n + 1) v) = v := by
  have hcast : ((2 ^ n : Nat) : Int) = 2 ^ n := by push_cast; rfl
  simp only [toSigned, ofSigned, Nat.add_sub_cancel, pow_succ]
  generalize 2 ^ n = m, (2 ^ n : Int) = k at *
  subst hcast
  have hmod : v % (m * 2 : Int) = if v < 0 then v + m * 2 else v := by
    split
    · rw [← Int.add_emod_right, Int.emod_eq_of_lt (by omega) (by omega)]
    · rw [Int.emod_eq_of_lt (by omega) (by omega)]
  rw [hmod, Nat.mod_eq_of_lt (by omega)]
  omega

theorem ofSigned_toSigned (n w : Nat) : ofSigned (n + 1) (toSigned (n + 1) w) = w % 2 ^ (n + 1) := by
  have hcast : ((2 ^ n : Nat) : Int) = 2 ^ n := by push_cast; rfl
  have hpos := Nat.two_pow_pos n
  simp only [toSigned, ofSigned, Nat.add_sub_cancel, pow_succ]
  generalize 2 ^ n = m, (2 ^ n : Int) = k at *
  subst hcast
  have hlt := Nat.mod_lt w (show 0 < m * 2 by omega)
  split
  · rw [Int.emod_eq_of_lt (by omega) (by omega)]; omega
  · rw [Int.sub_emod_right, Int.emod_eq_of_lt (by omega) (by omega)]; omega

theorem ofSigned_lt (n : Nat) (v : Int) : ofSigned n v < 2 ^ n := by
  have hpos : (0 : Int) < 2 ^ n := by positivity
  have hlt := Int.emod_lt_of_pos v hpos
  have hnonneg := Int.emod_nonneg v hpos.ne'
  rw [ofSigned, ← Int.ofNat_lt, Int.toNat_of_nonneg hnonneg]
  push_cast
  exact hlt

/-! ### Pour instructions (R77) -/

/-- The fields of a pour instruction with their widths, the lowest first (R77). -/
def PourInstr.fields (p : PourInstr) : List (Nat × Nat) :=
  [(32, p.tag), (20, p.reservedLow), (12, p.reduction), (3, p.reserved), (10, p.row), (6, p.coreNum), (1, p.coreHalf), (12, p.vat),
    (1, p.vatKind), (7, p.lane), (7, p.slot), (1, p.accumulate), (2, p.average), (2, p.slotKind), (2, p.phase), (2, p.direction),
    (8, p.opcode)]

/-- The widths of those fields. -/
def pourInstrWidths : List Nat := [32, 20, 12, 3, 10, 6, 1, 12, 1, 7, 7, 1, 2, 2, 2, 2, 8]

theorem pourInstrWidths_sum : pourInstrWidths.sum = 128 := rfl

theorem PourInstr.fields_widths (p : PourInstr) : p.fields.map Prod.fst = pourInstrWidths := rfl

theorem PourInstr.toWord_eq_packed (p : PourInstr) : p.toWord = packed p.fields := by
  simp only [toWord, fields, packed]
  omega

theorem PourInstr.fields_ofWord (w : Nat) : (PourInstr.ofWord w).fields = fieldsOf w 0 pourInstrWidths := rfl

theorem PourInstr.fields_injective : Function.Injective PourInstr.fields := by
  intro p q h
  cases p
  cases q
  simp only [fields, List.cons.injEq, Prod.mk.injEq, true_and, and_true] at h
  simp only [h]

theorem PourInstr.ofWord_toWord {p : PourInstr} (h : ∀ e ∈ p.fields, e.2 < 2 ^ e.1) : PourInstr.ofWord p.toWord = p :=
  fields_injective <| by rw [fields_ofWord, toWord_eq_packed, ← fields_widths p, fieldsOf_packed_zero h]

theorem PourInstr.toWord_lt {p : PourInstr} (h : ∀ e ∈ p.fields, e.2 < 2 ^ e.1) : p.toWord < 2 ^ 128 := by
  rw [toWord_eq_packed, ← pourInstrWidths_sum, ← fields_widths p]
  exact packed_lt h

theorem PourInstr.toWord_ofWord {w : Nat} (h : w < 2 ^ 128) : (PourInstr.ofWord w).toWord = w := by
  rw [toWord_eq_packed, fields_ofWord, packed_fieldsOf, pourInstrWidths_sum]
  simpa [field] using h

/-! ### Pool entries (R110) -/

/-- The fields of an entry's word with their widths, the lowest first; bits 39 to 24 are reserved (R110). -/
def Entry.fields (e : Entry) : List (Nat × Nat) :=
  [(24, ofSigned 24 e.delta), (16, 0), (11, e.col), (11, e.row), (2, if e.residual then 2 else 1)]

/-- The widths of those fields. -/
def entryWidths : List Nat := [24, 16, 11, 11, 2]

theorem Entry.fields_widths (e : Entry) : e.fields.map Prod.fst = entryWidths := rfl

theorem Entry.toWord_eq_packed (e : Entry) : e.toWord = packed e.fields := by
  simp only [toWord, fields, packed]
  omega

theorem Entry.fields_lt {e : Entry} (hrow : e.row < 2048) (hcol : e.col < 2048) : ∀ x ∈ e.fields, x.2 < 2 ^ x.1 := by
  have hkind : (if e.residual then 2 else 1) < 4 := by split <;> decide
  simpa [fields, hrow, hcol, hkind] using ofSigned_lt 24 e.delta

theorem Entry.fields_of_ofWord {w : Nat} {e : Entry} (hres : field w 24 16 = 0) (h : Entry.ofWord w = some e) :
    fieldsOf w 0 entryWidths = e.fields := by
  unfold ofWord at h
  split at h
  case isFalse => cases h
  case isTrue hkind =>
    obtain rfl := Option.some.inj h
    have hdelta : ofSigned 24 (toSigned 24 (field w 0 24)) = field w 0 24 := by
      rw [ofSigned_toSigned 23, field, Nat.mod_mod]
    have hbits : field w 62 2 = if decide (field w 62 2 = 2) = true then 2 else 1 := by
      obtain h1 | h2 := hkind
      · simp [h1]
      · simp [h2]
    simp only [fieldsOf, entryWidths, fields, hdelta, Nat.reduceAdd, hres, ← hbits]

theorem Entry.ofWord_toWord {e : Entry} (hrow : e.row < 2048) (hcol : e.col < 2048) (hlo : -(2 ^ 23) ≤ e.delta)
    (hhi : e.delta < 2 ^ 23) : Entry.ofWord e.toWord = some e := by
  have h := fieldsOf_packed_zero (fields_lt hrow hcol)
  rw [fields_widths, ← toWord_eq_packed] at h
  simp only [fieldsOf, entryWidths, fields, Nat.reduceAdd, List.cons.injEq, Prod.mk.injEq, true_and, and_true] at h
  obtain ⟨hdelta, -, hcol', hrow', hkind⟩ := h
  have hsigned := toSigned_ofSigned (n := 23) hlo hhi
  rw [ofWord, hdelta, hcol', hrow', hkind, hsigned]
  obtain ⟨residual, row, col, delta⟩ := e
  cases residual <;> rfl

theorem Entry.toWord_of_ofWord {w : Nat} {e : Entry} (hw : w < 2 ^ 64) (hres : field w 24 16 = 0) (h : Entry.ofWord w = some e) :
    e.toWord = w := by
  rw [toWord_eq_packed, ← fields_of_ofWord hres h, packed_fieldsOf]
  simpa [field, entryWidths] using hw

/-- Settles O60: both words are packed from fields of fixed widths, and packing and reading fields are inverse. -/
theorem instructionsAndEntriesRoundTrip : Obligations.InstructionsAndEntriesRoundTrip := by
  refine ⟨?instr, fun w => PourInstr.toWord_ofWord, fun e => Entry.ofWord_toWord, fun w e => Entry.toWord_of_ofWord⟩
  case instr =>
    intro p hopcode hdirection hphase hslotKind haverage haccumulate hslot hlane hvatKind hvat hcoreHalf hcoreNum hrow hreserved
      hreduction hreservedLow htag
    have hfields : ∀ e ∈ p.fields, e.2 < 2 ^ e.1 := by
      simp only [PourInstr.fields, List.forall_mem_cons]
      exact ⟨htag, hreservedLow, hreduction, hreserved, hrow, hcoreNum, hcoreHalf, hvat, hvatKind, hlane, hslot, haccumulate,
        haverage, hslotKind, hphase, hdirection, hopcode, List.forall_mem_nil _⟩
    exact ⟨PourInstr.ofWord_toWord hfields, PourInstr.toWord_lt hfields⟩

end Sys2Proof.Machine

/-! PROOFS. The fetch window of a slot (R68, R122, R124, R231, R241). -/

namespace Sys2Proof.Machine

/-! ### Words met upset change only what backs the vats (R119, R398) -/

/-- The vats v have become w by vats being unbacked and rind units retired, and by nothing else. -/
def Vats.LosesBacking (v w : Vats) : Prop :=
  w = { v with unbacked := w.unbacked, unitsRetired := w.unitsRetired, unitsPoisoned := w.unitsPoisoned }

theorem S8.unbackVat_losesBacking {v : Vats} {s : S8} (h : v.LosesBacking s.vats) (k : Nat) :
    v.LosesBacking (s.unbackVat k).vats := by
  unfold S8.unbackVat
  split
  · exact h
  · unfold Vats.LosesBacking at h ⊢
    dsimp only
    rw [h]

theorem S8.retireUnit_losesBacking (s : S8) (u : Nat) : s.vats.LosesBacking (s.retireUnit u).vats := by
  unfold S8.retireUnit
  split
  · rfl
  · exact List.foldlRecOn (motive := fun c : S8 => s.vats.LosesBacking c.vats) _ _ rfl
      fun _ hc k _ => S8.unbackVat_losesBacking hc k

theorem S8.retireUnitsOf_losesBacking (s : S8) (a : Nat) (bad : List Nat) : s.vats.LosesBacking (s.retireUnitsOf a bad).vats := by
  unfold S8.retireUnitsOf
  split
  · rfl
  · split
    · split
      · exact s.retireUnit_losesBacking _
      · rfl
    · rfl

theorem S8.meetWords_losesBacking (s : S8) (a n : Nat) (upset : Upsets) : s.vats.LosesBacking (s.meetWords a n upset).vats :=
  S8.retireUnitsOf_losesBacking _ a _

/-! ### Reading the vector (R68, R231, R241) -/

section Vector
variable (s : S8) (vat slot : Nat) (p : PourInstr) (upset : Upsets) (mesh : MeshErr)

/-- The vector read fills the slot's fetch register and leaves the windows and the lanes that wait or are to be released. -/
theorem S8.fetchVector_vats : ∃ v : Vats, s.vats.LosesBacking v ∧ (s.fetchVector vat slot p upset mesh).2.vats =
    { v with fetched := SMap.insert s.vats.fetched (slotKey vat slot) (s.fetchVector vat slot p upset mesh).1 } := by
  have h := s.meetWords_losesBacking (p.vectorAddr (vatDie vat)) (512 * vectorRows (s.vats.physical vat)) upset
  refine ⟨_, h, ?_⟩
  have hfetched := congrArg Vats.fetched h
  simp only [S8.fetchVector, S8.meshWords_vats, hfetched]

@[simp] theorem S8.fetchVector_fetched : (s.fetchVector vat slot p upset mesh).2.vats.fetched =
    SMap.insert s.vats.fetched (slotKey vat slot) (s.fetchVector vat slot p upset mesh).1 := by
  obtain ⟨v, -, h⟩ := s.fetchVector_vats vat slot p upset mesh
  rw [h]

@[simp] theorem S8.fetchVector_windows : (s.fetchVector vat slot p upset mesh).2.vats.windows = s.vats.windows := by
  obtain ⟨v, hv, h⟩ := s.fetchVector_vats vat slot p upset mesh
  rw [h, hv]

@[simp] theorem S8.fetchVector_waiting : (s.fetchVector vat slot p upset mesh).2.vats.waiting = s.vats.waiting := by
  obtain ⟨v, hv, h⟩ := s.fetchVector_vats vat slot p upset mesh
  rw [h, hv]

@[simp] theorem S8.fetchVector_releasing : (s.fetchVector vat slot p upset mesh).2.vats.releasing = s.vats.releasing := by
  obtain ⟨v, hv, h⟩ := s.fetchVector_vats vat slot p upset mesh
  rw [h, hv]

theorem S8.fetchVector_poisoned : (s.fetchVector vat slot p upset mesh).1.poisoned = true ↔
    badIn s.mem upset (p.vectorAddr (vatDie vat)) (512 * vectorRows (s.vats.physical vat)) ≠ [] ∨ mesh.flits ≠ [] := by
  simp [S8.fetchVector]

end Vector

/-! ### Tripping (R122, R124) -/

theorem mem_waitLane (l : List (Nat × Nat)) (lane slot : Nat) : (lane, slot) ∈ waitLane l lane slot := by
  induction l with
  | nil => simp [waitLane]
  | cons e l ih =>
    rw [waitLane]
    split
    · exact List.mem_cons_self
    · exact List.mem_cons_of_mem e ih

/-- A lane that trips waits for a reserve slot while one is to be decided, and else is to be released. -/
theorem S8.trip_waits_or_releases (s : S8) (vat lane slot : Nat) : slotKey vat lane ∈ (s.trip vat lane slot).vats.releasing ∨
    (lane, slot) ∈ SMap.getD (s.trip vat lane slot).vats.waiting vat [] := by
  dsimp only [S8.trip]
  split
  · exact .inl ((mem_insertNat ..).2 (.inl rfl))
  · rw [SMap.modify, SMap.getD_insert, if_pos rfl]
    exact .inr (mem_waitLane ..)

@[simp] theorem S8.trip_fetched (s : S8) (vat lane slot : Nat) : (s.trip vat lane slot).vats.fetched = s.vats.fetched := rfl
@[simp] theorem S8.trip_windows (s : S8) (vat lane slot : Nat) : (s.trip vat lane slot).vats.windows = s.vats.windows := rfl

/-! ### The window (R68) -/

/-- A slot's fetch window has begun (R68). -/
def S8.beginWindow (s : S8) (vat slot : Nat) : S8 :=
  { s with vats := { s.vats with windows := insertNat (slotKey vat slot) s.vats.windows } }

@[simp] theorem S8.mem_beginWindow (s : S8) (vat slot : Nat) : slotKey vat slot ∈ (s.beginWindow vat slot).vats.windows :=
  (mem_insertNat ..).2 (.inl rfl)
@[simp] theorem S8.beginWindow_waiting (s : S8) (vat slot : Nat) : (s.beginWindow vat slot).vats.waiting = s.vats.waiting := rfl
@[simp] theorem S8.beginWindow_releasing (s : S8) (vat slot : Nat) :
    (s.beginWindow vat slot).vats.releasing = s.vats.releasing := rfl

section Window
variable {s : S8} {vat slot : Nat} {upset : Upsets} {mesh : MeshErr}

theorem S8.fetchWindow_of_none (hahead : s.aheadSlot vat slot = false) (hentry : s.slotEntry vat slot = none) :
    s.fetchWindow vat slot upset mesh = s.beginWindow vat slot := by
  simp only [S8.fetchWindow, hahead, hentry, Bool.false_eq_true, if_false, S8.beginWindow]

variable {p : PourInstr}

theorem S8.fetchWindow_of_some (hahead : s.aheadSlot vat slot = false) (hentry : s.slotEntry vat slot = some p)
    (hidle : p.slotKind = 0 → s.laneIdle vat p = false) : s.fetchWindow vat slot upset mesh =
      if trips p ((s.beginWindow vat slot).fetchVector vat slot p upset mesh).1 then
        ((s.beginWindow vat slot).fetchVector vat slot p upset mesh).2.trip vat p.lane slot
      else ((s.beginWindow vat slot).fetchVector vat slot p upset mesh).2 := by
  have hactive : ¬(p.slotKind = 0 ∧ s.laneIdle vat p = true) := fun ⟨hkind, h⟩ => ne_true_of_eq_false (hidle hkind) h
  rw [S8.fetchWindow, if_neg (ne_true_of_eq_false hahead), hentry]
  exact if_neg hactive

end Window

/-- Settles O25: the vector read fills the fetch register, and only a trip changes which lanes wait or are to be released. -/
theorem fetchWindowReadsTheVector : Obligations.FetchWindowReadsTheVector := by
  refine ⟨?vector, ?nothing⟩
  case nothing =>
    intro vat slot upset s hwf hahead hentry
    rw [exec_fetchWindow, execFetchWindow, act_of_wf hwf, S8.fetchWindow_of_none hahead hentry]
    rfl
  case vector =>
    rintro vat slot upset p _ _ s hwf hahead hentry hidle rfl rfl
    have hbytes := s.chip.fetchWindow_bytes (vatKey vat) slot upset.words upset.mesh
    rw [exec_fetchWindow, execFetchWindow, act_of_wf hwf]
    refine ⟨_, rfl, rfl, ⟨((s.chip.beginWindow (vatKey vat) slot).fetchVector (vatKey vat) slot p upset.words upset.mesh).1, ?fetched,
      rfl, rfl, S8.fetchVector_poisoned .., fun htrips => ?trip, fun htrips => ?noTrip⟩, ?window,
      fun b => by simp only [Mem.byte, hbytes]⟩
    all_goals dsimp only; rw [S8.fetchWindow_of_some hahead hentry hidle]
    case trip =>
      rw [if_pos htrips]
      exact S8.trip_waits_or_releases ..
    case noTrip => simp [htrips]
    case fetched | window => split <;> simp

end Sys2Proof.Machine

/-! PROOFS. Walks of an attention engine and the combination of partials (R140, R280 to R286, R289). -/

namespace Sys2Proof.Machine

/-! ### What a walk keeps (R280, R281, R289) -/

/-- Walking on from k to k' writes no memory, and the partial keeps its heads. -/
def Walking.ReadsOn (k k' : Walking) : Prop :=
  k'.mem = k.mem ∧ k'.partial_.heads.length = k.partial_.heads.length

theorem Walking.ReadsOn.trans {k l m : Walking} (h : k.ReadsOn l) (h' : l.ReadsOn m) : k.ReadsOn m :=
  ⟨h'.1.trans h.1, h'.2.trans h.2⟩

theorem Walking.ReadsOn.foldl {β : Type} {f : Walking → β → Walking} (hf : ∀ (k : Walking) x, k.ReadsOn (f k x)) (l : List β) (k : Walking) :
    k.ReadsOn (l.foldl f k) :=
  List.foldlRecOn (motive := k.ReadsOn) _ _ ⟨rfl, rfl⟩ fun c hc x _ => hc.trans (hf c x)

@[simp] theorem LanePartial.addRecord_length (p : LanePartial) (block : Bytes) (scoreScale : Nat) (r : Latent) :
    (p.addRecord block scoreScale r).heads.length = p.heads.length := by
  simp [LanePartial.addRecord]

section Walk
variable (k : Walking) (w : WalkInput)

theorem Walking.mismatch_readsOn (page : Nat) : k.ReadsOn (k.mismatch w page) := ⟨rfl, rfl⟩
theorem Walking.meet_readsOn (a n : Nat) : k.ReadsOn (k.meet w a n) := ⟨rfl, rfl⟩
theorem Walking.meetTable_readsOn (page : Nat) : k.ReadsOn (k.meetTable w page) := ⟨rfl, rfl⟩

theorem Walking.readFrame_readsOn (page frame : Nat) : k.ReadsOn (k.readFrame w page frame) := by
  unfold Walking.readFrame
  split
  · exact k.meet_readsOn w frame 512
  · split
    · exact (k.meet_readsOn w frame 512).trans (Walking.mismatch_readsOn _ w page)
    · have hopen : k.ReadsOn { k.meet w frame 10240 with framesRead := k.framesRead + 1 } := ⟨rfl, rfl⟩
      refine hopen.trans (Walking.ReadsOn.foldl (fun c i => ?_) _ _)
      dsimp only
      split
      · exact ⟨rfl, c.partial_.addRecord_length ..⟩
      · exact ⟨rfl, rfl⟩

theorem Walking.visit_readsOn (page : Nat) : k.ReadsOn (k.visit w page) := by
  refine (k.meetTable_readsOn w page).trans ?_
  unfold Walking.visit
  dsimp only
  split
  · exact ⟨rfl, rfl⟩
  · split
    · exact Walking.mismatch_readsOn ..
    · split
      · exact ⟨rfl, rfl⟩
      · exact Walking.readFrame_readsOn ..

/-- The record write touches a frame at most: the partial keeps its heads. -/
theorem Walking.write_heads : (k.write w).partial_.heads = k.partial_.heads := by
  unfold Walking.write
  dsimp only
  repeat' split
  all_goals rfl

/-- A walk's step before it visits its pages: the generation check and, in the first step, the record write. -/
def Walking.begun (first : Bool) : Walking :=
  let k0 := { k with
    reserved := k.reserved + ((List.range k.partial_.heads.length).map (fun h => latentReserved (queryBytes w.block h))).sum }
  let k1 := if first ∧ w.expected ≠ w.generation then k0.mismatch w (w.position / 16) else k0
  if first ∧ w.writes then k1.write w else k1

theorem Walking.begun_readsOn_run (first : Bool) : (k.begun w first).ReadsOn (k.run w first) := by
  unfold Walking.run
  dsimp only
  split
  · exact ⟨rfl, rfl⟩
  · exact Walking.ReadsOn.foldl (fun c i => c.visit_readsOn w (w.low / 16 + i)) _ _

theorem Walking.begun_heads (first : Bool) : (k.begun w first).partial_.heads = k.partial_.heads := by
  unfold Walking.begun
  dsimp only
  split
  · rw [Walking.write_heads]; split <;> rfl
  · split <;> rfl

theorem Walking.begun_mem {first : Bool} (h : w.writes = false) : (k.begun w first).mem = k.mem := by
  unfold Walking.begun
  dsimp only
  rw [if_neg (by simp [h])]
  split <;> rfl

theorem Walking.run_length (first : Bool) : (k.run w first).partial_.heads.length = k.partial_.heads.length :=
  (k.begun_readsOn_run w first).2.trans (congrArg List.length (k.begun_heads w first))

/-- A walk whose request asks for no record writes no frame. -/
theorem Walking.run_mem {first : Bool} (h : w.writes = false) : (k.run w first).mem = k.mem :=
  (k.begun_readsOn_run w first).1.trans (k.begun_mem w h)

end Walk

/-- Marking the words that a walk met changes no byte. -/
@[simp] theorem S8.walked_bytes (s : S8) (w : WalkInput) (k : Walking) : (s.walked w k).mem.bytes = k.mem.bytes := by
  simp [S8.walked]

/-- A walk of span 1 runs from an empty partial through all its pages, leaves its partial, and is no longer open (R280). -/
theorem S8.walk_of_span_one {s : S8} {engine layer lane : Nat} {sh : Sheet} {a : AttentionRecord} (hsheet : s.run.running = some sh)
    (hrec : sh.attention.find? (fun a => a.layer = layer) = some a) (hspan : s.walkIndex sh a.phase lane = some (0, 1))
    (hserves : engine ∈ s.stripeList) (hactive : s.run.laneActive a.phase lane = true) (hroom : s.attn.opened engine < 64)
    (upset : Upsets) : ∃ (w : WalkInput) (start : Walking) (d : Dict), w.block = s.requestBlock a lane ∧ start.mem = s.mem ∧
      start.partial_ = LanePartial.empty a.heads ∧
      s.walk engine layer lane upset = { s.walked w (start.run w true) with
        dict := d
        attn := { (s.walked w (start.run w true)).attn with
          partials := SMap.insert s.attn.partials (partialKey layer lane engine) (start.run w true).partial_
          walks := SMap.erase s.attn.walks ((layer * 128 + lane) * 16 + engine) } } := by
  have hopens : ¬ 64 ≤ s.attn.opened engine := Nat.not_le.2 hroom
  simp only [S8.walk, hsheet, hrec, hspan, List.contains_iff_mem.2 hserves, hactive, hopens, Option.bind_some, Option.map_some]
  exact ⟨_, _, _, rfl, rfl, rfl, rfl⟩

/-! ### Combining (R283, R285) -/

theorem HeadPartial.combine_of_empty_left {a : HeadPartial} (b : HeadPartial) (h : a.count = 0) : a.combine b = b := if_pos h

theorem HeadPartial.combine_of_empty_right {a b : HeadPartial} (ha : a.count ≠ 0) (hb : b.count = 0) : a.combine b = a := by
  rw [HeadPartial.combine, if_neg ha, if_pos hb]

theorem HeadPartial.combine_count (a b : HeadPartial) : (a.combine b).count = a.count + b.count := by
  by_cases ha : a.count = 0
  · rw [a.combine_of_empty_left b ha, ha, Nat.zero_add]
  · by_cases hb : b.count = 0
    · rw [HeadPartial.combine_of_empty_right ha hb, hb, Nat.add_zero]
    · rw [HeadPartial.combine, if_neg ha, if_neg hb]

/-- A field of one bit of a joined status is set when it is set in either. -/
theorem field_orStatus_bit (a b bit : Nat) : field (orStatus a b) bit 1 = max (field a bit 1) (field b bit 1) := by
  have hbit (n : Nat) : field n bit 1 = (n.testBit bit).toNat := (Nat.toNat_testBit n bit).symm
  rw [hbit, hbit, hbit, orStatus, Nat.testBit_or]
  cases a.testBit bit <;> cases b.testBit bit <;> rfl

/-! ### Nodes and the root (R285, R286) -/

section Node
variable {s : S8} {a : AttentionRecord} {lane node : Nat} {x y : LanePartial}

/-- A node whose two sources serve and have delivered combines them. -/
theorem S8.combineNode_of_two (hservesX : s.sourceServes (nodeOperands node).1 = true)
    (hservesY : s.sourceServes (nodeOperands node).2 = true)
    (hx : SMap.find s.attn.partials (partialKey a.layer lane (nodeOperands node).1) = some x)
    (hy : SMap.find s.attn.partials (partialKey a.layer lane (nodeOperands node).2) = some y) :
    s.combineNode a lane node = if node = 14 then s.rootResult a lane (x.combine y) else
      { s with attn := { s.attn with
          partials := SMap.insert (s.attn.partials.filter (fun e => e.1 ≠ partialKey a.layer lane (nodeOperands node).1 ∧
            e.1 ≠ partialKey a.layer lane (nodeOperands node).2)) (partialKey a.layer lane (16 + node)) (x.combine y) } } := by
  simp only [S8.combineNode, hservesX, hservesY, hx, hy]

end Node

/-- The rows that the root writes of a lane: its result, padded to whole rows, and the status row (R286). -/
def resultWithStatus (a : AttentionRecord) (p : LanePartial) : Bytes :=
  padTo (roundUp 512 (rootRows p a.w16).1.length) (rootRows p a.w16).1 ++
    statusRow (orStatus (orStatus p.status (rootRows p a.w16).2.1.status)
      ((if p.heads.all (fun h => h.count = 0) then statusEmpty else 0) + (if (rootRows p a.w16).2.2 = 0 then 0 else statusPoison)))

/-- A lane's rows at the root: those of its result, and one more. -/
theorem resultWithStatus_rows (a : AttentionRecord) (p : LanePartial) :
    (resultWithStatus a p).length / 512 = ceilDiv (rootRows p a.w16).1.length 512 + 1 := by
  simp only [resultWithStatus, statusRow, List.length_append, padTo_length, roundUp, ceilDiv]
  omega

/-- The root writes the lane's rows; besides these only slots, partials and counters change. -/
theorem S8.rootResult_frame (s : S8) (a : AttentionRecord) (lane : Nat) (p : LanePartial) : s.rootResult a lane p = { s with
    mem := s.mem.writeRows a.outCore (a.outRow + (ceilDiv (rootRows p a.w16).1.length 512 + 1) * lane) (resultWithStatus a p)
    serve := { s.serve with slots := (s.rootResult a lane p).serve.slots }
    attn := { s.attn with partials := (s.rootResult a lane p).attn.partials }
    dict := (s.rootResult a lane p).dict } := by
  rw [← resultWithStatus_rows]
  simp only [S8.rootResult, resultWithStatus]
  rw [S8.laneResult_frame]

/-- A node of a lane that stands at the record's phase combines, where its core is in service and no walk of the lane is open. -/
theorem exec_taskAttentionCombine_combines {layer : Nat} {lane : Lane} {node : Fin 15} {s : State} {sh : Sheet} {a : AttentionRecord}
    (hsheet : s.chip.run.running = some sh) (hrec : sh.attention.find? (fun a => a.layer = layer) = some a)
    (hactive : s.chip.run.laneActive a.phase lane = true) (hdie : s.chip.dieServes (a.nodeCore node).die = true)
    (hback : (a.nodeCore node).key ∉ s.chip.cores.unbacked)
    (hwalks : ∀ e ∈ halves, SMap.find s.chip.attn.walks ((layer * 128 + lane) * 16 + e) = none) :
    exec (.taskAttentionCombine layer lane node) s = .next { s with chip := s.chip.combineNode a lane node } := by
  have hended : halves.any (fun e => (SMap.find s.chip.attn.walks ((layer * 128 + lane.val) * 16 + e)).isSome) = false :=
    List.any_eq_false.2 fun e he => by simp [hwalks e he]
  rw [exec_taskAttentionCombine, execTaskAttentionCombine, act_of_wf rfl]
  simp only [hsheet, hrec, Option.bind_some, hactive, hdie, hended, List.contains_eq_mem, hback, decide_false, Bool.not_false,
    Bool.and_self, if_true]

/-- Settles O39: a walk keeps memory and heads while it reads, and a node with both its partials puts their combination in place. -/
theorem attentionWalksAndCombines : Obligations.AttentionWalksAndCombines := by
  refine ⟨?walk, ?node, fun a b => ⟨a.combine_count b, a.combine_of_empty_left b, HeadPartial.combine_of_empty_right⟩,
    fun x y => ⟨rfl, fun bit _ => field_orStatus_bit x.status y.status bit⟩⟩
  case walk =>
    intro engine layer lane upset s sh a hsheet hrec hspan hserves hactive hroom
    obtain ⟨w, start, d, hblock, hmem, hempty, hwalk⟩ := S8.walk_of_span_one hsheet hrec hspan hserves hactive hroom upset
    rw [exec_attentionWalk, execAttentionWalk, act_of_wf rfl, hwalk]
    refine ⟨_, rfl, rfl, ⟨_, SMap.find_insert_self .., ?heads⟩, SMap.find_erase_self .., fun k => SMap.find_erase_ne _,
      fun k => SMap.find_insert_ne _ _, fun hreads => ?bytes⟩
    case heads => rw [start.run_length, hempty]; exact List.length_replicate
    case bytes =>
      have hwrites : w.writes = false := by simp [WalkInput.writes, hblock, hreads]
      rw [S8.walked_bytes, start.run_mem w hwrites, hmem]
  case node =>
    intro layer lane node s sh a x y hsheet hrec hactive hdie hback hwalks hservesX hservesY hx hy
    have hnode := S8.combineNode_of_two hservesX hservesY hx hy
    refine ⟨_, exec_taskAttentionCombine_combines hsheet hrec hactive hdie hback hwalks, fun hinner => ?inner, fun hroot => ?root⟩
    case inner =>
      rw [if_neg hinner.ne] at hnode
      rw [hnode]
      exact ⟨rfl, SMap.find_insert_self ..⟩
    case root =>
      rw [if_pos hroot] at hnode
      have hresult := s.chip.rootResult_frame a lane (x.combine y)
      rw [Nat.add_mul, Nat.one_mul, ← Nat.add_assoc, ← hnode] at hresult
      exact congrArg (fun c => { s with chip := c }) hresult

end Sys2Proof.Machine

/-! PROOFS. The measurement converter, the reference check and calibration (R146, R148, R150 to R152, R156 to R159, R234, R508). -/

namespace Sys2Proof.Machine

/-! ### Conversions (R148) -/

theorem S8.startConversion_of_idle {s : S8} (h : s.turn.converting = none) : s.startConversion = { s with turn := { s.turn with
    converting := some (s.dict.get Obj.measChannel, s.dict.get Obj.measMuxBank, s.dict.get Obj.measConvSelect) } } := by
  simp [S8.startConversion, h]

theorem S8.startConversion_of_running {s : S8} (h : s.turn.converting ≠ none) :
    s.startConversion = s.raise Obj.measStartIgnoredCount 0 1 0 0 := if_pos (Option.isSome_iff_ne_none.2 h)

theorem exec_measStartEdge_of_pwrGood {s : State} (h : s.chip.boot.pwrGood = true) :
    exec .measStartEdge s = .next { s with chip := s.chip.startConversion } := by
  rw [exec_measStartEdge, execMeasStartEdge, act_of_wf rfl, if_pos h]

/-- A quotient rounded to nearest lies within half of its divisor. -/
theorem rneDiv_near (n : Int) {d : Nat} (hd : 0 < d) : 2 * (rneDiv n d * d - n).natAbs ≤ d := by
  have hdiv := Int.mul_ediv_add_emod n d
  have hlow := Int.emod_nonneg n (Int.natCast_ne_zero.2 hd.ne')
  have hhigh := Int.emod_lt_of_pos n (Int.natCast_pos.2 hd)
  have hdown : n / d * d - n = -(n % d) := by linarith [Int.mul_comm (n / d) d]
  have hup : (n / d + 1) * d - n = d - n % d := by rw [add_mul, one_mul]; omega
  unfold rneDiv
  dsimp only
  split
  · rw [hdown]; omega
  · split
    · rw [hup]; omega
    · split
      · rw [hdown]; omega
      · rw [hup]; omega

theorem measCode_lt (nanovolts : Int) : measCode nanovolts < 2 ^ 16 := by
  have hmem := clampInt_mem (lo := 0) (hi := 65535) (by decide) (rneDiv (nanovolts * 65536) 2500000000)
  unfold measCode
  omega

/-- Within the range the code is the voltage to the nearest. -/
theorem measCode_near {nanovolts : Int} (hlow : 0 ≤ nanovolts) (hhigh : nanovolts < 2499961853) :
    2 * (measCode nanovolts * 2500000000 - nanovolts * 65536).natAbs ≤ 2500000000 := by
  have hnear := rneDiv_near (nanovolts * 65536) (d := 2500000000) (by decide)
  rw [measCode, clampInt_of_mem (by omega) (by omega), Int.toNat_of_nonneg (by omega)]
  exact hnear

/-- The code of a conversion is the low half of MeasResult (R178). -/
theorem field_measWord_code (channel number : Nat) {code : Nat} (h : code < 2 ^ 16) : field (measWord channel number code) 0 16 = code := by
  unfold field measWord
  omega

theorem exec_measConversionDone_of_running {nanovolts : Int} {s : State} {channel bank conv : Nat}
    (h : s.chip.turn.converting = some (channel, bank, conv)) : exec (.measConversionDone nanovolts) s = .next { s with
      chip := { s.chip with turn := { s.chip.turn with
        converting := none
        conversions := s.chip.turn.conversions + 1
        measResult := measWord channel (s.chip.turn.conversions + 1) (measCode nanovolts) } } } := by
  rw [exec_measConversionDone, execMeasConversionDone, act_of_wf rfl, h]

/-! ### The reference check (R150, R151) -/

/-- A fold that lists the values of f that are not zero lists each of them under its key. -/
theorem SMap.find_foldl_insert_nonzero {f : Nat → Int} {l : List Nat} {i : Nat} (hi : i ∈ l) (hf : f i ≠ 0) (m : SMap Int) :
    SMap.find (l.foldl (fun m j => if f j = 0 then m else SMap.insert m j (f j)) m) i = some (f i) := by
  induction l using List.reverseRecOn with
  | nil => cases hi
  | append_singleton l j ih =>
    simp only [List.foldl_append, List.foldl_cons, List.foldl_nil]
    by_cases hij : i = j
    · rw [← hij, if_neg hf, SMap.find_insert_self]
    · have hl := ih ((List.mem_append.1 hi).resolve_right (by simpa using hij))
      split
      · exact hl
      · rw [SMap.find_insert_ne _ _ hij, hl]

/-- The trim move of a generator's reading in a check (R150), by half·3 + generator. -/
def checkedMove (codes : List Nat) (i : Nat) : Int := trimMove (i % 3) (codes.getD (readingIndex (i % 3) (i / 3)) 0)

theorem checkedMove_eq (codes : List Nat) {gen : Nat} (half : Nat) (h : gen < 3) :
    checkedMove codes (3 * half + gen) = trimMove gen (codes.getD (readingIndex gen half) 0) := by
  rw [checkedMove, show (3 * half + gen) % 3 = gen by omega, show (3 * half + gen) / 3 = half by omega]

/-- A reading off by more than 0.02 % upwards moves the trim down (R150). -/
theorem trimMove_of_high {gen code : Nat} (h : 5000 * (100 * code - nominalCode gen) > nominalCode gen) : trimMove gen code = -2 := if_pos h

section Check
variable (s : S8) (codes : List Nat)

theorem S8.referenceCheck_frame : s.referenceCheck codes = { s with
    turn := { s.turn with
      conversions := s.turn.conversions + 51
      measResult := (s.referenceCheck codes).turn.measResult
      refFault := (s.referenceCheck codes).turn.refFault
      trimMoves := (s.referenceCheck codes).turn.trimMoves }
    dict := (s.referenceCheck codes).dict } := rfl

variable {s codes}

/-- Where REFIN looks wrong, no move is held (R151). -/
theorem S8.referenceCheck_trimMoves_of_fault (h : (s.referenceCheck codes).turn.refFault = true) :
    (s.referenceCheck codes).turn.trimMoves = [] := if_pos h

/-- RefInFault is raised where it begins to stand, and not while it stands (R151). -/
theorem S8.referenceCheck_dict_of_same (h : (s.referenceCheck codes).turn.refFault = s.turn.refFault) :
    (s.referenceCheck codes).dict = s.dict := by
  have hbad : refInBad (codes.getD 0 0) (codes.getD 1 0) (codes.getD 50 0) = s.turn.refFault := h
  unfold S8.referenceCheck
  dsimp only
  rw [hbad, Bool.and_not_self]
  exact Dict.raise_zero ..

/-- Where REFIN looks sound, every generator's move is held (R150). -/
theorem S8.referenceCheck_trimMoves_of_sound (h : (s.referenceCheck codes).turn.refFault = false) {i : Nat} (hi : i < 48)
    (hmove : checkedMove codes i ≠ 0) : SMap.find (s.referenceCheck codes).turn.trimMoves i = some (checkedMove codes i) := by
  have hheld : (s.referenceCheck codes).turn.trimMoves = (List.range 48).foldl
      (fun m j => if checkedMove codes j = 0 then m else SMap.insert m j (checkedMove codes j)) s.turn.trimMoves :=
    if_neg (Bool.eq_false_iff.1 h)
  rw [hheld, SMap.find_foldl_insert_nonzero (List.mem_range.2 hi) hmove]

end Check

theorem exec_referenceCheck_runs {codes : List (BitVec 16)} {s : State} (hwf : WellFormed (.referenceCheck codes) = true)
    (hhold : s.chip.dict.get Obj.measFirmwareHold = 0) (hidle : s.chip.turn.converting = none) :
    exec (.referenceCheck codes) s = .next { s with chip := s.chip.referenceCheck (codes.map BitVec.toNat) } := by
  rw [exec_referenceCheck, execReferenceCheck, act_of_wf hwf, if_neg (by simp [hhold, hidle])]

theorem measurementsConvert : Claims.MeasurementsConvert := by
  refine ⟨?edge, ?write, ?ignored, ?done, fun s => rfl, ?check⟩
  case edge =>
    intro s hgood hidle
    rw [exec_measStartEdge_of_pwrGood hgood, S8.startConversion_of_idle hidle]
  case write =>
    intro w s harr hone hidle
    refine ⟨s.chip.startConversion, ?_, S8.startConversion_of_idle hidle⟩
    have heffect : (measStartEffect s.chip w.value).2 = s.chip.startConversion := if_pos hone
    rw [exec_measStart, execMeasStart, act_of_wf rfl, S8.performWrite_ok harr (by decide) rfl, heffect]
  case ignored =>
    intro s hgood hrunning
    rw [exec_measStartEdge_of_pwrGood hgood, S8.startConversion_of_running hrunning, S8.raise]
  case done =>
    intro nanovolts s channel bank conv hrunning
    exact ⟨_, exec_measConversionDone_of_running hrunning, rfl, field_measWord_code _ _ (measCode_lt nanovolts), measCode_near⟩
  case check =>
    intro codes s hwf hhold hidle
    refine ⟨_, exec_referenceCheck_runs hwf hhold hidle, congrArg (fun c => { s with chip := c }) (S8.referenceCheck_frame ..),
      S8.referenceCheck_trimMoves_of_fault, S8.referenceCheck_dict_of_same, fun hsound gen hgen half hhalf hhigh => ?_⟩
    have hmove := (checkedMove_eq (codes.map BitVec.toNat) half hgen).trans (trimMove_of_high hhigh)
    rw [S8.referenceCheck_trimMoves_of_sound hsound (by omega) (by rw [hmove]; decide), hmove]

/-! ### Calibration (R146, R152, R156 to R159) -/

/-- Turning works on a half whose agent does not starve (R234). -/
theorem S8.turns_iff {s : S8} {half : Nat} : s.turns half = true ↔ half ∉ s.cores.starved := by simp [S8.turns]

@[simp] theorem Turning.qualityOf_setQuality (t : Turning) (k : Nat) (f : Quality → Quality) :
    (t.setQuality k f).qualityOf k = f (t.qualityOf k) := by
  rw [Turning.qualityOf, Turning.setQuality, SMap.getD_insert, if_pos rfl]

theorem exec_calibrationStart_starts {vat : Vat} {s : State} (hturn : s.chip.calibrationTurn (vatKey vat) = true)
    (hagent : vatHalf (vatKey vat) ∉ s.chip.cores.starved) : exec (.calibrationStart vat) s = .next { s with chip := { s.chip with
      turn := { (s.chip.turn.setQuality (vatKey vat) (fun q => { q with calDue := false })) with
        calibrations := SMap.insert s.chip.turn.calibrations (vatKey vat) (s.chip.newCalibration (vatKey vat) s.chip.run.step) } } } := by
  rw [exec_calibrationStart, execCalibrationStart, act_of_wf rfl]
  simp only [S8.turns_iff.2 hagent, hturn, Bool.and_self, if_true]

/-- A vat that is not due, or whose unit has its 8, has no turn (R146). -/
theorem S8.calibrationTurn_eq_false {s : S8} {k : Nat} (h : 8 ≤ s.calibrating (unitOfVat k) ∨ s.calibrationDue k = false) :
    s.calibrationTurn k = false := by
  rcases h with h | h
  · have hfull : ∀ n, ¬ s.calibrating (unitOfVat k) + n < 8 := fun n => by omega
    simp [S8.calibrationTurn, hfull]
  · simp [S8.calibrationTurn, h]

/-- A vat that is calibrating is not due. -/
theorem S8.calibrationDue_eq_false {s : S8} {k : Nat} (h : SMap.find s.turn.calibrations k ≠ none) : s.calibrationDue k = false := by
  simp [S8.calibrationDue, h]

theorem exec_calibrationStart_waits {vat : Vat} {s : State}
    (h : s.chip.calibrationTurn (vatKey vat) = false ∨ vatHalf (vatKey vat) ∈ s.chip.cores.starved) :
    exec (.calibrationStart vat) s = .next s := by
  rw [exec_calibrationStart, execCalibrationStart, act_of_wf rfl]
  dsimp only
  rw [if_neg]
  rcases h with h | h
  · simp [h]
  · simp [S8.turns, h]

section Judge
variable {s : S8} {k : Nat} {g : Golden} {answers : Bytes} {ra rb : List (List Nat)} {a b : RoundValues}

theorem S8.judgeRounds_of_agree (ha : a = s.roundValues k g answers ra) (hb : b = s.roundValues k g answers rb)
    (hpairs : disagreeing k a b = []) (hrefs : referencesAgree k a b = true) :
    s.judgeRounds k g answers ra rb = s.acceptCalibration k g a b rb [] true false := by
  subst ha hb
  exact if_pos ⟨hpairs, hrefs⟩

theorem S8.judgeRounds_of_disagree (ha : a = s.roundValues k g answers ra) (hb : b = s.roundValues k g answers rb)
    (h : disagreeing k a b ≠ [] ∨ referencesAgree k a b = false) :
    s.judgeRounds k g answers ra rb = s.rejectCalibration k g a b rb (disagreeing k a b) (referencesAgree k a b) := by
  subst ha hb
  exact if_neg fun hagree => h.elim (· hagree.1) fun hrefs => Bool.false_ne_true (hrefs.symm.trans hagree.2)

/-- On a vat in service whose staging area is free, what a calibration measured is staged (R115, R159). -/
theorem S8.stageCalibration_of_inService (writes : List (Nat × Bytes)) (hstate : s.mem.vatState k = 2)
    (hfree : s.mem.committed (unitOfVat k) = false) : s.stageCalibration k writes = s.stageWrites k writes := by
  rw [S8.stageCalibration, if_neg (by simp [hfree]), S8.stageTables, if_pos hstate]

/-- With every pair usable and no rewrite that awaits the vat, an accepted calibration changes the quality record, the checksum limits
and what is staged, and ends (R156, R159). -/
theorem S8.acceptCalibration_of_usable (hstate : s.mem.vatState k = 2) (hfree : s.mem.committed (unitOfVat k) = false)
    (hrewrite : s.turn.rewriteOf k = none) (husable : ∀ p < dataColumns k + mapSlots k,
      usableGain (a.pairGains.getD p 0) = true ∧ usableGain (b.pairGains.getD p 0) = true) :
    ∃ (u : Turning) (v : Vats), s.acceptCalibration k g a b rb [] true false = { s with turn := u, vats := v } ∧
      SMap.find u.calibrations k = none ∧ (u.qualityOf k).calibrated = true ∧ (u.qualityOf k).retries = 0 ∧
      u.staged = s.turn.staged ++ s.advancing k (s.calibrationWrites k a b [] true) := by
  have hbad : (List.range (dataColumns k + mapSlots k)).filter (fun p =>
      !(usableGain (a.pairGains.getD p 0) && usableGain (b.pairGains.getD p 0))) = [] :=
    List.filter_eq_nil_iff.2 fun p hp => by
      simp only [husable p (List.mem_range.1 hp), Bool.and_self, Bool.not_true, Bool.false_eq_true, not_false_eq_true]
  unfold S8.acceptCalibration
  extract_lets writes after err temp bad turn vats s1
  have hstaged : s1.stageCalibration k writes = s1.stageWrites k writes := S8.stageCalibration_of_inService writes hstate hfree
  have hrepair : (s1.stageWrites k writes).repairPairs k (bad ++ []) = s1.stageWrites k writes := by
    rw [show bad = [] from hbad]; rfl
  have hspare : (s1.stageWrites k writes).spareCalibrated k = s1.stageWrites k writes := by
    rw [S8.spareCalibrated, show (s1.stageWrites k writes).turn.rewriteOf k = none from hrewrite]
  have hdict : s1.dict = s.dict := s.dict.raise_zero s.run.step Obj.calUnstableCount 0 (s.vatUnit k) 0
  rw [hstaged, hrepair, hspare, ← hdict]
  have hquality : turn.qualityOf k = _ := Turning.qualityOf_setQuality ..
  exact ⟨(s1.stageWrites k writes).turn, s1.vats, rfl, SMap.find_erase_self .., congrArg Quality.calibrated hquality,
    congrArg Quality.retries hquality, rfl⟩

/-- Below the limit of tries a rejected calibration begins again (R157). -/
theorem S8.rejectCalibration_of_tries {off : List Nat} {refs : Bool}
    (h : (s.turn.qualityOf k).retries + 1 < s.dict.get Obj.calibrationRetryLimit) :
    s.rejectCalibration k g a b rb off refs = { s with
      dict := s.dict.raise s.run.step Obj.calRejectCount 0 1 (s.vatUnit k) off.length
      turn := { (s.turn.setQuality k (fun q => { q with retries := (s.turn.qualityOf k).retries + 1 })) with
        calibrations := SMap.insert s.turn.calibrations k (s.newCalibration k (s.run.step + 1)) } } := if_pos h

end Judge

section Complete
variable {vat : Vat} {roundA roundB : List ProbeCodes} {s : State} {entry : Calibration} {g : Golden}

theorem exec_calibrationComplete_judges (hwf : WellFormed (.calibrationComplete vat roundA roundB) = true)
    (hentry : SMap.find s.chip.turn.calibrations (vatKey vat) = some entry) (hgolden : s.chip.goldenOf (vatKey vat) = some g)
    (hsound : entry.spoilt = false) (hagent : vatHalf (vatKey vat) ∉ s.chip.cores.starved) :
    exec (.calibrationComplete vat roundA roundB) s = .next { s with
      chip := s.chip.judgeRounds (vatKey vat) g entry.answers (roundA.map (fun p => p.map BitVec.toNat))
        (roundB.map (fun p => p.map BitVec.toNat)) } := by
  rw [exec_calibrationComplete, execCalibrationComplete, act_of_wf hwf]
  simp [hentry, hgolden, S8.turns_iff.2 hagent, hsound]

/-- Rounds of which a probe was lost are measured again (R146). -/
theorem exec_calibrationComplete_spoilt (hwf : WellFormed (.calibrationComplete vat roundA roundB) = true)
    (hentry : SMap.find s.chip.turn.calibrations (vatKey vat) = some entry) (hgolden : s.chip.goldenOf (vatKey vat) = some g)
    (hspoilt : entry.spoilt = true) (hagent : vatHalf (vatKey vat) ∉ s.chip.cores.starved) :
    exec (.calibrationComplete vat roundA roundB) s = .next { s with chip := { s.chip with turn := { s.chip.turn with
      calibrations := SMap.insert s.chip.turn.calibrations (vatKey vat) { entry with spoilt := false } } } } := by
  rw [exec_calibrationComplete, execCalibrationComplete, act_of_wf hwf]
  simp [hentry, hgolden, S8.turns_iff.2 hagent, hspoilt]

end Complete

theorem calibrationIsJudged : Claims.CalibrationIsJudged := by
  refine ⟨?starts, ?waits, ?accepted, ?rejected, ?spoilt⟩
  case starts =>
    rintro vat s k rfl hturn hagent
    exact ⟨_, exec_calibrationStart_starts hturn hagent, rfl, congrArg Quality.calDue
      (s.chip.turn.qualityOf_setQuality (vatKey vat) (fun q => { q with calDue := false }))⟩
  case waits =>
    rintro vat s (hfull | hdue | hunder | hstarved)
    · exact exec_calibrationStart_waits (.inl (S8.calibrationTurn_eq_false (.inl hfull)))
    · exact exec_calibrationStart_waits (.inl (S8.calibrationTurn_eq_false (.inr hdue)))
    · exact exec_calibrationStart_waits (.inl (S8.calibrationTurn_eq_false (.inr (S8.calibrationDue_eq_false hunder))))
    · exact exec_calibrationStart_waits (.inr hstarved)
  case accepted =>
    rintro vat roundA roundB s entry g a b k hwf rfl hentry hgolden hsound hagent hfree ha hb hpairs hrefs hrewrite husable hstate
    obtain ⟨u, v, haccept, hended, hcalibrated, hretries, hstaged⟩ :=
      S8.acceptCalibration_of_usable (g := g) (rb := roundB.map (fun p => p.map BitVec.toNat)) hstate hfree hrewrite husable
    rw [exec_calibrationComplete_judges hwf hentry hgolden hsound hagent, S8.judgeRounds_of_agree ha hb hpairs hrefs, haccept]
    exact ⟨_, rfl, hended, hcalibrated, hretries, hstaged, rfl, rfl⟩
  case rejected =>
    rintro vat roundA roundB s entry g a b k hwf rfl hentry hgolden hsound hagent ha hb hdisagree htries
    rw [exec_calibrationComplete_judges hwf hentry hgolden hsound hagent, S8.judgeRounds_of_disagree ha hb hdisagree,
      S8.rejectCalibration_of_tries htries]
    exact ⟨_, rfl, SMap.find_insert_self .., congrArg Quality.retries (s.chip.turn.qualityOf_setQuality (vatKey vat)
      (fun q => { q with retries := (s.chip.turn.qualityOf (vatKey vat)).retries + 1 })), rfl, rfl⟩
  case spoilt =>
    rintro vat roundA roundB s entry g k hwf rfl hentry hgolden hspoilt hagent
    exact exec_calibrationComplete_spoilt hwf hentry hgolden hspoilt hagent

/-- Settles O30: a check holds each generator's own move, and a calibration is judged by the agreement of its rounds. -/
theorem measurementsAndCalibrations : Obligations.MeasurementsAndCalibrations := ⟨measurementsConvert, calibrationIsJudged⟩

end Sys2Proof.Machine

/-! PROOFS. Localisation, repair in place, programme-verify results, live rewrite and wear (R115, R158, R165, R168 to R170, R172, R174
to R176, R234). -/

namespace Sys2Proof.Machine

/-! ### Localisation (R165) -/

/-- The localisation of the next group that was flagged meanwhile (R165). -/
def Localisation.next (l : Localisation) : Option Localisation :=
  match l.waiting with
  | [] => none
  | n :: rest => some { Localisation.begin n with waiting := rest }

theorem Turning.calDue_setQuality (t : Turning) (k : Nat) :
    ((t.setQuality k (fun q => { q with calDue := true })).qualityOf k).calDue = true := by rw [Turning.qualityOf_setQuality]

section Localise
variable {s : S8} {k : Nat} {l : Localisation}

/-- The end of a localisation: the vat is due for calibration, and the next flagged group is taken up (R158, R165). -/
theorem S8.endLocalisation_next (h : SMap.find s.turn.localisations k = some l) : ∃ m, SMap.find m k = l.next ∧ s.endLocalisation k =
    { s with turn := { s.turn.setQuality k (fun q => { q with calDue := true }) with localisations := m } } := by
  unfold S8.endLocalisation Localisation.next
  rw [h, Option.map_some]
  cases l.waiting with
  | nil => exact ⟨_, SMap.find_erase_self .., rfl⟩
  | cons n rest => exact ⟨_, SMap.find_insert_self .., rfl⟩

/-- A column stage that finds a column goes on to blocks with it (R165 step 1). -/
theorem S8.columnStage_of_faulty {errs : List (Nat × Nat)} {c e : Nat} (sumErr : Nat) (hmem : (c, e) ∈ errs) (hgroup : c / 128 = l.group)
    (hbeyond : 3 * (s.turn.qualityOf k).normError < e) : ∃ cols, c ∈ cols ∧ s.columnStage k l errs sumErr = { s with
      turn := { s.turn with localisations := SMap.insert s.turn.localisations k { l with stage := 2, columns := cols } } } := by
  unfold S8.columnStage
  extract_lets limit faulty
  have hc : c ∈ faulty :=
    List.mem_eraseDups.2 (List.mem_map.2 ⟨(c, e), List.mem_filter.2 ⟨hmem, by simp [hgroup, limit, hbeyond]⟩, rfl⟩)
  exact ⟨faulty, hc, if_pos (List.ne_nil_of_mem hc)⟩

/-- A column stage that finds nothing, neither in the columns nor in the checksum pair, has met a transient (R165 step 1). -/
theorem S8.columnStage_of_clean {errs : List (Nat × Nat)} {sumErr : Nat}
    (hcols : ∀ c e, (c, e) ∈ errs → c / 128 = l.group → e ≤ 3 * (s.turn.qualityOf k).normError)
    (hsum : sumErr ≤ 3 * (s.turn.qualityOf k).normError) : s.columnStage k l errs sumErr = S8.endLocalisation { s with
      vats := { s.vats with sumHits := SMap.erase s.vats.sumHits (16 * k + l.group) }
      dict := s.dict.raise s.run.step Obj.checksumTransientCount 0 1 (s.vatUnit k) l.group } k := by
  have hnone : errs.filter (fun e => e.1 / 128 = l.group && decide (3 * (s.turn.qualityOf k).normError < e.2)) = [] :=
    List.filter_eq_nil_iff.2 fun e he => by
      simpa using hcols e.1 e.2 he
  simp [S8.columnStage, hnone, Nat.not_lt.2 hsum]

/-- A block stage that finds nothing ends (R165 step 2). -/
theorem S8.blockStage_of_clean {errs : List (Nat × Nat × Nat)} (h : ∀ c b e, (c, b, e) ∈ errs → c ∈ l.columns → e ≤ 224) :
    s.blockStage k l errs = s.endLocalisation k := by
  have hnone : errs.filter (fun e => l.columns.contains e.1 && decide (2 * 7 * 16 < e.2.2)) = [] :=
    List.filter_eq_nil_iff.2 fun e he => by
      simpa using h e.1 e.2.1 e.2.2 he
  rw [S8.blockStage, hnone]
  rfl

end Localise

section Stage
variable {vat : Vat} {group : Fin 16} {s : State} {l : Localisation}
  (hl : SMap.find s.chip.turn.localisations (vatKey vat) = some l) (hgroup : l.group = group.val)
  (hagent : vatHalf (vatKey vat) ∉ s.chip.cores.starved)
include hl hgroup hagent

theorem exec_localisationStageDone_column (errs : List (Nat × Nat)) (sumErr : Nat) (hstage : l.stage = 1) :
    exec (.localisationStageDone vat group (.column errs sumErr)) s = .next { s with
      chip := s.chip.columnStage (vatKey vat) l errs sumErr } := by
  rw [exec_localisationStageDone, execLocalisationStageDone, act_of_wf rfl]
  simp [hl, hgroup, S8.turns_iff.2 hagent, hstage]

theorem exec_localisationStageDone_block (errs : List (Nat × Nat × Nat)) (hstage : l.stage = 2) :
    exec (.localisationStageDone vat group (.block errs)) s = .next { s with chip := s.chip.blockStage (vatKey vat) l errs } := by
  rw [exec_localisationStageDone, execLocalisationStageDone, act_of_wf rfl]
  simp [hl, hgroup, S8.turns_iff.2 hagent, hstage]

end Stage

/-! ### What a table write leaves (R105 to R107) -/

/-- Writes that avoid a byte leave it. -/
theorem Mem.byte_writeAll_of_avoid {ws : List (Nat × Bytes)} {a : Nat} (h : ∀ w ∈ ws, a < w.1 ∨ w.1 + w.2.length ≤ a) (m : Mem) :
    (m.writeAll ws).byte a = m.byte a := by
  induction ws generalizing m with
  | nil => rfl
  | cons w ws ih =>
    have hw := h w List.mem_cons_self
    exact (ih (fun v hv => h v (List.mem_cons_of_mem w hv)) _).trans (by rw [Mem.byte_write, if_neg (by omega)])

theorem shaBlocks_length_le (n : Nat) (h : List W32) (m : Bytes) : (shaBlocks n h m).length ≤ h.length := by
  induction n generalizing h m with
  | zero => exact le_rfl
  | succ n ih => exact (ih _ _).trans (by rw [shaBlock, List.length_zipWith]; exact min_le_left _ _)

/-- A digest has at most the 32 bytes of its eight words. -/
theorem sha256_length_le (m : Bytes) : (sha256 m).length ≤ 32 := by
  have hwords := shaBlocks_length_le ((shaPad m).length / 64) shaInit (shaPad m)
  have hinit : shaInit.length = 8 := rfl
  simp only [sha256, List.length_flatMap, List.length_reverse, leBytes_length, List.map_const', List.sum_replicate, smul_eq_mul]
  omega

/-- Forming a vat's digest leaves every byte outside its 32 (R106). -/
theorem Mem.byte_digestTable_of_avoid {m : Mem} {k a : Nat} (h : a < tableBase k + 48 ∨ tableBase k + 80 ≤ a) :
    (m.digestTable k).byte a = m.byte a := by
  unfold Mem.digestTable
  dsimp only
  rw [Mem.byte_write, if_neg]
  have hlen := sha256_length_le (m.read (tableBase k + 512) (512 * if isCulture k then 26 else 66) ++
    (m.poolRowsOf k).flatMap (fun r => m.read (poolRow (unitOfVat k) r) 512))
  omega

theorem Mem.vatState_congr {m n : Mem} {k : Nat} (h : m.byte (tableBase k + 3) = n.byte (tableBase k + 3)) :
    m.vatState k = n.vatState k := by
  rw [Mem.vatState, Mem.vatState, Mem.le, Mem.le, Mem.read_congr]
  intro i hi
  rw [Nat.lt_one_iff.1 hi]
  exact h

/-- Writes of a vat's tables from beyond its State leave the State (R106, R115). -/
theorem S8.stageTables_vatState {s : S8} {k : Nat} {ws : List (Nat × Bytes)} (h : ∀ w ∈ ws, tableBase k + 4 ≤ w.1) :
    (s.stageTables k ws).mem.vatState k = s.mem.vatState k := by
  unfold S8.stageTables
  split
  · rfl
  · refine Mem.vatState_congr ((Mem.byte_digestTable_of_avoid (.inl (by omega))).trans (Mem.byte_writeAll_of_avoid ?_ _))
    intro w hw
    rcases List.mem_append.1 hw with hw | hw
    · have := h w hw
      omega
    · rw [List.mem_singleton.1 hw]
      exact .inl (by omega)

@[simp] theorem S8.stageTables_absorbing (s : S8) (k : Nat) (ws : List (Nat × Bytes)) :
    (s.stageTables k ws).turn.absorbing = s.turn.absorbing := by
  unfold S8.stageTables
  split <;> rfl

/-- A pool row lies beyond the header's State. -/
theorem state_lt_poolRow (k row : Nat) : tableBase k + 4 ≤ poolRow (unitOfVat k) row := by
  unfold tableBase poolRow
  split <;> omega

/-- A column's entry lies beyond the constants row (R105, R112). -/
theorem constants_le_columnAddr (k c : Nat) : tableBase k + 1024 ≤ columnAddr k c := by
  unfold columnAddr
  split <;> omega

/-! ### Residual entries (R117) -/

@[simp] theorem S8.residualsDropped_mem (s : S8) (k dropped : Nat) : (s.residualsDropped k dropped).mem = s.mem := by
  unfold S8.residualsDropped
  split <;> rfl

@[simp] theorem S8.residualsDropped_absorbing (s : S8) (k dropped : Nat) :
    (s.residualsDropped k dropped).turn.absorbing = s.turn.absorbing := by
  unfold S8.residualsDropped
  split <;> rfl

/-- The entries are written from beyond the header's State. -/
theorem S8.entryWrites_beyond_state {s : S8} {k : Nat} {entries : Bytes} : ∀ w ∈ s.entryWrites k entries, tableBase k + 4 ≤ w.1 := by
  unfold S8.entryWrites
  split
  · exact List.forall_mem_singleton.2 (state_lt_poolRow k _)
  · exact List.forall_mem_cons.2 ⟨state_lt_poolRow k _, List.forall_mem_singleton.2 (Nat.add_le_add_left (by decide) _)⟩

section Residuals
variable (s : S8) (k : Nat) (g : Golden) (changes : List (Nat × Nat × Int))

@[simp] theorem S8.stageResiduals_absorbing : (s.stageResiduals k g changes).turn.absorbing = s.turn.absorbing := by
  unfold S8.stageResiduals
  extract_lets m old outliers named added fit cols summed writes s1
  rw [S8.residualsDropped_absorbing]
  exact S8.stageTables_absorbing s k writes

/-- Staging residuals leaves the vat's State. -/
@[simp] theorem S8.stageResiduals_vatState : (s.stageResiduals k g changes).mem.vatState k = s.mem.vatState k := by
  unfold S8.stageResiduals
  extract_lets m old outliers named added fit cols summed writes s1
  rw [S8.residualsDropped_mem]
  refine S8.stageTables_vatState fun w hw => ?_
  simp only [writes, List.mem_append, List.mem_map, List.mem_singleton] at hw
  obtain ((hentry | rfl) | ⟨c, -, rfl⟩) | ⟨c, -, rfl⟩ := hw
  · exact S8.entryWrites_beyond_state w hentry
  · exact Nat.add_le_add_left (by decide) _
  · have := constants_le_columnAddr k c
    dsimp only
    omega
  · have := constants_le_columnAddr k c
    dsimp only
    omega

end Residuals

/-! ### Repair in place (R168) -/

@[simp] theorem SMap.getD_modify_self {α : Type} (m : SMap α) (k : Nat) (d : α) (f : α → α) :
    SMap.getD (SMap.modify m k d f) k d = f (SMap.getD m k d) := by
  rw [SMap.modify, SMap.getD_insert, if_pos rfl]

/-- Weights still to be absorbed when one of a vat is done (R168). -/
def Turning.absorbed (t : Turning) (k row col : Nat) : SMap (List (Nat × Nat)) :=
  SMap.modify t.absorbing k [] (fun l => l.filter (fun e => e ≠ (row, col)))

theorem Turning.not_mem_absorbed (t : Turning) (k row col : Nat) : (row, col) ∉ SMap.getD (t.absorbed k row col) k [] := by
  simp [Turning.absorbed]

section Absorb
variable {s : S8} {k row col : Nat} {g : Golden} {t c : Int}

/-- Within half a step the weight is done. -/
theorem S8.absorbReading_absorbing_of_near (h : (t - c - 256 * g.target row col).natAbs ≤ 128) :
    (s.absorbReading k row col g t c).turn.absorbing = s.turn.absorbed k row col := by
  unfold S8.absorbReading
  dsimp only
  rw [if_pos h, S8.stageResiduals_absorbing]
  rfl

/-- A weight too far from zero whose partner is in range is pulsed on. -/
theorem S8.absorbReading_absorbing_of_tooFar (hoff : 128 < (t - c - 256 * g.target row col).natAbs)
    (hfar : 256 * (g.target row col).natAbs < (t - c).natAbs)
    (hpartner : (if 256 * g.target row col < t - c then t - 256 * g.target row col else c + 256 * g.target row col) ≤ 40960) :
    (s.absorbReading k row col g t c).turn.absorbing = s.turn.absorbing := by
  unfold S8.absorbReading
  dsimp only
  rw [if_neg (Nat.not_le.2 hoff), if_pos ⟨hfar, hpartner⟩]
  split
  · exact S8.stageResiduals_absorbing ..
  · rfl

/-- A weight off and not too far from zero is done, and counted out of range. -/
theorem S8.absorbReading_of_outOfRange (hoff : 128 < (t - c - 256 * g.target row col).natAbs)
    (hfar : (t - c).natAbs ≤ 256 * (g.target row col).natAbs) : s.absorbReading k row col g t c = { s with
      turn := { s.turn with absorbing := s.turn.absorbed k row col }
      dict := s.dict.raise s.run.step Obj.absorbOutOfRangeCount 0 1 (s.vatUnit k) (2048 * col + row) } := by
  unfold S8.absorbReading
  dsimp only
  rw [if_neg (Nat.not_le.2 hoff), if_neg fun h => Nat.not_lt.2 hfar h.1]
  rfl

end Absorb

theorem exec_absorbPulseVerify_reads {vat : Vat} {row col : Fin 2048} {x y : Nat} {s : State} {g : Golden}
    (hgolden : s.chip.goldenOf (vatKey vat) = some g)
    (hmem : (row.val, col.val) ∈ SMap.getD s.chip.turn.absorbing (vatKey vat) [])
    (hagent : vatHalf (vatKey vat) ∉ s.chip.cores.starved) (hslots : 2 ≤ s.chip.turningSlotsLeft (vatKey vat)) :
    exec (.absorbPulseVerify vat row col x y) s = .next { s with
      chip := S8.absorbReading { s.chip with turn := s.chip.turn.useSlots (vatKey vat) 2 } (vatKey vat) row col g x y } := by
  rw [exec_absorbPulseVerify, execAbsorbPulseVerify, act_of_wf rfl]
  simp [hgolden, hmem, S8.turns_iff.2 hagent, hslots]

/-! ### Column moves (R63, R107, R169) -/

theorem Mem.read_add (m : Mem) (a n n' : Nat) : m.read a (n + n') = m.read a n ++ m.read (a + n) n' := by
  simp [Mem.read, List.range_add, Nat.add_assoc]

/-- A slot of the constants row that holds a column and a pair is an assignment of the column map (R107). -/
theorem Mem.mem_columnMap {m : Mem} {k slot col pair : Nat} (hslot : slot < mapSlots k) (hcol : col < 65535) (hpair : pair < 65536)
    (h : m.read (tableBase k + 512 + 4 * slot) 4 = leBytes 2 col ++ leBytes 2 pair) : (col, pair) ∈ m.columnMap k := by
  rw [Mem.read_add _ _ 2 2] at h
  obtain ⟨hfirst, hsecond⟩ := List.append_inj h (by simp [Mem.read])
  have hheld : m.le (tableBase k + 512 + 4 * slot) 2 = col := by
    rw [Mem.le, hfirst, leNat_leBytes]
    omega
  have hto : m.le (tableBase k + 514 + 4 * slot) 2 = pair := by
    rw [Mem.le, show tableBase k + 514 + 4 * slot = tableBase k + 512 + 4 * slot + 2 by omega, hsecond, leNat_leBytes]
    omega
  refine List.mem_filter.2 ⟨List.mem_map.2 ⟨slot, List.mem_range.2 hslot, by rw [hheld, hto]⟩, ?_⟩
  simp only [ne_eq, decide_not, Bool.not_eq_true', decide_eq_false_iff_not]
  omega

/-- The memory that the next boundary makes of a vat's tables: what is staged for them, or what already stands where the vat is not in
service (R115). -/
def S8.tablesToBe (s : S8) (inService : Prop) [Decidable inService] : Mem := if inService then s.seen else s.mem

theorem Mem.writeAll_append (m : Mem) (ws vs : List (Nat × Bytes)) : m.writeAll (ws ++ vs) = (m.writeAll ws).writeAll vs :=
  List.foldl_append

/-- What is written first and avoided by the other writes is read back. -/
theorem Mem.read_writeAll_cons {m : Mem} {w : Nat × Bytes} {ws : List (Nat × Bytes)}
    (h : ∀ v ∈ ws, w.1 + w.2.length ≤ v.1 ∨ v.1 + v.2.length ≤ w.1) : (m.writeAll (w :: ws)).read w.1 w.2.length = w.2 := by
  refine (Mem.read_congr fun i hi => ?_).trans (Mem.read_write m w.1 w.2)
  refine Mem.byte_writeAll_of_avoid (ws := ws) (fun v hv => ?_) (m.write w.1 w.2)
  have := h v hv
  omega

/-- A map entry staged with a write beyond the constants row stands in the tables to be (R107, R115). -/
theorem S8.mem_columnMap_stageTables {s : S8} {k slot col pair : Nat} {w : Nat × Bytes} {inService : Prop} [Decidable inService]
    (hin : inService ↔ s.mem.vatState k = 2) (hslot : slot < mapSlots k) (hcol : col < 65535) (hpair : pair < 65536)
    (hw : tableBase k + 1024 ≤ w.1) : (col, pair) ∈
      ((s.stageTables k [(tableBase k + 512 + 4 * slot, leBytes 2 col ++ leBytes 2 pair), w]).tablesToBe inService).columnMap k := by
  have hbelow : slot < 64 := hslot.trans_le (by unfold mapSlots; split <;> decide)
  have hwritten : ∀ m : Mem, (m.writeAll
      (s.advancing k [(tableBase k + 512 + 4 * slot, leBytes 2 col ++ leBytes 2 pair), w])).read (tableBase k + 512 + 4 * slot) 4 =
        leBytes 2 col ++ leBytes 2 pair := by
    intro m
    refine Mem.read_writeAll_cons (w := (tableBase k + 512 + 4 * slot, leBytes 2 col ++ leBytes 2 pair)) fun v hv => ?_
    have hv : v = w ∨ v = (tableBase k + 12, leBytes 4 (s.seen.vatGeneration k + 1)) := by simpa using hv
    rcases hv with rfl | rfl
    · refine .inl (le_trans ?_ hw)
      simp only [List.length_append, leBytes_length]
      omega
    · refine .inr ?_
      simp only [leBytes_length]
      omega
  by_cases h : inService
  · rw [S8.tablesToBe, if_pos h, S8.stageTables, if_pos (hin.1 h)]
    refine Mem.mem_columnMap hslot hcol hpair ?_
    rw [S8.seen, S8.stageWrites, Mem.writeAll_append]
    exact hwritten _
  · rw [S8.tablesToBe, if_neg h, S8.stageTables, if_neg (mt hin.2 h)]
    refine Mem.mem_columnMap hslot hcol hpair ((Mem.read_congr fun i hi => ?_).trans (hwritten s.mem))
    exact Mem.byte_digestTable_of_avoid (.inr (by omega))

/-- A slot found among n, or the first, is one of the n. -/
theorem getD_find?_range_lt {n : Nat} (h : 0 < n) (p q : Nat → Bool) :
    (((List.range n).find? p).orElse (fun _ => (List.range n).find? q)).getD 0 < n := by
  have hfound : ∀ (r : Nat → Bool) i, (List.range n).find? r = some i → i < n :=
    fun r i hi => List.mem_range.1 (List.mem_of_find?_eq_some hi)
  cases hp : (List.range n).find? p with
  | some i => exact hfound p i hp
  | none =>
    cases hq : (List.range n).find? q with
    | some i => exact hfound q i hq
    | none => exact h

/-- A column moved is mapped to its pair in the tables to be (R107, R115). -/
theorem S8.mem_columnMap_stageMove {s : S8} {k col pair : Nat} {g : Golden} (hcol : col < 65535) (hpair : pair < 65536) :
    (col, pair) ∈ ((s.stageMove k col pair g).tablesToBe (s.mem.vatState k = 2)).columnMap k := by
  unfold S8.stageMove
  extract_lets slotHolding slot flag gone s1 s2
  have hslot : slot < mapSlots k := getD_find?_range_lt (by unfold mapSlots; split <;> decide) _ _
  have hstate : s1.mem.vatState k = s.mem.vatState k := by
    simp only [s1]
    split
    · rfl
    · exact S8.stageResiduals_vatState ..
  have hmap : (col, pair) ∈ (s2.tablesToBe (s.mem.vatState k = 2)).columnMap k :=
    S8.mem_columnMap_stageTables (by rw [hstate]) hslot hcol hpair ((constants_le_columnAddr k col).trans (Nat.le_add_right ..))
  clear_value s2
  exact hmap

/-- A move that is done: its column is mapped, its pair has been used, and the move is no longer under way. -/
def S8.moveDone (s : S8) (k col pair : Nat) (g : Golden) : S8 :=
  let s1 := s.stageMove k col pair g
  { s1 with
    turn := { s1.turn with
      moving := SMap.modify s1.turn.moving k [] (fun l => l.filter (fun e => e.1 ≠ col))
      usedPairs := SMap.modify s1.turn.usedPairs k [] (insertNat pair) }
    dict := s1.dict.raise s1.run.step Obj.columnRemapCount 0 1 (s1.vatUnit k) col }

theorem S8.mem_columnMap_moveDone {s : S8} {k col pair : Nat} {g : Golden} (hcol : col < 65535) (hpair : pair < 65536) :
    (col, pair) ∈ ((s.moveDone k col pair g).tablesToBe (s.mem.vatState k = 2)).columnMap k := by
  unfold S8.moveDone
  extract_lets s1
  have hmap : (col, pair) ∈ (s1.tablesToBe (s.mem.vatState k = 2)).columnMap k := S8.mem_columnMap_stageMove hcol hpair
  clear_value s1
  exact hmap

section Moved
variable (s : S8) (k col pair : Nat) (g : Golden)

theorem S8.mem_usedPairs_moveDone : pair ∈ SMap.getD (s.moveDone k col pair g).turn.usedPairs k [] := by
  rw [S8.moveDone, SMap.getD_modify_self, mem_insertNat]
  exact .inl rfl

theorem S8.not_mem_moving_moveDone (p : Nat) : (col, p) ∉ SMap.getD (s.moveDone k col pair g).turn.moving k [] := by
  rw [S8.moveDone, SMap.getD_modify_self, List.mem_filter]
  simp

end Moved

theorem exec_columnMoveDone_moves {vat : Vat} {col : Fin 2048} {pair : Nat} {s : State} {g : Golden}
    (hmove : (SMap.getD s.chip.turn.moving (vatKey vat) []).find? (fun e => e.1 = col.val) = some (col.val, pair))
    (hgolden : s.chip.goldenOf (vatKey vat) = some g) (hagent : vatHalf (vatKey vat) ∉ s.chip.cores.starved) :
    exec (.columnMoveDone vat col) s = .next { s with chip := s.chip.moveDone (vatKey vat) col pair g } := by
  rw [exec_columnMoveDone, execColumnMoveDone, act_of_wf rfl]
  simp [hmove, hgolden, S8.turns_iff.2 hagent, S8.moveDone]

/-! ### Programme-verify (R170) -/

/-- A vat whose pairs all ended within the bounds: its tables are written, and it is no longer being programmed. -/
theorem S8.programmed_of_sound (s : S8) (k : Nat) (g : Golden) (key : Nat) (place : Nat × Nat × Nat) (gainStep : Nat) :
    ∃ t : Turning, t.programming = eraseNat k s.turn.programming ∧ s.programmed k g key place [] gainStep = { s with
      mem := s.mem.writeTables k g (contentFields k key).1 (contentFields k key).2 place []
      vats := { s.vats with gainStep := SMap.insert s.vats.gainStep k gainStep }
      cellar := s.cellar.keepAnswers k g
      turn := t } := by
  have hfit : fitResiduals place.2.2 g.outliers.length (programmedResiduals k g []) = ([], 0) := by
    simp [fitResiduals, programmedResiduals, sortBy]
  unfold S8.programmed
  extract_lets f fit bad turn turn1 vats s1
  have hdropped : fit.2 = 0 := congrArg Prod.snd hfit
  have hkept : fit.1 = [] := congrArg Prod.fst hfit
  rw [hdropped]
  refine ⟨s1.turn, ?_, ?_⟩
  · simp only [s1]
    split
    · rfl
    · unfold Turning.report
      split <;> rfl
  · simp only [s1, hkept]
    rfl

theorem exec_programmeVerifyDone_programmes {vat : Vat} {off : List (Nat × Nat × Int)} {gainStep : Fin 4} {s : State} {g : Golden}
    {key block : Nat} {place : Nat × Nat × Nat} (hwf : WellFormed (.programmeVerifyDone vat off gainStep) = true)
    (hmem : vatKey vat ∈ s.chip.turn.programming) (hserves : s.chip.engineServes (vatKey vat) = true)
    (hagent : vatHalf (vatKey vat) ∉ s.chip.cores.starved) (hgolden : s.chip.goldenOf (vatKey vat) = some g)
    (hcontent : SMap.find s.chip.wheels.content (vatKey vat) = some (key, block))
    (hplace : s.chip.poolPlace (vatKey vat) g = some place) : exec (.programmeVerifyDone vat off gainStep) s = .next { s with
      chip := s.chip.programmed (vatKey vat) g key place off gainStep } := by
  rw [exec_programmeVerifyDone, execProgrammeVerifyDone, act_of_wf hwf]
  simp [hmem, hserves, S8.turns_iff.2 hagent, hgolden, hcontent, hplace]

theorem faultsAreLocatedAndRepaired : Claims.FaultsAreLocatedAndRepaired := by
  refine ⟨?column, ?block, ?absorb, ?move, ?programme⟩
  case column =>
    rintro vat group errs sumErr s l k rfl hl hgroup hstage hagent
    have hexec := exec_localisationStageDone_column hl hgroup hagent errs sumErr hstage
    refine ⟨fun c e hmem hcol hbeyond => ?faulty, fun hcols hsum => ?clean⟩
    case faulty =>
      obtain ⟨cols, hc, hfaulty⟩ := S8.columnStage_of_faulty sumErr hmem hcol hbeyond
      rw [hfaulty] at hexec
      exact ⟨_, hexec, rfl, _, SMap.find_insert_self .., rfl, hc⟩
    case clean =>
      obtain ⟨m, hnext, hend⟩ := S8.endLocalisation_next (l := l) (k := vatKey vat) (s := { s.chip with
        vats := { s.chip.vats with sumHits := SMap.erase s.chip.vats.sumHits (16 * vatKey vat + l.group) }
        dict := s.chip.dict.raise s.chip.run.step Obj.checksumTransientCount 0 1 (s.chip.vatUnit (vatKey vat)) l.group }) hl
      rw [S8.columnStage_of_clean hcols hsum, hend] at hexec
      exact ⟨_, hexec, hnext, s.chip.turn.calDue_setQuality (vatKey vat), rfl, rfl⟩
  case block =>
    rintro vat group errs s l k rfl hl hgroup hstage hagent hclean
    have hexec := exec_localisationStageDone_block hl hgroup hagent errs hstage
    obtain ⟨m, hnext, hend⟩ := S8.endLocalisation_next hl
    rw [S8.blockStage_of_clean hclean, hend] at hexec
    exact ⟨_, hexec, rfl, hnext, s.chip.turn.calDue_setQuality (vatKey vat)⟩
  case absorb =>
    rintro vat row col x y s g k rfl hgolden hmem hagent hslots
    have hexec := exec_absorbPulseVerify_reads (x := x) (y := y) hgolden hmem hagent hslots
    refine ⟨fun hnear => ?near, fun hoff hfar hpartner => ?tooFar, fun hoff hfar => ?outOfRange⟩
    case near =>
      refine ⟨_, hexec, rfl, ?_⟩
      rw [S8.absorbReading_absorbing_of_near hnear]
      exact Turning.not_mem_absorbed _ _ _ _
    case tooFar =>
      refine ⟨_, hexec, ?_⟩
      rw [S8.absorbReading_absorbing_of_tooFar hoff hfar hpartner]
      exact hmem
    case outOfRange =>
      rw [S8.absorbReading_of_outOfRange hoff hfar] at hexec
      exact ⟨_, hexec, rfl, Turning.not_mem_absorbed _ _ _ _⟩
  case move =>
    rintro vat col pair s g k rfl hmove hgolden hagent hpair
    exact ⟨_, exec_columnMoveDone_moves hmove hgolden hagent, rfl, S8.mem_columnMap_moveDone (Nat.lt_trans col.isLt (by decide)) hpair,
      S8.mem_usedPairs_moveDone .., S8.not_mem_moving_moveDone _ _ _ _ _⟩
  case programme =>
    rintro vat off gainStep s g key block place k hwf rfl hmem hserves hagent hgolden hcontent hplace rfl
    have hexec := exec_programmeVerifyDone_programmes hwf hmem hserves hagent hgolden hcontent hplace
    obtain ⟨t, hended, hsound⟩ := s.chip.programmed_of_sound (vatKey vat) g key place gainStep
    rw [hsound] at hexec
    refine ⟨_, hexec, ?_, SMap.find_insert_self .., rfl, rfl, rfl⟩
    rw [hended]
    simp

/-! ### Live rewrite (R172, R174 to R176) -/

/-- A report changes RewriteStatus and nothing else (R177). -/
theorem Turning.report_frame (t : Turning) (service state reason spare : Nat) :
    ∃ status, t.report service state reason spare = { t with status := status } := by
  unfold Turning.report
  split
  · exact ⟨_, rfl⟩
  · exact ⟨t.status, rfl⟩

section Request
variable {die : Nat} {s : S8} {value : Bytes}
  (hdie : s.dieServes die = true) (hlast : valueOf value ≤ 2303) (hservice : isServiceVat (2592 * die + valueOf value) = true)
  (hbacked : 2592 * die + valueOf value ∉ s.vats.unbacked)
include hdie hlast hservice hbacked

/-- A request for a backed service number that is not being rewritten is queued, with its status (R176, R177). -/
theorem rewriteEffect_queues (hfree : SMap.find s.turn.rewrites (s.vats.physical (2592 * die + valueOf value)) = none) :
    ∃ status, rewriteEffect die s value = (statusOk, { s with turn := { s.turn with
      requested := SMap.insert s.turn.requested die (2592 * die + valueOf value)
      status := status
      rewrites := SMap.insert s.turn.rewrites (s.vats.physical (2592 * die + valueOf value))
        (s.newRewrite (2592 * die + valueOf value) (s.vats.physical (2592 * die + valueOf value))
          (s.turn.qualityOf (s.vats.physical (2592 * die + valueOf value))).candidate false) } }) := by
  obtain ⟨status, hreport⟩ := Turning.report_frame
    { s.turn with requested := SMap.insert s.turn.requested die (2592 * die + valueOf value) } (2592 * die + valueOf value) 1 0 0
  refine ⟨status, ?_⟩
  simp only [rewriteEffect, hdie, hservice, hbacked, hfree, Nat.not_lt.2 hlast, List.contains_eq_mem, decide_false, Bool.not_true,
    Bool.false_eq_true, or_self, if_false, Option.isSome_none, hreport]

/-- A request for a number that is being rewritten is refused with STATE (R175, R177). -/
theorem rewriteEffect_refuses {r : Rewrite} (hbusy : SMap.find s.turn.rewrites (s.vats.physical (2592 * die + valueOf value)) = some r) :
    ∃ status, rewriteEffect die s value = (statusState, { s with turn := { s.turn with
      requested := SMap.insert s.turn.requested die (2592 * die + valueOf value)
      status := status } }) := by
  obtain ⟨status, hreport⟩ := Turning.report_frame
    { s.turn with requested := SMap.insert s.turn.requested die (2592 * die + valueOf value) } (2592 * die + valueOf value) 8 1 0
  refine ⟨status, ?_⟩
  simp only [rewriteEffect, hdie, hservice, hbacked, hbusy, Nat.not_lt.2 hlast, List.contains_eq_mem, decide_false, Bool.not_true,
    Bool.false_eq_true, or_self, if_false, Option.isSome_some, if_true, hreport]

end Request

theorem rewriteRequest_ne_eventClear (die : Die) : normObj (dieObj Obj.rewriteRequest die) ≠ Obj.eventClear := by
  revert die
  decide

/-- A rewrite with one spare left takes it: the spare is erased and programmed with the source's content (R172, R174). -/
theorem S8.rewriteOnto_of_spare {s : S8} {r : Rewrite} {g : Golden} {content : Nat × Nat} {spare : Nat}
    (hgolden : s.goldenOf r.source = some g) (hcontent : SMap.find s.wheels.content r.source = some content)
    (hspare : s.rewriteSpares r g = [spare]) : ∃ status writes, s.rewriteOnto r = { s.picked.programme spare content with
      turn := { (s.picked.programme spare content).turn with
        status := status
        rowWrites := writes
        rewrites := SMap.insert s.turn.rewrites r.source { r with spare := spare, state := 3 } } } := by
  have hpick : s.pick [spare] = spare := by simp [S8.pick, Nat.mod_one]
  obtain ⟨status, hreport⟩ := Turning.report_frame (s.picked.programme spare content).turn r.service 3 0 spare
  simp only [S8.rewriteOnto, hgolden, hcontent, hspare, hpick, List.cons_ne_nil, if_false, hreport]
  exact ⟨status, _, rfl⟩

section Programme
variable (s : S8) (k : Nat) (content : Nat × Nat)

theorem S8.mem_programming_programme : k ∈ (s.programme k content).turn.programming := List.mem_append_right _ (List.mem_singleton_self k)

/-- Programming a charge-trap vat wears it by one cycle (R172). -/
theorem S8.programme_cycles (h : isCulture k = false) :
    ((s.programme k content).turn.qualityOf k).cycles = (s.turn.qualityOf k).cycles + 1 := by
  have hquality := Turning.qualityOf_setQuality (s.turn.drop k) k
    (fun q => { Quality.none with cycles := q.cycles + (if isCulture k then 0 else 1), partials := q.partials })
  exact (congrArg Quality.cycles hquality).trans (by simp only [h]; rfl)

end Programme

theorem exec_rewriteStart_starts {vat : Vat} {s : State} {r : Rewrite} (hdue : s.chip.rewriteDue (vatKey vat) = some r)
    (hservice : isServiceVat (vatKey vat) = true) (hdie : s.chip.dieServes (vatDie (vatKey vat)) = true)
    (hroom : (s.chip.turn.programming.filter (fun p => vatHalf p = vatHalf (vatKey vat))).length <
      s.chip.dict.get Obj.rewriteConcurrency)
    (hagent : vatHalf (vatKey vat) ∉ s.chip.cores.starved) :
    exec (.rewriteStart vat) s = .next { s with chip := s.chip.rewriteOnto r } := by
  rw [exec_rewriteStart, execRewriteStart, act_of_wf rfl]
  simp [hdue, hservice, hdie, hroom, S8.turns_iff.2 hagent]

theorem rewritesProceed : Claims.RewritesProceed := by
  refine ⟨?request, ?start, fun s => rfl⟩
  case request =>
    rintro die w s service source harr rfl rfl hdie hlast hservice hbacked
    refine ⟨fun hfree => ?queued, fun r hbusy => ?refused⟩
    case queued =>
      obtain ⟨status, heffect⟩ := rewriteEffect_queues hdie hlast hservice hbacked hfree
      refine ⟨(rewriteEffect die s.chip w.value).2, ?_, ?_⟩
      · rw [exec_rewriteRequest, execRewriteRequest, act_of_wf rfl,
          S8.performWrite_ok harr (rewriteRequest_ne_eventClear die) (congrArg Prod.fst heffect)]
      · rw [heffect]
        exact ⟨rfl, _, SMap.find_insert_self .., rfl, rfl, rfl⟩
    case refused =>
      obtain ⟨status, heffect⟩ := rewriteEffect_refuses hdie hlast hservice hbacked hbusy
      refine ⟨(rewriteEffect die s.chip w.value).2, ?_, ?_⟩
      · rw [exec_rewriteRequest, execRewriteRequest, act_of_wf rfl, S8.performWrite_arrives harr, Dict.answerValue,
          if_neg (rewriteRequest_ne_eventClear die), congrArg Prod.fst heffect]
      · rw [heffect]
  case start =>
    rintro vat s r g content spare k rfl hdue hservice hdie hroom hagent hgolden hcontent hspare
    obtain ⟨status, writes, honto⟩ := S8.rewriteOnto_of_spare hgolden hcontent hspare
    refine ⟨_, exec_rewriteStart_starts hdue hservice hdie hroom hagent, ?_⟩
    rw [honto]
    exact ⟨S8.mem_programming_programme s.chip.picked spare content, SMap.find_insert_self .., rfl,
      S8.programme_cycles s.chip.picked spare content, SMap.find_insert_self .., rfl⟩

/-- Settles O31: each stage, reading and programming ends as its own lemma says, and a column moved stands in the tables that the next
boundary makes. -/
theorem faultsAreRepairedAndVatsRewritten : Obligations.FaultsAreRepairedAndVatsRewritten :=
  ⟨faultsAreLocatedAndRepaired, rewritesProceed⟩

end Sys2Proof.Machine

/-! PROOFS. Trips and power cycles of a die (R437, R438, R446, R480, R481). -/

namespace Sys2Proof.Machine

/-! ### The die that trips (R437) -/

/-- A die that is lost at once is out of service. -/
theorem Run.not_contains_loseNow (r : Run) (die : Nat) : (!(r.loseNow die).lostDies.contains die) = false := by
  simp [Run.loseNow]

/-- The comparator's condition trips a die whose trip is not latched yet. -/
theorem exec_dieTrip_trips {d : Die} {s : State} (htrip : s.chip.power.tripCondition d = true)
    (hunlatched : SMap.find s.chip.power.tripped d = none) :
    exec (.dieTrip d) s = .next { s with chip := S8.judge { s.chip with
      power := { s.chip.power with tripped := SMap.insert s.chip.power.tripped d.val s.chip.power.uptime }
      boot := { s.chip.boot with state := SMap.put 0 s.chip.boot.state d.val 6 }
      run := s.chip.run.loseNow d.val
      dict := s.chip.dict.raise s.chip.run.step Obj.dieTripCount 0 1 (unitField 1 d.val) 0 } } := by
  rw [exec_dieTrip, execDieTrip, act_of_wf rfl]
  simp [htrip, hunlatched]

/-! ### The power cycle (R438) -/

/-- A lost die whose trip is 10 s old is power-cycled while the inlet is at or below 40 °C. -/
theorem diePowerCycleEffect_cycles {s : S8} {value : Bytes} {since : Nat} (hlost : valueOf value ∈ s.run.lostDies)
    (htripped : SMap.find s.power.tripped (valueOf value) = some since) (hsince : 10000 ≤ s.power.uptime - since)
    (hinlet : s.power.inlet ≤ 400) :
    diePowerCycleEffect s value = (statusOk, { s with
      power := { s.power with
        tripped := SMap.erase s.power.tripped (valueOf value), cycling := insertNat (valueOf value) s.power.cycling }
      boot := { s.boot with state := SMap.erase s.boot.state (valueOf value) } }) := by
  simp [diePowerCycleEffect, hlost, htripped, Nat.not_lt.2 hsince, Int.not_lt.2 hinlet]

/-! ### The supplies' return (R446, R480, R481) -/

theorem Mem.byte_clearDie_of_die (m : Mem) {die a : Nat} (h : field a 34 3 = die) : (m.clearDie die).byte a = resetByte a := by
  rw [Mem.byte, Mem.clearDie, SMap.getD_eq, SMap.find_keep_none _ _ _ (by simp [h])]
  rfl

theorem Mem.byte_clearDie_of_other (m : Mem) {die a : Nat} (h : field a 34 3 ≠ die) : (m.clearDie die).byte a = m.byte a := by
  rw [Mem.byte, Mem.clearDie, SMap.getD_eq, SMap.find_keep _ _ _ (by simp [h])]
  rfl

/-- Clearing a die's clocks puts its clock on the crystal. -/
@[simp] theorem Clocks.sourceOf_clearDie (c : Clocks) (die : Nat) : (c.clearDie die).sourceOf die = 0 := by
  simp [Clocks.sourceOf, Clocks.clearDie, SMap.getD_erase]

/-- A die whose test record and starter core are sound runs its starter. -/
theorem Boot.startState_of_sound {b : Boot} {die : Nat} (hrecord : die ∉ b.badRecords) (hstarter : die ∉ b.noStarter) :
    b.startState die = 1 := by
  simp [Boot.startState, hrecord, hstarter]

/-- Settles O8: a trip is latched and loses its die, a power cycle clears the latch, and the supplies' return clears the die and starts
its starter. -/
theorem tripsAndPowerCycles : Obligations.TripsAndPowerCycles := by
  refine ⟨?trip, ?cycle, ?restore⟩
  case trip =>
    intro d s htrip hunlatched
    exact ⟨_, exec_dieTrip_trips htrip hunlatched, rfl, SMap.find_insert_self .., Run.not_contains_loseNow ..,
      SMap.getD_put_self s.chip.boot.state d.val 6 0, (mem_insertNat ..).2 (.inl rfl)⟩
  case cycle =>
    intro w s since harr hlost htripped hsince hinlet
    have heffect := diePowerCycleEffect_cycles hlost htripped hsince hinlet
    refine ⟨(diePowerCycleEffect s.chip w.value).2, ?_, ?_⟩
    · rw [exec_diePowerCycle, execDiePowerCycle, act_of_wf rfl,
        S8.performWrite_ok harr (by decide) (congrArg Prod.fst heffect)]
    · rw [heffect]
      exact ⟨rfl, fun e => mem_insertNat (valueOf w.value) e s.chip.power.cycling⟩
  case restore =>
    intro d s hcycling hrecord hstarter
    refine ⟨_, by rw [exec_diePowerRestore, execDiePowerRestore, act_of_wf rfl], ?_⟩
    simp only [List.contains_eq_mem, hcycling, hrecord, decide_true, decide_false, Bool.false_eq_true, if_true, if_false,
      Dict.raise_zero, Boot.startState_of_sound hrecord hstarter, Clocks.sourceOf_clearDie, SMap.getD_put_self, mem_eraseNat,
      mem_insertNat, Power.clock, SMap.getD_insert]
    exact ⟨fun h => h.2 rfl, trivial, trivial, .inl trivial, trivial, by simp, trivial, fun a => Mem.byte_clearDie_of_die _,
      fun a => Mem.byte_clearDie_of_other _⟩

end Sys2Proof.Machine

/-! PROOFS. Routing of a lane to its experts (R198, R199). -/

namespace Sys2Proof.Machine

/-! ### One expert considered (R199) -/

/-- One step of a lane's walk along its ranking: the routing and the experts taken so far, after the expert and its rank. -/
def Routing.consider (g : ExpertGroup) (lane : Nat) (a : Routing × Nat) (e : Nat × Nat) : Routing × Nat :=
  if a.2 = g.topK then a
  else if SMap.getD a.1.load e.1 0 < g.capacity.getD e.1 0 then
    ({ a.1 with
       load := SMap.insert a.1.load e.1 (SMap.getD a.1.load e.1 0 + 1)
       placed := a.1.placed ++ [(e.1, SMap.getD a.1.load e.1 0, lane)]
       overflow := a.1.overflow + (if g.topK ≤ e.2 then 1 else 0) }, a.2 + 1)
  else a

/-- The walk of a lane along the first TopK + OverflowDepth experts of its ranking. -/
def Routing.walk (r : Routing) (g : ExpertGroup) (lane : Nat) (ranked : List Nat) : Routing × Nat :=
  (ranked.take (g.topK + g.depth)).zipIdx.foldl (Routing.consider g lane) (r, 0)

/-- A lane's routing is its walk, with the choices that found no expert dropped. -/
theorem Routing.lane_eq_walk (r : Routing) (g : ExpertGroup) (lane : Nat) (ranked : List Nat) :
    r.lane g lane ranked = { (r.walk g lane ranked).1 with
      dropped := (r.walk g lane ranked).1.dropped + (g.topK - (r.walk g lane ranked).2) } := rfl

section Walk
variable (g : ExpertGroup) (lane : Nat)

/-- An expert is passed over, or takes the lane while it has room and the lane has choices left. -/
theorem Routing.consider_cases (a : Routing × Nat) (e : Nat × Nat) :
    Routing.consider g lane a e = a ∨
      (a.2 ≠ g.topK ∧ SMap.getD a.1.load e.1 0 < g.capacity.getD e.1 0 ∧
        (Routing.consider g lane a e).1.load = SMap.insert a.1.load e.1 (SMap.getD a.1.load e.1 0 + 1) ∧
        (Routing.consider g lane a e).1.placed = a.1.placed ++ [(e.1, SMap.getD a.1.load e.1 0, lane)] ∧
        (Routing.consider g lane a e).1.dropped = a.1.dropped ∧ (Routing.consider g lane a e).2 = a.2 + 1) := by
  unfold Routing.consider
  split
  case isTrue => exact .inl rfl
  case isFalse hfull =>
    split
    case isTrue hroom => exact .inr ⟨hfull, hroom, rfl, rfl, rfl, rfl⟩
    case isFalse => exact .inl rfl

/-- No expert holds more tokens than its capacity. -/
def Routing.fits (r : Routing) : Prop := ∀ e, SMap.getD r.load e 0 ≤ g.capacity.getD e 0

theorem Routing.consider_fits {a : Routing × Nat} (e : Nat × Nat) (h : a.1.fits g) : (Routing.consider g lane a e).1.fits g := by
  obtain hpassed | ⟨-, hroom, hload, -⟩ := Routing.consider_cases g lane a e
  · rwa [hpassed]
  · intro x
    rw [hload, SMap.getD_insert]
    split
    case isTrue hx => rw [hx]; exact hroom
    case isFalse => exact h x

theorem Routing.walk_fits {r : Routing} (ranked : List Nat) (h : r.fits g) :
    (r.walk g lane ranked).1.fits g :=
  List.foldlRecOn (motive := fun a : Routing × Nat => a.1.fits g) _ _ h fun _ ha e _ => Routing.consider_fits g lane e ha

/-- What a walk has done: it added its placements, at most TopK of them and each of this lane on an expert of `experts`, to those of
earlier lanes, and dropped nothing. -/
def Routing.walked (r : Routing) (experts : List Nat) (a : Routing × Nat) : Prop :=
  a.2 ≤ g.topK ∧ a.1.dropped = r.dropped ∧ ∃ taken : List (Nat × Nat × Nat), a.1.placed = r.placed ++ taken ∧ taken.length = a.2 ∧
    ∀ e ∈ taken, e.2.2 = lane ∧ e.1 ∈ experts

theorem Routing.consider_walked {r : Routing} {experts : List Nat} {a : Routing × Nat} {e : Nat × Nat}
    (h : r.walked g lane experts a) (he : e.1 ∈ experts) : r.walked g lane experts (Routing.consider g lane a e) := by
  obtain hpassed | ⟨hfull, -, -, hplaced, hdropped, hcount⟩ := Routing.consider_cases g lane a e
  · rwa [hpassed]
  · obtain ⟨hle, hkept, taken, htaken, hlength, hall⟩ := h
    refine ⟨by omega, hdropped.trans hkept, taken ++ [(e.1, SMap.getD a.1.load e.1 0, lane)], ?_, by simp [hlength, hcount], ?_⟩
    · rw [hplaced, htaken, List.append_assoc]
    · simp only [List.mem_append, List.mem_singleton]
      rintro x (hx | rfl)
      · exact hall x hx
      · exact ⟨rfl, he⟩

theorem Routing.walk_walked (r : Routing) (ranked : List Nat) :
    r.walked g lane (ranked.take (g.topK + g.depth)) (r.walk g lane ranked) :=
  List.foldlRecOn (motive := r.walked g lane (ranked.take (g.topK + g.depth))) _ _
    ⟨Nat.zero_le _, rfl, [], (List.append_nil _).symm, rfl, by simp⟩
    fun _ ha _ he => Routing.consider_walked g lane ha (List.fst_mem_of_mem_zipIdx he)

end Walk

/-! ### The route task (R198, R231) -/

/-- The route task of a group whose router outputs decode routes its active lanes one after the other. -/
theorem S8.route_of_good {s : S8} {group : Nat} {sh : Sheet} {g : ExpertGroup} {t : CoreTask} (hsheet : s.run.running = some sh)
    (hgroup : sh.groups[group]? = some g)
    (htask : sh.tasks.find? (fun t => t.kind = 5 && t.core = g.core && t.phase = g.phase) = some t)
    (hdie : s.dieServes g.core.die = true)
    (hgood : ∀ l ∈ s.run.activeLanes g.phase, t.firstLane ≤ l → l < t.firstLane + t.laneCount →
      s.mem.badRows t.core (t.inRow (ceilDiv (4 * g.experts) 512) l) (ceilDiv (4 * g.experts) 512) = [])
    {r : Routing}
    (hr : r = ((s.run.activeLanes g.phase).filter (fun l => t.firstLane ≤ l && l < t.firstLane + t.laneCount)).foldl
      (fun a l => a.lane g l (rankExperts (s.scoresOf g t l))) { load := [], placed := [], overflow := 0, dropped := 0 }) :
    s.route group = { s with
      vats := r.placed.foldl (fun v e => v.place sh g e) s.vats
      dict := (s.dict.raise s.run.step Obj.expertOverflowCount 0 r.overflow (unitField 3 g.core.key) group).raise
        s.run.step Obj.expertDropCount 0 r.dropped (unitField 3 g.core.key) group } := by
  have hbad : ((s.run.activeLanes g.phase).filter (fun l => t.firstLane ≤ l && l < t.firstLane + t.laneCount)).find?
      (fun l => s.mem.badRows t.core (t.inRow (ceilDiv (4 * g.experts) 512) l) (ceilDiv (4 * g.experts) 512) ≠ []) = none := by
    simp only [List.find?_eq_none, List.mem_filter, Bool.and_eq_true, decide_eq_true_eq, not_not]
    rintro l ⟨hl, hfirst, hlast⟩
    exact hgood l hl hfirst hlast
  subst hr
  simp only [S8.route, hsheet, hgroup, htask, hdie, hbad, Option.bind_some, Option.map_some, Bool.not_true, Bool.false_eq_true,
    if_false]

/-- Settles O37: the walk of each lane keeps the capacities and counts every choice as placed or dropped. -/
theorem routingRespectsCapacity : Obligations.RoutingRespectsCapacity := by
  refine ⟨?task, ?capacity, ?choices, fun v sh g e => rfl⟩
  case task =>
    intro group s sh g t r hsheet hgroup htask hdie hgood hr
    rw [exec_taskRoute, execTaskRoute, act_of_wf rfl, S8.route_of_good hsheet hgroup htask hdie hgood hr]
  case capacity =>
    intro r g lane ranked hfits
    rw [Routing.lane_eq_walk]
    exact Routing.walk_fits g lane ranked hfits
  case choices =>
    intro r g lane ranked
    obtain ⟨hle, hdropped, taken, htaken, hlength, hall⟩ := Routing.walk_walked g lane r ranked
    rw [Routing.lane_eq_walk]
    refine ⟨taken, htaken, ?_, hall⟩
    simp only [hlength, hdropped]
    omega

end Sys2Proof.Machine

/-! PROOFS. Cores post and patch pour instructions (R198, R223). -/

namespace Sys2Proof.Machine

/-- A core that executes performs its instruction. -/
theorem S8.onCore_of_runs {c : S8} {core : Core} (h : c.coreRuns (coreKey core) = true) (f : S8 → S8) : c.onCore core f = f c := by
  simp [S8.onCore, h]

/-! ### Posting (R223) -/

/-- What a well-formed instruction of the core's own half does, posted for a vat: by the slot's kind, and by how far the slot's fetch
windows have begun. -/
def S8.post (s : S8) (k rd tick vat : Nat) (p : PourInstr) : S8 :=
  if s.kindOfSlot vat p.slot ≠ 2 then { s with cores := s.cores.setX k rd 3 }
  else if s.windowBegun vat p.slot tick && s.vats.ahead.contains (slotKey vat p.slot) then
    { s with
      vats := { s.vats with postedLater := SMap.insert s.vats.postedLater (slotKey vat p.slot) p }
      cores := s.cores.setX k rd 1 }
  else if s.windowBegun vat p.slot tick then
    { s with
      vats := { s.vats with postedNext := SMap.insert s.vats.postedNext (slotKey vat p.slot) p }
      cores := s.cores.setX k rd 1 }
  else
    { s with
      vats := { s.vats with posted := SMap.insert s.vats.posted (slotKey vat p.slot) p }
      cores := s.cores.setX k rd 0 }

section Post
variable {s : S8} {k rd tick vat : Nat} {p : PourInstr}

theorem S8.post_of_otherKind (h : s.kindOfSlot vat p.slot ≠ 2) :
    s.post k rd tick vat p = { s with cores := s.cores.setX k rd 3 } := if_pos h

theorem S8.post_of_notBegun (hkind : s.kindOfSlot vat p.slot = 2) (h : s.windowBegun vat p.slot tick = false) :
    s.post k rd tick vat p = { s with
      vats := { s.vats with posted := SMap.insert s.vats.posted (slotKey vat p.slot) p }
      cores := s.cores.setX k rd 0 } := by simp [S8.post, hkind, h]

theorem S8.post_of_begun (hkind : s.kindOfSlot vat p.slot = 2) (h : s.windowBegun vat p.slot tick = true)
    (hnext : s.vats.ahead.contains (slotKey vat p.slot) = false) :
    s.post k rd tick vat p = { s with
      vats := { s.vats with postedNext := SMap.insert s.vats.postedNext (slotKey vat p.slot) p }
      cores := s.cores.setX k rd 1 } := by
  rw [S8.post, if_neg (not_not.2 hkind), hnext, h]
  rfl

theorem S8.post_of_begunAhead (hkind : s.kindOfSlot vat p.slot = 2) (h : s.windowBegun vat p.slot tick = true)
    (hnext : s.vats.ahead.contains (slotKey vat p.slot) = true) :
    s.post k rd tick vat p = { s with
      vats := { s.vats with postedLater := SMap.insert s.vats.postedLater (slotKey vat p.slot) p }
      cores := s.cores.setX k rd 1 } := by
  rw [S8.post, if_neg (not_not.2 hkind), hnext, h]
  rfl

end Post

/-- A pour.post of a well-formed instruction posts it. -/
theorem exec_pourPost_posts {core : Core} {rd rs1 rs2 : Fin 32} {tick : Nat} {s : State} {vat : Nat} {p : PourInstr}
    (hruns : s.chip.coreRuns (coreKey core) = true)
    (hp : p = PourInstr.ofWord (s.chip.cores.xreg (coreKey core) rs1 + 2 ^ 64 * s.chip.cores.xreg (coreKey core) rs2))
    (hvat : vat = p.target core.die)
    (hform : p.malformedForm s.chip.run.running core.die 2 (s.chip.kindAfter vat p.slot) p.slot false = false)
    (hhalf : vatHalf vat = coreHalfKey core) (hbacked : vat ∉ s.chip.vats.unbacked)
    (hstate : s.chip.statePermits (s.chip.vats.physical vat) p = true) :
    exec (.pourPost core rd rs1 rs2 tick) s = .next { s with chip := s.chip.post (coreKey core) rd tick vat p } := by
  rw [exec_pourPost, execPourPost, act_of_wf rfl, S8.onCore_of_runs hruns]
  dsimp only
  rw [← hp, ← hvat]
  have haccepted : (p.malformedForm s.chip.run.running core.die 2 (s.chip.kindAfter vat p.slot) p.slot false ||
      vatHalf vat ≠ coreHalfKey core || s.chip.vats.unbacked.contains vat ||
      !s.chip.statePermits (s.chip.vats.physical vat) p) = false := by simp [hform, hhalf, hbacked, hstate]
  rw [if_neg (ne_true_of_eq_false haccepted), S8.post]

/-! ### Patching (R198) -/

/-- A pour.patch that the sheet's one group takes patches the expert's slot. -/
theorem exec_pourPatch_patches {core : Core} {rd rs1 rs2 : Fin 32} {tick : Nat} {s : State} {a b : Nat} {sh : Sheet} {g : ExpertGroup}
    (hruns : s.chip.coreRuns (coreKey core) = true) (ha : a = s.chip.cores.xreg (coreKey core) rs1)
    (hb : b = s.chip.cores.xreg (coreKey core) rs2) (hsheet : s.chip.run.running = some sh) (hgroup : sh.groups = [g])
    (hcore : g.core.key = coreKey core) (htick : tick < g.deadline) (hexpert : field a 0 8 < g.experts)
    (hslot : (sh.expertSlots g (field a 0 8)).any (fun x => x.2.contains (field a 8 7)) = true)
    (hform : sh.patchMalformed g (field a 0 8) (field a 8 7) (field b 0 7) (field b 16 10) = false) :
    exec (.pourPatch core rd rs1 rs2 tick) s = .next { s with chip := { s.chip with
      vats := s.chip.vats.patch sh g (field a 0 8) (field a 8 7) (field b 0 7) (field b 16 10)
      cores := s.chip.cores.setX (coreKey core) rd 0 } } := by
  rw [exec_pourPatch, execPourPatch, act_of_wf rfl, S8.onCore_of_runs hruns]
  dsimp only
  rw [← ha, ← hb, hsheet, Option.bind_some, hgroup]
  simp only [List.find?_cons, hcore, htick, hexpert, hslot, hform, decide_true, Bool.not_false, Bool.and_true, Option.map_some]

/-- Settles O33: an accepted post is `S8.post`, and a patch finds the sheet's one group. -/
theorem poursArePostedAndPatched : Obligations.PoursArePostedAndPatched := by
  refine ⟨?post, ?patch⟩
  case post =>
    rintro core rd rs1 rs2 tick s k vat p rfl hruns hp hvat hform hhalf hbacked hstate
    rw [exec_pourPost_posts hruns hp hvat hform hhalf hbacked hstate]
    refine ⟨fun hkind hbegun => ?_, fun hkind hbegun hahead => ?_, fun hkind hbegun hahead => ?_, fun hkind => ?_⟩
    · rw [S8.post_of_notBegun hkind hbegun]
    · rw [S8.post_of_begunAhead hkind hbegun hahead]
    · rw [S8.post_of_begun hkind hbegun hahead]
    · rw [S8.post_of_otherKind hkind]
  case patch =>
    rintro core rd rs1 rs2 tick s k a b sh g rfl hruns ha hb hsheet hgroup hcore htick hexpert hslot hform
    exact exec_pourPatch_patches hruns ha hb hsheet hgroup hcore htick hexpert hslot hform

end Sys2Proof.Machine

/-! PROOFS. The barrier's collector and the start of a pour (R67, R69, R79, R90, R182, R183). -/

namespace Sys2Proof.Machine

/-! ### What the collector changes (R183, R260) -/

/-- The collector changes the run's release and its mark of the done flit sent. -/
theorem S8.collect_run (s : S8) :
    s.collect.run = { s.run with release := s.collect.run.release, sentDone := s.collect.run.sentDone } := by
  unfold S8.collect
  dsimp only
  split
  · rfl
  · split
    · rfl
    · split <;> rfl

/-- The collector changes the release, its mark of the done flit sent and the lanes, and nothing else. -/
theorem S8.collect_barrier_frame (s : S8) : s.collect = { s with
    run := { s.run with release := s.collect.run.release, sentDone := s.collect.run.sentDone }
    fab := { s.fab with lanes := s.collect.fab.lanes } } := by
  conv_lhs => rw [S8.collect_frame, S8.collect_run]

/-- The module's own done signal changes the dones as well. -/
theorem S8.moduleDone_frame (s : S8) : s.moduleDone = { s with
    run := { s.run with
      dones := s.moduleDone.run.dones, release := s.moduleDone.run.release, sentDone := s.moduleDone.run.sentDone }
    fab := s.moduleDone.fab } := by
  unfold S8.moduleDone
  dsimp only
  split
  · rw [S8.collect_barrier_frame]
  · rfl

theorem judgingTouchesTheBarrierOnly : Claims.JudgingTouchesTheBarrierOnly := by
  intro c
  conv_lhs => rw [S8.judge, S8.moduleDone_frame]
  rw [S8.judge, S8.moduleDone_frame]

/-! ### A slot's pour (R67, R69, R79, R90) -/

section StartPour
variable {s : S8} {vat slot : Nat} {kind : PourKind} {p : PourInstr}
  (hp : s.performed vat slot = some p) (hkind : p.kind = kind) (hlane : p.slotKind = 0 → s.laneIdle vat p = false)
  (hbacked : vat ∉ s.vats.unbacked)
include hp hkind hlane hbacked

/-- A slot whose instruction is sound, on a lane that is not idle and a vat with backing, has its pour in flight. -/
theorem S8.startPour_of_sound (hform : s.malformedNow vat p.slot p = false) :
    s.startPour vat slot kind = { s with
      vats := { s.vats with
        flights := SMap.insert s.vats.flights (slotKey vat slot)
          { instr := p, fetched := s.fetchedOf vat slot p, physical := s.vats.physical vat } }
      dict := s.dict.countPour (vatDie vat) p kind (p.slot = slot) (isCulture vat) } := by
  have hbusy : ¬(p.slotKind = 0 ∧ s.laneIdle vat p = true) := fun h => by simp [hlane h.1] at h
  simp [S8.startPour, hp, hkind, hbusy, hbacked, hform]

/-- A slot whose instruction is malformed is over with no pour; the first slot of the instruction raises PourFault with its tag. -/
theorem S8.startPour_of_malformed (hform : s.malformedNow vat p.slot p = true) :
    s.startPour vat slot kind = { s with
      vats := { s.vats with
        faultTag := if p.slot = slot then SMap.put 0 s.vats.faultTag (vatDie vat) p.tag else s.vats.faultTag
        slotsDone := insertNat (slotKey vat slot) s.vats.slotsDone }
      dict := s.dict.raise s.run.step (dieObj Obj.pourFaultCount (vatDie vat)) 0 (if p.slot = slot then 1 else 0)
        (unitOfVatKey (p.target (vatDie vat))) p.tag } := by
  have hbusy : ¬(p.slotKind = 0 ∧ s.laneIdle vat p = true) := fun h => by simp [hlane h.1] at h
  simp only [S8.startPour, hp, hkind, hbusy, hbacked, hform, List.contains_eq_mem, decide_false, Bool.false_and, ne_eq,
    not_true, if_false, if_true, Bool.false_eq_true]
  by_cases hfirst : p.slot = slot
  · simp only [hfirst, if_true, S8.pourFault, Vats.slotDone]
  · simp only [hfirst, if_false, Dict.raise_zero, Vats.slotDone]

end StartPour

/-- The commands that start a pour, with the kind of each. -/
def startsPour (i : Instr) (kind : PourKind) (vat : Vat) (slot : PourSlot) : Prop :=
  (i = .highPour vat slot ∧ kind = .high) ∨ (i = .lowPour vat slot ∧ kind = .low) ∨
    (i = .doublePour vat slot ∧ kind = .double) ∨ (i = .reversePour vat slot ∧ kind = .reverse)

/-- Each of them starts the slot's pour and judges what is done. -/
theorem exec_of_startsPour {i : Instr} {kind : PourKind} {vat : Vat} {slot : PourSlot} (s : State) (h : startsPour i kind vat slot) :
    exec i s = .next { s with chip := (s.chip.startPour (vatKey vat) slot kind).judge } := by
  obtain ⟨rfl, rfl⟩ | ⟨rfl, rfl⟩ | ⟨rfl, rfl⟩ | ⟨rfl, rfl⟩ := h
  · rw [exec_highPour, execHighPour, act_of_wf rfl]
  · rw [exec_lowPour, execLowPour, act_of_wf rfl]
  · rw [exec_doublePour, execDoublePour, act_of_wf rfl]
  · rw [exec_reversePour, execReversePour, act_of_wf rfl]

theorem poursStartInTheirSlots : Claims.PoursStartInTheirSlots := by
  refine ⟨?sound, ?malformed, fun p => rfl⟩
  case sound =>
    intro i kind vat slot p s hi hp hkind hlane hbacked hform
    exact ⟨_, exec_of_startsPour s hi, S8.startPour_of_sound hp hkind hlane hbacked hform⟩
  case malformed =>
    intro i kind vat slot p s hi hp hkind hlane hbacked hform
    refine ⟨_, exec_of_startsPour s hi, ?_⟩
    rw [S8.startPour_of_malformed hp hkind hlane hbacked hform]
    refine ⟨rfl, fun hfirst => ?_, (mem_insertNat ..).2 (.inl rfl)⟩
    dsimp only
    rw [if_pos hfirst, SMap.getD_put_self]

/-- Settles O24: judging touches the barrier only, and a sound instruction is in flight where a malformed one raises PourFault. -/
theorem poursStart : Obligations.PoursStart := ⟨judgingTouchesTheBarrierOnly, poursStartInTheirSlots⟩

end Sys2Proof.Machine

/-! PROOFS. Barrier flits and the time base (R183, R252, R260, R262 to R264, R448). -/

namespace Sys2Proof.Machine

/-! ### A good control flit (R252, R257) -/

section GoodFlit
variable (s : S8) (f : Flit)

@[simp] theorem S8.goodFlit_run : (s.goodFlit f).run = s.run := rfl

@[simp] theorem S8.goodFlit_get (obj : Nat) : (s.goodFlit f).dict.get obj = s.dict.get obj := Dict.raise_get ..

@[simp] theorem S8.goodFlit_hasTickParent : (s.goodFlit f).hasTickParent = s.hasTickParent := by
  simp [S8.hasTickParent]

end GoodFlit

/-! ### Done and release flits (R183, R260) -/

/-- A collector that has acted in this step does nothing more. -/
theorem S8.collect_of_acted {s : S8} (h : s.run.release ≠ none ∨ s.run.sentDone = true) : s.collect = s := by
  obtain h | h := h
  · simp [S8.collect, Option.isSome_iff_ne_none.2 h]
  · simp [S8.collect, h]

/-- The run after a done flit of a child was collected, before the collector acts on it (R214, R260). -/
def Run.childDone (r : Run) (trunk : Nat) (b : BarrierFlit) : Run :=
  { r with
    dones := SMap.insert r.dones trunk b.tick, belowOverrun := r.belowOverrun || b.overrun
    closing := (r.closing ++ b.closed).eraseDups, announced := (r.announced ++ b.announce).eraseDups }

/-- A done flit of this step on the trunk of a child is collected. -/
theorem exec_barrierDoneRx_collects {f : Flit} {v : FlitView} {s : State} {b : BarrierFlit} {r : BarrierRecord}
    (harr : s.chip.flitArrives f v) (hkind : v.kind = kindBarrier) (hb : b = BarrierFlit.ofPayload v.payload)
    (hdirection : b.direction = 0) (hstep : b.step = s.chip.run.step) (hrecord : s.chip.run.barrier = some r)
    (hchild : ∃ l ∈ r.lanes, l / 9 = f.lane / 9) :
    exec (.barrierDoneRx f) s =
      .next { s with chip := S8.collect { s.chip.goodFlit f with run := s.chip.run.childDone (f.lane / 9) b } } := by
  rw [exec_barrierDoneRx, execBarrierDoneRx, act_of_wf (by simp [WellFormed, harr.1]), S8.receiveControl_arrives harr hkind]
  simp only [S8.goodFlit_run, ← hb, hrecord, Option.map_some, Option.getD_some]
  rw [if_pos ⟨hdirection, hstep, by simpa using hchild⟩]
  rfl

/-- A release flit of this step, on a module that is not the root and has no release, names the release and goes on to the children. -/
theorem exec_barrierReleaseRx_releases {f : Flit} {v : FlitView} {s : State} {b : BarrierFlit} (harr : s.chip.flitArrives f v)
    (hkind : v.kind = kindBarrier) (hb : b = BarrierFlit.ofPayload v.payload) (hdirection : b.direction = 1)
    (hstep : b.step = s.chip.run.step) (hroot : s.chip.run.isRoot = false) (hrelease : s.chip.run.release = none) :
    exec (.barrierReleaseRx f) s = .next { s with chip := { s.chip.goodFlit f with
      run := { s.chip.run with
        release := some b.tick, closing := (s.chip.run.closing ++ b.closed).eraseDups
        announced := (s.chip.run.announced ++ b.announce).eraseDups }
      fab := { (((s.chip.run.barrier.map (·.lanes)).getD []).foldl (fun g l => g.sendBarrier l b) (s.chip.goodFlit f).fab) with
        isolated := false } } } := by
  rw [exec_barrierReleaseRx, execBarrierReleaseRx, act_of_wf (by simp [WellFormed, harr.1]), S8.receiveControl_arrives harr hkind]
  simp only [S8.goodFlit_run, ← hb]
  rw [if_pos ⟨hdirection, hstep, by simp [hroot], hrelease⟩]

/-! ### Isolation (R262) -/

/-- Dies lost one after the other change what is lost and nothing else, and all of them are lost. -/
theorem Run.foldl_loseNow (dies : List Nat) (r : Run) :
    ∃ lostDies losing, dies.foldl Run.loseNow r = { r with lostDies := lostDies, losing := losing } ∧
      ∀ d, d ∈ lostDies ↔ d ∈ dies ∨ d ∈ r.lostDies := by
  induction dies generalizing r with
  | nil => exact ⟨_, _, rfl, by simp⟩
  | cons d dies ih =>
    obtain ⟨lostDies, losing, hrun, hlost⟩ := ih (r.loseNow d)
    refine ⟨lostDies, losing, hrun, fun x => ?_⟩
    rw [hlost, Run.loseNow, mem_insertNat, List.mem_cons]
    tauto

theorem S8.isolate_of_isolated {s : S8} (h : s.fab.isolated = true) (hlost : s.run.lostDies.length = 8) : s.isolate = s :=
  if_pos ⟨h, hlost⟩

/-- A module that is not cut off with all dies lost is cut off, counts it and loses every die. -/
theorem S8.isolate_isolates {s : S8} (h : s.fab.isolated = false ∨ s.run.lostDies.length ≠ 8) :
    s.isolate = { s with
      fab := { s.fab with lanes := s.isolate.fab.lanes, isolated := true }
      run := { s.run with lostDies := s.isolate.run.lostDies, losing := s.isolate.run.losing }
      dict := s.dict.raise s.run.step Obj.barrierIsolatedCount 0 1 0 0 } ∧
    ∀ d < 8, s.isolate.dieServes d = false := by
  have hopen : ¬(s.fab.isolated = true ∧ s.run.lostDies.length = 8) := by
    rintro ⟨hi, hl⟩
    exact h.elim (by simp [hi]) (absurd hl)
  obtain ⟨lostDies, losing, hrun, hlost⟩ := Run.foldl_loseNow (List.range 8) s.run
  rw [S8.isolate, if_neg hopen]
  dsimp only
  rw [hrun, Fabric.foldl_sendBarrier_frame]
  exact ⟨rfl, fun d hd => by simp [S8.dieServes, (hlost d).2 (.inl (List.mem_range.2 hd))]⟩

theorem exec_barrierIsolatedRx_isolates {f : Flit} {v : FlitView} {s : State} (harr : s.chip.flitArrives f v)
    (hkind : v.kind = kindBarrier) (hdirection : (BarrierFlit.ofPayload v.payload).direction = 2) :
    exec (.barrierIsolatedRx f) s = .next { s with chip := (s.chip.goodFlit f).isolate } := by
  rw [exec_barrierIsolatedRx, execBarrierIsolatedRx, act_of_wf (by simp [WellFormed, harr.1]),
    S8.receiveControl_arrives harr hkind, if_pos hdirection]

/-! ### The line of a lane (R252) -/

theorem LinkLaneState.line_subset_emit (l : LinkLaneState) (d : Bytes) : l.line ⊆ (l.emit d).line :=
  List.subset_append_left ..

theorem LinkLaneState.line_subset_controlSlot (l : LinkLaneState) : l.line ⊆ l.controlSlot.line := by
  unfold LinkLaneState.controlSlot
  split <;> exact LinkLaneState.line_subset_emit ..

theorem LinkLaneState.line_subset_bulkSlot (l : LinkLaneState) : l.line ⊆ l.bulkSlot.line := by
  unfold LinkLaneState.bulkSlot
  split
  case h_1 => exact List.Subset.refl _
  case h_2 =>
    split_ifs
    · exact List.Subset.refl _
    · exact List.subset_append_left ..
    · exact List.subset_append_left ..
    · exact List.Subset.refl _

/-- One slot of a lane that has something to send. -/
def LinkLaneState.pump (l : LinkLaneState) : LinkLaneState :=
  if l.control = [] ∧ l.ready = false then l else if l.slot % 32 = 0 then l.controlSlot else l.bulkSlot

theorem LinkLaneState.line_subset_pump (l : LinkLaneState) : l.line ⊆ l.pump.line := by
  unfold LinkLaneState.pump
  split_ifs
  · exact List.Subset.refl _
  · exact LinkLaneState.line_subset_controlSlot l
  · exact LinkLaneState.line_subset_bulkSlot l

theorem LinkLaneState.line_subset_pumps {β : Type} (slots : List β) (l : LinkLaneState) :
    l.line ⊆ (slots.foldl (fun a _ => LinkLaneState.pump a) l).line :=
  List.foldlRecOn (motive := fun a : LinkLaneState => l.line ⊆ a.line) _ _ (List.Subset.refl _)
    fun a ha _ _ => List.Subset.trans ha (LinkLaneState.line_subset_pump a)

/-- A lane with something to send uses its slots one after the other. -/
theorem LinkLaneState.pumpAll_eq (l : LinkLaneState) :
    l.pumpAll = (List.range (3 * (l.queue.length + l.control.length) + 2)).foldl (fun a _ => LinkLaneState.pump a) l := rfl

theorem LinkLaneState.line_subset_pumpAll (l : LinkLaneState) : l.line ⊆ l.pumpAll.line :=
  LinkLaneState.line_subset_pumps _ l

/-- The first slot of a lane that uses its slots is on its line. -/
theorem LinkLaneState.line_pump_subset_pumpAll (l : LinkLaneState) : l.pump.line ⊆ l.pumpAll.line := by
  rw [LinkLaneState.pumpAll_eq, List.range_succ_eq_map, List.foldl_cons]
  exact LinkLaneState.line_subset_pumps ..

theorem Fabric.line_subset_sendControl (f : Fabric) (n : Nat) (data : List Bytes) (m : Nat) :
    (f.lane m).line ⊆ ((f.sendControl n data).lane m).line := by
  unfold Fabric.sendControl
  split
  case h_1 => exact List.Subset.refl _
  case h_2 k _ =>
    rw [Fabric.lane_setLane]
    split
    case isTrue h =>
      rw [h]
      exact LinkLaneState.line_subset_pumpAll { f.lane k with control := (f.lane k).control ++ data }
    case isFalse => exact List.Subset.refl _

/-! ### Tick slots (R252, R263) -/

/-- The data of a control flit reads back with its kind (R251, R252). -/
theorem kind_controlData {kind : Nat} (payload : Bytes) (h : kind < 16) : (FlitView.ofData (controlData kind payload)).kind = kind := by
  have hheader : leAt (controlData kind payload) 0 8 = kind * 2 ^ 60 := by
    rw [controlData, FlitView.toData, leAt_append_left _ (by simp), leAt_leBytes, Nat.mod_eq_of_lt (by simp; omega)]
    simp
  simp only [FlitView.ofData, hheader, field]
  omega

/-- A lane with one pending control flit, of a kind that control slots carry, puts it on the line in a control slot. -/
theorem LinkLaneState.mem_pumpAll_tick {l : LinkLaneState} {d : Bytes} (hkind : (FlitView.ofData d).kind = kindTick)
    (hcontrol : l.control = [d]) (hslot : l.slot % 32 = 0) : (l.slot, encodeFlit d) ∈ l.pumpAll.line := by
  have hnext : l.nextControl = some d := by
    simp [LinkLaneState.nextControl, hcontrol, hkind, kindBarrier, kindToken, kindTick]
  have hpump : l.pump = { l with control := l.control.erase d }.emit d := by
    simp [LinkLaneState.pump, hcontrol, hslot, LinkLaneState.controlSlot, hnext]
  refine LinkLaneState.line_pump_subset_pumpAll l ?_
  rw [hpump]
  exact List.mem_append_right _ (List.mem_singleton_self _)

theorem roundUp_mod (m n : Nat) : roundUp m n % m = 0 := Nat.mul_mod_left ..

section TickSlot
variable (f : Fabric) (n : Nat) (d : Bytes)

theorem Fabric.tickSlot_frame : f.tickSlot n d = { f with lanes := (f.tickSlot n d).lanes } := by
  unfold Fabric.tickSlot
  rw [Fabric.sendControl_frame]
  rfl

/-- A tick slot leaves what lanes are able to carry. -/
theorem Fabric.tickSlot_lit (m : Nat) : ((f.tickSlot n d).lane m).lit = (f.lane m).lit := by
  have hrole : ((f.tickSlot n d).lane m).role = (f.lane m).role :=
    (Fabric.sendControl_role ..).trans
      (Fabric.role_setLane f (l := { f.lane n with slot := roundUp 2048 (f.lane n).slot }) rfl m)
  rw [LinkLaneState.lit, LinkLaneState.state_of_role hrole]
  rfl

theorem Fabric.line_subset_tickSlot (m : Nat) : (f.lane m).line ⊆ ((f.tickSlot n d).lane m).line := by
  refine List.Subset.trans ?_ (Fabric.line_subset_sendControl _ n [d] m)
  rw [Fabric.lane_setLane]
  split
  case isTrue h => rw [h]; exact List.Subset.refl _
  case isFalse => exact List.Subset.refl _

/-- A lit lane carries its own tick flit. -/
theorem Fabric.tickSlot_of_lit (h : (f.lane n).lit = true) :
    f.tickSlot n d = (f.setLane n { f.lane n with slot := roundUp 2048 (f.lane n).slot }).setLane n
      { f.lane n with slot := roundUp 2048 (f.lane n).slot, control := (f.lane n).control ++ [d] }.pumpAll := by
  have hstate : (f.lane n).state ≠ 3 := by
    have := of_decide_eq_true h
    omega
  simp [Fabric.tickSlot, Fabric.sendControl, Fabric.controlLane, hstate]

theorem Fabric.tickSlot_lane_ne {m : Nat} (h : (f.lane n).lit = true) (hne : m ≠ n) : (f.tickSlot n d).lane m = f.lane m := by
  rw [Fabric.tickSlot_of_lit f n d h, Fabric.lane_setLane_ne _ _ hne, Fabric.lane_setLane_ne _ _ hne]

/-- A lit lane with no other control flit pending puts its tick flit on the line in a 64th control slot. -/
theorem Fabric.mem_tickSlot_line (h : (f.lane n).lit = true) (hcontrol : (f.lane n).control = [])
    (hkind : (FlitView.ofData d).kind = kindTick) : (roundUp 2048 (f.lane n).slot, encodeFlit d) ∈ ((f.tickSlot n d).lane n).line := by
  rw [Fabric.tickSlot_of_lit f n d h, Fabric.lane_setLane_self]
  refine LinkLaneState.mem_pumpAll_tick (l := { f.lane n with
    slot := roundUp 2048 (f.lane n).slot, control := (f.lane n).control ++ [d] }) hkind (by simp [hcontrol]) ?_
  have := roundUp_mod 2048 (f.lane n).slot
  dsimp only
  omega

end TickSlot

section TickSlots
variable (data : Nat → Bytes)

/-- Tick slots of several lanes. -/
def Fabric.tickSlots (f : Fabric) (lanes : List Nat) : Fabric := lanes.foldl (fun f l => f.tickSlot l (data l)) f

theorem Fabric.tickSlots_frame (f : Fabric) (lanes : List Nat) :
    f.tickSlots data lanes = { f with lanes := (f.tickSlots data lanes).lanes } :=
  List.foldlRecOn (motive := fun g : Fabric => g = { f with lanes := g.lanes }) _ _ rfl fun g hg l _ => by
    rw [Fabric.tickSlot_frame, hg]

theorem Fabric.line_subset_tickSlots (f : Fabric) (lanes : List Nat) (m : Nat) :
    (f.lane m).line ⊆ ((f.tickSlots data lanes).lane m).line :=
  List.foldlRecOn (motive := fun g : Fabric => (f.lane m).line ⊆ (g.lane m).line) _ _ (List.Subset.refl _)
    fun g hg l _ => List.Subset.trans hg (Fabric.line_subset_tickSlot g l (data l) m)

theorem Fabric.tickSlots_cons (f : Fabric) (l : Nat) (lanes : List Nat) :
    f.tickSlots data (l :: lanes) = (f.tickSlot l (data l)).tickSlots data lanes := rfl

/-- Among lit lanes, one with no other control flit pending puts its tick flit on its line in a 64th control slot: at its first turn
the slots of the other lanes have left it as it was, and its line only grows afterwards. -/
theorem Fabric.mem_tickSlots_line {lanes : List Nat} {f : Fabric} {n : Nat} (hlit : ∀ m ∈ lanes, (f.lane m).lit = true)
    (hn : n ∈ lanes) (hcontrol : (f.lane n).control = []) (hkind : (FlitView.ofData (data n)).kind = kindTick) :
    (roundUp 2048 (f.lane n).slot, encodeFlit (data n)) ∈ ((f.tickSlots data lanes).lane n).line := by
  induction lanes generalizing f with
  | nil => simp at hn
  | cons l lanes ih =>
    have hl := hlit l List.mem_cons_self
    rw [Fabric.tickSlots_cons]
    by_cases hnl : n = l
    · subst hnl
      exact Fabric.line_subset_tickSlots data _ lanes n (Fabric.mem_tickSlot_line f n (data n) hl hcontrol hkind)
    · have hkept := Fabric.tickSlot_lane_ne f l (data l) hl hnl
      rw [← hkept]
      refine ih (fun m hm => ?_) ((List.mem_cons.1 hn).resolve_left hnl) (hkept ▸ hcontrol)
      rw [Fabric.tickSlot_lit]
      exact hlit m (List.mem_cons_of_mem l hm)

end TickSlots

/-! ### Tick flits (R263, R264, R448) -/

section Steer
variable {s c : S8} {lane : Nat} {t1 t2 t3 t4 : Int} (h : c = s.steer lane t1 t2 t3 t4)
include h

/-- Steering changes the offset with its sum and what follows from it, the lane's latency, the correction and the events. -/
theorem S8.steer_frame : c = { s with
    fab := { s.fab with
      lanes := c.fab.lanes, offset := c.fab.offset, offsetSum := s.fab.offsetSum + c.fab.offset, aligned := c.fab.aligned
      tickSet := c.fab.tickSet }
    clock := { s.clock with correction := c.clock.correction }
    dict := c.dict } := by
  subst h
  rfl

/-- A module is aligned while its offset is within 2 ns. -/
theorem S8.steer_aligned_iff : c.fab.aligned = true ↔ -2000 ≤ c.fab.offset ∧ c.fab.offset ≤ 2000 := by
  subst h
  simp only [S8.steer, Bool.not_eq_true', decide_eq_false_iff_not]
  omega

end Steer

/-- A tick flit's own time and its arrival are kept for the echo. -/
def S8.keepTick (s : S8) (lane sent arrival16 : Nat) : S8 :=
  { s with fab := s.fab.setLane lane { s.fab.lane lane with echoSend := sent, echoReceive := arrival16 } }

/-- A tick flit that arrives is kept; one of the tick parent that echoes a tick flit of this module steers the tick too. -/
theorem exec_tickFlitRx_keeps {f : Flit} {v : FlitView} {s : State} (arrival16 : Nat) (harr : s.chip.flitArrives f v)
    (hkind : v.kind = kindTick) : exec (.tickFlitRx f arrival16) s = .next { s with
    chip :=
      if s.chip.hasTickParent ∧ s.chip.dict.get Obj.tickParentLane = f.lane ∧ leAt v.payload 12 8 ≠ 0 then
        ((s.chip.goodFlit f).keepTick f.lane (leAt v.payload 0 8) arrival16).steer
          f.lane (leAt v.payload 0 8) arrival16 (leAt v.payload 12 8) (leAt v.payload 20 8)
      else (s.chip.goodFlit f).keepTick f.lane (leAt v.payload 0 8) arrival16 } := by
  rw [exec_tickFlitRx, execTickFlitRx, act_of_wf (by simp [WellFormed, harr.1]), S8.receiveControl_arrives harr hkind]
  simp only [S8.goodFlit_hasTickParent, S8.goodFlit_get]
  rfl

theorem steering_bounded (o sum : Int) : -50000 ≤ steering o sum ∧ steering o sum ≤ 50000 := by
  unfold steering clampInt
  split_ifs <;> omega

theorem exec_tickExchange_eq (tick16 : Nat) (s : State) : exec (.tickExchange tick16) s =
    .next { s with chip := { s.chip with fab := s.chip.fab.tickSlots (fun l => s.chip.tickFlit l tick16) s.chip.tickLanes } } := by
  rw [exec_tickExchange, execTickExchange, act_of_wf rfl, Fabric.tickSlots]

/-- Settles O45: a flit that arrives is handed to its effect, and a tick slot's flit stays on the line of its lane. -/
theorem barrierAndTickFlitsAreTaken : Obligations.BarrierAndTickFlitsAreTaken := by
  refine ⟨?done, ?release, ?isolated, ?exchange, ?tick, steering_bounded⟩
  case done =>
    intro f v s b r harr hkind hb hdirection hstep hrecord hchild
    refine ⟨_, exec_barrierDoneRx_collects harr hkind hb hdirection hstep hrecord hchild, ?_, fun hacted => ?_⟩
    · conv_lhs => rw [S8.collect_barrier_frame]
      rfl
    · rw [S8.collect_of_acted (s := { s.chip.goodFlit f with run := s.chip.run.childDone (f.lane / 9) b }) hacted]
      exact ⟨rfl, rfl, rfl⟩
  case release =>
    intro f v s b harr hkind hb hdirection hstep hroot hrelease
    refine ⟨_, exec_barrierReleaseRx_releases harr hkind hb hdirection hstep hroot hrelease, ?_⟩
    rw [Fabric.foldl_sendBarrier_frame]
    rfl
  case isolated =>
    intro f v s harr hkind hdirection
    rw [exec_barrierIsolatedRx_isolates harr hkind hdirection]
    refine ⟨fun hisolated hlost => ?_, fun hopen => ⟨_, rfl, ?_⟩⟩
    · rw [S8.isolate_of_isolated (s := s.chip.goodFlit f) hisolated hlost]
    · obtain ⟨hframe, hlost⟩ := S8.isolate_isolates (s := s.chip.goodFlit f) hopen
      exact ⟨congrArg (fun c => { s with chip := c }) hframe, hlost⟩
  case exchange =>
    intro tick16 s
    refine ⟨_, exec_tickExchange_eq tick16 s, ?_, fun hnone => ?_, fun hlit n hn hcontrol => ?_⟩
    · rw [Fabric.tickSlots_frame]
    · rw [hnone]
      rfl
    · exact ⟨_, roundUp_mod 2048 _, Fabric.mem_tickSlots_line (fun l => s.chip.tickFlit l tick16) hlit hn hcontrol
        (kind_controlData _ (by decide))⟩
  case tick =>
    intro f v arrival16 s harr hkind
    rw [exec_tickFlitRx_keeps arrival16 harr hkind]
    refine ⟨fun hother => ?_, fun hparent hlane hecho => ⟨_, rfl, ?_⟩⟩
    · rw [if_neg]
      · rfl
      · rintro ⟨hparent, hlane, hecho⟩
        exact hother.elim (by simp [hparent]) (·.elim (absurd hlane) hecho)
    · rw [if_pos ⟨hparent, hlane, hecho⟩]
      exact ⟨congrArg (fun c => { s with chip := c }) (S8.steer_frame rfl), S8.steer_aligned_iff rfl⟩

end Sys2Proof.Machine

/-! PROOFS. Sheets are received, checked and started (R3, R210, R211). -/

namespace Sys2Proof.Machine

/-! ### Bytes put into others -/

theorem padTo_getD {n i : Nat} (b : Bytes) (h : i < n) : (padTo n b).getD i 0 = b.getD i 0 := by
  induction n generalizing b i with
  | zero => omega
  | succ n ih =>
    cases b with
    | nil => cases i with
      | zero => rfl
      | succ i => simpa [padTo] using ih [] (Nat.lt_of_succ_lt_succ h)
    | cons x b => cases i with
      | zero => rfl
      | succ i => simpa [padTo] using ih b (Nat.lt_of_succ_lt_succ h)

theorem bytesAt_getD {b : Bytes} {i n k : Nat} (h : k < n) : (bytesAt b i n).getD k 0 = byteAt b (i + k) := by
  rw [bytesAt, padTo_getD _ h, byteAt]
  simp [List.getD_eq_getElem?_getD]

/-- Bytes put where there is room for them are read there. -/
theorem overlay_getD {b data : Bytes} {offset i : Nat} (hroom : offset + data.length ≤ b.length) (hi : i < data.length) :
    (overlay b offset data).getD (offset + i) 0 = data.getD i 0 := by
  have hwhole : data.take (b.length - offset) = data := List.take_of_length_le (by omega)
  have hbefore : (b.take offset).length = offset := List.length_take_of_le (by omega)
  rw [overlay, hwhole, List.append_assoc, List.getD_append_right _ _ _ _ (by omega), hbefore, Nat.add_sub_cancel_left,
    List.getD_append _ _ _ _ hi]

/-! ### Sheet buffers (R210) -/

/-- Data put into a buffer stands at its offset, and the buffer is receiving. -/
theorem SheetBuffer.put_bytes (b : SheetBuffer) (offset : Nat) {data : Bytes} {i : Nat} (h : i < data.length) :
    (b.put offset data).bytes.getD (offset + i) 0 = data.getD i 0 :=
  overlay_getD (by simp) h

section Buffers
variable {r : Run} {buffers : SMap SheetBuffer} {n m : Nat} {b : SheetBuffer}

theorem Run.buffer_insert_self : Run.buffer { r with buffers := SMap.insert buffers n b } n = b := by
  simp [Run.buffer, SMap.getD_insert]

theorem Run.buffer_insert_ne (h : m ≠ n) : Run.buffer { r with buffers := SMap.insert r.buffers n b } m = r.buffer m := by
  simp [Run.buffer, SMap.getD_insert, h]

end Buffers

/-- A make-sheet frame within the limits puts its data into its buffer. -/
theorem exec_bulkMakeSheet_puts {f : Frame} {v : FrameView} {s : State} (harr : s.chip.frameArrives f v) (htype : v.type = 0x30)
    (hkind : v.at 0 1 = 2) (howner : s.chip.ports.owner = f.port) (hbuffer : v.at 1 1 ≤ 8) (hcount : 0 < v.at 8 2)
    (hmax : v.at 8 2 ≤ 208) (hlimit : v.at 4 4 + v.at 8 2 ≤ sheetLimit) :
    exec (.bulkMakeSheet f) s = .next { s with
      chip := { s.chip.goodFrame f.port with
        run := { s.chip.run with
          buffers := SMap.insert s.chip.run.buffers (v.at 1 1)
            ((s.chip.run.buffer (v.at 1 1)).put (v.at 4 4) (bytesAt v.payload 16 (v.at 8 2))) } } } := by
  have hfits : ¬(8 < v.at 1 1 ∨ v.at 8 2 = 0 ∨ 208 < v.at 8 2 ∨ sheetLimit < v.at 4 4 + v.at 8 2) := by omega
  rw [exec_bulkMakeSheet, execBulkMakeSheet, act_of_wf (by simp [WellFormed, harr.1]),
    S8.receiveBulk_arrives harr htype hkind howner, if_neg hfits]
  rfl

/-! ### The end of a check (R211) -/

theorem SMap.find_mapVal {α β : Type} (f : Nat → α → β) (m : SMap α) (k : Nat) :
    SMap.find (SMap.mapVal f m) k = (SMap.find m k).map (f k) := by
  induction m with
  | nil => rfl
  | cons e m ih =>
    rw [SMap.mapVal, List.map_cons, SMap.find_cons, SMap.find_cons]
    split
    case isTrue h => rw [h]; rfl
    case isFalse => exact ih

theorem SheetBuffer.refused_cases (b : SheetBuffer) (why : Option (Nat × Nat)) : b.refused why = b ∨ (b.refused why).state = 4 := by
  cases why with
  | none => exact .inl rfl
  | some e => exact .inr rfl

/-- A base sheet that loads leaves each buffer, or refuses a loaded degraded sheet; the base's own buffer it leaves. -/
theorem S8.recheckDegraded_buffer (s : S8) (n : Nat) :
    s.recheckDegraded.run.buffer n = s.run.buffer n ∨
      (n ≠ 0 ∧ (s.run.buffer n).state = 3 ∧ (s.recheckDegraded.run.buffer n).state = 4) := by
  simp only [S8.recheckDegraded, Run.buffer, SMap.getD_eq, SMap.find_mapVal]
  cases SMap.find s.run.buffers n with
  | none => exact .inl rfl
  | some b =>
    simp only [Option.map_some, Option.getD_some]
    split
    case h_1 => exact .inl rfl
    case h_2 sh hjudged =>
      have hloaded : n ≠ 0 ∧ b.state = 3 := by
        by_contra hother
        simp [hother] at hjudged
      exact (SheetBuffer.refused_cases b _).imp_right fun h => ⟨hloaded.1, hloaded.2, h⟩

/-- A buffer after its check: loaded, or refused with the reason and the record of the first fault. -/
def S8.checked (s : S8) (n : Nat) (b : SheetBuffer) : SheetBuffer :=
  match s.loadFault n b.bytes (Sheet.ofBytes b.bytes) with
  | none => { b with state := 3, sheet := some (Sheet.ofBytes b.bytes) }
  | some (reason, record) => { b with state := 4, reason := reason, record := record % 65536 }

section Checked
variable {s : S8} {n : Nat} {b : SheetBuffer}

theorem S8.checked_of_sound (h : s.loadFault n b.bytes (Sheet.ofBytes b.bytes) = none) :
    s.checked n b = { b with state := 3, sheet := some (Sheet.ofBytes b.bytes) } := by rw [S8.checked, h]

theorem S8.checked_of_fault {reason record : Nat} (h : s.loadFault n b.bytes (Sheet.ofBytes b.bytes) = some (reason, record)) :
    s.checked n b = { b with state := 4, reason := reason, record := record % 65536 } := by rw [S8.checked, h]

theorem S8.sound_of_checked_loaded (h : (s.checked n b).state = 3) : s.loadFault n b.bytes (Sheet.ofBytes b.bytes) = none := by
  cases hfault : s.loadFault n b.bytes (Sheet.ofBytes b.bytes) with
  | none => rfl
  | some e => rw [S8.checked_of_fault hfault] at h; cases h

end Checked

/-- The module with the requested buffer checked, before a base sheet is held against the degraded ones. -/
def S8.withChecked (s : S8) : S8 :=
  { s with
    run := { s.run with
      buffers := SMap.insert s.run.buffers s.run.loadBuffer (s.checked s.run.loadBuffer (s.run.buffer s.run.loadBuffer)) } }

/-- The end of a check loads or refuses the requested buffer; a base sheet that loads is held against the degraded ones. -/
theorem S8.loadComplete_of_checking {s : S8} (h : (s.run.buffer s.run.loadBuffer).state = 2) :
    s.loadComplete = if s.run.loadBuffer = 0 ∧ (s.checked s.run.loadBuffer (s.run.buffer s.run.loadBuffer)).state = 3 then
      s.withChecked.recheckDegraded else s.withChecked := by
  rw [S8.loadComplete]
  simp only [h, ne_eq, not_true, if_false]
  rfl

/-- The end of a check: the requested buffer as checked, and each other one as it was or refused against a base sheet that loads. -/
theorem S8.loadComplete_buffers {s : S8} {n : Nat} {b : SheetBuffer} (hn : n = s.run.loadBuffer) (hb : b = s.run.buffer n)
    (h : b.state = 2) :
    s.loadComplete = { s with run := { s.run with buffers := s.loadComplete.run.buffers } } ∧
    s.loadComplete.run.buffer n = s.checked n b ∧
    ∀ m, m ≠ n → s.loadComplete.run.buffer m = s.run.buffer m ∨
      (n = 0 ∧ (s.run.buffer m).state = 3 ∧ (s.loadComplete.run.buffer m).state = 4 ∧
        s.loadFault n b.bytes (Sheet.ofBytes b.bytes) = none) := by
  subst hn hb
  have hself : s.withChecked.run.buffer s.run.loadBuffer = s.checked s.run.loadBuffer (s.run.buffer s.run.loadBuffer) :=
    Run.buffer_insert_self
  have hother (m : Nat) (hm : m ≠ s.run.loadBuffer) : s.withChecked.run.buffer m = s.run.buffer m := Run.buffer_insert_ne hm
  rw [S8.loadComplete_of_checking h]
  split
  case isFalse => exact ⟨rfl, hself, fun m hm => .inl (hother m hm)⟩
  case isTrue hbase =>
    obtain ⟨hzero, hloaded⟩ := hbase
    refine ⟨rfl, ?_, fun m hm => ?_⟩
    · obtain hkept | ⟨hne, -⟩ := s.withChecked.recheckDegraded_buffer s.run.loadBuffer
      · exact hkept.trans hself
      · exact absurd hzero hne
    · obtain hkept | ⟨-, hwas, hnow⟩ := s.withChecked.recheckDegraded_buffer m
      · exact .inl (hkept.trans (hother m hm))
      · exact .inr ⟨hzero, hother m hm ▸ hwas, hnow, S8.sound_of_checked_loaded hloaded⟩

/-! ### The start step (R3, R210) -/

theorem objInfo_runStartStep :
    objInfo Obj.runStartStep = some ⟨0x500005, .u64, .rw, 0, 0, 18446744073709551615, 0, false⟩ := by decide

section StartStep
variable {s : S8} {w : ObjWrite} (harr : s.writeArrives w Obj.runStartStep)
include harr

/-- A start step that the object takes breaks the limit of R210 where it is earlier than CurrentStep + 64, and no other limit. -/
theorem S8.brokenMust_runStartStep :
    s.brokenMust w.port Obj.runStartStep w.value = if valueOf w.value < s.run.step + 64 then some 210 else none := by
  obtain ⟨hanswers, hroom, hfirmware, howner, hcheck⟩ := harr
  have hrunning : s.boot.anyFirmware = true := hfirmware.resolve_right (by decide)
  have hclock : Obj.runStartStep ≠ Obj.halfClockControl := by decide
  have hpublish : Obj.runStartStep ≠ Obj.ripenPublishStep := by decide
  have hdrain : Obj.runStartStep ≠ Obj.wheelDrainStep := by decide
  simp [S8.brokenMust, hanswers, hroom, hrunning, howner, hcheck, hclock, hpublish, hdrain]

theorem S8.performWriteOr_startStep_held (h : s.run.step + 64 ≤ valueOf w.value) :
    s.performWriteOr w Obj.runStartStep (storeEffect Obj.runStartStep) =
      .ok (S8.writeDone { s with dict := s.dict.store Obj.runStartStep (valueOf w.value) } w Obj.runStartStep) := by
  have hstored := storeEffect_of_fixedSize s w.value objInfo_runStartStep (by decide)
  simp only [S8.performWriteOr, S8.brokenMust_runStartStep harr, if_neg (Nat.not_lt.2 h),
    S8.performWrite_ok harr (by decide) (congrArg Prod.fst hstored), hstored]

end StartStep

/-- Settles O23: data is put at its offset, a check ends as `loadComplete_buffers` says, and a start step is held or breaks R210. -/
theorem runsAreLoadedAndStarted : Obligations.RunsAreLoadedAndStarted := by
  refine ⟨?data, ?request, ?complete, ?held, ?early⟩
  case data =>
    intro f v s harr htype hkind howner hbuffer hcount hmax hlimit
    refine ⟨_, exec_bulkMakeSheet_puts harr htype hkind howner hbuffer hcount hmax hlimit, rfl, ?_, fun i hi => ?_,
      fun n hn => Run.buffer_insert_ne hn⟩
    · rw [Run.buffer_insert_self]
      rfl
    · rw [Run.buffer_insert_self, SheetBuffer.put_bytes _ _ (by simpa using hi), bytesAt_getD hi]
  case request =>
    intro w s harr
    refine ⟨(runLoadEffect s.chip w.value).2, ?_, rfl, ?_, fun n hn => Run.buffer_insert_ne hn⟩
    · rw [exec_runLoadRequest, execRunLoadRequest, act_of_wf rfl, S8.performWrite_ok harr (by decide) rfl]
    · exact Run.buffer_insert_self (r := { s.chip.run with loadBuffer := valueOf w.value })
  case complete =>
    intro s n b hn hb hchecking
    obtain ⟨hframe, hself, hothers⟩ := S8.loadComplete_buffers hn hb hchecking
    refine ⟨_, by rw [exec_runLoadComplete, execRunLoadComplete, act_of_wf rfl], congrArg (fun c => { s with chip := c }) hframe,
      fun hsound => hself.trans (S8.checked_of_sound hsound), fun reason record hfault => hself.trans (S8.checked_of_fault hfault),
      hothers⟩
  case held =>
    intro w s harr hstep
    refine ⟨{ s.chip with dict := s.chip.dict.store Obj.runStartStep (valueOf w.value) }, ?_, rfl, by simp [Dict.get_store]⟩
    rw [exec_runStartStep]
    exact actOr_of_ok rfl (S8.performWriteOr_startStep_held harr hstep)
  case early =>
    intro w s harr hstep
    rw [exec_runStartStep]
    refine actOr_of_error rfl ?_
    rw [S8.performWriteOr, S8.brokenMust_runStartStep harr, if_pos hstep]

end Sys2Proof.Machine

/-! PROOFS. Every step keeps memory in its canonical form (R230). -/

namespace Sys2Proof.Machine

/-- Every command keeps memory in its canonical form: its own `_wf` lemma says so. -/
theorem exec_wf {i : Instr} {s t : State} (h : exec i s = .next t) (hw : s.chip.mem.wf = true) : t.chip.mem.wf = true :=
  match i, h with
  | .memoryAccess a, h => execMemoryAccess_wf a h hw
  | .stepBoundary, h => execStepBoundary_wf h hw
  | .stepOverrun die half, h => execStepOverrun_wf die half h hw
  | .fetchWindow vat slot upset, h => execFetchWindow_wf vat slot upset h hw
  | .highPour vat slot, h => execHighPour_wf vat slot h hw
  | .lowPour vat slot, h => execLowPour_wf vat slot h hw
  | .doublePour vat slot, h => execDoublePour_wf vat slot h hw
  | .reversePour vat slot, h => execReversePour_wf vat slot h hw
  | .pourCodesReachRind vat slot codes tick upset, h => execPourCodesReachRind_wf vat slot codes tick upset h hw
  | .reserveDecision vat slot, h => execReserveDecision_wf vat slot h hw
  | .unrepairedRelease vat lane tick upset, h => execUnrepairedRelease_wf vat lane tick upset h hw
  | .reductionRead reduction tick mesh, h => execReductionRead_wf reduction tick mesh h hw
  | .addNode reduction lane node tick mesh, h => execAddNode_wf reduction lane node tick mesh h hw
  | .transferStart transfer, h => execTransferStart_wf transfer h hw
  | .transferArrived lane transfer tick, h => execTransferArrived_wf lane transfer tick h hw
  | .carrySave unit reduction lane, h => execCarrySave_wf unit reduction lane h hw
  | .carryRestore unit reduction lane upset, h => execCarryRestore_wf unit reduction lane upset h hw
  | .calibrationStart vat, h => execCalibrationStart_wf vat h hw
  | .calibrationComplete vat roundA roundB, h => execCalibrationComplete_wf vat roundA roundB h hw
  | .referenceCheck codes, h => execReferenceCheck_wf codes h hw
  | .measStartEdge, h => execMeasStartEdge_wf h hw
  | .measStart w, h => execMeasStart_wf w h hw
  | .measConversionDone nanovolts, h => execMeasConversionDone_wf nanovolts h hw
  | .measFirmwareHoldExpire, h => execMeasFirmwareHoldExpire_wf h hw
  | .localisationStageDone vat group found, h => execLocalisationStageDone_wf vat group found h hw
  | .absorbPulseVerify vat row col trueCell complementCell, h => execAbsorbPulseVerify_wf vat row col trueCell complementCell h hw
  | .columnMoveDone vat col, h => execColumnMoveDone_wf vat col h hw
  | .programmeVerifyDone vat off gainStep, h => execProgrammeVerifyDone_wf vat off gainStep h hw
  | .rewriteRequest die w, h => execRewriteRequest_wf die w h hw
  | .rewriteStart vat, h => execRewriteStart_wf vat h hw
  | .wearCountSave, h => execWearCountSave_wf h hw
  | .runLoadRequest w, h => execRunLoadRequest_wf w h hw
  | .runLoadComplete, h => execRunLoadComplete_wf h hw
  | .runStartStep w, h => execRunStartStep_wf w h hw
  | .barrierDoneRx f, h => execBarrierDoneRx_wf f h hw
  | .barrierReleaseRx f, h => execBarrierReleaseRx_wf f h hw
  | .barrierIsolatedRx f, h => execBarrierIsolatedRx_wf f h hw
  | .xferRow core machineMode rd rs1 rs2, h => execXferRow_wf core machineMode rd rs1 rs2 h hw
  | .xferWait core rd rs1, h => execXferWait_wf core rd rs1 h hw
  | .xferComplete core tag upset mesh, h => execXferComplete_wf core tag upset mesh h hw
  | .pourPost core rd rs1 rs2 tick, h => execPourPost_wf core rd rs1 rs2 tick h hw
  | .pourPatch core rd rs1 rs2 tick, h => execPourPatch_wf core rd rs1 rs2 tick h hw
  | .accRd core rs1 rs2, h => execAccRd_wf core rs1 rs2 h hw
  | .accWr core rd rs1 rs2, h => execAccWr_wf core rd rs1 rs2 h hw
  | .taskEnd core rs1 tick, h => execTaskEnd_wf core rs1 tick h hw
  | .stepWait core rd, h => execStepWait_wf core rd h hw
  | .vencN8 core vd vs1, h => execVencN8_wf core vd vs1 h hw
  | .vrndN8 core vd vs1, h => execVrndN8_wf core vd vs1 h hw
  | .vrndW16 core vd vs1, h => execVrndW16_wf core vd vs1 h hw
  | .valign core vd vs1 rs2, h => execValign_wf core vd vs1 rs2 h hw
  | .illegalCustom core machineMode word, h => execIllegalCustom_wf core machineMode word h hw
  | .coreMoveRequest die w, h => execCoreMoveRequest_wf die w h hw
  | .taskBuildPourVectors task lane, h => execTaskBuildPourVectors_wf task lane h hw
  | .taskRound task lane, h => execTaskRound_wf task lane h hw
  | .taskNormActivation task lane, h => execTaskNormActivation_wf task lane h hw
  | .taskAttentionCombine layer lane node, h => execTaskAttentionCombine_wf layer lane node h hw
  | .taskSample task lane, h => execTaskSample_wf task lane h hw
  | .taskRoute group, h => execTaskRoute_wf group h hw
  | .taskEmbed task lane, h => execTaskEmbed_wf task lane h hw
  | .taskRipening job task lane, h => execTaskRipening_wf job task lane h hw
  | .taskTrierCheck die half record core error, h => execTaskTrierCheck_wf die half record core error h hw
  | .taskTransferStaging task lane, h => execTaskTransferStaging_wf task lane h hw
  | .taskFirmware die half, h => execTaskFirmware_wf die half h hw
  | .bulkFlitRx f, h => execBulkFlitRx_wf f h hw
  | .creditFlitRx f, h => execCreditFlitRx_wf f h hw
  | .nakRx f, h => execNakRx_wf f h hw
  | .laneNoticeRx f, h => execLaneNoticeRx_wf f h hw
  | .reductionTokenRx f, h => execReductionTokenRx_wf f h hw
  | .reductionTokenTimeout lane transfer, h => execReductionTokenTimeout_wf lane transfer h hw
  | .tickExchange tick16, h => execTickExchange_wf tick16 h hw
  | .tickFlitRx f arrival16, h => execTickFlitRx_wf f arrival16 h hw
  | .laneTraining lane peerModule peerDie peerLane latency16, h => execLaneTraining_wf lane peerModule peerDie peerLane latency16 h hw
  | .laneSignalLoss lane, h => execLaneSignalLoss_wf lane h hw
  | .laneFail lane, h => execLaneFail_wf lane h hw
  | .bridgeWireFail bridge, h => execBridgeWireFail_wf bridge h hw
  | .attentionWalk engine layer lane upset, h => execAttentionWalk_wf engine layer lane upset h hw
  | .admitRequest f, h => execAdmitRequest_wf f h hw
  | .cancel f, h => execCancel_wf f h hw
  | .pause f, h => execPause_wf f h hw
  | .resume f, h => execResume_wf f h hw
  | .idleFrame f, h => execIdleFrame_wf f h hw
  | .controlCycleBoundary, h => execControlCycleBoundary_wf h hw
  | .ownerRelease w, h => execOwnerRelease_wf w h hw
  | .bulkPromptTokens f, h => execBulkPromptTokens_wf f h hw
  | .bulkMakeSheet f, h => execBulkMakeSheet_wf f h hw
  | .bulkWeightShard f, h => execBulkWeightShard_wf f h hw
  | .bulkTestPack f, h => execBulkTestPack_wf f h hw
  | .bulkCulture f, h => execBulkCulture_wf f h hw
  | .bulkFirmware f, h => execBulkFirmware_wf f h hw
  | .pauseImageWritten slot, h => execPauseImageWritten_wf slot h hw
  | .restoreComplete slot read, h => execRestoreComplete_wf slot read h hw
  | .cellarPageRead stripe die corrected uncorrectable retries, h => execCellarPageRead_wf stripe die corrected uncorrectable retries h hw
  | .scrubPass stripe retries corrected read, h => execScrubPass_wf stripe retries corrected read h hw
  | .cellarRebuild stripe, h => execCellarRebuild_wf stripe h hw
  | .cellarSecond, h => execCellarSecond_wf h hw
  | .pauseKeyExtend w, h => execPauseKeyExtend_wf w h hw
  | .wheelLoadRequest w, h => execWheelLoadRequest_wf w h hw
  | .shardReceived shard, h => execShardReceived_wf shard h hw
  | .shardTimeout shard, h => execShardTimeout_wf shard h hw
  | .shardRetryWait shard, h => execShardRetryWait_wf shard h hw
  | .shardDataFlit f, h => execShardDataFlit_wf f h hw
  | .shardRequestFlit f, h => execShardRequestFlit_wf f h hw
  | .blockReadVerified vat, h => execBlockReadVerified_wf vat h hw
  | .wheelUnload w, h => execWheelUnload_wf w h hw
  | .wheelDrainStep w, h => execWheelDrainStep_wf w h hw
  | .cultureLoadRequest w, h => execCultureLoadRequest_wf w h hw
  | .cultureWriteComplete place verified, h => execCultureWriteComplete_wf place verified h hw
  | .cultureUnload w, h => execCultureUnload_wf w h hw
  | .ripenJobRequest w, h => execRipenJobRequest_wf w h hw
  | .ripenJobStop w, h => execRipenJobStop_wf w h hw
  | .ripenPublishStep w, h => execRipenPublishStep_wf w h hw
  | .ripenUpdate job, h => execRipenUpdate_wf job h hw
  | .ripenPartReady job, h => execRipenPartReady_wf job h hw
  | .trierSample unit, h => execTrierSample_wf unit h hw
  | .trierVerdictTimeout die half record, h => execTrierVerdictTimeout_wf die half record h hw
  | .replicaDigestCheck, h => execReplicaDigestCheck_wf h hw
  | .coreTestDue core, h => execCoreTestDue_wf core h hw
  | .testOverdue core, h => execTestOverdue_wf core h hw
  | .coreTestComplete core passed, h => execCoreTestComplete_wf core passed h hw
  | .vatTest vat kernel codes recomputed, h => execVatTest_wf vat kernel codes recomputed h hw
  | .routerTest die half position expected got, h => execRouterTest_wf die half position expected got h hw
  | .testPackLoadRequest w, h => execTestPackLoadRequest_wf w h hw
  | .sramScrub word found, h => execSramScrub_wf word found h hw
  | .dramScrub word found, h => execDramScrub_wf word found h hw
  | .capLoop average, h => execCapLoop_wf average h hw
  | .powerMonitorCompare input rails, h => execPowerMonitorCompare_wf input rails h hw
  | .estimateWindow measured, h => execEstimateWindow_wf measured h hw
  | .droopTrip die half period, h => execDroopTrip_wf die half period h hw
  | .droopRecover die half, h => execDroopRecover_wf die half h hw
  | .droopFault die half, h => execDroopFault_wf die half h hw
  | .thermalSample die half readings, h => execThermalSample_wf die half readings h hw
  | .thermalModel die half sensor predicted, h => execThermalModel_wf die half sensor predicted h hw
  | .sensorOverride w, h => execSensorOverride_wf w h hw
  | .dieTrip die, h => execDieTrip_wf die h hw
  | .diePowerCycle w, h => execDiePowerCycle_wf w h hw
  | .diePowerRestore die, h => execDiePowerRestore_wf die h hw
  | .energySave, h => execEnergySave_wf h hw
  | .inletHigh temp, h => execInletHigh_wf temp h hw
  | .inletNormal temp, h => execInletNormal_wf temp h hw
  | .clockMonitorWindow die count, h => execClockMonitorWindow_wf die count h hw
  | .missingEdge die, h => execMissingEdge_wf die h hw
  | .oscDiscipline die deviation, h => execOscDiscipline_wf die deviation h hw
  | .holdoverSteer die, h => execHoldoverSteer_wf die h hw
  | .halfClockControl w, h => execHalfClockControl_wf w h hw
  | .halfPllLocked die half, h => execHalfPllLocked_wf die half h hw
  | .crossingTimeout x, h => execCrossingTimeout_wf x h hw
  | .halfService w, h => execHalfService_wf w h hw
  | .dictRead f, h => execDictRead_wf f h hw
  | .dictWrite f, h => execDictWrite_wf f h hw
  | .segmentedWriteOpen f, h => execSegmentedWriteOpen_wf f h hw
  | .transferAbort f, h => execTransferAbort_wf f h hw
  | .segmentData f, h => execSegmentData_wf f h hw
  | .segmentAbort f, h => execSegmentAbort_wf f h hw
  | .segmentResend f, h => execSegmentResend_wf f h hw
  | .segmentedReadClose port id, h => execSegmentedReadClose_wf port id h hw
  | .segmentedWriteTimeout port id, h => execSegmentedWriteTimeout_wf port id h hw
  | .eventClear w, h => execEventClear_wf w h hw
  | .eventMask w, h => execEventMask_wf w h hw
  | .configSave w, h => execConfigSave_wf w h hw
  | .configRestoreDefaults w, h => execConfigRestoreDefaults_wf w h hw
  | .powerUp recordValid starterCore, h => execPowerUp_wf recordValid starterCore h hw
  | .modReset, h => execModReset_wf h hw
  | .carrierRailFault, h => execCarrierRailFault_wf h hw
  | .inputVoltageStop, h => execInputVoltageStop_wf h hw
  | .inputRecover, h => execInputRecover_wf h hw
  | .bootAttempt die read, h => execBootAttempt_wf die read h hw
  | .firmwareLoadRequest w, h => execFirmwareLoadRequest_wf w h hw
  | .coordinatorChoice, h => execCoordinatorChoice_wf h hw
  | .handoverStep w, h => execHandoverStep_wf w h hw
  | .handoverHeartbeatTimeout, h => execHandoverHeartbeatTimeout_wf h hw
  | .handoverConfirm, h => execHandoverConfirm_wf h hw
  | .modResetRelease recordValid starterCore, h => execModResetRelease_wf recordValid starterCore h hw
  | .carrierRailsRestored recordValid starterCore, h => execCarrierRailsRestored_wf recordValid starterCore h hw
  | .windowFlagRx die reporter, h => execWindowFlagRx_wf die reporter h hw
  | .starterRestart die, h => execStarterRestart_wf die h hw
  | .machineModeTrap die half, h => execMachineModeTrap_wf die half h hw

/-- Settles O4: a step idles, or performs the command at the front of the queue on the same memory. -/
theorem stepKeepsMemoryCanonical : Obligations.StepKeepsMemoryCanonical := by
  intro s t h hw
  unfold step at h
  split at h
  case h_1 => cases h; exact hw
  case h_2 c rest _ => exact exec_wf h hw

end Sys2Proof.Machine

/-! PROOFS. The registers of the host-class cores, and their encoding, rounding and illegal instructions (R216, R219, R220). -/

namespace Sys2Proof.Machine

/-! ### Integer registers (R216) -/

section Registers
variable {c : Cores} {core r : Nat}

theorem Cores.setX_of_ne (v : Nat) (h : r ≠ 0) :
    c.setX core r v = { c with x := SMap.put 0 c.x (32 * core + r) (BitVec.ofNat 64 v) } := if_neg h

/-- Writing an integer register changes the integer registers and nothing else. -/
theorem Cores.setX_frame (c : Cores) (core r v : Nat) : c.setX core r v = { c with x := (c.setX core r v).x } := by
  by_cases h : r = 0
  · simp [Cores.setX, h]
  · rw [Cores.setX_of_ne v h]

theorem Cores.xreg_setX_self (v : Nat) (h : r ≠ 0) : (c.setX core r v).xreg core r = v % 2 ^ 64 := by
  rw [Cores.setX_of_ne v h, Cores.xreg, if_neg h, SMap.getD_put_self, BitVec.toNat_ofNat]

theorem Cores.xreg_setX_ne {core' r' : Nat} (v : Nat) (h : 32 * core' + r' ≠ 32 * core + r) :
    (c.setX core r v).xreg core' r' = c.xreg core' r' := by
  by_cases hr : r = 0
  · rw [Cores.setX, if_pos hr]
  · rw [Cores.setX_of_ne v hr, Cores.xreg, Cores.xreg, SMap.getD_put_ne _ _ _ _ h]

theorem zeroRegisterReadsZero : Claims.ZeroRegisterReadsZero := fun _ _ _ v =>
  ⟨if_pos rfl, if_pos rfl, fun hr _ => Cores.xreg_setX_self v hr, fun _ _ h => Cores.xreg_setX_ne v h⟩

/-! ### Vector registers (R216, R219) -/

theorem Cores.vreg_setV_self (b : Bytes) : (c.setV core r b).vreg core r = padTo 128 b := SMap.getD_put_self ..

theorem Cores.vreg_setV_ne {core' r' : Nat} (b : Bytes) (h : 32 * core' + r' ≠ 32 * core + r) :
    (c.setV core r b).vreg core' r' = c.vreg core' r' := SMap.getD_put_ne _ _ _ _ h

/-- Bytes that an instruction does not give are zero (R219). -/
theorem padTo_getD_beyond {n i : Nat} {b : Bytes} (hlen : b.length ≤ i) (hi : i < n) : (padTo n b).getD i 0 = 0 := by
  rw [padTo_getD b hi, List.getD_eq_default _ _ hlen]

end Registers

/-- The module after an instruction that writes one vector register, with the task statuses and the dictionary that it leaves. -/
def S8.withVector (c : S8) (k vd : Nat) (b : Bytes) (status : SMap Nat) (d : Dict) : S8 :=
  { c with cores := { c.cores.setV k vd b with taskStatus := status }, dict := d }

theorem S8.vreg_withVector (c : S8) (k vd : Nat) (b : Bytes) (status : SMap Nat) (d : Dict) :
    (c.withVector k vd b status d).cores.vreg k vd = padTo 128 b := Cores.vreg_setV_self b

/-! ### Encoding (R38, R57) -/

theorem encodeN8_length {vs : List Exact} (h : vs.length = 32) : (encodeN8 vs).1.codes.length = 32 := by
  unfold encodeN8
  dsimp only
  split
  case isTrue => rfl
  case isFalse =>
    split
    case isTrue => rfl
    case isFalse =>
      split
      case h_1 => split <;> simp [h, Block.zero]
      case h_2 => simp [h]

/-- Codes, scale and flags take 34 bytes. -/
theorem encodedBytes_encodeN8_length {vs : List Exact} (h : vs.length = 32) :
    (encodedBytes (encodeN8 vs).1 (encodeN8 vs).2).length = 34 := by
  simp [encodedBytes, encodeN8_length h]

theorem S8.vreg_encoded (c : S8) (k vd : Nat) (r : Block × Tally) :
    (c.encoded k vd r).cores.vreg k vd = padTo 128 (encodedBytes r.1 r.2) := Cores.vreg_setV_self _

/-- The 32 binary32 values of a vector register, as venc.n8 takes them. -/
def Cores.exactGroup (c : Cores) (k vs1 : Nat) : List Exact :=
  (List.range 32).map (fun i => exact32 (leAt (c.vreg k vs1) (4 * i) 4))

@[simp] theorem Cores.exactGroup_length (c : Cores) (k vs1 : Nat) : (c.exactGroup k vs1).length = 32 := by simp [Cores.exactGroup]

@[simp] theorem Cores.accGroup_length (c : Cores) (k vs1 : Nat) : (c.accGroup k vs1).length = 32 := by simp [Cores.accGroup]

/-- What vrnd.w16 writes: the W16 values, then whether a container was poisoned. -/
def roundedBytes (accs : List Acc) : Bytes :=
  accs.flatMap (fun a => leBytes 2 a.roundW16) ++ leBytes 1 (if accs.any (·.poison) then 1 else 0)

theorem values_length (accs : List Acc) : (accs.flatMap (fun a => leBytes 2 a.roundW16)).length = 2 * accs.length :=
  length_flatMap_of_length (fun _ => leBytes_length 2 _) accs

theorem roundedBytes_length (accs : List Acc) : (roundedBytes accs).length = 2 * accs.length + 1 := by
  rw [roundedBytes, List.length_append, values_length, leBytes_length]

theorem leAt_padTo_roundedBytes {accs : List Acc} {m n : Nat} (hm : 2 * accs.length + 1 ≤ m) (hn : n < accs.length) :
    leAt (padTo m (roundedBytes accs)) (2 * n) 2 = (accs.map Acc.roundW16).getD n 0 % 65536 := by
  have hvalues := values_length accs
  rw [padTo_of_le (by rw [roundedBytes_length]; exact hm), leAt_append_left _ (by rw [roundedBytes_length]; omega), roundedBytes,
    leAt_append_left _ (by omega), leAt_flatMap_leBytes 2 _ hn, List.getD_eq_getElem _ _ (by simpa using hn), List.getElem_map]
  rfl

/-- With no poisoned container the byte after the values is 0. -/
theorem flag_roundedBytes {accs : List Acc} {m : Nat} (hm : 2 * accs.length < m) (h : ∀ a ∈ accs, a.poison = false) (d : Byte) :
    (padTo m (roundedBytes accs)).getD (2 * accs.length) d = 0 := by
  have hsound : accs.any (·.poison) = false := by simpa using h
  rw [padTo_of_le (by rw [roundedBytes_length]; exact hm), List.getD_append _ _ _ _ (by rw [roundedBytes_length]; omega), roundedBytes,
    List.getD_append_right _ _ _ _ (values_length accs).le, values_length, Nat.sub_self, hsound]
  rfl

/-- The codes of a block aligned to the exponent of a valign operand, with whether each was clamped: zero where the operand's mask has
the code's bit (R45, R219). -/
def maskedCodes (x : Nat) (b : Block) : List (Int × Bool) :=
  (List.range 32).map (fun i => if field x (8 + i) 1 = 1 then (0, false) else alignCode (field x 0 8) b.scale (b.codes.getD i 0))

theorem maskedCodes_getElem {x i : Nat} {b : Block} (hi : i < 32) : (maskedCodes x b)[i]'(by simpa [maskedCodes] using hi) =
    if field x (8 + i) 1 = 1 then (0, false) else alignCode (field x 0 8) b.scale (b.codes.getD i 0) := by simp [maskedCodes]

/-- What valign writes: the aligned codes, Z, and the count of clamped codes. -/
def alignedBytes (x : Nat) (b : Block) : Bytes :=
  (maskedCodes x b).map (fun e => BitVec.ofInt 8 e.1) ++ leBytes 1 (zCounter ((maskedCodes x b).map (·.1))) ++
    leBytes 1 ((maskedCodes x b).filter (·.2)).length

theorem alignedBytes_length (x : Nat) (b : Block) : (alignedBytes x b).length = 34 := by simp [alignedBytes, maskedCodes]

theorem byteAt_padTo_alignedBytes (x : Nat) (b : Block) {m i : Nat} (hm : 32 ≤ m) (hi : i < 32) :
    byteAt (padTo m (alignedBytes x b)) i = BitVec.ofInt 8
      (if field x (8 + i) 1 = 1 then 0 else (alignCode (field x 0 8) b.scale (b.codes.getD i 0)).1) := by
  have hcodes : ((maskedCodes x b).map (fun e => BitVec.ofInt 8 e.1)).length = 32 := by simp [maskedCodes]
  rw [byteAt, padTo_getD _ (by omega), alignedBytes, List.append_assoc, List.getD_append _ _ _ _ (by omega),
    List.getD_eq_getElem _ _ (by omega), List.getElem_map, maskedCodes_getElem hi]
  split <;> rfl

/-! ### The vector instructions of a core that executes (R219) -/

section Vector
variable {core : Core} {vd vs1 : Fin 32} {s : State} (hruns : s.chip.coreRuns (coreKey core) = true)
include hruns

theorem exec_vencN8_encodes : exec (.vencN8 core vd vs1) s = .next { s with
    chip := s.chip.encoded (coreKey core) vd (encodeN8 (s.chip.cores.exactGroup (coreKey core) vs1)) } := by
  rw [exec_vencN8, execVencN8, act_of_wf rfl, S8.onCore_of_runs hruns]
  rfl

theorem exec_vrndN8_encodes (hgroup : vs1.val % 4 = 0) : exec (.vrndN8 core vd vs1) s = .next { s with
    chip := s.chip.encoded (coreKey core) vd (encodeN8 ((s.chip.cores.accGroup (coreKey core) vs1).map Acc.exact)) } := by
  rw [exec_vrndN8, execVrndN8, act_of_wf rfl, S8.onCore_of_runs hruns, if_neg (not_not.2 hgroup)]

theorem exec_vrndW16_rounds (hgroup : vs1.val % 4 = 0) : ∃ status, exec (.vrndW16 core vd vs1) s = .next { s with
    chip := s.chip.withVector (coreKey core) vd (roundedBytes (s.chip.cores.accGroup (coreKey core) vs1)) status s.chip.dict } := by
  rw [exec_vrndW16, execVrndW16, act_of_wf rfl, S8.onCore_of_runs hruns]
  simp only [hgroup, ne_eq, not_true, if_false]
  exact ⟨_, rfl⟩

theorem exec_valign_aligns (rs2 : Fin 32) : ∃ d, exec (.valign core vd vs1 rs2) s = .next { s with
    chip := s.chip.withVector (coreKey core) vd
      (alignedBytes (s.chip.cores.xreg (coreKey core) rs2)
        (Block.ofBytes (byteAt (s.chip.cores.vreg (coreKey core) vs1) 32) (bytesAt (s.chip.cores.vreg (coreKey core) vs1) 0 32)))
      s.chip.cores.taskStatus d } := by
  rw [exec_valign, execValign, act_of_wf rfl, S8.onCore_of_runs hruns]
  exact ⟨_, rfl⟩

/-- Each of the four instructions writes its vector register with at most 65 bytes, all but vrnd.w16 with at most 34, and vrnd.w16
counts nothing. -/
theorem exec_writesVector {i : Instr} {rs2 : Fin 32}
    (h : i = .vencN8 core vd vs1 ∨ (i = .vrndN8 core vd vs1 ∧ vs1.val % 4 = 0) ∨ (i = .vrndW16 core vd vs1 ∧ vs1.val % 4 = 0) ∨
      i = .valign core vd vs1 rs2) :
    ∃ b status d, exec i s = .next { s with chip := s.chip.withVector (coreKey core) vd b status d } ∧ b.length ≤ 65 ∧
      (i ≠ .vrndW16 core vd vs1 → b.length ≤ 34) ∧ (i = .vrndW16 core vd vs1 → d = s.chip.dict) := by
  obtain rfl | ⟨rfl, hgroup⟩ | ⟨rfl, hgroup⟩ | rfl := h
  case inl =>
    have hlen := encodedBytes_encodeN8_length (s.chip.cores.exactGroup_length (coreKey core) vs1)
    exact ⟨_, _, _, exec_vencN8_encodes hruns, by omega, fun _ => hlen.le, nofun⟩
  case inr.inl =>
    have hlen := encodedBytes_encodeN8_length
      ((List.length_map Acc.exact).trans (s.chip.cores.accGroup_length (coreKey core) vs1))
    exact ⟨_, _, _, exec_vrndN8_encodes hruns hgroup, by omega, fun _ => hlen.le, nofun⟩
  case inr.inr.inl =>
    obtain ⟨status, hexec⟩ := exec_vrndW16_rounds hruns (vd := vd) hgroup
    exact ⟨_, _, _, hexec, by simp [roundedBytes_length], fun h => absurd rfl h, fun _ => rfl⟩
  case inr.inr.inr =>
    obtain ⟨d, hexec⟩ := exec_valign_aligns hruns (vd := vd) (vs1 := vs1) rs2
    have hlen := alignedBytes_length (s.chip.cores.xreg (coreKey core) rs2)
      (Block.ofBytes (byteAt (s.chip.cores.vreg (coreKey core) vs1) 32) (bytesAt (s.chip.cores.vreg (coreKey core) vs1) 0 32))
    exact ⟨_, _, _, hexec, by omega, fun _ => hlen.le, nofun⟩

end Vector

theorem vectorInstructionsWriteOneRegister : Claims.VectorInstructionsWriteOneRegister := by
  refine ⟨?frame, ?w16, ?venc, ?vrnd, ?valign⟩
  case frame =>
    intro i core vd vs1 rs2 s hruns hi
    obtain ⟨b, status, d, hexec, hlen, hshort, hdict⟩ := exec_writesVector hruns hi
    refine ⟨_, hexec, rfl, fun c r hne => Cores.vreg_setV_ne b hne, ?_, fun n hn hlast => ?_, fun hother n hn hlast => ?_, hdict⟩
    · rw [S8.vreg_withVector, padTo_length]
    · rw [S8.vreg_withVector, padTo_getD_beyond (hlen.trans hn) hlast]
    · have hne : i ≠ .vrndW16 core vd vs1 := by obtain rfl | rfl | rfl := hother <;> nofun
      rw [S8.vreg_withVector, padTo_getD_beyond ((hshort hne).trans hn) hlast]
  case w16 =>
    intro core vd vs1 s hruns hgroup hsound
    obtain ⟨status, hexec⟩ := exec_vrndW16_rounds hruns (vd := vd) hgroup
    have hcount := s.chip.cores.accGroup_length (coreKey core) vs1
    refine ⟨_, hexec, fun n hn => ?_, ?_⟩
    · rw [S8.vreg_withVector, leAt_padTo_roundedBytes (by omega) (by omega)]
    · have hflag := flag_roundedBytes (m := 128) (by omega) hsound 1
      rwa [hcount, ← S8.vreg_withVector] at hflag
  case venc =>
    rintro core vd vs1 s r hruns rfl
    exact ⟨_, exec_vencN8_encodes hruns, S8.vreg_encoded .., rfl⟩
  case vrnd =>
    rintro core vd vs1 s r hruns hgroup rfl
    exact ⟨_, exec_vrndN8_encodes hruns hgroup, S8.vreg_encoded .., rfl⟩
  case valign =>
    rintro core vd vs1 rs2 s k x v b rfl hruns rfl rfl rfl
    obtain ⟨d, hexec⟩ := exec_valign_aligns hruns (vd := vd) (vs1 := vs1) rs2
    refine ⟨_, hexec, fun i hi => ?_⟩
    rw [S8.vreg_withVector, byteAt_padTo_alignedBytes _ _ (by decide) hi]

/-! ### Illegal extension instructions (R220) -/

/-- What R219's table lists: the custom-0 rows, of which three need machine mode, and the four custom-1 rows, of which two take a group
of four registers. -/
theorem listed_of_extLegal {machine : Bool} {word : Nat} (h : extLegal machine word = true) :
    (field word 0 7 = 0x0B ∧
      ((field word 12 3 = 0 ∧ field word 25 7 ≤ 1) ∨ (field word 12 3 = 3 ∧ field word 25 7 ≤ 1) ∨
        (field word 12 3 = 1 ∧ field word 25 7 = 1) ∨ (machine = true ∧ field word 12 3 = 1 ∧ field word 25 7 = 0) ∨
        (machine = true ∧ field word 12 3 = 2 ∧ field word 25 7 ≤ 1))) ∨
      (field word 0 7 = 0x2B ∧ field word 12 3 = 0 ∧ field word 25 7 ≤ 3 ∧
        (field word 25 7 = 1 ∨ field word 25 7 = 2 → field word 15 5 % 4 = 0)) := by
  unfold extLegal decodeExtension at h
  split at h
  case h_1 | h_2 | h_4 | h_7 | h_8 | h_9 | h_12 => omega
  case h_3 | h_5 | h_6 =>
    have hmachine : machine = true := by simpa using h
    simp only [hmachine, true_and]
    omega
  case h_10 | h_11 =>
    have hgroup : field word 15 5 % 4 = 0 := by simpa using h
    omega
  case h_13 => cases h

theorem illegalExtensionInstructionsTrap : Claims.IllegalExtensionInstructionsTrap := by
  refine ⟨?word, ?group⟩
  case word =>
    intro core machine word s hruns hword
    have hunlisted : (!extLegal machine word.toNat) = true := by
      rw [Bool.not_eq_true', ← Bool.not_eq_true]
      intro hlegal
      have hlisted := listed_of_extLegal hlegal
      grind
    have hopcode : field word.toNat 0 7 = 0x0B ∨ field word.toNat 0 7 = 0x2B := hword.imp And.left And.left
    rw [exec_illegalCustom, execIllegalCustom, act_of_wf rfl, S8.onCore_of_runs hruns, if_pos ⟨hopcode, hunlisted⟩]
    rfl
  case group =>
    rintro i core vd vs1 s hruns hgroup (rfl | rfl)
    · rw [exec_vrndN8, execVrndN8, act_of_wf rfl, S8.onCore_of_runs hruns, if_pos hgroup]
      exact ⟨_, rfl⟩
    · rw [exec_vrndW16, execVrndW16, act_of_wf rfl, S8.onCore_of_runs hruns]
      simp only [hgroup, ne_eq, not_false_eq_true, if_true]
      exact ⟨_, rfl⟩

/-- Settles O34: the four vector instructions write one register with bytes of their own, an unlisted word is illegal, and x0 is never
written. -/
theorem coreInstructionsWriteTheirRegister : Obligations.CoreInstructionsWriteTheirRegister :=
  ⟨vectorInstructionsWriteOneRegister, illegalExtensionInstructionsTrap, zeroRegisterReadsZero⟩

end Sys2Proof.Machine

/-! PROOFS. Row transfers of the host-class cores, and moves of logical cores (R219, R222, R232, R233, R236). -/

namespace Sys2Proof.Machine

/-! ### Copying a row (R222) -/

theorem S8.pick_mem (s : S8) {l : List Nat} (h : l ≠ []) : s.pick l ∈ l := by
  have hlt : Config.freeValue s.free % l.length < l.length := Nat.mod_lt _ (List.length_pos_iff.2 h)
  rw [S8.pick, List.getD_eq_getElem _ _ hlt]
  exact List.getElem_mem hlt

@[simp] theorem Dict.meet_zero (d : Dict) (step a : Nat) : d.meet step a 0 0 = d := by
  unfold Dict.meet
  split <;> simp

/-- A read that meets no upset word changes nothing. -/
theorem S8.meetWords_of_sound {s : S8} {a n : Nat} (h : badIn s.mem [] a n = []) : s.meetWords a n [] = s := by
  simp [S8.meetWords, h, correctedIn, Mem.meet, S8.retireUnitsOf]

@[simp] theorem S8.meshWords_zero (s : S8) (unit : Nat) : s.meshWords 0 0 unit = s := by simp [S8.meshWords, S8.raise]

/-- A read ends at most the reading of a probe record (R104). -/
theorem S8.probeRead_frame (s : S8) (a len : Nat) :
    s.probeRead a len = { s with vats := { s.vats with probeUnread := (s.probeRead a len).vats.probeUnread } } := by
  unfold S8.probeRead
  split
  case isFalse => rfl
  case isTrue =>
    dsimp only
    split
    case h_1 => rfl
    case h_2 => split <;> rfl

theorem S8.readBytes_probeRead (s : S8) (a len b n : Nat) : (s.probeRead a len).readBytes b n = s.readBytes b n := by
  rw [S8.probeRead_frame]
  rfl

theorem S8.rootsTouched_probeRead (s : S8) (a len b n : Nat) : (s.probeRead a len).rootsTouched b n = s.rootsTouched b n := by
  rw [S8.probeRead_frame]
  rfl

@[simp] theorem S8.readBytes_length (s : S8) (a n : Nat) : (s.readBytes a n).length = n := by simp [S8.readBytes]

@[simp] theorem tableBits_length (a : Nat) (b : Bytes) : (tableBits a b).length = b.length := by
  unfold tableBits
  split
  · simp [maskTable]
  · rfl

/-- A store puts its bytes in place, but for the reserved bytes of the root entries that it touches (R6). -/
theorem S8.byte_storeBytes {s : S8} {a k : Nat} {b : Bytes} (h : ∀ e ∈ s.rootsTouched a b.length, k < e.2 + 24 ∨ e.2 + 32 ≤ k) :
    (s.storeBytes a b).mem.byte k = if a ≤ k ∧ k < a + b.length then (tableBits a b).getD (k - a) 0 else s.mem.byte k := by
  have hstored : (s.storeBytes a b).mem =
      (s.mem.write a (tableBits a b)).writeAll ((s.rootsTouched a b.length).map (fun e => (e.2 + 24, zeros 8))) := by
    rw [Mem.writeAll, List.foldl_map]
    rfl
  rw [hstored, Mem.byte_writeAll_of_avoid, Mem.byte_write, tableBits_length]
  intro w hw
  obtain ⟨e, he, rfl⟩ := List.mem_map.1 hw
  simpa [zeros, Nat.add_assoc] using h e he

/-- A store changes no core. -/
theorem S8.storeBytes_cores (s : S8) (a : Nat) (b : Bytes) : (s.storeBytes a b).cores = s.cores := rfl

/-- One row whose words decode is copied whole. -/
theorem S8.copyRows_one {s : S8} {source dest : Nat} (h : badIn s.mem [] source 512 = []) :
    s.copyRows source dest 1 [] = ((s.probeRead source 512).storeBytes dest (s.readBytes source 512), true) := by
  simp only [S8.copyRows, h, ne_eq, not_true, if_false, S8.meetWords_of_sound h, S8.readBytes_probeRead]

/-! ### Tags and stalls (R219, R222) -/

/-- A freed tag goes to the xfer.row that waits for one, which goes on. -/
theorem Cores.tagFreed_of_stalled {c : Cores} {core tag rd : Nat} {x : RowTransfer} (h : SMap.find c.tagStalls core = some (rd, x)) :
    c.tagFreed core tag = { (c.setX core rd tag) with
      tagStalls := SMap.erase c.tagStalls core
      transfers := SMap.insert c.transfers (16 * core + tag) x } := by
  rw [Cores.tagFreed, h]

theorem Cores.tagFreed_of_none {c : Cores} {core tag : Nat} (h : SMap.find c.tagStalls core = none) : c.tagFreed core tag = c := by
  rw [Cores.tagFreed, h]

/-- A core that executes waits for no tag. -/
theorem S8.tagStalls_of_runs {s : S8} {core : Nat} (h : s.coreRuns core = true) : SMap.find s.cores.tagStalls core = none := by
  simp only [S8.coreRuns, Bool.and_eq_true, Option.isNone_iff_eq_none] at h
  exact h.1.2

/-- A transfer that no core waits for leaves its status with its tag. -/
theorem S8.xferEnd_of_free {s : S8} {core tag : Nat} (status : Nat) (t : RowTransfer) (h : SMap.find s.cores.xferStalls core = none) :
    ∃ d, s.xferEnd core tag status t = { s with
      dict := d
      cores := { s.cores with transfers := SMap.insert s.cores.transfers (16 * core + tag) { t with status := some status } } } := by
  simp only [S8.xferEnd, h]
  exact ⟨_, rfl⟩

section Instructions
variable {core : Core} {rd rs1 rs2 : Fin 32} {s : State} (hruns : s.chip.coreRuns (coreKey core) = true)
include hruns

/-- xfer.row starts the transfer that its operands name. -/
theorem exec_xferRow_starts {machine : Bool} {x : RowTransfer}
    (hx : x = {
      source := s.chip.cores.xreg (coreKey core) rs1
      dest := field (s.chip.cores.xreg (coreKey core) rs2) 0 48
      rows := field (s.chip.cores.xreg (coreKey core) rs2) 48 10 + 1
      status := none
      machineMode := machine }) :
    exec (.xferRow core machine rd rs1 rs2) s = .next { s with chip := s.chip.xferStart (coreKey core) rd x } := by
  rw [exec_xferRow, execXferRow, act_of_wf rfl, S8.onCore_of_runs hruns, hx]

/-- xfer.wait of a transfer that has ended frees its tag. -/
theorem exec_xferWait_ended {tag status : Nat} {x : RowTransfer} (htag : tag = s.chip.cores.xreg (coreKey core) rs1) (hlt : tag < 16)
    (hx : SMap.find s.chip.cores.transfers (16 * coreKey core + tag) = some x) (hended : x.status = some status) :
    exec (.xferWait core rd rs1) s = .next { s with chip := { s.chip with
      cores := { (s.chip.cores.setX (coreKey core) rd status) with
        transfers := SMap.erase s.chip.cores.transfers (16 * coreKey core + tag) } } } := by
  rw [exec_xferWait, execXferWait, act_of_wf rfl, S8.onCore_of_runs hruns]
  simp only [← htag, hlt, if_true, hx, hended]
  rw [Cores.tagFreed_of_none]
  rw [Cores.setX_frame]
  exact S8.tagStalls_of_runs hruns

/-- xfer.wait of a transfer under way stalls the core. -/
theorem exec_xferWait_stalls {tag : Nat} {x : RowTransfer} (htag : tag = s.chip.cores.xreg (coreKey core) rs1) (hlt : tag < 16)
    (hx : SMap.find s.chip.cores.transfers (16 * coreKey core + tag) = some x) (hrunning : x.status = none) :
    exec (.xferWait core rd rs1) s = .next { s with chip := { s.chip with
      cores := { s.chip.cores with xferStalls := SMap.insert s.chip.cores.xferStalls (coreKey core) (rd.val, tag) } } } := by
  rw [exec_xferWait, execXferWait, act_of_wf rfl, S8.onCore_of_runs hruns]
  simp only [← htag, hlt, if_true, hx, hrunning]

end Instructions

/-- The start of a permitted transfer takes a free tag, writes it to rd and holds the transfer under it. -/
theorem S8.xferStart_of_free {s : S8} {core : Nat} (rd : Nat) {x : RowTransfer} (hfree : s.cores.freeTags core ≠ [])
    (hpermitted : s.xferPermitted core x = true) : s.xferStart core rd x = { s.picked with
      cores := { (s.cores.setX core rd (s.pick (s.cores.freeTags core))) with
        transfers := SMap.insert s.cores.transfers (16 * core + s.pick (s.cores.freeTags core)) x } } := by
  simp only [S8.xferStart, if_neg hfree, if_pos hpermitted, S8.picked_cores]

theorem S8.xferStart_of_full {s : S8} {core : Nat} (rd : Nat) (x : RowTransfer) (hfull : s.cores.freeTags core = []) :
    s.xferStart core rd x = { s with cores := { s.cores with tagStalls := SMap.insert s.cores.tagStalls core (rd, x) } } := if_pos hfull

theorem Cores.lt_of_mem_freeTags {c : Cores} {core tag : Nat} (h : tag ∈ c.freeTags core) : tag < 16 :=
  List.mem_range.1 (List.mem_of_mem_filter h)

/-- The end of a permitted one-row transfer whose row decodes: the row is copied, and status 0 waits with the tag. -/
theorem exec_xferComplete_copies {core : Core} {tag : Fin 16} {s : State} {x : RowTransfer}
    (hx : SMap.find s.chip.cores.transfers (16 * coreKey core + tag) = some x) (hrunning : x.status = none) (hrows : x.rows = 1)
    (hpermitted : s.chip.xferPermitted (coreKey core) x = true) (hsound : badIn s.chip.mem [] x.source 512 = []) :
    exec (.xferComplete core tag [] { corrected := 0, flits := [] }) s = .next { s with
      chip := ((s.chip.probeRead x.source 512).storeBytes x.dest (s.chip.readBytes x.source 512)).xferEnd (coreKey core) tag 0 x } := by
  have hwhole : meshRows { corrected := 0, flits := [] } 1 = 1 := rfl
  rw [exec_xferComplete, execXferComplete, act_of_wf rfl]
  simp only [hx, hrunning, Option.isSome_none, Bool.false_eq_true, if_false, hpermitted, if_true, hwhole, hrows, List.length_nil,
    S8.meshWords_zero, S8.copyRows_one hsound, decide_true, Bool.and_self]

theorem rowTransfersRun : Claims.RowTransfersRun := by
  refine ⟨?row, ?full, ?freed, ?ended, ?stalls, ?complete⟩
  case row =>
    rintro core machine rd rs1 rs2 s k a b x rfl hruns rfl rfl hx hfree hpermitted
    have hmem := s.chip.pick_mem hfree
    refine ⟨_, _, exec_xferRow_starts hruns hx, hmem, ?_⟩
    rw [S8.xferStart_of_free rd hfree hpermitted]
    refine ⟨rfl, SMap.find_insert_self .., fun hrd => (Cores.xreg_setX_self _ hrd).trans (Nat.mod_eq_of_lt ?_)⟩
    exact (Cores.lt_of_mem_freeTags hmem).trans (by decide)
  case full =>
    rintro core machine rd rs1 rs2 s k a b x rfl hruns rfl rfl hx hfull
    rw [exec_xferRow_starts hruns hx, S8.xferStart_of_full _ _ hfull]
  case freed =>
    rintro c core tag rd x hstalled
    refine ⟨_, rfl, ?_⟩
    rw [Cores.tagFreed_of_stalled hstalled]
    exact ⟨SMap.find_erase_self .., SMap.find_insert_self .., fun hrd _ htag =>
      (Cores.xreg_setX_self tag hrd).trans (Nat.mod_eq_of_lt (by omega))⟩
  case ended =>
    rintro core rd rs1 s k tag status x rfl hruns htag hlt hx hended hstatus
    refine ⟨_, exec_xferWait_ended hruns htag hlt hx hended, ?_, SMap.find_erase_self .., fun hrd =>
      (Cores.xreg_setX_self status hrd).trans (Nat.mod_eq_of_lt (by omega))⟩
    rfl
  case stalls =>
    rintro core rd rs1 s k tag x rfl hruns htag hlt hx hrunning
    exact exec_xferWait_stalls hruns htag hlt hx hrunning
  case complete =>
    rintro core tag s k x rfl hx hrunning hrows hpermitted hnone hsound
    obtain ⟨d, hend⟩ := S8.xferEnd_of_free (tag := tag) 0 x
      (s := (s.chip.probeRead x.source 512).storeBytes x.dest (s.chip.readBytes x.source 512)) (core := coreKey core)
      (by rw [S8.storeBytes_cores, S8.probeRead_frame]; exact hnone)
    refine ⟨_, exec_xferComplete_copies hx hrunning hrows hpermitted hsound, rfl, ?_⟩
    rw [hend]
    refine ⟨SMap.find_insert_self .., fun a havoid => ?_⟩
    refine (S8.byte_storeBytes (by rwa [S8.readBytes_length, S8.rootsTouched_probeRead])).trans ?_
    rw [S8.readBytes_length, S8.probeRead_frame]

/-! ### Moving a logical core (R232, R233, R236) -/

theorem coreMoveRequest_ne_eventClear (die : Die) : normObj (dieObj Obj.coreMoveRequest die) ≠ Obj.eventClear := by
  revert die
  decide

section Move
variable {s : S8} {half logical spare after : Nat}

/-- A move that passes its checks changes what reports it, the state of its source and of its target, and the moves under way. -/
theorem S8.startMove_begins (h : s.moveRefusal half logical spare = 0) : ∃ m, s.startMove half logical spare after =
    { s with cores := { s.cores with
      moveStatus := SMap.put 0 s.cores.moveStatus (half / 2) (moveWord 1 0 0)
      states := SMap.insert (SMap.insert s.cores.states (s.cores.physical (36 * half + logical)) 5)
        (s.cores.physical (36 * half + spare)) 5
      moves := SMap.insert s.cores.moves half m } } := by
  rw [S8.startMove, h]
  exact ⟨_, rfl⟩

/-- A refused move reports its reason and nothing else. -/
theorem S8.startMove_refused (h : s.moveRefusal half logical spare ≠ 0) : s.startMove half logical spare after =
    { s with cores := s.cores.report (half / 2) (moveWord 5 (s.moveRefusal half logical spare) 0) } := if_pos h

end Move

theorem exec_coreMoveRequest_moves {die : Die} {w : ObjWrite} {s : State} (harr : s.chip.writeArrives w (dieObj Obj.coreMoveRequest die)) :
    exec (.coreMoveRequest die w) s = .next { s with
      chip := (s.chip.startMove (2 * die + field (valueOf w.value) 13 1) (field (valueOf w.value) 6 6) (field (valueOf w.value) 0 6)
        1).writeDone w (dieObj Obj.coreMoveRequest die) } := by
  rw [exec_coreMoveRequest, execCoreMoveRequest, act_of_wf rfl, S8.performWrite_ok harr (coreMoveRequest_ne_eventClear die) rfl]
  rfl

theorem coreMovesBegin : Claims.CoreMovesBegin := by
  rintro die w s half logical spare harr rfl rfl rfl
  refine ⟨fun hpasses => ⟨_, exec_coreMoveRequest_moves harr, ?_⟩, fun hrefused => ⟨_, exec_coreMoveRequest_moves harr, ?_⟩⟩
  · obtain ⟨m, hbegins⟩ := S8.startMove_begins (after := 1) hpasses
    rw [hbegins]
    refine ⟨rfl, ?_, SMap.find_insert_self .., ?_⟩
    · rw [SMap.find_insert, SMap.find_insert_self, ite_self]
    · rw [SMap.find_insert_self]
      nofun
  · have hdie : (2 * die.val + field (valueOf w.value) 13 1) / 2 = die.val := by
      have hbit : field (valueOf w.value) 13 1 < 2 := Nat.mod_lt _ (by decide)
      omega
    rw [S8.startMove_refused hrefused, hdie]
    exact ⟨rfl, SMap.getD_put_self ..⟩

/-- Settles O32: a transfer takes a tag, copies its row and frees the tag as the lemmas above say, and a move begins or reports its
refusal. -/
theorem rowTransfersAndCoreMoves : Obligations.RowTransfersAndCoreMoves := ⟨rowTransfersRun, coreMovesBegin⟩

end Sys2Proof.Machine

/-! PROOFS. Frames and flits read back (R251, R254, R296, R297), through the check symbols of the hoop code (R397). -/

namespace Sys2Proof.Machine

/-! ### Multiplying by α (R397) -/

/-- Multiplying by α shifts, and reduces by the field's polynomial where the top bit is set. -/
theorem gfTimesAlpha_eq {x : Nat} (h : x < 256) : gfTimesAlpha x = 2 * x ^^^ if x.testBit 7 then 0x11D else 0 := by
  have htop : x.testBit 7 = true ↔ 128 ≤ x := by
    rw [Nat.testBit_eq_decide_div_mod_eq, decide_eq_true_iff]
    omega
  unfold gfTimesAlpha
  by_cases hx : 128 ≤ x
  · rw [if_pos hx, if_pos (htop.2 hx)]
  · rw [if_neg hx, if_neg (mt htop.1 hx), Nat.xor_zero]

theorem gfTimesAlpha_lt {x : Nat} (h : x < 256) : gfTimesAlpha x < 256 := by
  unfold gfTimesAlpha
  split
  case isTrue htop =>
    have hcarry : 2 * x / 2 ^ 8 = 1 := by omega
    have hreduced : (2 * x ^^^ 0x11D) / 2 ^ 8 = 0 := by rw [Nat.xor_div_two_pow, hcarry]; rfl
    omega
  case isFalse => omega

theorem xor_lt_256 {x y : Nat} (hx : x < 256) (hy : y < 256) : x ^^^ y < 256 := Nat.xor_lt_two_pow (n := 8) hx hy

/-- Multiplying by α is linear. -/
theorem gfTimesAlpha_xor {x y : Nat} (hx : x < 256) (hy : y < 256) :
    gfTimesAlpha (x ^^^ y) = gfTimesAlpha x ^^^ gfTimesAlpha y := by
  have hdouble : 2 * (x ^^^ y) = 2 * x ^^^ 2 * y := by
    simpa [Nat.shiftLeft_eq, Nat.mul_comm] using Nat.shiftLeft_xor_distrib (a := x) (b := y) (i := 1)
  rw [gfTimesAlpha_eq hx, gfTimesAlpha_eq hy, gfTimesAlpha_eq (xor_lt_256 hx hy), hdouble, Nat.testBit_xor]
  cases x.testBit 7 <;> cases y.testBit 7 <;> simp [Nat.xor_assoc, Nat.xor_comm, Nat.xor_left_comm]

/-! ### Check symbols (R397) -/

/-- One symbol of the division by the generator polynomial: the remainder so far is r.1·x + r.2. -/
def hoopStep (r : Nat × Nat) (b : Byte) : Nat × Nat :=
  (r.2 ^^^ (r.1 ^^^ b.toNat) ^^^ gfTimesAlpha (r.1 ^^^ b.toNat), gfTimesAlpha (r.1 ^^^ b.toNat))

/-- The remainder of data symbols. -/
def hoopRemainder (d : Bytes) : Nat × Nat := d.foldl hoopStep (0, 0)

theorem hoopCheck_eq (d : Bytes) : hoopCheck d = [BitVec.ofNat 8 (hoopRemainder d).1, BitVec.ofNat 8 (hoopRemainder d).2] := rfl

@[simp] theorem hoopCheck_length (d : Bytes) : (hoopCheck d).length = 2 := rfl

/-- The remainder agrees with data·x² at the code's roots 1 and α, and its symbols are bytes. -/
def RemainderOf (d : Bytes) (r : Nat × Nat) : Prop :=
  r.1 < 256 ∧ r.2 < 256 ∧ syndrome1 (d.map BitVec.toNat) < 256 ∧ syndrome0 (d.map BitVec.toNat) = r.1 ^^^ r.2 ∧
    gfTimesAlpha (gfTimesAlpha (syndrome1 (d.map BitVec.toNat))) = gfTimesAlpha r.1 ^^^ r.2

theorem syndrome0_append (w v : List Nat) : syndrome0 (w ++ v) = v.foldl (fun acc s => acc ^^^ s) (syndrome0 w) :=
  List.foldl_append ..

theorem syndrome1_append (w v : List Nat) :
    syndrome1 (w ++ v) = v.foldl (fun acc s => gfTimesAlpha acc ^^^ s) (syndrome1 w) := List.foldl_append ..

/-- One symbol more keeps the agreement, since multiplying by α is linear. -/
theorem RemainderOf.step {d : Bytes} {r : Nat × Nat} (h : RemainderOf d r) (b : Byte) : RemainderOf (d ++ [b]) (hoopStep r b) := by
  obtain ⟨h1, h2, hs, h0, ha⟩ := h
  have hb : b.toNat < 256 := b.isLt
  have hlead := xor_lt_256 h1 hb
  have hlead' := gfTimesAlpha_lt hlead
  have hs' := gfTimesAlpha_lt hs
  refine ⟨xor_lt_256 (xor_lt_256 h2 hlead) hlead', hlead', ?_, ?_, ?_⟩
  · simpa [syndrome1_append] using xor_lt_256 hs' hb
  · simp [syndrome0_append, hoopStep, h0, Nat.xor_assoc, Nat.xor_comm, Nat.xor_left_comm]
  · simp only [List.map_append, List.map_cons, List.map_nil, syndrome1_append, List.foldl_cons, List.foldl_nil, hoopStep]
    rw [gfTimesAlpha_xor hs' hb, ha, gfTimesAlpha_xor (xor_lt_256 (gfTimesAlpha_lt h1) h2) (gfTimesAlpha_lt hb),
      gfTimesAlpha_xor (gfTimesAlpha_lt h1) h2, gfTimesAlpha_xor (xor_lt_256 h2 hlead) hlead', gfTimesAlpha_xor h2 hlead,
      gfTimesAlpha_xor h1 hb, gfTimesAlpha_xor (gfTimesAlpha_lt h1) (gfTimesAlpha_lt hb)]
    simp [Nat.xor_assoc, Nat.xor_comm, Nat.xor_left_comm]

theorem remainderOf_hoopRemainder (d : Bytes) : RemainderOf d (hoopRemainder d) := by
  induction d using List.reverseRecOn with
  | nil => exact ⟨by decide, by decide, by decide, rfl, rfl⟩
  | append_singleton d b ih =>
    rw [hoopRemainder, List.foldl_append]
    exact ih.step b

/-- Data with their check symbols have no syndrome and decode to themselves (R397). -/
theorem hoopDecode_append_hoopCheck (d : Bytes) : hoopDecode (d ++ hoopCheck d) = .good d := by
  obtain ⟨h1, h2, hs, h0, ha⟩ := remainderOf_hoopRemainder d
  have hword : (d ++ hoopCheck d).map BitVec.toNat = d.map BitVec.toNat ++ [(hoopRemainder d).1, (hoopRemainder d).2] := by
    simp [hoopCheck_eq, Nat.mod_eq_of_lt h1, Nat.mod_eq_of_lt h2]
  have hzero : syndrome0 ((d ++ hoopCheck d).map BitVec.toNat) = 0 := by
    simp [hword, syndrome0_append, h0]
  have hone : syndrome1 ((d ++ hoopCheck d).map BitVec.toNat) = 0 := by
    simp [hword, syndrome1_append, gfTimesAlpha_xor (gfTimesAlpha_lt hs) h1, ha]
  simp only [hoopDecode, hzero, hone, and_self, if_true]
  simp

/-! ### Bytes read from padded and joined bytes (R5) -/

/-- Bytes that agree one by one are read alike. -/
theorem bytesAt_congr {a b : Bytes} {i j n : Nat} (h : ∀ k < n, byteAt a (i + k) = byteAt b (j + k)) :
    bytesAt a i n = bytesAt b j n := by
  refine List.ext_getElem (by simp) fun k hk hk' => ?_
  have hkn : k < n := by simpa using hk
  rw [← List.getD_eq_getElem _ 0 hk, ← List.getD_eq_getElem _ 0 hk', bytesAt_getD hkn, bytesAt_getD hkn, h k hkn]

theorem bytesAt_append_left {a : Bytes} (b : Bytes) {i n : Nat} (h : i + n ≤ a.length) : bytesAt (a ++ b) i n = bytesAt a i n :=
  bytesAt_congr fun _ _ => List.getD_append _ _ _ _ (by omega)

theorem bytesAt_append_right {a : Bytes} (b : Bytes) {i k n : Nat} (h : i = a.length + k) : bytesAt (a ++ b) i n = bytesAt b k n :=
  bytesAt_congr fun j _ => by
    rw [byteAt, byteAt, List.getD_append_right _ _ _ _ (by omega)]
    congr 1
    omega

/-- Bytes of one of several pieces of one length. -/
theorem bytesAt_flatMap {α : Type} {f : α → Bytes} {n m b i : Nat} (h : ∀ x, (f x).length = n) {l : List α} (hb : b < l.length)
    (hi : i + m ≤ n) : bytesAt (l.flatMap f) (n * b + i) m = bytesAt (f l[b]) i m :=
  bytesAt_congr fun k hk => by
    rw [byteAt, byteAt, Nat.add_assoc, getD_flatMap_of_length h hb (by omega)]

/-- Bytes made longer than their first part keep it. -/
theorem padTo_length_add (a b : Bytes) (n : Nat) : padTo (a.length + n) (a ++ b) = a ++ padTo n b := by
  induction a with
  | nil => simp
  | cons x a ih => rw [List.length_cons, Nat.add_right_comm, List.cons_append, padTo, ih, List.cons_append]

theorem padTo_add (m n : Nat) (b : Bytes) : padTo (m + n) b = padTo m b ++ bytesAt b m n := by
  induction m generalizing b with
  | zero => simp [padTo, bytesAt]
  | succ m ih =>
    rw [Nat.add_right_comm]
    cases b with
    | nil => simpa [padTo, bytesAt] using ih []
    | cons x b => simpa [padTo, bytesAt] using ih b

/-- The pieces of n bytes, one after the other. -/
theorem flatMap_bytesAt (b : Bytes) (n m : Nat) : (List.range m).flatMap (fun k => bytesAt b (n * k) n) = padTo (n * m) b := by
  induction m with
  | zero => rfl
  | succ m ih => rw [List.range_succ, List.flatMap_append, ih, Nat.mul_succ, padTo_add, List.flatMap_singleton]

/-! ### Frames (R296) and flits (R251) as sent -/

/-- Words that are good give the data of all. -/
theorem joinWords_good {α : Type} (f : α → Bytes) (l : List α) :
    joinWords (l.map (fun x => .good (f x))) = some (l.flatMap f) := by
  induction l with
  | nil => rfl
  | cons x l ih =>
    rw [List.map_cons, joinWords, List.foldr_cons]
    rw [joinWords] at ih
    rw [ih]
    rfl

/-- The groups of a frame as it is sent are good. -/
theorem frameGroups_encodeFrame (d : Bytes) :
    frameGroups (encodeFrame d) = (List.range 8).map (fun k => .good (bytesAt (padTo 240 d) (30 * k) 30)) := by
  refine List.map_congr_left fun k hk => ?_
  have hk8 : k < 8 := List.mem_range.1 hk
  have hcheck : bytesAt (encodeFrame d) (240 + 2 * k) 2 = hoopCheck (bytesAt (padTo 240 d) (30 * k) 30) := by
    rw [encodeFrame, bytesAt_append_right _ (k := 2 * k + 0) (by simp), bytesAt_flatMap (by simp) (by simpa using hk8) (by simp),
      List.getElem_range, bytesAt, List.drop_zero, padTo_of_length (hoopCheck_length _)]
  rw [hcheck, encodeFrame, bytesAt_append_left _ (by rw [padTo_length]; omega), hoopDecode_append_hoopCheck]

/-- A frame as it is sent decodes to its data (R296). -/
theorem frameData_encodeFrame (d : Bytes) : frameData (encodeFrame d) = some (padTo 240 d) := by
  have hwhole := flatMap_bytesAt (padTo 240 d) 30 8
  rw [padTo_of_length (padTo_length ..)] at hwhole
  rw [frameData, frameGroups_encodeFrame, joinWords_good, hwhole]

theorem encodeFrame_length (d : Bytes) : (encodeFrame d).length = 256 := by
  rw [encodeFrame, List.length_append, padTo_length, length_flatMap_of_length (fun _ => hoopCheck_length _), List.length_range]

/-- The words of a flit as it is sent are good. -/
theorem flitWords_encodeFlit (d : Bytes) :
    flitWords (encodeFlit d) = (List.range 4).map (fun w => .good (bytesAt (padTo 56 d) (14 * w) 14)) := by
  refine List.map_congr_left fun w hw => ?_
  have hlen (w : Nat) : (bytesAt (padTo 56 d) (14 * w) 14 ++ hoopCheck (bytesAt (padTo 56 d) (14 * w) 14)).length = 16 := by simp
  have hword := bytesAt_flatMap hlen (l := List.range 4) (i := 0) (m := 16) (by simpa using hw) (by simp)
  rw [List.getElem_range, bytesAt, bytesAt, List.drop_zero, padTo_of_length (hlen w), Nat.add_zero] at hword
  rw [encodeFlit, bytesAt, hword, hoopDecode_append_hoopCheck]

/-- A flit as it is sent decodes to its data (R251). -/
theorem flitData_encodeFlit (d : Bytes) : flitData (encodeFlit d) = some (padTo 56 d) := by
  have hwhole := flatMap_bytesAt (padTo 56 d) 14 4
  rw [padTo_of_length (padTo_length ..)] at hwhole
  rw [flitData, flitWords_encodeFlit, joinWords_good, hwhole]

theorem encodeFlit_length (d : Bytes) : (encodeFlit d).length = 64 := by
  rw [encodeFlit, length_flatMap_of_length (n := 16) (fun _ => by simp), List.length_range]

theorem flitCorrected_encodeFlit (d : Bytes) : flitCorrected (encodeFlit d) = 0 := by
  rw [flitCorrected, flitWords_encodeFlit, List.filter_eq_nil_iff.2, List.length_nil]
  intro r hr
  obtain ⟨w, -, rfl⟩ := List.mem_map.1 hr
  simp [HoopResult.wasCorrected]

/-! ### Fields of whole bytes, one after the other (R5) -/

/-- Fields of some bytes each, one after the other. -/
def joined (l : List (Nat × Nat)) : Bytes := l.flatMap (fun e => leBytes e.1 e.2)

theorem joined_cons (e : Nat × Nat) (l : List (Nat × Nat)) : joined (e :: l) = leBytes e.1 e.2 ++ joined l := List.flatMap_cons

@[simp] theorem joined_length (l : List (Nat × Nat)) : (joined l).length = (l.map Prod.fst).sum := by
  induction l with
  | nil => rfl
  | cons e l ih => rw [joined_cons, List.length_append, leBytes_length, ih, List.map_cons, List.sum_cons]

/-- A field stands behind those before it. -/
theorem leAt_joined {l : List (Nat × Nat)} (rest : Bytes) {i : Nat} (hi : i < l.length) :
    leAt (joined l ++ rest) ((l.take i).map Prod.fst).sum l[i].1 = l[i].2 % 256 ^ l[i].1 := by
  induction l generalizing i with
  | nil => simp at hi
  | cons e l ih =>
    rw [joined_cons, List.append_assoc]
    cases i with
    | zero => exact (leAt_append_left _ (by simp)).trans (leAt_leBytes ..)
    | succ i =>
      rw [leAt_append_right (k := ((l.take i).map Prod.fst).sum) _ (by simp)]
      exact ih (Nat.lt_of_succ_lt_succ hi)

/-! ### Frames' fields (R297) -/

/-- The fields before a frame's payload (R297). -/
def UpFrame.header (u : UpFrame) (cycle slot : Nat) : List (Nat × Nat) :=
  [(1, u.type), (3, cycle), (1, slot), (4, u.handle), (2, u.payload.length), (2, u.flags), (3, 0)]

theorem UpFrame.frameData_raw (u : UpFrame) (cycle slot : Nat) :
    frameData (u.raw cycle slot) = some (joined (u.header cycle slot) ++ padTo 224 u.payload) := by
  have hraw : u.raw cycle slot = encodeFrame (joined (u.header cycle slot) ++ u.payload) := by
    simp [UpFrame.raw, UpFrame.header, joined, zeros, leBytes, List.replicate_succ]
  have hlen : (joined (u.header cycle slot)).length = 16 := joined_length _
  rw [hraw, frameData_encodeFrame, ← padTo_length_add, hlen]

/-- A frame as it is sent reads as the fields that it is made of (R297). -/
theorem UpFrame.view_raw {u : UpFrame} {cycle : Nat} (slot : Nat) (htype : u.type < 2 ^ 8) (hcycle : cycle < 2 ^ 24)
    (hhandle : u.handle < 2 ^ 32) (hflags : u.flags < 2 ^ 16) (hpayload : u.payload.length ≤ 224) :
    (frameData (u.raw cycle slot)).map FrameView.ofData = some
      { type := u.type, cycle := cycle, handle := u.handle, length := u.payload.length, flags := u.flags
        payload := padTo 224 u.payload } := by
  have hread {i : Nat} := leAt_joined (l := u.header cycle slot) (i := i) (padTo 224 u.payload)
  have hlen : leAt (joined (u.header cycle slot) ++ padTo 224 u.payload) 9 2 = u.payload.length :=
    (hread (i := 4) (by simp [header])).trans (Nat.mod_eq_of_lt (show u.payload.length < 256 ^ 2 by omega))
  have hbody : bytesAt (joined (u.header cycle slot) ++ padTo 224 u.payload) 16 u.payload.length = u.payload := by
    rw [bytesAt_append_right (k := 0) _ (by simp [header]), bytesAt, List.drop_zero, padTo_of_le hpayload,
      padTo_append _ le_rfl, List.take_length]
  rw [UpFrame.frameData_raw, Option.map_some, FrameView.ofData, hlen, Nat.min_eq_left hpayload, hbody]
  congr 2
  · exact (hread (i := 0) (by simp [header])).trans (Nat.mod_eq_of_lt htype)
  · exact (hread (i := 1) (by simp [header])).trans (Nat.mod_eq_of_lt hcycle)
  · exact (hread (i := 3) (by simp [header])).trans (Nat.mod_eq_of_lt hhandle)
  · exact (hread (i := 5) (by simp [header])).trans (Nat.mod_eq_of_lt hflags)

/-! ### Flits' fields (R251) -/

/-- The fields of a flit's header with their widths, the lowest first; bits 59 to 56 and 9 to 0 are reserved (R251). -/
def FlitView.fields (v : FlitView) : List (Nat × Nat) :=
  [(10, 0), (1, if v.replay then 1 else 0), (1, if v.last then 1 else 0), (16, v.flit), (16, v.transfer), (12, v.seq), (4, 0),
    (4, v.kind)]

theorem FlitView.fields_widths (v : FlitView) : (v.fields.map Prod.fst).sum = 64 := rfl

theorem FlitView.toData_eq_packed {v : FlitView} (h : ∀ e ∈ v.fields, e.2 < 2 ^ e.1) :
    v.toData = leBytes 8 (packed v.fields) ++ padTo 48 v.payload := by
  simp only [fields, List.mem_cons, List.not_mem_nil, or_false, forall_eq_or_imp, forall_eq] at h
  obtain ⟨-, -, -, hflit, htransfer, hseq, -, -⟩ := h
  have hseq' : v.seq % 4096 = v.seq := Nat.mod_eq_of_lt hseq
  have htransfer' : v.transfer % 65536 = v.transfer := Nat.mod_eq_of_lt htransfer
  have hflit' : v.flit % 65536 = v.flit := Nat.mod_eq_of_lt hflit
  have hlast : (if v.last then 2 ^ 11 else 0) = 2 ^ 11 * if v.last then 1 else 0 := by cases v.last <;> rfl
  have hreplay : (if v.replay then 2 ^ 10 else 0) = 2 ^ 10 * if v.replay then 1 else 0 := by cases v.replay <;> rfl
  rw [toData, hseq', htransfer', hflit', hlast, hreplay]
  congr 2
  simp only [fields, packed]
  omega

/-- A flit as it is sent reads as the fields that it is made of (R251). -/
theorem FlitView.view_raw {v : FlitView} (h : ∀ e ∈ v.fields, e.2 < 2 ^ e.1) (hpayload : v.payload.length = 48) :
    (flitData v.raw).map FlitView.ofData = some v := by
  have hwhole : v.toData.length = 56 := by simp [toData]
  have hsmall : packed v.fields < 256 ^ 8 := by
    have hlt := packed_lt h
    rw [fields_widths] at hlt
    omega
  have hheader : leAt v.toData 0 8 = packed v.fields := by
    rw [toData_eq_packed h, leAt_append_left _ (by simp), leAt_leBytes, Nat.mod_eq_of_lt hsmall]
  have hbody : bytesAt v.toData 8 48 = v.payload := by
    rw [toData, bytesAt_append_right _ (k := 0) (by simp), bytesAt, List.drop_zero, padTo_of_length (padTo_length ..),
      padTo_of_length hpayload]
  have hfields : fieldsOf (packed v.fields) 0 [10, 1, 1, 16, 16, 12, 4, 4] = v.fields := fieldsOf_packed_zero h
  generalize packed v.fields = w at hheader hfields
  simp only [fields, fieldsOf, List.cons.injEq, Prod.mk.injEq, true_and, and_true] at hfields
  obtain ⟨-, hreplay, hlast, hflit, htransfer, hseq, -, hkind⟩ := hfields
  rw [raw, flitData_encodeFlit, padTo_of_length hwhole, Option.map_some, ofData, hheader, hbody]
  simp [hreplay, hlast, hflit, htransfer, hseq, hkind]

/-! ### Barrier flits (R254) -/

theorem eraseDups_of_nodup {l : List Nat} (h : l.Nodup) : l.eraseDups = l := by
  induction l with
  | nil => rfl
  | cons x l ih =>
    obtain ⟨hx, hl⟩ := List.nodup_cons.1 h
    have hkeep : l.filter (fun y => !y == x) = l := List.filter_eq_self.2 fun y hy => by
      simpa using fun hyx : y = x => hx (hyx ▸ hy)
    rw [List.eraseDups_cons, hkeep, ih hl]

/-- The set bits of a number made of ascending indexes are at those indexes. -/
theorem testBit_ofBits {l : List Nat} (hl : l.Pairwise (· < ·)) (i : Nat) : (ofBits l).testBit i = true ↔ i ∈ l := by
  have hsum : ofBits l = (l.map (2 ^ ·)).sum := by
    rw [ofBits, eraseDups_of_nodup (hl.imp Nat.ne_of_lt), List.sum_eq_foldl, List.foldl_map]
  rw [← Nat.mem_bitIndices, hsum, Nat.bitIndices_sum_map_two_pow hl.sortedLT]

theorem field_one (w i : Nat) : field w i 1 = 1 ↔ w.testBit i = true := by
  rw [Nat.testBit_eq_decide_div_mod_eq, decide_eq_true_iff]
  rfl

/-- Ascending indexes below n, written as bits, read back. -/
theorem bitsOf_ofBits {n : Nat} {l : List Nat} (hl : l.Pairwise (· < ·)) (hn : ∀ t ∈ l, t < n) :
    bitsOf n (ofBits l % 2 ^ n) = l := by
  have hsorted : (bitsOf n (ofBits l % 2 ^ n)).Pairwise (· < ·) := List.pairwise_lt_range.filter _
  refine hsorted.eq_of_mem_iff hl fun i => ?_
  rw [bitsOf, List.mem_filter, List.mem_range, decide_eq_true_iff, field_one, Nat.testBit_mod_two_pow, Bool.and_eq_true,
    decide_eq_true_iff, testBit_ofBits hl]
  exact ⟨fun ⟨_, _, h⟩ => h, fun h => ⟨hn i h, hn i h, h⟩⟩

/-- The flags of a barrier flit (R254). -/
def BarrierFlit.flags (b : BarrierFlit) : Nat := (if b.overrun then 1 else 0) + if b.lostChild then 2 else 0

theorem BarrierFlit.flags_bits (b : BarrierFlit) :
    b.flags < 256 ∧ decide (field b.flags 0 1 = 1) = b.overrun ∧ decide (field b.flags 1 1 = 1) = b.lostChild := by
  unfold flags
  cases b.overrun <;> cases b.lostChild <;> decide

/-- The fields of a barrier flit before what it announces (R254). -/
def BarrierFlit.fields (b : BarrierFlit) : List (Nat × Nat) :=
  [(1, b.direction), (1, b.flags), (2, 0), (8, b.step), (4, b.tick),
    (1, b.lostChildren), (12, ofBits b.closed), (2, b.sender)]

/-- One of the four announcements of a barrier flit, all ones where there is none (R254). -/
def announcedBytes (a : Option (Nat × Nat)) : Bytes :=
  leBytes 2 (a.getD (0xFFFF, 0xFF)).1 ++ leBytes 1 (a.getD (0xFFFF, 0xFF)).2 ++ [if a.isSome then 0 else 0xFF]

theorem announcedBytes_length (a : Option (Nat × Nat)) : (announcedBytes a).length = 4 := by simp [announcedBytes]

theorem BarrierFlit.payload_eq (b : BarrierFlit) :
    b.payload = joined b.fields ++ ((List.range 4).flatMap (fun i => announcedBytes b.announce[i]?) ++ zeros 1) := by
  have hpieces : b.payload = joined b.fields ++ (List.range 4).flatMap (fun i => announcedBytes b.announce[i]?) ++ zeros 1 := by
    unfold payload
    congr 2
    exact congrArg (List.flatMap · _) (funext fun i => by cases b.announce[i]? <;> rfl)
  rw [hpieces, List.append_assoc]

/-- What a barrier flit announces reads back, each place on its own. -/
theorem BarrierFlit.leAt_announced (b : BarrierFlit) {i k n : Nat} (hi : i < 4) (hk : k + n ≤ 4) :
    leAt b.payload (31 + (4 * i + k)) n = leAt (announcedBytes b.announce[i]?) k n := by
  have hlen : (joined b.fields).length = 31 := joined_length _
  have hpieces : ((List.range 4).flatMap (fun i => announcedBytes b.announce[i]?)).length = 16 :=
    length_flatMap_of_length (fun _ => announcedBytes_length _) _
  rw [payload_eq, leAt_append_right _ (by rw [hlen]), leAt_append_left _ (by rw [hpieces]; omega), leAt,
    bytesAt_flatMap (fun _ => announcedBytes_length _) (by simpa using hi) hk, List.getElem_range, leAt]

/-- Up to n elements, put in n places with an empty mark in the others, are what is not the mark. -/
theorem filter_places {α : Type} {l : List α} {n : Nat} (h : l.length ≤ n) (mark : α) (p : α → Bool)
    (hp : ∀ a ∈ l, p a = true) (hmark : p mark = false) : ((List.range n).map (fun i => l[i]?.getD mark)).filter p = l := by
  have hplaces : (List.range n).map (fun i => l[i]?.getD mark) = l ++ List.replicate (n - l.length) mark := by
    refine List.ext_getElem (by simp; omega) fun i hi _ => ?_
    by_cases hil : i < l.length
    · simp [hil]
    · simp [hil, List.getElem_append_right (Nat.le_of_not_lt hil)]
  rw [hplaces, List.filter_append, List.filter_eq_self.2 hp, List.filter_replicate, hmark, if_neg Bool.false_ne_true, List.append_nil]

theorem BarrierFlit.announce_payload {b : BarrierFlit} (hlen : b.announce.length ≤ 4)
    (h : ∀ a ∈ b.announce, a.1 < 0xFFFF ∧ a.2 < 2 ^ 8) :
    ((List.range 4).map (fun i => (leAt b.payload (31 + 4 * i) 2, leAt b.payload (33 + 4 * i) 1))).filter (fun a => a.1 ≠ 0xFFFF) =
      b.announce := by
  have hread : ∀ i ∈ List.range 4, (leAt b.payload (31 + 4 * i) 2, leAt b.payload (33 + 4 * i) 1) =
      b.announce[i]?.getD (0xFFFF, 0xFF) := by
    intro i hi
    have hi4 : i < 4 := List.mem_range.1 hi
    have hbound : (b.announce[i]?.getD (0xFFFF, 0xFF)).1 < 256 ^ 2 ∧ (b.announce[i]?.getD (0xFFFF, 0xFF)).2 < 256 ^ 1 := by
      cases ha : b.announce[i]? with
      | none => decide
      | some a =>
        obtain ⟨h1, h2⟩ := h a (List.mem_of_getElem? ha)
        exact ⟨Nat.lt_trans h1 (by decide), h2⟩
    have hfirst := b.leAt_announced (k := 0) (n := 2) hi4 (by decide)
    have hsecond := b.leAt_announced (k := 2) (n := 1) hi4 (by decide)
    rw [announcedBytes, List.append_assoc, leAt_append_left _ (by simp), leAt_leBytes, Nat.mod_eq_of_lt hbound.1] at hfirst
    rw [announcedBytes, List.append_assoc, leAt_append_right (k := 0) _ (by simp), leAt_append_left _ (by simp), leAt_leBytes,
      Nat.mod_eq_of_lt hbound.2] at hsecond
    rw [Nat.add_zero] at hfirst
    rw [show 33 + 4 * i = 31 + (4 * i + 2) by omega, hfirst, hsecond]
  rw [List.map_congr_left hread]
  exact filter_places hlen _ _ (fun a ha => by simpa using (h a ha).1.ne) rfl

/-- A barrier flit's payload reads as the fields that it is made of (R254). -/
theorem BarrierFlit.ofPayload_payload {b : BarrierFlit} (hdirection : b.direction < 2 ^ 8) (hstep : b.step < 2 ^ 64)
    (htick : b.tick < 2 ^ 32) (hlost : b.lostChildren < 2 ^ 8) (hclosed : b.closed.Pairwise (· < ·))
    (htracks : ∀ t ∈ b.closed, t < 96) (hsender : b.sender < 2 ^ 16)
    (hlen : b.announce.length ≤ 4) (hannounce : ∀ a ∈ b.announce, a.1 < 0xFFFF ∧ a.2 < 2 ^ 8) :
    BarrierFlit.ofPayload b.payload = b := by
  have hread {i : Nat} := leAt_joined (l := b.fields) (i := i)
    ((List.range 4).flatMap (fun i => announcedBytes b.announce[i]?) ++ zeros 1)
  rw [← payload_eq] at hread
  obtain ⟨hsmall, hoverrun, hchild⟩ := b.flags_bits
  have hflags : leAt b.payload 1 1 = b.flags := (hread (i := 1) (by simp [fields])).trans (Nat.mod_eq_of_lt hsmall)
  have hbits : bitsOf 96 (leAt b.payload 17 12) = b.closed := by
    have hfield : leAt b.payload 17 12 = ofBits b.closed % 256 ^ 12 := hread (i := 6) (by simp [fields])
    rw [hfield]
    exact bitsOf_ofBits hclosed htracks
  have hdirection' : leAt b.payload 0 1 = b.direction := (hread (i := 0) (by simp [fields])).trans (Nat.mod_eq_of_lt hdirection)
  have hstep' : leAt b.payload 4 8 = b.step := (hread (i := 3) (by simp [fields])).trans (Nat.mod_eq_of_lt hstep)
  have htick' : leAt b.payload 12 4 = b.tick := (hread (i := 4) (by simp [fields])).trans (Nat.mod_eq_of_lt htick)
  have hlost' : leAt b.payload 16 1 = b.lostChildren := (hread (i := 5) (by simp [fields])).trans (Nat.mod_eq_of_lt hlost)
  have hsender' : leAt b.payload 29 2 = b.sender := (hread (i := 7) (by simp [fields])).trans (Nat.mod_eq_of_lt hsender)
  rw [ofPayload, hflags, hbits, announce_payload hlen hannounce, hdirection', hstep', htick', hlost', hsender', hoverrun, hchild]

/-- Settles O59: the check symbols of what is sent leave no syndrome, so its data decode, and each field stands where it is read. -/
theorem framesAndFlitsRoundTrip : Obligations.FramesAndFlitsRoundTrip := by
  refine ⟨fun d hd => ⟨?frame, encodeFrame_length d⟩, fun d hd => ⟨?flit, encodeFlit_length d, flitCorrected_encodeFlit d⟩,
    fun u cycle slot htype hcycle hhandle hflags hpayload => UpFrame.view_raw slot htype hcycle hhandle hflags hpayload,
    fun v hkind hseq htransfer hflit hpayload => FlitView.view_raw ?fields hpayload,
    fun b => BarrierFlit.ofPayload_payload⟩
  case frame => rw [frameData_encodeFrame, padTo_of_length hd]
  case flit => rw [flitData_encodeFlit, padTo_of_length hd]
  case fields =>
    have hbit (c : Bool) : (if c then 1 else 0) < 2 := by cases c <;> decide
    simpa [FlitView.fields, hbit] using ⟨hflit, htransfer, hseq, hkind⟩

end Sys2Proof.Machine

/-! PROOFS. Transfers between modules and dies (R206, R241, R252, R255, R256, R259). -/

namespace Sys2Proof.Machine

/-! ### A transfer starts (R252, R255, R259) -/

/-- What a transfer record sends (R206). -/
def S8.sentBytes (s : S8) (sh : Sheet) (index : Nat) (x : Transfer) (mesh : MeshErr) : Bytes :=
  ((s.transferPayload sh index x mesh).map (fun e => e.1)).getD []

/-- Rows that no mesh flit upsets are sent as they stand at their source. -/
theorem S8.sentBytes_rows (s : S8) (sh : Sheet) (index : Nat) {x : Transfer} {mesh : MeshErr} (hkind : x.kind ≠ 0)
    (hflits : mesh.flits = []) :
    s.sentBytes sh index x mesh = (s.mem.readRows x.source (sh.stagedRow x) (ceilDiv x.length 512)).take x.length := by
  simp [S8.sentBytes, S8.transferPayload, hkind, keptBytes, hflits]

/-- The record that a transfer command names (R206). -/
theorem Run.record_eq {r : Run} {sh : Sheet} {x : Transfer} {index : Nat} (hsheet : r.running = some sh)
    (hx : sh.transfers[index]? = some x) :
    r.running.bind (fun sh => (sh.transfers[index]?).map (fun t => (sh, t))) = some (sh, x) := by
  rw [hsheet, Option.bind_some, hx, Option.map_some]

/-- A record of this module that is not yet sent goes on to be sent. -/
theorem Run.toSend {r : Run} {x : Transfer} {index : Nat} (hsends : r.sends x = true) (hnew : index ∉ r.transfersSent) :
    ¬((!r.sends x || r.transfersSent.contains index) = true) := by simp [hsends, hnew]

section Start
variable {s : S8} {sh : Sheet} {x : Transfer} {index : Nat} (hsheet : s.run.running = some sh) (hx : sh.transfers[index]? = some x)
  (hsends : s.run.sends x = true) (hnew : index ∉ s.run.transfersSent)
include hsheet hx hsends hnew

/-- Over a die bridge a transfer is at its destination, whole, with its start. -/
theorem S8.startTransfer_bridge (hbridge : x.bridge = true) (mesh : MeshErr) :
    ∃ d, s.startTransfer index mesh = { s with
      vats := { s.vats with outgoing := SMap.erase s.vats.outgoing index }
      dict := d
      fab := { s.fab with
        arriving := SMap.insert s.fab.arriving (72 * 65536 + index)
          (s.sentBytes sh index x mesh, ceilDiv (s.sentBytes sh index x mesh).length 48, true,
            some (ceilDiv (s.sentBytes sh index x mesh).length 48)) }
      run := { s.run with transfersSent := insertNat index s.run.transfersSent } } := by
  simp only [S8.startTransfer, Run.record_eq hsheet hx, if_neg (Run.toSend hsends hnew), if_pos hbridge]
  exact ⟨_, rfl⟩

/-- On a link a transfer leaves memory, and what was kept of it is taken. -/
theorem S8.startTransfer_link (hbridge : x.bridge = false) (mesh : MeshErr) :
    (s.startTransfer index mesh).vats = { s.vats with outgoing := SMap.erase s.vats.outgoing index } ∧
      (s.startTransfer index mesh).mem = s.mem := by
  simp only [S8.startTransfer, Run.record_eq hsheet hx, if_neg (Run.toSend hsends hnew), hbridge, Bool.false_eq_true, if_false]
  exact ⟨rfl, rfl⟩

end Start

theorem exec_transferStart_next (v : Carried) (s : State) :
    exec (.transferStart v) s = .next { s with chip := (s.chip.startTransfer v.record v.mesh).judge } :=
  (exec_transferStart ..).trans (act_of_wf rfl)

/-! ### A transfer arrives (R256) -/

/-- Rows that no mesh flit upsets are kept whole. -/
theorem keptBytes_of_sound {e : MeshErr} (h : e.flits = []) (flitBytes : Nat) (b : Bytes) : keptBytes e flitBytes b = b := by
  simp [keptBytes, h]

theorem Partial.cross_of_sound {e : MeshErr} (h : e.flits = []) (p : Partial) : p.cross e = p := if_pos h

theorem Partial.crossBridge_of_sound {e : MeshErr} (h : e.flits = []) (p : Partial) : p.crossBridge e = p := if_pos h

section Arrive
variable {s : S8} {sh : Sheet} {x : Transfer} {lane index key next : Nat} {last : Bool} {payload : Bytes} {mesh : MeshErr}
  (hsheet : s.run.running = some sh) (hx : sh.transfers[index]? = some x) (hhere : x.bridge = true ∨ s.run.receives x = true)
  (hkey : key = (if x.bridge then 72 else s.fab.logicalLane lane) * 65536 + index)
  (hheld : SMap.find s.fab.arriving key = some (payload, next, last, some next)) (hwhole : last = true ∨ next = 0)
  (hnew : index ∉ s.run.transfersArrived) (hflits : mesh.flits = [])
include hsheet hx hhere hkey hheld hwhole hnew hflits

/-- A whole transfer of rows is written at its destination and counts as arrived. -/
theorem S8.arrive_rows (hkind : x.kind ≠ 0) (tick : Nat) : ∃ d, s.arrive lane index tick mesh = { s with
    fab := { s.fab with arriving := SMap.erase s.fab.arriving key }
    mem := s.mem.writeRows x.dest x.destRow (arrivedRows x.format (payload.take x.length))
    dict := d
    run := { s.run.worked x.dest.halfKey tick with transfersArrived := insertNat index s.run.transfersArrived } } := by
  simp only [S8.arrive, Run.record_eq hsheet hx, ← hkey, hheld, if_neg hkind, if_neg (mt And.left hkind), keptBytes_of_sound hflits]
  rw [if_pos (by simpa [hnew] using ⟨hhere, hwhole⟩)]
  exact ⟨_, rfl⟩

/-- A whole partial is passed on in its tree and counts as arrived. -/
theorem S8.arrive_partial {r : Reduction} {e : Nat × TreeEntry} (hkind : x.kind = 0) (hnext : next ≠ 0)
    (hred : sh.reductionOf 5 index = some (r, e)) (tick : Nat) : ∃ d, s.arrive lane index tick mesh = { s with
    fab := { s.fab with arriving := SMap.erase s.fab.arriving key }
    vats := s.vats.passOn sh r x.lane e.2 (Partial.ofWire r.grid r.width payload)
    dict := d
    run := { s.run.worked x.dest.halfKey tick with transfersArrived := insertNat index s.run.transfersArrived } } := by
  simp only [S8.arrive, Run.record_eq hsheet hx, ← hkey, hheld, if_pos hkind, hred, if_pos (And.intro hkind hnext),
    Partial.cross_of_sound hflits, Partial.crossBridge_of_sound hflits, ite_self]
  rw [if_pos (by simpa [hnew] using ⟨hhere, hwhole⟩)]
  exact ⟨_, rfl⟩

end Arrive

theorem exec_transferArrived_next (lane : LinkLane) (v : Carried) (tick : Nat) (s : State) :
    exec (.transferArrived lane v tick) s = .next { s with chip := (s.chip.arrive lane v.record tick v.mesh).judge } :=
  (exec_transferArrived ..).trans (act_of_wf rfl)

/-- Judging leaves memory. -/
theorem S8.judge_mem (s : S8) : s.judge.mem = s.mem := by rw [judgingTouchesTheBarrierOnly s]

/-- Settles O29: a transfer that starts is taken, over a bridge with its arrival; a whole one that arrives is written or passed on. -/
theorem transfersStartAndArrive : Obligations.TransfersStartAndArrive := by
  refine ⟨?bridge, ?link, ?arrived⟩
  case bridge =>
    intro v s sh x hsheet hx hsends hnew hbridge
    obtain ⟨d, hstart⟩ := S8.startTransfer_bridge hsheet hx hsends hnew hbridge v.mesh
    refine ⟨_, exec_transferStart_next v s, by rw [hstart], fun hkind hflits =>
      ⟨ceilDiv (s.chip.sentBytes sh v.record x v.mesh).length 48, ?_⟩⟩
    rw [hstart, ← s.chip.sentBytes_rows sh v.record hkind hflits]
    exact SMap.find_insert_self ..
  case link =>
    intro v s sh x hsheet hx hsends hnew hbridge
    obtain ⟨hvats, hmem⟩ := S8.startTransfer_link hsheet hx hsends hnew hbridge v.mesh
    refine ⟨_, exec_transferStart_next v s, ?_, (S8.judge_mem _).trans hmem, rfl⟩
    dsimp only
    rw [S8.judge_vats, hvats]
    exact SMap.find_erase_self ..
  case arrived =>
    intro lane v tick key next last payload s sh x hsheet hx hhere hkey hheld hwhole hnew hflits
    refine ⟨fun hkind => ⟨_, exec_transferArrived_next lane v tick s, ?rows⟩,
      fun r e hkind hnext hred => ⟨_, exec_transferArrived_next lane v tick s, ?passed⟩⟩
    case rows =>
      obtain ⟨d, harrive⟩ := S8.arrive_rows hsheet hx hhere hkey hheld hwhole hnew hflits hkind tick
      rw [harrive]
    case passed =>
      obtain ⟨d, harrive⟩ := S8.arrive_partial hsheet hx hhere hkey hheld hwhole hnew hflits hkind hnext hred tick
      rw [harrive]

end Sys2Proof.Machine

/-! PROOFS. Flits received: bulk flits, credits, NAKs, lane notices and reduction tokens (R251, R252, R254 to R257, R265). -/

namespace Sys2Proof.Machine

/-! ### What a lane's slots change (R252, R255) -/

/-- What a lane has received: the flit it expects, whether it discards, its flits and the failed replays (R257, R265). -/
def LinkLaneState.reception (l : LinkLaneState) : Nat × Bool × Nat × Nat := (l.expected, l.discarding, l.received, l.replays)

section Slots
variable (l : LinkLaneState)

/-- A control slot changes what is pending, the line and the slot. -/
theorem LinkLaneState.controlSlot_frame : l.controlSlot = { l with
    control := l.controlSlot.control, line := l.controlSlot.line, slot := l.controlSlot.slot } := by
  unfold LinkLaneState.controlSlot
  split <;> rfl

theorem LinkLaneState.passSlot_frame : l.passSlot = { l with
    control := l.passSlot.control, line := l.passSlot.line, slot := l.passSlot.slot } := by
  unfold LinkLaneState.passSlot
  split
  · exact l.controlSlot_frame
  · rfl

/-- A good flit is one more received flit, and a slot passes. -/
theorem LinkLaneState.gotFlit_frame : l.gotFlit = { l with
    received := l.received + 1, control := l.gotFlit.control, line := l.gotFlit.line, slot := l.gotFlit.slot } :=
  LinkLaneState.passSlot_frame _

/-- A bulk slot sends the flit at the head of the queue with the next number, where R255 lets it, or sends no new flit. -/
theorem LinkLaneState.bulkSlot_cases :
    (∃ v, l.maySend = true ∧ l.bulkSlot = { l with queue := l.queue.tail }.sendOne v) ∨
    l.bulkSlot = { l with
      queue := l.bulkSlot.queue, control := l.bulkSlot.control, line := l.bulkSlot.line, slot := l.bulkSlot.slot } := by
  unfold LinkLaneState.bulkSlot
  split
  case h_1 => exact .inr rfl
  case h_2 d rest hqueue =>
    split_ifs with htoken hreplay hmay
    · exact .inr rfl
    · exact .inr rfl
    · exact .inl ⟨FlitView.ofData d, hmay, by rw [hqueue, List.tail_cons]⟩
    · exact .inr rfl

/-- What control slots and bulk slots keep is kept while all that waits is sent. -/
theorem LinkLaneState.pumpAll_induction {P : LinkLaneState → Prop} (h : P l) (hcontrol : ∀ a, P a → P a.controlSlot)
    (hbulk : ∀ a, P a → P a.bulkSlot) : P l.pumpAll := by
  rw [LinkLaneState.pumpAll_eq]
  refine List.foldlRecOn _ _ h fun a ha _ _ => ?_
  unfold LinkLaneState.pump
  split_ifs
  · exact ha
  · exact hcontrol a ha
  · exact hbulk a ha

@[simp] theorem LinkLaneState.controlSlot_reception : l.controlSlot.reception = l.reception := by
  rw [l.controlSlot_frame]
  rfl

@[simp] theorem LinkLaneState.bulkSlot_reception : l.bulkSlot.reception = l.reception := by
  obtain ⟨v, -, h⟩ | h := l.bulkSlot_cases
  · rw [h]; rfl
  · rw [h]; rfl

/-- Sending leaves what a lane has received. -/
@[simp] theorem LinkLaneState.pumpAll_reception : l.pumpAll.reception = l.reception :=
  l.pumpAll_induction (P := fun a => a.reception = l.reception) rfl (fun a ha => by rw [a.controlSlot_reception, ha])
    fun a ha => by rw [a.bulkSlot_reception, ha]

end Slots

/-- A lane that has sent on: its credits are as they were, and the flits sent since are behind those unacknowledged (R255, R257). -/
def LinkLaneState.SentOn (l a : LinkLaneState) : Prop := a.credits = l.credits ∧ ∃ sent, a.unacked = l.unacked ++ sent

theorem LinkLaneState.SentOn.refl (l : LinkLaneState) : l.SentOn l := ⟨rfl, [], (List.append_nil _).symm⟩

theorem LinkLaneState.SentOn.trans {l a b : LinkLaneState} (h : l.SentOn a) (h' : a.SentOn b) : l.SentOn b := by
  obtain ⟨hcredits, sent, hunacked⟩ := h
  obtain ⟨hcredits', sent', hunacked'⟩ := h'
  exact ⟨hcredits'.trans hcredits, sent ++ sent', by rw [hunacked', hunacked, List.append_assoc]⟩

theorem LinkLaneState.sentOn_controlSlot (l : LinkLaneState) : l.SentOn l.controlSlot := by
  rw [l.controlSlot_frame]
  exact LinkLaneState.SentOn.refl l

theorem LinkLaneState.sentOn_bulkSlot (l : LinkLaneState) : l.SentOn l.bulkSlot := by
  obtain ⟨v, -, h⟩ | h := l.bulkSlot_cases
  · rw [h]
    exact ⟨rfl, _, rfl⟩
  · rw [h]
    exact LinkLaneState.SentOn.refl l

theorem LinkLaneState.sentOn_pumpAll (l : LinkLaneState) : l.SentOn l.pumpAll :=
  l.pumpAll_induction (P := l.SentOn) (SentOn.refl l) (fun a ha => ha.trans a.sentOn_controlSlot)
    fun a ha => ha.trans a.sentOn_bulkSlot

theorem LinkLaneState.sentOn_idleSlots (l : LinkLaneState) : l.SentOn l.idleSlots := by
  unfold LinkLaneState.idleSlots
  dsimp only
  split_ifs <;> exact LinkLaneState.SentOn.refl l

/-- At most 512 flits without credit, and at most 512 unacknowledged (R255). -/
def LinkLaneState.WithinLimits (l : LinkLaneState) : Prop := l.sent - l.credits ≤ 512 ∧ l.unacked.length ≤ 512

theorem LinkLaneState.WithinLimits.bulkSlot {l : LinkLaneState} (h : l.WithinLimits) : l.bulkSlot.WithinLimits := by
  obtain ⟨v, hmay, hslot⟩ | hslot := l.bulkSlot_cases
  · rw [hslot]
    simp only [LinkLaneState.maySend, Bool.and_eq_true, decide_eq_true_iff] at hmay
    obtain ⟨hcredits, hunacked⟩ := hmay
    refine ⟨?_, ?_⟩
    · change l.sent + 1 - l.credits ≤ 512
      omega
    · simpa [LinkLaneState.sendOne] using hunacked
  · rw [hslot]
    exact h

/-- Sending keeps within the limits of R255, since a new flit leaves only within them. -/
theorem LinkLaneState.WithinLimits.pumpAll {l : LinkLaneState} (h : l.WithinLimits) : l.pumpAll.WithinLimits :=
  l.pumpAll_induction h (fun a ha => by rw [a.controlSlot_frame]; exact ha) fun _ ha => ha.bulkSlot

/-! ### What a module's lanes have received -/

/-- A lane's new state that has received what the old one had leaves what every lane has received. -/
theorem Fabric.reception_setLane (f : Fabric) {n : Nat} {l : LinkLaneState} (h : l.reception = (f.lane n).reception) (m : Nat) :
    ((f.setLane n l).lane m).reception = (f.lane m).reception := by
  by_cases hm : m = n
  · rw [hm, Fabric.lane_setLane_self, h]
  · rw [Fabric.lane_setLane_ne _ _ hm]

theorem Fabric.sendControl_reception (f : Fabric) (n : Nat) (data : List Bytes) (m : Nat) :
    ((f.sendControl n data).lane m).reception = (f.lane m).reception := by
  unfold Fabric.sendControl
  split
  case h_1 => rfl
  case h_2 k _ => exact Fabric.reception_setLane _ (by rw [LinkLaneState.pumpAll_reception]; rfl) m

theorem S8.laneDown_reception (s : S8) (n m : Nat) : ((s.laneDown n).fab.lane m).reception = (s.fab.lane m).reception := by
  have hdown := Fabric.reception_setLane s.fab (n := n) (l := { s.fab.lane n with state := 3, control := [] }) rfl m
  unfold S8.laneDown
  dsimp only
  split_ifs
  · rfl
  · exact hdown
  · exact (Fabric.sendControl_reception ..).trans hdown

theorem S8.notice_reception (s : S8) (n m : Nat) : ((s.notice n).fab.lane m).reception = (s.fab.lane m).reception := by
  unfold S8.notice
  split
  · rfl
  · exact Fabric.sendControl_reception ..

/-- Judging a lane leaves what every lane has received, and memory. -/
theorem S8.judgeLane_reception (s : S8) (n m : Nat) :
    ((s.judgeLane n).fab.lane m).reception = (s.fab.lane m).reception ∧ (s.judgeLane n).mem = s.mem := by
  unfold S8.judgeLane S8.detectFail
  split_ifs
  · exact ⟨rfl, rfl⟩
  · exact ⟨(S8.notice_reception ..).trans (S8.laneDown_reception ..), by rw [S8.notice_frame]; exact S8.laneDown_mem s n⟩
  · exact ⟨rfl, rfl⟩

/-- Asking for a replay makes the lane discard what is not one (R257). -/
theorem S8.askReplay_reception {s : S8} {n expected received replays : Nat} {discarding : Bool}
    (h : (s.fab.lane n).reception = (expected, discarding, received, replays)) (failures : Nat) :
    ((s.askReplay n failures).fab.lane n).reception = (expected, true, received, failures) ∧
      (s.askReplay n failures).mem = s.mem := by
  simp only [LinkLaneState.reception, Prod.mk.injEq] at h
  obtain ⟨rfl, -, rfl, -⟩ := h
  have hnak : (s.fab.lane n).sendNak.reception = { s.fab.lane n with discarding := true }.reception :=
    LinkLaneState.pumpAll_reception _
  simp only [LinkLaneState.reception, Prod.mk.injEq] at hnak
  obtain ⟨hexpected, hdiscarding, hreceived, -⟩ := hnak
  unfold S8.askReplay
  rw [(S8.judgeLane_reception ..).1, (S8.judgeLane_reception _ n n).2]
  dsimp only
  rw [Fabric.lane_setLane_self]
  exact ⟨by simp [LinkLaneState.reception, hexpected, hdiscarding, hreceived], rfl⟩

/-! ### Bulk flits (R256, R257) -/

section Bulk
variable {s : S8} {f : Flit} {v : FlitView} (harr : s.flitArrives f v)
include harr

/-- A bulk flit that is not the one awaited is one more flit of its lane, unless it shows that the replay has failed. -/
theorem S8.receiveBulkFlit_other (k : S8 → FlitView → S8)
    (hother : v.seq ≠ (s.fab.lane f.lane).expected ∨ ((s.fab.lane f.lane).discarding = true ∧ v.replay = false))
    (hnot : ¬(v.replay = true ∧ (s.fab.lane f.lane).discarding = true ∧ (s.fab.lane f.lane).missed = true)) :
    s.receiveBulkFlit f k = s.goodFlit f := by
  obtain ⟨-, hlit, hview⟩ := harr
  obtain ⟨d, hd, rfl⟩ := Option.map_eq_some_iff.1 hview
  simp only [S8.receiveBulkFlit, hlit, hd, if_true]
  rw [if_neg, if_neg]
  · rfl
  · rintro ⟨-, hreplay, hdiscarding, hmissed⟩
    exact hnot ⟨hreplay, hdiscarding, hmissed⟩
  · rintro ⟨-, hseq, htaken⟩
    obtain h | ⟨hdiscarding, hreplay⟩ := hother
    · exact h hseq
    · simp [hdiscarding, hreplay] at htaken

/-- A later replay, after a flit that was lost with its header, shows that the replay awaited has failed. -/
theorem S8.receiveBulkFlit_failed (k : S8 → FlitView → S8) (hkind : v.kind = kindBulk)
    (hseq : v.seq ≠ (s.fab.lane f.lane).expected) (hreplay : v.replay = true) (hdiscarding : (s.fab.lane f.lane).discarding = true)
    (hmissed : (s.fab.lane f.lane).missed = true) :
    s.receiveBulkFlit f k = (s.goodFlit f).askReplay f.lane ((s.fab.lane f.lane).replays + 1) := by
  obtain ⟨-, hlit, hview⟩ := harr
  obtain ⟨d, hd, rfl⟩ := Option.map_eq_some_iff.1 hview
  simp only [S8.receiveBulkFlit, hlit, hd, if_true]
  rw [if_neg fun h => hseq h.2.1, if_pos ⟨hkind, hreplay, hdiscarding, hmissed⟩]
  rfl

end Bulk

theorem exec_bulkFlitRx_next {f : Flit} (s : State) (h : f.raw.length = 64) :
    exec (.bulkFlitRx f) s = .next { s with chip := s.chip.receiveBulkFlit f (fun d v => d.acceptBulk f.lane v) } :=
  (exec_bulkFlitRx ..).trans (act_of_wf (by simp [WellFormed, h]))

/-- A bulk flit that is taken changes its lane, and what is held of its transfer. -/
theorem S8.acceptBulk_frame (s : S8) (n : Nat) (v : FlitView) : s.acceptBulk n v = { s with
    fab := { s.fab with lanes := (s.acceptBulk n v).fab.lanes, arriving := (s.acceptBulk n v).fab.arriving } } := by
  simp only [S8.acceptBulk]
  split_ifs <;> rfl

theorem S8.acceptBulk_lane (s : S8) (n : Nat) (v : FlitView) (m : Nat) :
    (s.acceptBulk n v).fab.lane m = (s.fab.setLane n (s.fab.lane n).tookBulk).lane m := by
  simp only [S8.acceptBulk]
  split_ifs <;> rfl

theorem S8.acceptBulk_noTransfer {s : S8} {n : Nat} {v : FlitView} (h : v.transfer = 0xFFFF) :
    (s.acceptBulk n v).fab.arriving = s.fab.arriving := by
  simp only [S8.acceptBulk, if_pos h]
  rfl

/-- The first flit of a transfer begins what is held of it. -/
theorem S8.acceptBulk_first {s : S8} {n : Nat} {v : FlitView} (h : v.transfer ≠ 0xFFFF) (hfirst : v.flit = 0)
    (hnone : SMap.find s.fab.arriving (s.fab.logicalLane n * 65536 + v.transfer) = none) :
    SMap.find (s.acceptBulk n v).fab.arriving (s.fab.logicalLane n * 65536 + v.transfer) = some (v.payload, 1, v.last, none) := by
  simp [S8.acceptBulk, if_neg h, hfirst, SMap.getD_eq, hnone]

theorem LinkLaneState.gotBad_reception (l : LinkLaneState) :
    l.gotBad.reception = (l.expected, l.discarding, l.received + 1, l.replays) := by
  rw [LinkLaneState.gotBad, LinkLaneState.passSlot_frame]
  rfl

/-- A bulk flit that does not decode asks for a replay, or is judged while the lane discards already (R257). -/
theorem S8.badBulk_cases (s : S8) (n : Nat) (raw : Bytes) :
    (∃ k, s.badBulk n raw = S8.askReplay { s with fab := s.fab.setLane n (s.fab.lane n).gotBad } n k) ∨
    (s.fab.lane n).discarding = true ∧ ∃ c : S8, s.badBulk n raw = c.judgeLane n ∧
      (c.fab.lane n).reception = (s.fab.lane n).gotBad.reception ∧ c.mem = s.mem := by
  unfold S8.badBulk
  dsimp only
  split
  case isTrue => exact .inl ⟨0, rfl⟩
  case isFalse hdiscards =>
    have hdiscarding : (s.fab.lane n).discarding = true := by simpa using hdiscards
    split
    case h_1 =>
      refine .inr ⟨hdiscarding, _, rfl, ?_, rfl⟩
      simp only [Fabric.lane_setLane_self]
      rfl
    case h_2 =>
      split
      · exact .inl ⟨_, rfl⟩
      · exact .inr ⟨hdiscarding, _, rfl, by rw [Fabric.lane_setLane_self], rfl⟩

/-- A bulk flit that does not decode is one more flit of its lane, which discards from now on (R257). -/
theorem S8.badBulk_reception (s : S8) (n : Nat) (raw : Bytes) : ∃ replays,
    ((s.badBulk n raw).fab.lane n).reception = ((s.fab.lane n).expected, true, (s.fab.lane n).received + 1, replays) ∧
      (s.badBulk n raw).mem = s.mem := by
  have hbad := (s.fab.lane n).gotBad_reception
  obtain ⟨k, h⟩ | ⟨hdiscarding, c, h, hreception, hmem⟩ := s.badBulk_cases n raw
  · rw [h]
    exact ⟨k, S8.askReplay_reception (by rw [Fabric.lane_setLane_self, hbad]) k⟩
  · rw [h, (c.judgeLane_reception n n).1, (c.judgeLane_reception n n).2, hreception, hbad, hdiscarding]
    exact ⟨_, rfl, hmem⟩

/-! ### A flit that decodes (R252) -/

/-- The lane whose traffic a lane carries depends on what the lanes serve as. -/
theorem Fabric.logicalLane_congr {f g : Fabric} (hrole : ∀ m, (f.lane m).role = (g.lane m).role)
    (hchanges : f.laneChanges = g.laneChanges) (n : Nat) : f.logicalLane n = g.logicalLane n := by
  have hstate (m : Nat) : (f.lane m).state = (g.lane m).state := LinkLaneState.state_of_role (hrole m)
  have hreplaces (m : Nat) : (f.lane m).replaces = (g.lane m).replaces := LinkLaneState.replaces_of_role (hrole m)
  simp only [Fabric.logicalLane, hstate, hreplaces, hchanges]

section GoodLane
variable (s : S8) (f : Flit)

theorem S8.goodFlit_lane_self : (s.goodFlit f).fab.lane f.lane = (s.fab.lane f.lane).gotFlit := Fabric.lane_setLane_self ..

theorem S8.goodFlit_lane_ne {m : Nat} (h : m ≠ f.lane.val) : (s.goodFlit f).fab.lane m = s.fab.lane m :=
  Fabric.lane_setLane_ne _ _ h

theorem S8.goodFlit_role (m : Nat) : ((s.goodFlit f).fab.lane m).role = (s.fab.lane m).role := by
  refine Fabric.role_setLane _ ?_ m
  rw [LinkLaneState.gotFlit_frame]
  rfl

@[simp] theorem S8.goodFlit_logicalLane (n : Nat) : (s.goodFlit f).fab.logicalLane n = s.fab.logicalLane n :=
  Fabric.logicalLane_congr (s.goodFlit_role f) rfl n

end GoodLane

/-! ### Credits and NAKs (R254, R255, R257) -/

/-- A lane that moves its data on keeps its credits and what is unacknowledged. -/
theorem S8.sentOn_pumpLane (s : S8) (n : Nat) : (s.fab.lane n).SentOn ((s.pumpLane n).fab.lane n) := by
  rw [S8.pumpLane]
  dsimp only
  rw [Fabric.lane_setLane_self]
  have hpumped := (s.fab.lane n).sentOn_pumpAll
  split_ifs
  · exact hpumped.trans ((LinkLaneState.sentOn_idleSlots _).trans (LinkLaneState.sentOn_pumpAll _))
  · exact hpumped

theorem S8.pumpLane_lane_ne (s : S8) {n m : Nat} (h : m ≠ n) : (s.pumpLane n).fab.lane m = s.fab.lane m :=
  Fabric.lane_setLane_ne _ _ h

/-- A credit flit changes its lane and what transfers are sent whole, and nothing else. -/
theorem S8.creditFlit_frame (s : S8) (n : Nat) (p : Bytes) : s.creditFlit n p = { s with
    fab := { s.fab with lanes := (s.creditFlit n p).fab.lanes }
    run := { s.run with transfersSent := (s.creditFlit n p).run.transfersSent } } := rfl

/-- What a credit flit gives does not depend on the flit's own slot. -/
theorem LinkLaneState.takeCredit_gotFlit (l : LinkLaneState) (p : Bytes) :
    (l.gotFlit.takeCredit p).credits = (l.takeCredit p).credits ∧
      (l.gotFlit.takeCredit p).unacked = afterAck l.unacked (leAt p 4 2 % 4096) := by
  rw [l.gotFlit_frame]
  exact ⟨rfl, rfl⟩

/-- A credit flit is taken, and the lane sends on. -/
theorem S8.sentOn_creditFlit (s : S8) (n : Nat) (p : Bytes) :
    ((s.fab.lane n).takeCredit p).SentOn ((s.creditFlit n p).fab.lane n) := by
  have hsent := S8.sentOn_pumpLane { s with fab := s.fab.setLane n ((s.fab.lane n).takeCredit p) } n
  rwa [Fabric.lane_setLane_self] at hsent

theorem S8.creditFlit_lane (s : S8) (f : Flit) (p : Bytes) :
    (((s.goodFlit f).creditFlit f.lane p).fab.lane f.lane).credits = ((s.fab.lane f.lane).takeCredit p).credits ∧
    ∃ sent, (((s.goodFlit f).creditFlit f.lane p).fab.lane f.lane).unacked =
      afterAck (s.fab.lane f.lane).unacked (leAt p 4 2 % 4096) ++ sent := by
  obtain ⟨hcredits, sent, hunacked⟩ := (s.goodFlit f).sentOn_creditFlit f.lane p
  obtain ⟨hgiven, hleft⟩ := (s.fab.lane f.lane).takeCredit_gotFlit p
  rw [S8.goodFlit_lane_self] at hcredits hunacked
  exact ⟨hcredits.trans hgiven, sent, by rw [hunacked, hleft]⟩

section Credit
variable {s : State} {f : Flit} {v : FlitView} (harr : s.chip.flitArrives f v) (hkind : v.kind = kindCredit)
include harr hkind

theorem exec_creditFlitRx_next : exec (.creditFlitRx f) s =
    .next { s with chip := ((s.chip.goodFlit f).creditFlit f.lane v.payload).judge } := by
  rw [exec_creditFlitRx, execCreditFlitRx, act_of_wf (by simp [WellFormed, harr.1]), S8.receiveControl_arrives harr hkind]

theorem exec_nakRx_next : exec (.nakRx f) s = .next { s with
    chip := if field (leAt v.payload 6 1) 0 1 = 1 then ((s.chip.goodFlit f).creditFlit f.lane v.payload).judge
      else s.chip.goodFlit f } := by
  rw [exec_nakRx, execNakRx, act_of_wf (by simp [WellFormed, harr.1]), S8.receiveControl_arrives harr hkind]

theorem exec_laneNoticeRx_next (hnotice : field (leAt v.payload 6 1) 1 1 = 1) (hlane : leAt v.payload 7 1 ≤ 8) :
    exec (.laneNoticeRx f) s = .next { s with
      chip := (s.chip.goodFlit f).laneDown (9 * (f.lane.val / 9) + leAt v.payload 7 1) } := by
  rw [exec_laneNoticeRx, execLaneNoticeRx, act_of_wf (by simp [WellFormed, harr.1]), S8.receiveControl_arrives harr hkind,
    if_pos ⟨hnotice, hlane⟩]

end Credit

/-- Credits are counted modulo 2^32 in a credit flit, and only rise (R255). -/
theorem LinkLaneState.takeCredit_credits (l : LinkLaneState) (p : Bytes) :
    l.credits ≤ (l.takeCredit p).credits ∧ (l.takeCredit p).credits < l.credits + 2 ^ 32 ∧
      (l.takeCredit p).credits % 2 ^ 32 = leAt p 0 4 % 2 ^ 32 := by
  simp only [LinkLaneState.takeCredit]
  omega

/-! ### Lane notices (R254, R265) -/

/-- Control flits of a failed lane go to a lit lane of its trunk, and no other lane changes (R266). -/
theorem Fabric.sendControl_lane_of {f : Fabric} {n m : Nat} (data : List Bytes) (hfailed : (f.lane n).state = 3)
    (hm : (f.lane m).state = 3 ∨ m / 9 ≠ n / 9) : (f.sendControl n data).lane m = f.lane m := by
  unfold Fabric.sendControl Fabric.controlLane
  rw [if_neg (not_not_intro hfailed)]
  split
  case h_1 => rfl
  case h_2 k hk =>
    have hlit : (f.lane k).lit = true := by simpa using List.find?_some hk
    have hstate : (f.lane k).state ≤ 2 := of_decide_eq_true hlit
    obtain ⟨j, hj, rfl⟩ := List.mem_map.1 (List.mem_of_find?_eq_some hk)
    have hj9 : j < 9 := List.mem_range.1 hj
    refine Fabric.lane_setLane_ne _ _ ?_
    rintro rfl
    omega

/-- A lane that goes down keeps no control flit, and the lanes of other trunks are as they were. -/
theorem S8.laneDown_lane {s : S8} {n : Nat} (h : (s.fab.lane n).state ≠ 3) : ((s.laneDown n).fab.lane n).control = [] ∧
    ∀ m, m / 9 ≠ n / 9 → (s.laneDown n).fab.lane m = s.fab.lane m := by
  have hdown : (s.fab.setLane n { s.fab.lane n with state := 3, control := [] }).lane n =
      { s.fab.lane n with state := 3, control := [] } := Fabric.lane_setLane_self ..
  have hother (m : Nat) (hm : m / 9 ≠ n / 9) :
      (s.fab.setLane n { s.fab.lane n with state := 3, control := [] }).lane m = s.fab.lane m :=
    Fabric.lane_setLane_ne _ _ fun hmn => hm (by rw [hmn])
  have hfailed := congrArg LinkLaneState.state hdown
  simp only [S8.laneDown, if_neg h]
  split_ifs
  · exact ⟨by rw [hdown], hother⟩
  · refine ⟨?_, fun m hm => ?_⟩
    · rw [Fabric.sendControl_lane_of _ hfailed (.inl hfailed), hdown]
    · rw [Fabric.sendControl_lane_of _ hfailed (.inr hm), hother m hm]

/-! ### Reduction tokens (R256, R257) -/

/-- What is held of a transfer once its token has come (R256). -/
def Fabric.withToken (f : Fabric) (key count : Nat) : Bytes × Nat × Bool × Option Nat :=
  let held := SMap.getD f.arriving key ([], 0, false, none)
  (held.1, held.2.1, held.2.2.1, some count)

theorem exec_reductionTokenRx_next {f : Flit} {v : FlitView} {s : State} (harr : s.chip.flitArrives f v)
    (hkind : v.kind = kindToken) :
    exec (.reductionTokenRx f) s = .next { s with
      chip := if leAt v.payload 4 8 = s.chip.run.step then
          { s.chip.goodFlit f with fab := { (s.chip.goodFlit f).fab with
            arriving := SMap.insert s.chip.fab.arriving (s.chip.fab.logicalLane f.lane * 65536 + leAt v.payload 0 2)
              (s.chip.fab.withToken (s.chip.fab.logicalLane f.lane * 65536 + leAt v.payload 0 2) (leAt v.payload 2 2)) } }
        else s.chip.goodFlit f } := by
  rw [exec_reductionTokenRx, execReductionTokenRx, act_of_wf (by simp [WellFormed, harr.1]), S8.receiveControl_arrives harr hkind]
  simp only [S8.goodFlit_run, S8.goodFlit_logicalLane]
  rfl

theorem exec_reductionTokenTimeout_next {lane : LinkLane} {transfer next count : Nat} {s : State} {b : Bytes} {last : Bool}
    (hheld : SMap.find s.chip.fab.arriving (s.chip.fab.logicalLane lane * 65536 + transfer) = some (b, next, last, some count)) :
    exec (.reductionTokenTimeout lane transfer) s = .next { s with
      chip := if (last || count = 0) && next = count then s.chip
        else { s.chip with
          fab := s.chip.fab.setLane lane (s.chip.fab.lane lane).sendNak
          dict := s.chip.dict.raise s.chip.run.step Obj.flitReplayCount 0 1 (unitField 6 lane) 0 } } := by
  rw [exec_reductionTokenTimeout, execReductionTokenTimeout, act_of_wf rfl, hheld]

/-- Settles O44: what a flit changes of its lane is a slot, its reception or its credits, and sending keeps the rest. -/
theorem flitsAreReceived : Obligations.FlitsAreReceived := by
  refine ⟨?bulk, ?bad, ?credit, ?limits, ?notice, ?token, ?timeout⟩
  case bulk =>
    intro f v s harr hkind
    have hexec := exec_bulkFlitRx_next s harr.1
    refine ⟨fun hseq htaken => ?taken, fun hother hnot => ?other, fun hseq hreplay hdiscarding hmissed => ?failed⟩
    case taken =>
      rw [S8.receiveBulkFlit_arrives harr hkind hseq htaken] at hexec
      have hlane := (s.chip.countedFlit f).acceptBulk_lane f.lane v
      refine ⟨_, hexec, ?_, ?_, fun n hn => ?_, S8.acceptBulk_noTransfer, S8.acceptBulk_first⟩
      · exact congrArg (fun c => { s with chip := c }) (S8.acceptBulk_frame ..)
      · rw [hseq]
        exact (hlane f.lane).trans (Fabric.lane_setLane_self ..)
      · exact (hlane n).trans (Fabric.lane_setLane_ne _ _ hn)
    case other => rw [hexec, S8.receiveBulkFlit_other harr _ hother hnot]
    case failed =>
      rw [S8.receiveBulkFlit_failed harr _ hkind hseq hreplay hdiscarding hmissed] at hexec
      obtain ⟨hreception, hmem⟩ := S8.askReplay_reception (s := s.chip.goodFlit f) (n := f.lane) rfl
        ((s.chip.fab.lane f.lane).replays + 1)
      simp only [LinkLaneState.reception, Prod.mk.injEq] at hreception
      obtain ⟨-, hdiscards, -, hreplays⟩ := hreception
      exact ⟨_, hexec, rfl, hmem, hdiscards, hreplays⟩
  case bad =>
    intro f s hlen hlit hlost
    have hbad : s.chip.receiveBulkFlit f (fun d v => d.acceptBulk f.lane v) = s.chip.badBulk f.lane f.raw := by
      simp only [S8.receiveBulkFlit, hlit, hlost, if_true]
    have hexec := exec_bulkFlitRx_next s hlen
    rw [hbad] at hexec
    obtain ⟨replays, hreception, hmem⟩ := s.chip.badBulk_reception f.lane f.raw
    simp only [LinkLaneState.reception, Prod.mk.injEq] at hreception
    obtain ⟨hexpected, hdiscards, hreceived, -⟩ := hreception
    exact ⟨_, hexec, rfl, hmem, hdiscards, hexpected, hreceived⟩
  case credit =>
    intro f v s harr hkind
    refine ⟨_, exec_creditFlitRx_next harr hkind, fun hnak => ?_, fun hnak => ?_, S8.creditFlit_frame .., fun n hn => ?_,
      s.chip.creditFlit_lane f v.payload⟩
    · rw [exec_nakRx_next harr hkind, if_pos hnak]
    · rw [exec_nakRx_next harr hkind, if_neg (by omega)]
    · exact (S8.pumpLane_lane_ne _ hn).trans ((Fabric.lane_setLane_ne _ _ hn).trans (S8.goodFlit_lane_ne _ _ hn))
  case limits =>
    intro l p
    obtain ⟨hle, hlt, hmod⟩ := l.takeCredit_credits p
    exact ⟨hle, hlt, hmod, fun h => if_neg (by omega), fun h => if_pos h,
      fun hcredits hunacked => LinkLaneState.WithinLimits.pumpAll ⟨hcredits, hunacked⟩⟩
  case notice =>
    intro f v s n harr hkind hnotice hlane hn hstate
    have hgood : ((s.chip.goodFlit f).fab.lane n).state ≠ 3 := by
      rwa [LinkLaneState.state_of_role (s.chip.goodFlit_role f n)]
    obtain ⟨hcontrol, hother⟩ := S8.laneDown_lane hgood
    have hexec := exec_laneNoticeRx_next harr hkind hnotice hlane
    rw [← hn] at hexec
    refine ⟨_, hexec, ?_, LinkLaneState.state_of_role ((s.chip.goodFlit f).laneDown_role_self n), hcontrol, fun m hm => ?_⟩
    · exact congrArg (fun c => { s with chip := c }) (S8.laneDown_frame hgood)
    · exact (hother m (by omega)).trans (S8.goodFlit_lane_ne _ _ fun hmf => hm (by rw [hmf]))
  case token =>
    intro f v s key harr hkind hkey
    rw [exec_reductionTokenRx_next harr hkind, ← hkey]
    exact ⟨fun hstep => ⟨_, by rw [if_pos hstep], rfl⟩, fun hstep => by rw [if_neg hstep]⟩
  case timeout =>
    intro lane transfer s b next count last hheld
    rw [exec_reductionTokenTimeout_next hheld]
    refine ⟨fun hlate => ?_, fun hnext hlast => ?_⟩
    · rw [if_neg]
      simp only [Bool.and_eq_true, Bool.or_eq_true, decide_eq_true_iff]
      rintro ⟨hwhole, hall⟩
      obtain h | ⟨h, h'⟩ := hlate
      · exact h hall
      · exact hwhole.elim (by simp [h]) h'
    · rw [if_pos]
      simpa using ⟨hlast, hnext⟩

end Sys2Proof.Machine

/-! PROOFS. Object writes that are turned away (R303, R457, R460, R465, R466). -/

namespace Sys2Proof.Machine

/-! ### Object writes that are turned away (R303, R457, R460, R465, R466) -/

/-- A write that is turned away breaks no unchecked limit: `brokenMust` looks at writes that pass the common checks. -/
theorem S8.brokenMust_of_screened {s : S8} {port : Port} {obj : Nat} {value : Bytes}
    (h : ¬((s.ports.get port).answers.length < requestLimit ∧ s.ports.owner = port ∧ writeCheck obj value = statusOk)) :
    s.brokenMust port obj value = none := by
  unfold S8.brokenMust
  rw [if_neg]
  simp only [Bool.and_eq_true, decide_eq_true_iff]
  rintro ⟨⟨⟨⟨-, hroom⟩, -⟩, howner⟩, hcheck⟩
  exact h ⟨hroom, howner, hcheck⟩

/-- A row that writes an object answers what the write of the object answers, where that does not come to the object's effect. -/
theorem exec_write_of_screened {i : Instr} {w : ObjWrite} {obj : Nat} {s : State} {c : S8} (hi : writeOf i = some (w, obj))
    (hwf : WellFormed i = true) (h : ¬((s.chip.ports.get w.port).answers.length < requestLimit ∧ s.chip.ports.owner = w.port ∧
      writeCheck obj w.value = statusOk)) (hc : ∀ effect, s.chip.performWrite w obj effect = c) :
    exec i s = .next { s with chip := c } := by
  obtain ⟨effect, hexec | hexec⟩ := exec_write s hi
  · rw [hexec, act_of_wf hwf, hc]
  · rw [hexec]
    refine actOr_of_ok hwf ?_
    rw [S8.performWriteOr, S8.brokenMust_of_screened h, hc]

/-- Settles O5: each check that fails ends the write with its status, before the object's own effect and the limits of R3. -/
theorem writesAreScreened : Obligations.WritesAreScreened := by
  refine ⟨?notOwner, ?badValue, ?busy⟩
  case notOwner =>
    intro i w obj s hi hwf hport hroom hfirm howner
    exact exec_write_of_screened hi hwf (fun h => howner h.2.1) fun _ => S8.performWrite_notOwner hport hroom hfirm howner
  case badValue =>
    intro i w obj s hi hwf hport hroom hfirm howner hcheck
    exact exec_write_of_screened hi hwf (fun h => hcheck h.2.2) fun _ => S8.performWrite_badValue hport hroom hfirm howner hcheck
  case busy =>
    intro i w obj s hi hwf hport hfull
    exact exec_write_of_screened hi hwf (fun h => Nat.not_lt.2 hfull h.1) fun _ => S8.performWrite_busy hport hfull

end Sys2Proof.Machine

/-! PROOFS. Sampling (R322, R323). -/

namespace Sys2Proof.Machine

/-! ### The tokens that can be sampled (R322) -/

theorem mem_putSorted {α : Type} (before : α → α → Bool) (a x : α) (l : List α) : x ∈ putSorted before a l ↔ x = a ∨ x ∈ l := by
  induction l with
  | nil => simp [putSorted]
  | cons b l ih =>
    simp only [putSorted]
    split
    · simp
    · simp [ih, or_left_comm]

theorem mem_sortBy {α : Type} (before : α → α → Bool) (x : α) (l : List α) : x ∈ sortBy before l ↔ x ∈ l := by
  induction l with
  | nil => simp [sortBy]
  | cons a l ih => rw [sortBy, List.foldr_cons, mem_putSorted, ← sortBy, ih, List.mem_cons]

/-- The largest logit is one of the logits. -/
theorem argMax_lt {z : List Fp} (h : z ≠ []) : argMax z < z.length := by
  refine List.foldlRecOn (motive := fun (a : Nat × Fp) => a.1 < z.length) _ _ (List.length_pos_of_ne_nil h) fun a ha e he => ?_
  split
  · exact (List.mem_zipIdx' he).1
  · exact ha

/-- Ranking names identifiers of the weights. -/
theorem lt_of_mem_ranked {w : List Fp} : ∀ e ∈ ranked w, e.1 < w.length := by
  unfold ranked
  refine List.foldlRecOn (motive := fun (acc : List (Nat × Fp) × Fp) => ∀ e ∈ acc.1, e.1 < w.length) _ _ (by simp) fun acc hacc x hx e he => ?_
  obtain he | he := List.mem_append.1 he
  · exact hacc e he
  · rw [mem_sortBy, List.mem_map] at hx
    obtain ⟨y, hy, rfl⟩ := hx
    rw [List.mem_singleton.1 he]
    exact (List.mem_zipIdx' hy).1

theorem mem_of_mem_keptSet {r : List (Nat × Fp)} {bound : Fp} {e : Nat × Fp} (h : e ∈ keptSet r bound) : e ∈ r := by
  induction r with
  | nil => cases h
  | cons x r ih =>
    rw [keptSet] at h
    split at h
    · exact (List.mem_cons.1 h).elim (fun h => h ▸ List.mem_cons_self) fun h => List.mem_cons_of_mem x (ih h)
    · exact List.mem_singleton.1 h ▸ List.mem_cons_self

@[simp] theorem temper_length (z : List Fp) (t : Fp) : (temper z t).length = z.length := List.length_map ..

@[simp] theorem weights_length (q : List Fp) : (weights q).length = q.length := List.length_map ..

/-- What is found in a list, or stands last in it, is one of its elements. -/
theorem mem_of_find_orElse_getLast {α : Type} {p : α → Bool} {l : List α} {a : α}
    (h : (l.find? p).orElse (fun _ => l.getLast?) = some a) : a ∈ l := by
  cases hf : l.find? p with
  | some b =>
    rw [hf, Option.orElse_some, Option.some.injEq] at h
    exact h ▸ List.mem_of_find?_eq_some hf
  | none =>
    rw [hf, Option.orElse_none] at h
    exact List.mem_of_getLast? h

/-- Every logit gives the vocabulary one identifier, and the token sampled is one of them. -/
theorem sampleToken_token_lt {z : List Fp} (h : z ≠ []) (poison : Bool) (temperature topP seed draws : Nat) :
    (sampleToken z poison temperature topP seed draws).token < z.length := by
  have hpos : 0 < z.length := List.length_pos_of_ne_nil h
  simp only [sampleToken]
  split_ifs
  · exact hpos
  · exact argMax_lt h
  · exact hpos
  · dsimp only
    generalize ho : Option.orElse _ _ = o
    cases o with
    | none => exact hpos
    | some e => simpa using lt_of_mem_ranked e (mem_of_mem_keptSet (mem_of_find_orElse_getLast ho))

/-- A token is poisoned by a poisoned lane or a logit that is not finite. -/
theorem sampleToken_poisoned {z : List Fp} {poison : Bool} (h : poison = true ∨ ∃ x ∈ z, x.nonFinite = true)
    (temperature topP seed draws : Nat) : sampleToken z poison temperature topP seed draws = poisonedDraw := by
  rw [sampleToken, if_pos (by simpa using h)]

/-- Temperature 0 takes the largest logit, without a draw. -/
theorem sampleToken_greedy {temperature : Nat} (h : temperature % 2 ^ 31 = 0) (z : List Fp) (poison : Bool) (topP seed draws : Nat) :
    (sampleToken z poison temperature topP seed draws).drawn = false := by
  rw [sampleToken, if_pos h]
  split <;> rfl

/-- A token is drawn only where it is not poisoned. -/
theorem sampleToken_drawn {z : List Fp} {poison : Bool} {temperature topP seed draws : Nat}
    (h : (sampleToken z poison temperature topP seed draws).drawn = true) :
    (sampleToken z poison temperature topP seed draws).poison = false := by
  simp only [sampleToken] at h ⊢
  split_ifs at h ⊢
  · cases h
  · cases h
  · rfl

/-! ### The token due on a lane (R323) -/

/-- What a sequence samples for an entry. -/
def Sequence.sampledToken (q : Sequence) (e : EntryMade) (step : Nat) (z : List Fp) : SampledToken :=
  let d := sampleToken z (field q.inFlight 4 1 = 1) q.req.temperature q.req.topP q.req.sampleSeed q.draws
  { lane := e.lane, token := d.token, position := q.base + e.entry + 1, step := step
    status := orStatus q.inFlight (if d.poison then statusPoison else 0), logProb := d.logProb
    last := q.req.stops.contains d.token || q.left ≤ 1 }

/-- A sampled token changes its sequence's tokens, what is left of it, its draws and the status of the token in flight. -/
theorem Sequence.sample_eq (q : Sequence) (e : EntryMade) (step : Nat) (z : List Fp) : q.sample e step z = { q with
    sampled := q.sampled ++ [q.sampledToken e step z]
    lastToken := some ((q.sampledToken e step z).token, q.base + e.entry + 1)
    left := q.left - 1, draws := (q.sample e step z).draws, inFlight := 0 } := rfl

/-- The logits of a lane, as they stand in the rows of a sampling task (R322). -/
def S8.logits (s : S8) (sh : Sheet) (t : CoreTask) (n lane : Nat) : List Fp :=
  (List.range (s.vocabulary sh)).map (fun i => bfloat16.decode (leAt (s.mem.readRows t.core (t.inRow n lane) n) (2 * i) 2))

/-- The token due on a lane of a sampling task is sampled, where its rows decode. -/
theorem S8.sampleLane_of_due {s : S8} {task lane slot n : Nat} {sh : Sheet} {t : CoreTask} {q : Sequence} {e : EntryMade}
    (htask : s.run.task task = some (sh, t)) (hkind : t.kind = 4) (hsamples : sh.samples = true)
    (hdie : s.dieServes t.core.die = true) (hback : t.core.key ∉ s.cores.unbacked) (hfirst : t.firstLane ≤ lane)
    (hlast : lane < t.firstLane + t.laneCount) (hended : task ∉ s.run.tasksEnded)
    (hdue : s.dueOnLane sh lane s.run.step = some (slot, q, e)) (hgoes : q.ended = false)
    (honce : q.lastToken.map (fun x => x.2) ≠ some (q.base + e.entry + 1)) (hn : n = ceilDiv (2 * s.vocabulary sh) 512)
    (hbad : s.mem.badRows t.core (t.inRow n lane) n = []) :
    s.sampleLane task lane = { s with serve := { s.serve with
      slots := SMap.insert s.serve.slots slot (q.sample e s.run.step (s.logits sh t n lane)) } } := by
  subst hn
  simp only [S8.sampleLane, htask, hdue]
  rw [if_pos (by simp [hkind, hsamples, hdie, hback, hfirst, hlast, hended]), if_neg (by simp [hgoes, honce]),
    S8.reading_of_good hbad]
  rfl

/-- Settles O38: a sampling task puts `Sequence.sample` into the slot, whose token comes from `sampleToken`. -/
theorem tokensAreSampled : Obligations.TokensAreSampled := by
  refine ⟨?sampled, ?token, ?firmware⟩
  case sampled =>
    intro task lane s sh t slot q e v n htask hkind hsamples hdie hback hfirst hlast hended hdue hgoes honce hv hn hbad
    subst hv
    refine ⟨_, q.sampledToken e s.chip.run.step (s.chip.logits sh t n lane), (exec_taskSample ..).trans (act_of_wf rfl), ?_, rfl, rfl, rfl, ?_⟩
    · rw [S8.sampleLane_of_due htask hkind hsamples hdie hback hfirst hlast hended hdue hgoes honce hn hbad, Sequence.sample_eq]
      rfl
    · simp [Sequence.sampledToken]
  case token =>
    rintro z poison temperature topP seed draws d rfl
    exact ⟨fun h => sampleToken_poisoned h .., fun h => sampleToken_greedy h .., sampleToken_drawn,
      fun h => sampleToken_token_lt h ..⟩
  case firmware =>
    rintro die half s h rfl htasks hserves
    rw [exec_taskFirmware, execTaskFirmware, act_of_wf rfl]
    simp only [htasks, hserves, Bool.and_self, if_true]

end Sys2Proof.Machine

/-! PROOFS. Request frames: what is screened, accepted and refused, and the promise (R300, R303 to R305, R307 to R311, R315, R343, R344,
R376). -/

namespace Sys2Proof.Machine

/-! ### What a good frame leaves of its port (R299, R304) -/

@[simp] theorem S8.goodFrame_kept (s : S8) (p : Port) : (s.goodFrame p).ports.kept = s.ports.kept := Ports.set_kept ..

@[simp] theorem S8.goodFrame_justMoved (s : S8) (p : Port) : (s.goodFrame p).ports.justMoved = s.ports.justMoved := by
  simp [S8.goodFrame, Ports.justMoved]

@[simp] theorem S8.goodFrame_records (s : S8) (p : Port) :
    ((s.goodFrame p).ports.get p).records = (s.ports.get p).records := by simp [S8.goodFrame]

@[simp] theorem S8.goodFrame_otherPort (s : S8) (p : Port) :
    (s.goodFrame p).ports.get (otherPort p) = s.ports.get (otherPort p) := Ports.get_set_ne _ _ (otherPort_ne p)

/-! ### Request frames (R300, R303, R304, R309) -/

/-- The handle that a refusal of a request frame names: a cancel's or a pause's (R307). -/
def requestHandle (kind : Nat) (v : FrameView) : Nat := if kind = 1 ∨ kind = 6 then 0 else v.handle

/-- An answer placed for the cycle and kept (R305, R309). -/
def S8.keepAnswer (s : S8) (p : Port) (r : AnswerRecord) : S8 :=
  { s.answerRecord p r with ports := (s.answerRecord p r).ports.keep p r }

section RequestFrame
variable {s : S8} {f : Frame} {v : FrameView} {kind : Nat} (harr : s.frameArrives f v) (htype : v.type = kind)
  (decision : S8 → FrameView → AnswerRecord × S8)
include harr htype

theorem S8.requestFrame_wrongSlot (hslot : 8 ≤ f.slot.val) :
    s.requestFrame f kind decision = (s.goodFrame f.port).raise Obj.requestSlotErrorCount 0 1 0 0 := by
  rw [S8.requestFrame, S8.receive_arrives harr htype]
  exact if_pos hslot

theorem S8.requestFrame_notOwner (hslot : f.slot.val < 8) (howner : s.ports.owner ≠ f.port) :
    s.requestFrame f kind decision = (s.goodFrame f.port).answerRecord f.port
      (refusalRecord f.slot kind (v.at 0 4) (requestHandle kind v) 0x07) := by
  rw [S8.requestFrame, S8.receive_arrives harr htype]
  dsimp only
  rw [if_neg (Nat.not_le.2 hslot), if_pos (by rwa [S8.goodFrame_owner]), requestHandle]

theorem S8.requestFrame_justMoved (hslot : f.slot.val < 8) (howner : s.ports.owner = f.port) (hmoved : s.ports.justMoved = true) :
    s.requestFrame f kind decision = (s.goodFrame f.port).answerRecord f.port
      (refusalRecord f.slot kind (v.at 0 4) (requestHandle kind v) 0x08) := by
  rw [S8.requestFrame, S8.receive_arrives harr htype]
  dsimp only
  rw [if_neg (Nat.not_le.2 hslot), if_neg (by simpa using howner), if_pos (by rwa [S8.goodFrame_justMoved]), requestHandle]

theorem S8.requestFrame_repeated {k : Port × AnswerRecord} (hslot : f.slot.val < 8) (howner : s.ports.owner = f.port)
    (hmoved : s.ports.justMoved = false)
    (hkept : s.ports.kept.find? (fun k => k.1 = f.port && k.2.requestId = v.at 0 4) = some k) :
    s.requestFrame f kind decision = (s.goodFrame f.port).placeRecord f.port { k.2 with downSlot := f.slot } := by
  rw [S8.requestFrame, S8.receive_arrives harr htype]
  dsimp only
  rw [if_neg (Nat.not_le.2 hslot), if_neg (by simpa using howner), if_neg (by simp [hmoved]), S8.goodFrame_kept, hkept]

/-- A request frame that passes these checks is decided, and its answer kept. -/
theorem S8.requestFrame_decides (hdecides : s.requestDecides f v) : s.requestFrame f kind decision =
    (decision (s.goodFrame f.port) v).2.keepAnswer f.port (decision (s.goodFrame f.port) v).1 := by
  obtain ⟨hslot, howner, hmoved, hkept⟩ := hdecides
  rw [S8.requestFrame, S8.receive_arrives harr htype]
  dsimp only
  rw [if_neg (Nat.not_le.2 hslot), if_neg (by simpa using howner), if_neg (by simp [hmoved]), S8.goodFrame_kept, hkept]
  rfl

end RequestFrame

/-- Admit and resume requests are request frames with the decision of R308. -/
theorem exec_admission {i : Instr} {f : Frame} {kind : Nat} (s : State)
    (hi : (i = .admitRequest f ∧ kind = 1) ∨ (i = .resume f ∧ kind = 6)) (hlen : f.raw.length = 256) :
    exec i s = .next { s with
      chip := s.chip.requestFrame f kind (fun c v => c.answerRequest kind f.port f.slot.val v) } := by
  obtain ⟨rfl, rfl⟩ | ⟨rfl, rfl⟩ := hi
  · exact (exec_admitRequest ..).trans (act_of_wf (by simp [WellFormed, hlen]))
  · exact (exec_resume ..).trans (act_of_wf (by simp [WellFormed, hlen]))

theorem exec_cancel_next {f : Frame} (s : State) (hlen : f.raw.length = 256) :
    exec (.cancel f) s = .next { s with chip := s.chip.requestFrame f 4 (fun c v => c.answerCancel f.slot.val v) } :=
  (exec_cancel ..).trans (act_of_wf (by simp [WellFormed, hlen]))

theorem exec_pause_next {f : Frame} (s : State) (hlen : f.raw.length = 256) :
    exec (.pause f) s = .next { s with chip := s.chip.requestFrame f 5 (fun c v => c.answerPause f.slot.val v) } :=
  (exec_pause ..).trans (act_of_wf (by simp [WellFormed, hlen]))

/-- Settles O48: the four request rows are `S8.requestFrame`, and each of its checks ends the frame before the decision. -/
theorem requestsAreScreened : Obligations.RequestsAreScreened := by
  intro f v s i kind named hi harr htype
  have hexec : named = requestHandle kind v ∧ ∃ decision, exec i s = .next { s with chip := s.chip.requestFrame f kind decision } := by
    obtain ⟨rfl, rfl, rfl⟩ | ⟨rfl, rfl, rfl⟩ | ⟨rfl, rfl, rfl⟩ | ⟨rfl, rfl, rfl⟩ := hi
    · exact ⟨rfl, _, exec_admission s (.inl ⟨rfl, rfl⟩) harr.1⟩
    · exact ⟨rfl, _, exec_cancel_next s harr.1⟩
    · exact ⟨rfl, _, exec_pause_next s harr.1⟩
    · exact ⟨rfl, _, exec_admission s (.inr ⟨rfl, rfl⟩) harr.1⟩
  obtain ⟨rfl, decision, hexec⟩ := hexec
  refine ⟨fun hslot => ?_, fun hslot howner => ?_, fun hslot howner hmoved => ?_, fun k hslot howner hmoved hkept => ?_⟩
  · rw [hexec, S8.requestFrame_wrongSlot harr htype _ hslot]
  · rw [hexec, S8.requestFrame_notOwner harr htype _ hslot howner]
  · rw [hexec, S8.requestFrame_justMoved harr htype _ hslot howner hmoved]
  · rw [hexec, S8.requestFrame_repeated harr htype _ hslot howner hmoved hkept]

/-! ### Answers kept (R305, R309, R328) -/

section KeepAnswer
variable (s : S8) (p : Port) (r : AnswerRecord)

/-- An answer changes its port, the answers kept and RefusalCount. -/
theorem S8.keepAnswer_frame : s.keepAnswer p r = { s with ports := (s.keepAnswer p r).ports, dict := (s.keepAnswer p r).dict } := rfl

theorem S8.keepAnswer_dict : (s.keepAnswer p r).dict =
    s.dict.raise s.run.step Obj.refusalCount r.reason (if r.refused then 1 else 0) 0 r.requestId := rfl

theorem S8.keepAnswer_kept : (s.keepAnswer p r).ports.kept = ((p, r) :: s.ports.kept).take 256 := by
  cases p <;> rfl

/-- An answer that heeds its request changes the ports only. -/
theorem S8.keepAnswer_heeded (h : r.refused = false) : s.keepAnswer p r = { s with ports := (s.keepAnswer p r).ports } := by
  have hdict : (s.keepAnswer p r).dict = s.dict := by
    rw [S8.keepAnswer_dict, h]
    exact Dict.raise_zero ..
  conv_lhs => rw [S8.keepAnswer_frame, hdict]

variable {s p} {d : S8} (h : d.ports = (s.goodFrame p).ports)
include h

/-- An answer is placed behind those of the cycle. -/
theorem S8.keepAnswer_records : ((d.keepAnswer p r).ports.get p).records = (s.ports.get p).records ++ [r] := by
  have hplaced : ((d.keepAnswer p r).ports.get p).records = (d.ports.get p).records ++ [r] := by cases p <;> rfl
  rw [hplaced, h, S8.goodFrame_records]

theorem S8.keepAnswer_otherPort : (d.keepAnswer p r).ports.get (otherPort p) = s.ports.get (otherPort p) := by
  have hother : (d.keepAnswer p r).ports.get (otherPort p) = d.ports.get (otherPort p) := by cases p <;> rfl
  rw [hother, h, S8.goodFrame_otherPort]

end KeepAnswer

/-! ### Acceptance (R307, R308, R315, R343, R344, R376) -/

/-- A resume's entry goes to State 3, and its restore is queued where a residue was placed (R343, R344). -/
def Cellar.resume (c : Cellar) (named : Option (Nat × PauseEntry)) (slot : Nat) (placed : Bool) : Cellar :=
  match named with
  | none => c
  | some (n, e) => { c with
      index := SMap.insert c.index n { e with state := 3 }
      restores := c.restores ++ (if placed then [(slot, 64 * e.pages)] else []) }

theorem Cellar.resume_frame (c : Cellar) (named : Option (Nat × PauseEntry)) (slot : Nat) (placed : Bool) :
    c.resume named slot placed = { c with
      index := (c.resume named slot placed).index, restores := (c.resume named slot placed).restores } := by
  cases named <;> rfl

/-- What an accepted request changes, `named` being the pause index entry that a resume names. -/
theorem S8.acceptRequest_eq (s : S8) (sh : Sheet) (slot : Nat) (port : Port) (kind : Nat) (r : Request) (placing : Option Placing)
    {named : Option (Nat × PauseEntry)} (h : named = if kind = 6 then s.cellar.named r.pauseKey else none) :
    s.acceptRequest sh slot port kind r placing = { s with
      serve := { s.serve with
        slots := SMap.insert s.serve.slots slot (s.newSequence sh slot port r named placing)
        completed := s.serve.completed.filter (fun h => h % 8192 ≠ slot) }
      cultures := s.cultures.pin (s.newSequence sh slot port r named placing).cultureId
        (s.newSequence sh slot port r named placing).cultureVersion 1
      cellar := s.cellar.resume named slot placing.isSome
      dict := s.dict.raise s.run.step Obj.admitCount 0 1 (unitField 10 (s.serve.handle slot)) r.requestId
      free := s.free + 1 } := by
  subst h
  rfl

section Decision
variable {s : S8} {kind slot : Nat} {r : Request} {v : FrameView} (hslot : slot = s.pick s.freeSlots) (hr : r = Request.ofView v)
  (port : Port) (downSlot : Nat)
include hslot hr

theorem S8.answerRequest_accept {sh : Sheet} {placing : Option Placing} (hdecision : s.decideRequest kind slot r v = .accept placing)
    (hrunning : s.run.running = some sh) : s.answerRequest kind port downSlot v =
      (s.acceptance downSlot kind slot r placing, s.acceptRequest sh slot port kind r placing) := by
  unfold S8.answerRequest
  dsimp -iota only
  rw [← hslot, ← hr, hdecision, hrunning]

theorem S8.answerRequest_refuse {reason : Nat} (hdecision : s.decideRequest kind slot r v = .refuse reason) :
    s.answerRequest kind port downSlot v = (refusalRecord downSlot kind r.requestId 0 reason, s) := by
  unfold S8.answerRequest
  dsimp -iota only
  rw [← hslot, ← hr, hdecision]

end Decision

theorem requestsAreAcceptedOrRefused : Claims.RequestsAreAcceptedOrRefused := by
  refine ⟨?accepted, ?refused⟩
  case accepted =>
    intro f v s i kind slot c sh placing r named hi harr htype hdecides hc hslot hr hnamed hrunning hdecision
    have hrun : c.run.running = some sh := by rw [hc]; exact hrunning
    have hexec := exec_admission s hi harr.1
    rw [S8.requestFrame_decides harr htype _ hdecides, ← hc,
      S8.answerRequest_accept (by rw [hslot]) hr _ _ hdecision hrun] at hexec
    rw [S8.acceptRequest_eq _ _ _ _ _ _ _ hnamed] at hexec
    refine ⟨_, hexec, ?frame, ?slot, fun n hn => ?others, ?cultures, fun hnone => ?fresh, fun n e hsome => ?resume, ?records,
      ?kept, ?otherPort⟩
    case frame =>
      rw [S8.keepAnswer_heeded _ _ _ rfl, Cellar.resume_frame, hc]
      rfl
    case slot => exact SMap.find_insert_self ..
    case others =>
      subst hc
      exact SMap.find_insert_ne _ _ hn
    case cultures => rw [hc]; rfl
    case fresh => rw [hnone, hc]; rfl
    case resume =>
      rw [hsome, hc]
      exact ⟨SMap.find_insert_self .., fun m hm => SMap.find_insert_ne _ _ hm, rfl⟩
    case records => exact S8.keepAnswer_records _ (by rw [hc])
    case kept => rw [S8.keepAnswer_kept]; rfl
    case otherPort => exact S8.keepAnswer_otherPort _ (by rw [hc])
  case refused =>
    intro f v s i kind reason c a hi harr htype hdecides hc hdecision ha
    have hexec := exec_admission s hi harr.1
    rw [S8.requestFrame_decides harr htype _ hdecides, ← hc, S8.answerRequest_refuse rfl rfl _ _ hdecision] at hexec
    have hrefused : refusalRecord f.slot kind (Request.ofView v).requestId 0 reason = a := ha.symm
    rw [hrefused] at hexec
    refine ⟨_, hexec, ?_, S8.keepAnswer_records _ (by rw [hc]), ?_, S8.keepAnswer_otherPort _ (by rw [hc])⟩
    · rw [S8.keepAnswer_frame, S8.keepAnswer_dict, hc, ha]
      rfl
    · rw [S8.keepAnswer_kept, hc, S8.goodFrame_kept]

/-! ### The promise (R311) -/

/-- The first step of a residue at or after a step lies within a stride of it. -/
theorem residueStep_le {origin stride residue from_ : Nat} (h : residue < stride) :
    from_ ≤ residueStep origin stride residue from_ ∧ residueStep origin stride residue from_ < from_ + stride := by
  have hmod := Nat.mod_lt (residue + stride - (from_ - origin) % stride) (Nat.zero_lt_of_lt h)
  unfold residueStep
  omega

/-- That step falls on the residue. -/
theorem residueStep_mod {origin stride residue from_ : Nat} (h : residue < stride) (horigin : origin ≤ from_) :
    (residueStep origin stride residue from_ - origin) % stride = residue := by
  have hpast := Nat.mod_lt (from_ - origin) (Nat.zero_lt_of_lt h)
  have hsub : residueStep origin stride residue from_ - origin =
      (from_ - origin) + (residue + stride - (from_ - origin) % stride) % stride := by
    unfold residueStep
    omega
  have hwhole : (from_ - origin) % stride + (residue + stride - (from_ - origin) % stride) = residue + stride := by omega
  rw [hsub, Nat.add_mod_mod, ← Nat.mod_add_mod, hwhole, Nat.add_mod_right, Nat.mod_eq_of_lt h]

theorem promiseMeetsItsResidue : Claims.PromiseMeetsItsResidue := by
  rintro s sh n lead fill residue back t p rfl hresidue horigin hback
  obtain ⟨e, he⟩ : ∃ e, e = residueStep s.run.origin t.stride residue (s.run.step + lead + back) := ⟨_, rfl⟩
  obtain ⟨hle, hlt⟩ := residueStep_le (origin := s.run.origin) (from_ := s.run.step + lead + back) hresidue
  have hmod := residueStep_mod (origin := s.run.origin) (from_ := s.run.step + lead + back) hresidue (by omega)
  rw [← he] at hle hlt hmod
  have hfirst : (s.promise sh n lead fill t residue).first = e - back := by rw [he, hback]; rfl
  have hlast : (s.promise sh n lead fill t residue).last = e + t.stride * (ceilDiv n (t.fill fill) - 1) := by rw [he, hback]; rfl
  have htoken : (s.promise sh n lead fill t residue).firstToken =
      (s.promise sh n lead fill t residue).last + sh.turnaround t.span - 1 := rfl
  have hwhole : e - back + back = e := by omega
  rw [htoken, hlast, hfirst, hwhole]
  exact ⟨by omega, by omega, hmod, rfl, by omega⟩

/-- Settles O47: the decision is followed by `S8.acceptRequest` or by nothing, and the promise starts at `residueStep`. -/
theorem requestsAreDecided : Obligations.RequestsAreDecided := ⟨requestsAreAcceptedOrRefused, promiseMeetsItsResidue⟩

end Sys2Proof.Machine

/-! PROOFS. Cancel and pause (R308, R315 to R317, R326, R338). -/

namespace Sys2Proof.Machine

/-! ### The sequence in a slot (R315) -/

/-- A handle names the sequence in its slot. -/
theorem Serving.find_of_named {v : Serving} {handle slot : Nat} {q : Sequence} (h : v.named handle = some (slot, q)) :
    SMap.find v.slots slot = some q := by
  unfold Serving.named at h
  split_ifs at h
  obtain ⟨q', hq', heq⟩ := Option.map_eq_some_iff.1 h
  obtain ⟨rfl, rfl⟩ := Prod.mk.inj heq
  exact hq'

/-- Changing the sequence in a slot. -/
theorem S8.setSequence_of_find {s : S8} {slot : Nat} {q : Sequence} (h : SMap.find s.serve.slots slot = some q)
    (f : Sequence → Sequence) :
    s.setSequence slot f = { s with serve := { s.serve with slots := SMap.insert s.serve.slots slot (f q) } } := by
  rw [S8.setSequence, h]

/-! ### Cancel (R326) -/

section Cancel
variable (s : S8) {v : FrameView} (downSlot : Nat) (hok : handleRequestOk v = true)
include hok

theorem S8.answerCancel_heeds {slot : Nat} {q : Sequence} (hnamed : s.serve.named v.handle = some (slot, q))
    (hdraining : q.state ≠ .draining) (hpausing : q.state ≠ .pausing) : s.answerCancel downSlot v =
      (heededRecord downSlot 4 (v.at 0 4) v.handle, s.setSequence slot Sequence.cancel) := by
  simp [S8.answerCancel, hok, hnamed, hdraining, hpausing]

theorem S8.answerCancel_unnamed (hnamed : s.serve.named v.handle = none) : s.answerCancel downSlot v =
    (refusalRecord downSlot 4 (v.at 0 4) v.handle (if v.handle ∈ s.serve.completed then 0x10 else 0x11), s) := by
  by_cases hdone : v.handle ∈ s.serve.completed <;> simp [S8.answerCancel, hok, hnamed, hdone]

theorem S8.answerPause_unnamed (hnamed : s.serve.named v.handle = none) : s.answerPause downSlot v =
    (refusalRecord downSlot 5 (v.at 0 4) v.handle 0x11, s) := by
  simp [S8.answerPause, hok, hnamed]

end Cancel

/-- A sequence cancelled has a CANCELLED record, and drains where it ran. -/
theorem Sequence.cancel_of_noRecord {q : Sequence} (h : q.completion = none) : q.cancel = { q with
    state := if q.state = .running then .draining else q.state, cancelled := q.cancelled || decide (q.state = .running)
    completion := some (Completion.plain 1 0 false) } := by
  unfold Sequence.cancel
  rw [h]
  by_cases hrunning : q.state = .running <;> simp [hrunning]

/-! ### Free entries of the pause index (R338) -/

theorem SMap.mem_keys_of_find {α : Type} {m : SMap α} {k : Nat} (h : (SMap.find m k).isSome = true) : k ∈ m.map (·.1) := by
  induction m with
  | nil => cases h
  | cons e m ih =>
    rw [SMap.find_cons] at h
    split at h
    case isTrue hk => exact hk ▸ List.mem_cons_self
    case isFalse => exact List.mem_cons_of_mem _ (ih h)

/-- A map that lists fewer keys than there are numbers below n does not list one of them. -/
theorem SMap.exists_unlisted {α : Type} {m : SMap α} {n : Nat} (h : m.length < n) : ∃ k < n, SMap.find m k = none := by
  by_contra hall
  simp only [not_exists, not_and] at hall
  have hsub : List.range n ⊆ m.map (·.1) := fun k hk =>
    SMap.mem_keys_of_find (Option.isSome_iff_ne_none.2 (hall k (List.mem_range.1 hk)))
  have hlen := (List.nodup_range.subperm hsub).length_le
  rw [List.length_range, List.length_map] at hlen
  omega

/-- The entry taken is one that was free. -/
theorem S8.find_freeEntry {s : S8} (h : 0 < s.cellar.entriesFree) : SMap.find s.cellar.index s.freeEntry = none := by
  obtain ⟨k, hk, hfree⟩ := SMap.exists_unlisted (m := s.cellar.index) (n := Config.pauseEntries) (Nat.lt_of_sub_pos h)
  have hmem := s.pick_mem (l := (List.range Config.pauseEntries).filter (fun n => (SMap.find s.cellar.index n).isNone))
    (List.ne_nil_of_mem (List.mem_filter.2 ⟨List.mem_range.2 hk, by rw [hfree]; rfl⟩))
  exact Option.isNone_iff_eq_none.1 (List.mem_filter.1 hmem).2

/-- The cellar has entries free where it has room for a pause. -/
theorem S8.entriesFree_of_room {s : S8} {q : Sequence} (h : s.cellarFull q = false) : 0 < s.cellar.entriesFree := by
  simp only [S8.cellarFull, Bool.or_eq_false_iff, decide_eq_false_iff_not] at h
  omega

/-! ### Pause (R316, R317, R338) -/

/-- An entry whose image is to be written: State 1 (R338, R340). -/
def PauseEntry.awaiting (pages layerTag : Nat) : PauseEntry :=
  { nonce := 0, expiry := 0xFFFFFFFF, length := 0, pages := pagesField pages, layerTag := layerTag, state := 1
    image := PauseImage.blank, stripe := 0 }

theorem S8.takeEntry_eq (s : S8) (pages layerTag : Nat) : s.takeEntry pages layerTag = (s.freeEntry, { s with
    cellar := { s.cellar with index := SMap.insert s.cellar.index s.freeEntry (PauseEntry.awaiting pages layerTag) }
    free := s.free + 1 }) := rfl

section Pause
variable (s : S8) {v : FrameView} {slot : Nat} {q : Sequence} (downSlot : Nat) (hok : handleRequestOk v = true)
  (hnamed : s.serve.named v.handle = some (slot, q)) (hasked : q.pauseAsked = none) (hrecord : q.completion = none)
  (hroom : s.cellarFull q = false)
include hok hnamed hasked hrecord hroom

theorem S8.answerPause_running (hstate : q.state = .running) : s.answerPause downSlot v =
    (heededRecord downSlot 5 (v.at 0 4) v.handle,
      (s.takeEntry (s.nextImagePages q) s.run.tag).2.setSequence slot (fun q => { q with pauseAsked := some s.freeEntry })) := by
  simp [S8.answerPause, hok, hnamed, hasked, hrecord, hroom, hstate, S8.takeEntry_eq]

theorem S8.answerPause_parked (hstate : q.state = .parked) : s.answerPause downSlot v =
    (heededRecord downSlot 5 (v.at 0 4) v.handle, s.pauseParked slot q) := by
  simp [S8.answerPause, hok, hnamed, hasked, hrecord, hroom, hstate]

end Pause

/-- A parked sequence whose image is stored gives its key out (R316). -/
theorem S8.pauseParked_stored {s : S8} {slot n : Nat} {q : Sequence} {e : PauseEntry}
    (hslot : SMap.find s.serve.slots slot = some q) (hentry : q.entry = some n) (hindex : SMap.find s.cellar.index n = some e)
    (hstored : e.state ≠ 1) : s.pauseParked slot q = { s with
      serve := { s.serve with slots := SMap.insert s.serve.slots slot { q with
        entry := none
        completion := some
          { outcome := 2, error := 0, promiseBroken := false, pauseKey := pauseKey n e.nonce, digest := e.image.digest } } }
      cellar := { s.cellar with index := SMap.insert s.cellar.index n { e with
        state := 2, expiry := s.cellar.seconds + s.dict.get Obj.pauseTimeToLive } } } := by
  simp only [S8.pauseParked, hentry, Option.bind_some, hindex, Option.map_some, if_neg hstored]
  exact S8.setSequence_of_find (by exact hslot) _

/-- Settles O49: an answer that heeds its request changes the ports beside what the cancel or pause does to the slot and the index. -/
theorem cancelAndPauseTakeEffect : Obligations.CancelAndPauseTakeEffect := by
  refine ⟨?cancel, fun q hrecord => ?cancelled, ?running, ?parked, ?unnamed⟩
  case cancel =>
    intro f v s slot q harr htype hdecides hok hnamed hdraining hpausing
    have hexec := exec_cancel_next s harr.1
    rw [S8.requestFrame_decides harr htype _ hdecides, S8.answerCancel_heeds (s.chip.goodFrame f.port) _ hok hnamed hdraining hpausing,
      S8.setSequence_of_find (s := s.chip.goodFrame f.port) (Serving.find_of_named hnamed)] at hexec
    refine ⟨_, hexec, ?_, SMap.find_insert_self .., fun m hm => SMap.find_insert_ne _ _ hm, S8.keepAnswer_records _ rfl⟩
    rw [S8.keepAnswer_heeded _ _ _ rfl]
    rfl
  case cancelled =>
    rw [Sequence.cancel_of_noRecord hrecord]
    exact ⟨rfl, fun h => ⟨if_pos h, by simp [h]⟩, fun h => if_neg h⟩
  case running =>
    intro f v s slot q harr htype hdecides hok hnamed hstate hasked hrecord hroom
    have hexec := exec_pause_next s harr.1
    rw [S8.requestFrame_decides harr htype _ hdecides, S8.answerPause_running (s.chip.goodFrame f.port) _ hok hnamed hasked hrecord hroom hstate,
      S8.takeEntry_eq, S8.setSequence_of_find (s := { s.chip.goodFrame f.port with cellar := _, free := _ }) (Serving.find_of_named hnamed)] at hexec
    refine ⟨_, hexec, ?_, ⟨_, _, SMap.find_insert_self .., S8.find_freeEntry (s := s.chip.goodFrame f.port) (S8.entriesFree_of_room hroom),
      SMap.find_insert_self .., rfl, fun m hm => SMap.find_insert_ne _ _ hm⟩, fun m hm => SMap.find_insert_ne _ _ hm⟩
    rw [S8.keepAnswer_heeded _ _ _ rfl]
    rfl
  case parked =>
    intro f v s slot n q e harr htype hdecides hok hnamed hstate hasked hrecord hroom hentry hindex hstored
    have hexec := exec_pause_next s harr.1
    rw [S8.requestFrame_decides harr htype _ hdecides, S8.answerPause_parked (s.chip.goodFrame f.port) _ hok hnamed hasked hrecord hroom hstate,
      S8.pauseParked_stored (s := s.chip.goodFrame f.port) (Serving.find_of_named hnamed) hentry hindex hstored] at hexec
    refine ⟨_, hexec, ?_, SMap.find_insert_self ..⟩
    rw [S8.keepAnswer_heeded _ _ _ rfl]
    rfl
  case unnamed =>
    intro f v s i kind a hi harr htype hdecides hok hnamed ha
    obtain ⟨rfl, rfl⟩ | ⟨rfl, rfl⟩ := hi
    · rw [exec_cancel_next s harr.1, S8.requestFrame_decides harr htype _ hdecides, S8.answerCancel_unnamed (s.chip.goodFrame f.port) _ hok hnamed, ha]
      simp only [true_and]
      rfl
    · rw [exec_pause_next s harr.1, S8.requestFrame_decides harr htype _ hdecides, S8.answerPause_unnamed (s.chip.goodFrame f.port) _ hok hnamed, ha]
      rfl

end Sys2Proof.Machine

/-! PROOFS. Frames without a request: idle frames and prompt tokens (R299 to R302, R304). -/

namespace Sys2Proof.Machine

/-! ### Frames that carry no request (R299, R300) -/

/-- A frame that does not decode, or that carries another cycle's number and is no request, is counted as lost. -/
theorem S8.receive_lost {s : S8} {f : Frame} {type : Nat} (k : S8 → FrameView → S8) (hport : s.portAnswers f.port = true)
    (htype : isRequestType type = false) (hlost : frameData f.raw = none ∨ ∃ d, frameData f.raw = some d ∧
      (FrameView.ofData d).cycle ≠ s.ports.cycle % 2 ^ 24 ∧ isRequestType (FrameView.ofData d).type = false) :
    s.receive f type k = s.frameLost := by
  obtain hnone | ⟨d, hd, hcycle, hkind⟩ := hlost
  · simp [S8.receive, hport, hnone, htype]
  · simp only [S8.receive, hport, hd, if_true]
    rw [if_pos hcycle, if_neg (by simp [hkind])]

theorem S8.receiveBulk_notOwner {s : S8} {f : Frame} {v : FrameView} (harr : s.frameArrives f v) (htype : v.type = 0x30)
    (howner : s.ports.owner ≠ f.port) (kind : Nat) (k : S8 → FrameView → S8) :
    s.receiveBulk f kind k = (s.goodFrame f.port).frameLost := by
  rw [S8.receiveBulk, S8.receive_arrives harr htype, if_pos (by rwa [S8.goodFrame_owner])]

/-! ### The tokens of a prompt frame (R302) -/

section Tokens
variable (q : Sequence) (first : Nat)

/-- The shift between prompt indexes and entries: a resume's pending token comes first (R345). -/
def Sequence.promptShift : Nat := if q.pendingToken.isSome then 1 else 0

/-- Was the entry of a prompt index made already? -/
def Sequence.promptEntered (n : Nat) : Bool := n + q.promptShift < q.entered

/-- A prompt with tokens put at their indexes, but for those whose entry was made. -/
def Sequence.promptWith (m : SMap Nat) (tokens : List (Nat × Nat)) : SMap Nat :=
  tokens.foldl (fun m e => if q.promptEntered (first + e.2) then m else SMap.insert m (first + e.2) e.1) m

theorem Sequence.foldl_takeTokens (tokens : List (Nat × Nat)) (m : SMap Nat) (n : Nat) :
    tokens.foldl (fun (a : Sequence × Nat) e =>
      if first + e.2 + q.promptShift < q.entered then (a.1, a.2 + 1)
      else ({ a.1 with prompt := SMap.insert a.1.prompt (first + e.2) e.1 }, a.2)) ({ q with prompt := m }, n) =
    ({ q with prompt := q.promptWith first m tokens }, n + (tokens.filter (fun e => q.promptEntered (first + e.2))).length) := by
  induction tokens generalizing m n with
  | nil => rfl
  | cons e tokens ih =>
    rw [List.foldl_cons, Sequence.promptWith, List.foldl_cons, List.filter_cons]
    by_cases h : first + e.2 + q.promptShift < q.entered
    · have hentered : q.promptEntered (first + e.2) = true := decide_eq_true h
      rw [if_pos h, hentered, if_pos rfl, if_pos rfl, ih, List.length_cons, Nat.add_assoc, Nat.add_comm 1]
      rfl
    · have hentered : q.promptEntered (first + e.2) = false := decide_eq_false h
      rw [if_neg h, hentered, if_neg Bool.false_ne_true, if_neg Bool.false_ne_true, ih]
      rfl

theorem length_filter_zipIdx {α : Type} (p : Nat → Bool) (l : List α) :
    (l.zipIdx.filter (fun e => p e.2)).length = ((List.range l.length).filter p).length := by
  rw [List.range_eq_range', ← List.zipIdx_map_snd, List.filter_map, List.length_map]
  rfl

/-- What a prompt frame's tokens change of their sequence, and how many are ignored. -/
theorem Sequence.takeTokens_eq (tokens : List Nat) : q.takeTokens first tokens =
    ({ q with prompt := q.promptWith first q.prompt tokens.zipIdx },
      ((List.range tokens.length).filter (fun i => q.promptEntered (first + i))).length) := by
  rw [← length_filter_zipIdx, ← Nat.zero_add (List.length _)]
  exact q.foldl_takeTokens first tokens.zipIdx q.prompt 0

/-- The tokens taken are found at their indexes, and the others as before. -/
theorem Sequence.find_promptWith (tokens : List Nat) (k : Nat) (m : SMap Nat) (n : Nat) :
    SMap.find (q.promptWith first m (tokens.zipIdx k)) n =
      if first + k ≤ n ∧ n < first + k + tokens.length ∧ q.promptEntered n = false then tokens[n - (first + k)]? else SMap.find m n := by
  induction tokens generalizing k m with
  | nil => rw [if_neg (by simp; omega)]; rfl
  | cons t tokens ih =>
    rw [List.zipIdx_cons, Sequence.promptWith, List.foldl_cons]
    refine (ih (k + 1) _).trans ?_
    dsimp only
    obtain rfl | hn := eq_or_ne n (first + k)
    · rw [if_neg (by omega)]
      by_cases hentered : q.promptEntered (first + k) = true
      · simp [hentered]
      · simp [hentered]
    · have hkept : SMap.find (if q.promptEntered (first + k) = true then m else SMap.insert m (first + k) t) n = SMap.find m n := by
        split
        · rfl
        · exact SMap.find_insert_ne _ _ hn
      rw [hkept, List.length_cons]
      by_cases hlater : first + k + 1 ≤ n
      · have hindex : n - (first + k) = n - (first + (k + 1)) + 1 := by omega
        rw [hindex, List.getElem?_cons_succ]
        exact if_congr (and_congr (by omega) (and_congr (by omega) Iff.rfl)) rfl rfl
      · rw [if_neg (by omega), if_neg (by omega)]

end Tokens

/-! ### Prompt frames (R301, R302) -/

section PromptFrame
variable {s : S8} {slot : Nat} {q : Sequence} {sh : Sheet} {tokens : List Nat} (hslot : SMap.find s.serve.slots slot = some q)
  (hrunning : s.run.running = some sh) (first : Nat)
include hslot hrunning

/-- Tokens of the vocabulary are held by their index, but for those whose entry was made. -/
theorem S8.promptTokens_of_inside (hinside : ∀ t ∈ tokens, t < s.vocabulary sh) :
    s.promptTokens slot q first tokens = { s with
    serve := { s.serve with slots := SMap.insert s.serve.slots slot { q with prompt := q.promptWith first q.prompt tokens.zipIdx } }
    dict := s.dict.raise s.run.step Obj.promptIgnoredCount 0
      ((List.range tokens.length).filter (fun i => q.promptEntered (first + i))).length (unitField 10 (s.serve.handle slot)) first } := by
  unfold S8.promptTokens
  dsimp only
  rw [hrunning, if_neg, S8.setSequence_of_find hslot, Sequence.takeTokens_eq]
  · rfl
  · simpa using hinside

/-- A token outside the vocabulary ends the sequence with BAD_PROMPT. -/
theorem S8.promptTokens_of_outside (houtside : ∃ t ∈ tokens, s.vocabulary sh ≤ t) (hrecord : q.completion = none) :
    s.promptTokens slot q first tokens = { s with serve := { s.serve with
      slots := SMap.insert s.serve.slots slot { q with completion := some (Completion.plain 3 3 false) } } } := by
  unfold S8.promptTokens
  dsimp only
  rw [hrunning, if_pos, S8.setSequence_of_find hslot, hrecord]
  · rfl
  · simpa using houtside

end PromptFrame

section BulkPrompt
variable {s : State} {f : Frame} {v : FrameView} (harr : s.chip.frameArrives f v) (htype : v.type = 0x30) (hkind : v.at 0 1 = 1)
include harr htype hkind

/-- Prompt tokens of the owner reach the sequence that their handle names. -/
theorem exec_bulkPromptTokens_named {slot : Nat} {q : Sequence} (howner : s.chip.ports.owner = f.port)
    (hnamed : s.chip.serve.named v.handle = some (slot, q)) (hstate : q.state = .admitted ∨ q.state = .running)
    (hsome : 0 < v.at 8 2) (hfew : v.at 8 2 ≤ 53) (hinside : v.at 4 4 + v.at 8 2 ≤ q.req.promptLength) :
    exec (.bulkPromptTokens f) s = .next { s with
      chip := (s.chip.goodFrame f.port).promptTokens slot q (v.at 4 4)
        ((List.range (v.at 8 2)).map (fun i => v.at (12 + 4 * i) 4)) } := by
  rw [exec_bulkPromptTokens, execBulkPromptTokens, act_of_wf (by simp [WellFormed, harr.1]),
    S8.receiveBulk_arrives harr htype hkind howner]
  simp only [S8.goodFrame_serve, hnamed]
  rw [if_neg]
  rintro (⟨hadmitted, hrunning⟩ | hnone | hmany | hbeyond)
  · exact hstate.elim hadmitted hrunning
  · omega
  · omega
  · omega

/-- Prompt tokens from the port that does not own the module, or for no sequence, are lost. -/
theorem exec_bulkPromptTokens_lost (hlost : s.chip.ports.owner ≠ f.port ∨ s.chip.serve.named v.handle = none) :
    exec (.bulkPromptTokens f) s = .next { s with chip := (s.chip.goodFrame f.port).frameLost } := by
  rw [exec_bulkPromptTokens, execBulkPromptTokens, act_of_wf (by simp [WellFormed, harr.1])]
  by_cases howner : s.chip.ports.owner = f.port
  · rw [S8.receiveBulk_arrives harr htype hkind howner]
    simp only [S8.goodFrame_serve, hlost.resolve_left (not_not_intro howner)]
  · rw [S8.receiveBulk_notOwner harr htype howner]

end BulkPrompt

/-- Settles O50: a prompt frame's tokens go to `Sequence.promptWith`, and every other frame is good or lost and nothing else. -/
theorem framesBringPromptTokens : Obligations.FramesBringPromptTokens := by
  refine ⟨?idle, ?lost, ?tokens, fun f v s harr htype hkind hlost => exec_bulkPromptTokens_lost harr htype hkind hlost⟩
  case idle =>
    intro f v s harr htype
    rw [exec_idleFrame, execIdleFrame, act_of_wf (by simp [WellFormed, harr.1]), S8.receive_arrives harr htype]
  case lost =>
    intro f s hlen hport hlost
    rw [exec_idleFrame, execIdleFrame, act_of_wf (by simp [WellFormed, hlen]), S8.receive_lost _ hport rfl hlost]
  case tokens =>
    intro f v s sh slot first count shift q tokens harr htype hkind howner hnamed hstate hfirst hcount hsome hfew hinside htokens hrunning
      hshift
    have hexec := exec_bulkPromptTokens_named harr htype hkind howner hnamed hstate (hcount ▸ hsome) (hcount ▸ hfew)
      (hfirst ▸ hcount ▸ hinside)
    have hslot : SMap.find (s.chip.goodFrame f.port).serve.slots slot = some q := Serving.find_of_named hnamed
    have hlength : tokens.length = count := by simp [htokens]
    have hentered (n : Nat) : q.promptEntered n = decide (n + shift < q.entered) := by rw [hshift]; rfl
    rw [← hfirst, ← hcount, ← htokens] at hexec
    refine ⟨fun hvocabulary => ?held, fun houtside hrecord => ?bad⟩
    case held =>
      rw [S8.promptTokens_of_inside hslot hrunning _ hvocabulary] at hexec
      refine ⟨_, hexec, ?_, ⟨_, SMap.find_insert_self .., fun i hi hnew => ?_, fun n hn => ?_⟩, fun n hn => SMap.find_insert_ne _ _ hn⟩
      · simp only [hlength, hentered]
        rfl
      · rw [Sequence.find_promptWith, if_pos ⟨by omega, by omega, by rw [hentered]; exact decide_eq_false (by omega)⟩]
        congr 1
        omega
      · rw [Sequence.find_promptWith, if_neg]
        rw [hentered, decide_eq_false_iff_not]
        omega
    case bad =>
      rw [S8.promptTokens_of_outside hslot hrunning _ houtside hrecord] at hexec
      exact ⟨_, hexec, rfl, SMap.find_insert_self ..⟩

end Sys2Proof.Machine

/-! PROOFS. The control cycle and write ownership (R295, R299, R304, R305, R320, R324). -/

namespace Sys2Proof.Machine

/-! ### What the cycle boundary's filling and sending leave of the ports (R299, R304, R305) -/

/-- What of the ports only the end of a cycle and a move of ownership change: the owner, the release asked for, the cycle and the
answer records of the cycle. -/
def Ports.desk (p : Ports) : Port × Bool × Nat × List AnswerRecord × List AnswerRecord :=
  (p.owner, p.releaseAsked, p.cycle, p.a.records, p.b.records)

theorem Ports.desk_set {p : Ports} {w : Port} {st : PortState} (h : st.records = (p.get w).records) :
    (p.set w st).desk = p.desk := by
  cases w <;> simp_all [Ports.desk, Ports.set, Ports.get]

theorem Ports.desk_onLive (p : Ports) {f : PortState → PortState} (h : ∀ st, (f st).records = st.records) :
    (p.onLive f).desk = p.desk := by
  simp only [Ports.onLive, Ports.desk, Prod.mk.injEq, true_and]
  constructor <;> split_ifs <;> simp [h]

/-- Sending a frame leaves the answer records and the cycle of the last good frame. -/
theorem PortState.next_keeps {st rest : PortState} {u : UpFrame} (h : st.next = some (u, rest)) :
    rest.records = st.records ∧ rest.lastGood = st.lastGood := by
  unfold PortState.next at h
  split at h <;> cases h <;> exact ⟨rfl, rfl⟩

theorem PortState.fill_keeps (st : PortState) (slots : List Nat) :
    (st.fill slots).records = st.records ∧ (st.fill slots).lastGood = st.lastGood := by
  refine List.foldlRecOn (motive := fun (a : PortState) => a.records = st.records ∧ a.lastGood = st.lastGood) _ _ ⟨rfl, rfl⟩
    fun a ha n _ => ?_
  split
  case h_1 => exact ha
  case h_2 u rest hnext => exact ⟨(PortState.next_keeps hnext).1.trans ha.1, (PortState.next_keeps hnext).2.trans ha.2⟩

/-- The cycle that ends sends the answers, and keeps when the last good frame came. -/
theorem PortState.closeCycle_records (st : PortState) : st.closeCycle.records = [] := rfl

theorem PortState.closeCycle_lastGood (st : PortState) : st.closeCycle.lastGood = st.lastGood := by
  refine List.foldlRecOn (motive := fun (a : PortState) => a.lastGood = st.lastGood) _ _ rfl fun a ha i _ => ?_
  split
  · exact ha
  · exact (a.fill_keeps _).2.trans ha

/-- Each port that answers is changed. -/
theorem S8.onPorts_get (s : S8) (f : PortState → PortState) (w : Port) :
    (s.onPorts f).ports.get w = if s.portAnswers w then f (s.ports.get w) else s.ports.get w := by
  cases w <;> simp only [S8.onPorts] <;> split_ifs <;> rfl

theorem S8.onPorts_frame (s : S8) (f : PortState → PortState) : s.onPorts f = { s with
    ports := { s.ports with a := (s.onPorts f).ports.get .a, b := (s.onPorts f).ports.get .b } } := by
  simp only [S8.onPorts]
  split_ifs <;> rfl

theorem S8.onPorts_desk (s : S8) {f : PortState → PortState} (h : ∀ st, (f st).records = st.records) :
    (s.onPorts f).ports.desk = s.ports.desk := by
  have hrecords (w : Port) : ((s.onPorts f).ports.get w).records = (s.ports.get w).records := by
    rw [S8.onPorts_get]
    split_ifs
    · exact h _
    · rfl
  rw [S8.onPorts_frame]
  simp only [Ports.desk, hrecords]
  rfl

/-! ### The commit (R320, R323 to R326) -/

/-- What a commit leaves as it is: memory, the run, the vats and the ports. -/
def S8.uncommitted (s : S8) : Mem × Run × Vats × Ports := (s.mem, s.run, s.vats, s.ports)

theorem S8.uncommitted_foldl {α : Type} {step : S8 → α → S8} (h : ∀ s a, (step s a).uncommitted = s.uncommitted) (l : List α) (s : S8) :
    (l.foldl step s).uncommitted = s.uncommitted :=
  List.foldlRecOn (motive := fun c => c.uncommitted = s.uncommitted) l step rfl fun c hc a _ => (h c a).trans hc

theorem S8.freeSlot_uncommitted (s : S8) (slot : Nat) : (s.freeSlot slot).uncommitted = s.uncommitted := by
  rw [S8.freeSlot_frame]
  rfl

theorem S8.finish_uncommitted (s : S8) (slot : Nat) (c : Completion) : (s.finish slot c).uncommitted = s.uncommitted := by
  rw [S8.finish_frame]
  rfl

theorem S8.commitToken_uncommitted (s : S8) (slot : Nat) (t : SampledToken) : (s.commitToken slot t).uncommitted = s.uncommitted := by
  unfold S8.commitToken
  split
  case h_1 => rfl
  case h_2 q hslot =>
    split_ifs
    · rfl
    · rw [S8.setSequence_of_find hslot]
      rfl

theorem S8.commitEnded_uncommitted (s : S8) (e : Nat × Sequence × Completion) : (s.commitEnded e).uncommitted = s.uncommitted := by
  unfold S8.commitEnded
  dsimp only
  split_ifs <;> rfl

theorem S8.commitEnd_uncommitted (s : S8) (slot : Nat) (tokens : List SampledToken) (commit : Bool) :
    (s.commitEnd slot tokens commit).uncommitted = s.uncommitted := by
  unfold S8.commitEnd
  split
  case h_1 => rfl
  case h_2 q _ =>
    split
    case isTrue =>
      split
      · split_ifs
        · exact s.finish_uncommitted ..
        · rfl
        · rfl
      · split_ifs
        · exact s.freeSlot_uncommitted ..
        · rfl
    case isFalse =>
      split
      · exact s.finish_uncommitted ..
      · split_ifs
        · exact s.finish_uncommitted ..
        · exact s.finish_uncommitted ..
        · rfl

theorem S8.commitSlot_uncommitted (s : S8) (commit : Bool) (slot : Nat) : (s.commitSlot commit slot).uncommitted = s.uncommitted := by
  unfold S8.commitSlot
  split
  case h_1 => rfl
  case h_2 q hslot =>
    refine (S8.commitEnd_uncommitted ..).trans ((S8.uncommitted_foldl (fun c t => c.commitToken_uncommitted slot t) _ _).trans ?_)
    rw [S8.setSequence_of_find hslot]
    rfl

/-- A module whose slots and ended sequences are committed, before their records are sent. -/
def S8.slotsCommitted (s : S8) : S8 :=
  s.serve.laneOrder.foldl (fun c slot => c.commitSlot (s.run.step ≠ s.serve.commitStep) slot)
    (s.serve.finished.foldl S8.commitEnded { s with serve := { s.serve with finished := [] } })

theorem S8.commit_eq (s : S8) : s.commit = { s.slotsCommitted with
    serve := { s.slotsCommitted.serve with finished := [], commitStep := s.slotsCommitted.run.step }
    ports := s.slotsCommitted.ports.onLive (fun st => { st with
      tokens := st.tokens ++ s.dueTokens
      records07 := st.records07 ++ s.slotsCommitted.serve.finished.map (fun e => recordFrame e.1 e.2.1 e.2.2) }) } := rfl

theorem S8.slotsCommitted_uncommitted (s : S8) : s.slotsCommitted.uncommitted = s.uncommitted :=
  (S8.uncommitted_foldl (fun c slot => c.commitSlot_uncommitted _ slot) _ _).trans
    (S8.uncommitted_foldl S8.commitEnded_uncommitted _ _)

theorem S8.commit_desk (s : S8) : s.commit.ports.desk = s.ports.desk := by
  rw [S8.commit_eq]
  exact (Ports.desk_onLive _ (by intro; rfl)).trans (congrArg (fun c => c.2.2.2.desk) s.slotsCommitted_uncommitted)

/-- A commit sends the record of every sequence that has ended. -/
theorem S8.commit_serve (s : S8) : s.commit.serve.finished = [] ∧ s.commit.serve.commitStep = s.run.step :=
  ⟨rfl, congrArg (fun c => c.2.1.step) s.slotsCommitted_uncommitted⟩

/-! ### Ownership (R304) -/

theorem S8.endTransfer_desk (s : S8) (t : DictTransfer) (status : Nat) : (s.endTransfer t status).ports.desk = s.ports.desk :=
  Ports.desk_set rfl

/-- Segmented writes that end ABORTED one after another change the dictionary and the ports, not their desk. -/
theorem S8.foldl_endTransfer (s : S8) (l : List DictTransfer) (status : Nat) : ∃ dict ports,
    ports.desk = s.ports.desk ∧ l.foldl (fun s t => s.endTransfer t status) s = { s with dict := dict, ports := ports } := by
  induction l generalizing s with
  | nil => exact ⟨_, _, rfl, rfl⟩
  | cons t l ih =>
    obtain ⟨dict, ports, hdesk, heq⟩ := ih (s.endTransfer t status)
    exact ⟨dict, ports, hdesk.trans (s.endTransfer_desk t status), heq⟩

/-- Ownership moves to the other port, what was asked for being done; where it does not move, nothing was asked. -/
theorem S8.moveOwner_eq (s : S8) : ∃ dict ports, s.moveOwner = { s with dict := dict, ports := ports } ∧
    ports.desk = (if s.ports.moves then otherPort s.ports.owner else s.ports.owner, false, s.ports.desk.2.2) := by
  unfold S8.moveOwner
  split
  case isTrue hmoves =>
    obtain ⟨dict, ports, hdesk, heq⟩ := s.foldl_endTransfer (s.dict.transfers.filter (fun t => t.write && t.port = s.ports.owner)) statusAborted
    dsimp only
    rw [heq]
    exact ⟨_, _, rfl, congrArg (fun d => (otherPort s.ports.owner, false, d.2.2)) hdesk⟩
  case isFalse hstays =>
    have hasked : s.ports.releaseAsked = false := by
      simp only [Ports.moves, Bool.or_eq_true, not_or, Bool.not_eq_true] at hstays
      exact hstays.1
    exact ⟨_, _, rfl, by rw [Ports.desk, hasked]⟩

theorem Ports.moves_iff (p : Ports) :
    p.moves = true ↔ (p.releaseAsked = true ∨ (p.silent p.owner = true ∧ p.live (otherPort p.owner) = true)) := by
  rw [Ports.moves, Bool.or_eq_true, Bool.and_eq_true]

/-- Whether ownership moves depends on the ports' last good frames, not on what waits to be sent. -/
theorem Ports.moves_congr {p q : Ports} (howner : p.owner = q.owner) (hasked : p.releaseAsked = q.releaseAsked)
    (hcycle : p.cycle = q.cycle) (hgood : ∀ w, (p.get w).lastGood = (q.get w).lastGood) : p.moves = q.moves := by
  simp only [Ports.moves, Ports.silent, Ports.live, howner, hasked, hcycle, hgood]

/-! ### The boundary (R295, R299, R304, R305) -/

/-- Sending events changes the queue of events and the ports, not their desk. -/
theorem S8.sendEvents_eq (s : S8) : ∃ dict ports, s.sendEvents = { s with dict := dict, ports := ports } ∧ ports.desk = s.ports.desk := by
  unfold S8.sendEvents
  dsimp only
  split_ifs
  · exact ⟨_, _, rfl, rfl⟩
  · exact ⟨_, _, rfl, Ports.desk_onLive _ fun _ => rfl⟩

/-- Closing the cycle leaves the judgement of ownership as it was. -/
theorem S8.closeCycle_moves (s : S8) : (s.onPorts PortState.closeCycle).ports.moves = s.ports.moves := by
  refine Ports.moves_congr (by rw [S8.onPorts_frame]) (by rw [S8.onPorts_frame]) (by rw [S8.onPorts_frame]) fun w => ?_
  rw [S8.onPorts_get]
  split_ifs
  · exact PortState.closeCycle_lastGood _
  · rfl

/-- A port that answers has sent the answers of its cycle. -/
theorem S8.closeCycle_records {s : S8} {w : Port} (h : s.portAnswers w = true) :
    ((s.onPorts PortState.closeCycle).ports.get w).records = [] := by
  rw [S8.onPorts_get, if_pos h, PortState.closeCycle_records]

/-- What a cycle boundary leaves as it is: memory, the run and the vats. -/
def S8.machine (s : S8) : Mem × Run × Vats := (s.mem, s.run, s.vats)

theorem S8.commit_machine (s : S8) : s.commit.machine = s.machine :=
  congrArg (fun c => (c.1, c.2.1, c.2.2.1)) s.slotsCommitted_uncommitted

/-- The module when the answers of the cycle have left, ownership is settled, the commit is made and the events are sent. -/
def S8.cycleEnded (s : S8) : S8 := ((s.onPorts PortState.closeCycle).moveOwner.commit).sendEvents

theorem S8.cycleEnded_machine (s : S8) : s.cycleEnded.machine = s.machine := by
  obtain ⟨_, _, hmoved, -⟩ := (s.onPorts PortState.closeCycle).moveOwner_eq
  obtain ⟨_, _, hsent, -⟩ := ((s.onPorts PortState.closeCycle).moveOwner.commit).sendEvents_eq
  calc s.cycleEnded.machine
    _ = (s.onPorts PortState.closeCycle).moveOwner.commit.machine := by rw [S8.cycleEnded, hsent]; rfl
    _ = (s.onPorts PortState.closeCycle).moveOwner.machine := S8.commit_machine _
    _ = s.machine := by rw [hmoved]; rfl

theorem S8.cycleEnded_desk (s : S8) : s.cycleEnded.ports.desk =
    (if s.ports.moves then otherPort s.ports.owner else s.ports.owner, false, (s.onPorts PortState.closeCycle).ports.desk.2.2) := by
  obtain ⟨_, _, hmoved, hdesk⟩ := (s.onPorts PortState.closeCycle).moveOwner_eq
  obtain ⟨_, _, hsent, hdesk'⟩ := ((s.onPorts PortState.closeCycle).moveOwner.commit).sendEvents_eq
  have howner : (s.onPorts PortState.closeCycle).ports.owner = s.ports.owner := by rw [S8.onPorts_frame]
  rw [S8.closeCycle_moves, howner] at hdesk
  rw [S8.cycleEnded, hsent]
  exact hdesk'.trans ((S8.commit_desk _).trans (by rw [hmoved]; exact hdesk))

theorem S8.cycleEnded_serve (s : S8) : s.cycleEnded.serve.finished = [] ∧ s.cycleEnded.serve.commitStep = s.run.step := by
  obtain ⟨_, _, hmoved, -⟩ := (s.onPorts PortState.closeCycle).moveOwner_eq
  obtain ⟨_, _, hsent, -⟩ := ((s.onPorts PortState.closeCycle).moveOwner.commit).sendEvents_eq
  obtain ⟨hfinished, hstep⟩ := (s.onPorts PortState.closeCycle).moveOwner.commit_serve
  rw [S8.cycleEnded, hsent]
  exact ⟨hfinished, hstep.trans (by rw [hmoved]; rfl)⟩

/-- The boundary fills the slots of the cycle that begins, and the cycle number rises. -/
theorem S8.controlBoundary_eq (s : S8) : ∃ ports : Ports, ports.desk = s.cycleEnded.ports.desk ∧
    s.controlBoundary = { s.cycleEnded with ports := { ports with cycle := ports.cycle + 1 } } :=
  ⟨(s.cycleEnded.onPorts (fun st => st.fill (List.range 12))).ports,
    s.cycleEnded.onPorts_desk fun st => (st.fill_keeps _).1, rfl⟩

/-- Settles O51: the boundary is `S8.cycleEnded`, which moves the owner and commits, and the slots of the cycle that begins. -/
theorem cyclesTurn : Obligations.CyclesTurn := by
  refine ⟨?release, ?boundary, Ports.moves_iff⟩
  case release =>
    intro w s harr hvalue
    refine ⟨_, ?_, rfl⟩
    rw [exec_ownerRelease, execOwnerRelease, act_of_wf rfl, S8.performWrite_ok harr (by decide) rfl]
    simp only [ownerReleaseEffect, hvalue, if_true]
  case boundary =>
    intro s
    obtain ⟨ports, hfilled, heq⟩ := s.chip.controlBoundary_eq
    have hmachine := s.chip.cycleEnded_machine
    have hdesk := hfilled.trans s.chip.cycleEnded_desk
    obtain ⟨hfinished, hstep⟩ := s.chip.cycleEnded_serve
    have hcycle : (s.chip.onPorts PortState.closeCycle).ports.cycle = s.chip.ports.cycle := by rw [S8.onPorts_frame]
    simp only [S8.machine, Ports.desk, Prod.mk.injEq, hcycle] at hmachine hdesk
    obtain ⟨hmem, hrun, hvats⟩ := hmachine
    obtain ⟨howner, hasked, hnumber, ha, hb⟩ := hdesk
    refine ⟨_, (exec_controlCycleBoundary s).trans (act_of_wf rfl), rfl, ?_⟩
    rw [heq]
    refine ⟨congrArg (· + 1) hnumber, howner, hasked, hmem, hrun, hvats, hfinished, hstep, fun w hw => ?_⟩
    cases w
    · exact ha.trans (S8.closeCycle_records hw)
    · exact hb.trans (S8.closeCycle_records hw)

end Sys2Proof.Machine

/-! PROOFS. Shards that are whole, and the blocks they hold (R333, R362, R363). -/

namespace Sys2Proof.Machine

/-! ### A shard that is whole (R362, R363) -/

theorem exec_shardReceived_whole {s : State} {n : Nat} {u : Wheel} {g : ShardFetch}
    (h : s.chip.wheels.fetcher n (fun u f => !f.idle && u.whole n f) = some (u, g)) :
    exec (.shardReceived n) s = .next { s with chip := s.chip.shardWhole u n g } := by
  rw [exec_shardReceived, execShardReceived, act_of_wf rfl, h]

/-- A module that has verified a shard and written it to the golden partition. -/
def S8.shardVerified (s : S8) (u : Wheel) (n : Nat) (shard : Bytes) : S8 :=
  S8.keepShard { s with wheels := s.wheels.set u.key (fun v => { v with
    fetching := SMap.erase v.fetching n, verified := insertNat n v.verified }) } u.key n shard

/-- A shard of the manifest's digest without a malformed block is written, and then its blocks are taken up. -/
theorem S8.shardWhole_of_digest {u : Wheel} {n : Nat} {g : ShardFetch} {shard : Bytes} (s : S8)
    (hshard : shard = assemble (u.shardLength n) g.segments) (hdigest : sha256 shard = (u.manifest.shards.getD n (0, [])).2)
    (hformed : u.shardMalformed shard n = false) :
    s.shardWhole u n g = ((s.shardVerified u n shard).becomeReady u.key).fetchMore.programmeMore := by
  subst hshard
  unfold S8.shardWhole
  dsimp only
  rw [if_pos hdigest, if_neg (Bool.eq_false_iff.1 hformed)]
  rfl

/-! ### A shard of the manifest's digest with a block that is not of its own (R333, R354, R363) -/

/-- A shard of one block, of no bytes, whose BlockDigest is zero: not the SHA-256 of no bytes. -/
@[irreducible] def unsoundShard : Bytes := zeros 576

/-- That shard as it stands when its last byte has come from the first source. -/
def unsoundFetch : ShardFetch := { segments := [(0, unsoundShard)], source := 0, wait := 1, idle := false }

/-- A wheel version that loads the shard for vat 5 of die 0, its manifest naming the shard's own digest. -/
def unsoundWheel : Wheel :=
  { Wheel.fresh 2 1
      { wheelId := 2, version := 1, shardCount := 1, blockCount := 1, vocabulary := 16, shards := [(576, sha256 unsoundShard)] }
      [{ block := 0, vat := 5, lostDie := 0xFF }] with
    fetching := [(0, unsoundFetch)] }

/-- A module that loads it, all its dies in service. -/
def unsoundLoad : S8 :=
  { S8.reset with run := { Run.reset with lostDies := [] }, wheels := { Wheels.reset with table := [unsoundWheel] } }

theorem shardBlock_unsoundShard : shardBlock unsoundShard 0 = [] := by decide +kernel

theorem blockSound_unsoundShard : blockSound unsoundShard 0 = false := by decide +kernel

/-- The block is in form: it names no lifted row, no outlier, and no byte of it is 0x80. -/
theorem shardMalformed_unsoundShard : unsoundWheel.shardMalformed unsoundShard 0 = false := by
  have hblocks : unsoundWheel.blocksIn 0 = 1 := rfl
  have hentry : leAt unsoundShard 520 1 = 0 ∧ leAt unsoundShard 522 2 = 0 := by decide +kernel
  have hblock : leAt [] 0 4 = 0 ∧ leAt [] 8 1 = 0 ∧ leAt [] 10 2 = 0 := by decide
  have hweights (i : Nat) : byteAt [] i = 0 := rfl
  simp [Wheel.shardMalformed, blockMalformed, hblocks, shardBlock_unsoundShard, hentry, hblock, hweights]

theorem fetcher_unsoundLoad : unsoundLoad.wheels.fetcher 0 (fun u f => !f.idle && u.whole 0 f) = some (unsoundWheel, unsoundFetch) := by
  decide +kernel

theorem assemble_unsoundFetch : unsoundShard = assemble (unsoundWheel.shardLength 0) unsoundFetch.segments := by decide +kernel

theorem sha256_unsoundShard : sha256 unsoundShard = (unsoundWheel.manifest.shards.getD 0 (0, [])).2 := rfl

/-- Taken up for its vat, the block fails the check of R363, and its shard leaves the golden partition again (R333). -/
theorem unsoundShard_dropped : SMap.find (((unsoundLoad.shardVerified unsoundWheel 0 unsoundShard).becomeReady
    unsoundWheel.key).fetchMore.programmeMore).cellar.golden (unsoundWheel.key * 65536 + 0) = none := by
  decide +kernel

/-- Refutes O56: a shard may have the manifest's digest and a block that does not have its BlockDigest. SHARD_RECEIVED then writes the
shard, finds the block unsound as it takes it up, and drops the shard in the same command. -/
theorem not_shardsAndBlocksAreVerified : ¬ Obligations.ShardsAndBlocksAreVerified := by
  rintro ⟨⟨-, -, -, -, hwhole, -⟩, -⟩
  obtain ⟨t, hexec, -, hgolden, -⟩ := (hwhole 0 { chip := unsoundLoad, pending := [] } unsoundWheel unsoundFetch unsoundShard
    fetcher_unsoundLoad assemble_unsoundFetch).1 sha256_unsoundShard
  have hdropped := exec_shardReceived_whole (s := { chip := unsoundLoad, pending := [] }) fetcher_unsoundLoad
  rw [S8.shardWhole_of_digest _ assemble_unsoundFetch sha256_unsoundShard shardMalformed_unsoundShard] at hdropped
  obtain rfl := Host.Outcome.next.inj (hexec.symm.trans hdropped)
  cases hgolden.symm.trans unsoundShard_dropped

end Sys2Proof.Machine

/-! PROOFS. Pause images and their keys (R317, R318, R337, R339 to R341). -/

namespace Sys2Proof.Machine

/-! ### Pause keys (R341) -/

/-- A key is its entry number, zero and its Nonce, from the lowest bit up. -/
theorem pauseKey_eq_packed (n nonce : Nat) : pauseKey n nonce = packed [(16, n), (16, 0), (32, nonce)] := by
  simp [pauseKey, packed]
  omega

theorem pauseKey_fields {n nonce : Nat} (hn : n < 2 ^ 16) (hnonce : nonce < 2 ^ 32) :
    field (pauseKey n nonce) 0 16 = n ∧ field (pauseKey n nonce) 16 16 = 0 ∧ field (pauseKey n nonce) 32 32 = nonce ∧
      pauseKey n nonce < 2 ^ 64 := by
  have hfit : ∀ e ∈ [(16, n), (16, 0), (32, nonce)], e.2 < 2 ^ e.1 := by simpa using ⟨hn, hnonce⟩
  have hfields := fieldsOf_packed_zero hfit
  rw [← pauseKey_eq_packed] at hfields
  simp only [List.map_cons, List.map_nil, fieldsOf, List.cons.injEq, Prod.mk.injEq, true_and, and_true] at hfields
  obtain ⟨hentry, hzero, hnonce⟩ := hfields
  exact ⟨hentry, hzero, hnonce, by rw [pauseKey_eq_packed]; exact packed_lt hfit⟩

theorem pauseKey_ne_zero (n : Nat) {nonce : Nat} (h : 0 < nonce) : pauseKey n nonce ≠ 0 := by
  unfold pauseKey
  omega

theorem Cellar.named_eq_some {c : Cellar} {key n : Nat} {e : PauseEntry} : c.named key = some (n, e) ↔
    n = field key 0 16 ∧ field key 16 16 = 0 ∧ field key 32 32 = e.nonce ∧ SMap.find c.index n = some e ∧ e.state = 2 := by
  unfold Cellar.named
  constructor
  case mp =>
    intro h
    split at h
    case h_1 => cases h
    case h_2 x hx =>
      split_ifs at h with hkey
      obtain ⟨rfl, rfl⟩ := Prod.mk.inj (Option.some.inj h)
      obtain ⟨hstate, hzero, hnonce⟩ := hkey
      exact ⟨rfl, hzero, hnonce, hx, hstate⟩
  case mpr =>
    rintro ⟨rfl, hzero, hnonce, hfind, hstate⟩
    simp only [hfind, if_pos (And.intro hstate (And.intro hzero hnonce))]

theorem nonceOf_bounds (n : Nat) : 0 < nonceOf n ∧ nonceOf n < 2 ^ 32 := by
  have hlt := Nat.mod_lt (Config.freeValue n) (show 0 < 2 ^ 32 - 1 by decide)
  unfold nonceOf
  omega

/-! ### Storing an image (R339, R340) -/

/-- A stored image is indexed under its entry, which goes to State 2 with a new Nonce and the running sheet's LayerTag. Beside the
index, storing it takes stripes and counts what it writes. -/
theorem S8.storeImage_eq (s : S8) (slot : Nat) (q : Sequence) (n : Nat) : ∃ (x : PauseEntry) (nextStripe : Nat)
    (narrow : SMap (List Nat)) (written : Nat) (days : List Nat),
    s.storeImage slot q n = { s with
      cellar := { s.cellar with
        index := SMap.insert s.cellar.index n x, nextStripe := nextStripe, narrow := narrow, written := written, days := days }
      free := s.free + 1 } ∧
    x.state = 2 ∧ x.nonce = nonceOf s.free ∧ x.length = q.held + 1 ∧ x.layerTag = s.run.tag ∧ x.image = s.imageOf slot q ∧
    (q.state = .parked → x.expiry = 0xFFFFFFFF) :=
  ⟨_, _, _, _, _, rfl, rfl, rfl, rfl, rfl, rfl, fun hparked => if_pos hparked⟩

/-- Settles O53: a key is packed from its three fields, and a stored image's Nonce is one more than a remainder. -/
theorem pauseKeysNameStoredImages : Obligations.PauseKeysNameStoredImages := by
  refine ⟨fun n nonce hn hnonce => pauseKey_fields hn hnonce, fun c key n e => Cellar.named_eq_some, nonceOf_bounds, ?stored,
    fun n nonce h => pauseKey_ne_zero n h⟩
  case stored =>
    intro s slot n q
    obtain ⟨x, _, _, _, _, hstored, hstate, hnonce, -⟩ := s.storeImage_eq slot q n
    obtain ⟨hpos, hlt⟩ := nonceOf_bounds s.free
    exact ⟨x, by rw [hstored]; exact SMap.find_insert_self .., hnonce ▸ hpos, hnonce ▸ hlt, hstate⟩

/-! ### Digests have 32 bytes (R24) -/

theorem shaRound_length (v : List W32) (kw : W32 × W32) : (shaRound v kw).length = v.length := by
  unfold shaRound
  split <;> rfl

theorem shaBlock_length (h : List W32) (block : Bytes) : (shaBlock h block).length = h.length := by
  have hrounds (l : List (W32 × W32)) : (l.foldl shaRound h).length = h.length :=
    List.foldlRecOn (motive := fun v => v.length = h.length) _ _ rfl fun v hv kw _ => (shaRound_length v kw).trans hv
  rw [shaBlock, List.length_zipWith, hrounds, min_self]

theorem shaBlocks_length (n : Nat) (h : List W32) (m : Bytes) : (shaBlocks n h m).length = h.length := by
  induction n generalizing h m with
  | zero => rfl
  | succ n ih => rw [shaBlocks, ih, shaBlock_length]

@[simp] theorem sha256_length (m : Bytes) : (sha256 m).length = 32 := by
  have hinit : shaInit.length = 8 := rfl
  rw [sha256, length_flatMap_of_length (n := 4) (fun _ => by simp), shaBlocks_length, hinit]

/-! ### The header page (R337) -/

/-- Bytes made n long keep the fields within them. -/
theorem leAt_padTo {n i k : Nat} (b : Bytes) (h : i + k ≤ n) : leAt (padTo n b) i k = leAt b i k :=
  congrArg leNat (bytesAt_congr fun _ _ => padTo_getD b (by omega))

/-- A page of 112 bytes of fields, a 32-byte digest, zeros up to byte 256 and a list. -/
theorem padTo_headerPage {fields : Bytes} (list : Bytes) (hfields : fields.length = 112) (digest : Bytes) :
    padTo 16384 (padTo 256 (fields ++ padTo 32 digest) ++ list) = fields ++ (padTo 32 digest ++ (zeros 112 ++ padTo 16128 list)) := by
  have hlen : (fields ++ padTo 32 digest).length = 144 := by simp [hfields]
  have hpage := padTo_length_add (padTo 256 (fields ++ padTo 32 digest)) list 16128
  rw [padTo_length] at hpage
  rw [hpage, padTo_of_le (by omega), hlen]
  simp only [List.append_assoc]

/-- A header is its fields, with the count of positions at byte 4, the digest, and bytes that do not depend on the digest. -/
theorem S8.imageHeader_parts (s : S8) (q : Sequence) : ∃ fields rest : Bytes, fields.length = 112 ∧
    leAt fields 4 4 = (q.held + 1) % 2 ^ 32 ∧ ∀ digest, s.imageHeader q digest = fields ++ (padTo 32 digest ++ rest) := by
  refine ⟨_, _, padTo_length 112 _, ?length, fun digest => padTo_headerPage _ (padTo_length ..) digest⟩
  rw [leAt_padTo _ (by decide)]
  simp only [List.append_assoc]
  rw [leAt_append_right (k := 2) _ (by simp), leAt_append_right (k := 1) _ (by simp), leAt_append_right (k := 0) _ (by simp),
    leAt_append_left _ (by simp), leAt_leBytes]
  rfl

/-- The bytes that a digest is formed of do not depend on the digest field (R339). -/
theorem PauseImage.stored_of_parts {fields : Bytes} (rest : Bytes) (frames : List Bytes) (hfields : fields.length = 112)
    (digest : Bytes) : PauseImage.stored { header := fields ++ (padTo 32 digest ++ rest), frames := frames } =
      fields ++ zeros 32 ++ rest ++ padTo (16384 * ceilDiv frames.flatten.length 16384) frames.flatten := by
  have hhead : bytesAt (fields ++ (padTo 32 digest ++ rest)) 0 112 = fields := by
    rw [bytesAt, List.drop_zero, padTo_append _ hfields.ge, List.take_of_length_le hfields.le]
  have hrest : (fields ++ (padTo 32 digest ++ rest)).drop 144 = rest := by
    rw [← List.append_assoc]
    exact List.drop_left' (by simp [hfields])
  rw [PauseImage.stored, hhead, hrest]

/-- The digest field is at byte 112. -/
theorem PauseImage.digest_of_parts {fields : Bytes} (rest : Bytes) (frames : List Bytes) (hfields : fields.length = 112)
    {digest : Bytes} (hdigest : digest.length = 32) :
    PauseImage.digest { header := fields ++ (padTo 32 digest ++ rest), frames := frames } = digest := by
  rw [PauseImage.digest, bytesAt_append_right _ (k := 0) (by rw [hfields]), bytesAt_append_left _ (by simp), bytesAt, List.drop_zero,
    padTo_of_length hdigest, padTo_of_length hdigest]

theorem S8.imageOf_digest (s : S8) (slot : Nat) (q : Sequence) : (s.imageOf slot q).digest = sha256 (s.imageOf slot q).stored := by
  obtain ⟨fields, rest, hfields, -, hheader⟩ := s.imageHeader_parts q
  simp only [S8.imageOf, hheader, PauseImage.stored_of_parts rest _ hfields]
  exact PauseImage.digest_of_parts rest _ hfields (sha256_length _)

theorem S8.imageOf_length (s : S8) (slot : Nat) (q : Sequence) : (s.imageOf slot q).length = (q.held + 1) % 2 ^ 32 := by
  obtain ⟨fields, rest, hfields, hlength, hheader⟩ := s.imageHeader_parts q
  simp only [PauseImage.length, S8.imageOf, hheader]
  rw [leAt_append_left _ (by omega), hlength]

theorem S8.imageOf_header_length (s : S8) (slot : Nat) (q : Sequence) : (s.imageOf slot q).header.length = 16384 := by
  simp only [S8.imageOf, S8.imageHeader, padTo_length]

theorem S8.imageOf_frames_length (s : S8) (slot : Nat) (q : Sequence) :
    (s.imageOf slot q).frames.length = s.run.layersHeld * framesFor q.held := by
  simp [S8.imageOf, S8.imageFrames, List.length_flatMap]

/-! ### Stored frames (R337) -/

/-- A stored frame has neither handle nor generation, and the bytes between and after them are the frame's. -/
theorem storedFrame_fields {b : Bytes} (h : b.length = 10240) : leAt (storedFrame b) 0 4 = 0 ∧ leAt (storedFrame b) 16 4 = 0 ∧
    (storedFrame b).length = 10240 ∧ (storedFrame b).drop 20 = b.drop 20 ∧ bytesAt (storedFrame b) 4 12 = bytesAt b 4 12 := by
  have hzeros : (zeros 4).length = 4 := rfl
  have hzero : leAt (zeros 4) 0 4 = 0 := by decide
  unfold storedFrame
  refine ⟨?handle, ?generation, ?length, ?records, ?between⟩
  case handle =>
    rw [List.append_assoc, List.append_assoc, leAt_append_left _ hzeros.ge, hzero]
  case generation =>
    rw [leAt_append_left _ (by simp [hzeros]), leAt_append_right _ (k := 0) (by simp [hzeros]), hzero]
  case length => simp [hzeros, h]
  case records => exact List.drop_left' (by simp [hzeros])
  case between =>
    rw [List.append_assoc, List.append_assoc, bytesAt_append_right _ (k := 0) (by rw [hzeros]), bytesAt_append_left _ (by simp),
      bytesAt, List.drop_zero, padTo_of_length (bytesAt_length ..)]

theorem imagesCarryTheirDigest : Claims.ImagesCarryTheirDigest :=
  ⟨S8.imageOf_digest,
    fun s slot q => ⟨s.imageOf_length slot q, s.imageOf_frames_length slot q, s.imageOf_header_length slot q⟩,
    fun _ => storedFrame_fields⟩

/-! ### PAUSE_IMAGE_WRITTEN (R317, R318, R339, R340) -/

section ImageWritten
variable {slot : SeqSlot} {s : State} {q : Sequence} (hslot : SMap.find s.chip.serve.slots slot = some q)
include hslot

theorem exec_pauseImageWritten_idle (h : ∀ e, s.chip.mayWrite q e = false) : exec (.pauseImageWritten slot) s = .next s := by
  rw [exec_pauseImageWritten, execPauseImageWritten, act_of_wf rfl]
  simp only [hslot, h]
  cases q.entry with
  | none => rfl
  | some n => cases hfind : SMap.find s.chip.cellar.index n <;> simp [hfind]

section Written
variable {n : Nat} {e : PauseEntry} (hentry : q.entry = some n) (hindex : SMap.find s.chip.cellar.index n = some e)
  (hmay : s.chip.mayWrite q e = true)
include hentry hindex hmay

theorem exec_pauseImageWritten_parked (hparked : q.state = .parked) :
    exec (.pauseImageWritten slot) s = .next { s with chip := s.chip.storeImage slot q n } := by
  rw [exec_pauseImageWritten, execPauseImageWritten, act_of_wf rfl]
  simp [hslot, hentry, hindex, hmay, hparked]

theorem exec_pauseImageWritten_paused (hpausing : q.state = .pausing) : exec (.pauseImageWritten slot) s = .next { s with
    chip := (s.chip.storeImage slot q n).setSequence slot (fun q' => { q' with
      entry := none
      completion := some
        { outcome := 2, error := 0, promiseBroken := false, pauseKey := pauseKey n (nonceOf s.chip.free)
          digest := (s.chip.imageOf slot q).digest } }) } := by
  rw [exec_pauseImageWritten, execPauseImageWritten, act_of_wf rfl]
  simp [hslot, hentry, hindex, hmay, hpausing]

end Written

end ImageWritten

/-- An image is written only of a sequence that gives way. -/
theorem S8.mayWrite_state {s : S8} {q : Sequence} {e : PauseEntry} (h : s.mayWrite q e = true) :
    q.state = .pausing ∨ q.state = .parked := by
  simp only [S8.mayWrite, Bool.and_eq_true, Bool.or_eq_true, decide_eq_true_eq] at h
  obtain ⟨⟨⟨hstate, -⟩, -⟩, -⟩ := h
  exact hstate

theorem S8.mayWrite_of_flying {s : S8} {q : Sequence} {sh : Sheet} (hrunning : s.run.running = some sh)
    (hflying : (sh.stillFlying q s.run.step).isEmpty = false) (e : PauseEntry) : s.mayWrite q e = false := by
  simp [S8.mayWrite, hrunning, hflying]

theorem pauseImagesReachTheCellar : Claims.PauseImagesReachTheCellar := by
  refine ⟨?written, fun slot s q sh hslot hrunning hflying => exec_pauseImageWritten_idle hslot (S8.mayWrite_of_flying hrunning hflying)⟩
  intro slot s q n e hslot hentry hindex hmay
  obtain ⟨x, nextStripe, narrow, written, days, hstored, hx⟩ := s.chip.storeImage_eq slot q n
  have hothers (m : Nat) (hm : m ≠ n) : SMap.find (SMap.insert s.chip.cellar.index n x) m = SMap.find s.chip.cellar.index m :=
    SMap.find_insert_ne _ _ hm
  obtain hpausing | hparked := S8.mayWrite_state hmay
  case inl =>
    have hexec := exec_pauseImageWritten_paused hslot hentry hindex hmay hpausing
    rw [hstored, S8.setSequence_of_find (by exact hslot)] at hexec
    exact ⟨_, hexec, rfl, ⟨x, SMap.find_insert_self .., hx⟩, hothers,
      fun hparked => (by rw [hpausing] at hparked; cases hparked), fun _ => SMap.find_insert_self ..⟩
  case inr =>
    have hexec := exec_pauseImageWritten_parked hslot hentry hindex hmay hparked
    rw [hstored] at hexec
    exact ⟨_, hexec, rfl, ⟨x, SMap.find_insert_self .., hx⟩, hothers, fun _ => rfl,
      fun hpausing => (by rw [hpausing] at hparked; cases hparked)⟩

/-- Settles O52: the header's parts give the digest and the count, and `S8.storeImage` the entry. -/
theorem pauseImagesAreStored : Obligations.PauseImagesAreStored := ⟨imagesCarryTheirDigest, pauseImagesReachTheCellar⟩

end Sys2Proof.Machine

/-! PROOFS. One changed symbol of a word of the hoop code is found and corrected (R397). -/

namespace Sys2Proof.Machine

/-! ### The powers of α (R397) -/

theorem gfTimesPower_eq_iterate (x k : Nat) : gfTimesPower x k = gfTimesAlpha^[k] x := by
  induction k with
  | zero => rfl
  | succ k ih => rw [Function.iterate_succ_apply', ← ih, gfTimesPower]

theorem gfTimesAlpha_iterate_lt {x : Nat} (h : x < 256) (k : Nat) : gfTimesAlpha^[k] x < 256 := by
  induction k with
  | zero => exact h
  | succ k ih => rw [Function.iterate_succ_apply']; exact gfTimesAlpha_lt ih

theorem gfTimesAlpha_ne_zero {x : Nat} (h : x ≠ 0) : gfTimesAlpha x ≠ 0 := by
  unfold gfTimesAlpha
  split
  case isTrue =>
    intro hzero
    have hodd := Nat.xor_eq_zero_iff.1 hzero
    omega
  case isFalse => omega

theorem gfTimesAlpha_iterate_ne_zero {x : Nat} (h : x ≠ 0) (k : Nat) : gfTimesAlpha^[k] x ≠ 0 := by
  induction k with
  | zero => exact h
  | succ k ih => rw [Function.iterate_succ_apply']; exact gfTimesAlpha_ne_zero ih

/-- Multiplying by α loses nothing. -/
theorem gfTimesAlpha_inj {x y : Nat} (hx : x < 256) (hy : y < 256) (h : gfTimesAlpha x = gfTimesAlpha y) : x = y := by
  by_contra hne
  refine gfTimesAlpha_ne_zero (mt Nat.xor_eq_zero_iff.1 hne) ?_
  rw [gfTimesAlpha_xor hx hy, h, Nat.xor_self]

/-- No power of α from 1 to 31 leaves a symbol but zero as it is: the order of α is 255. -/
theorem gfTimesAlpha_iterate_ne_self {x m : Nat} (hx : x < 256) (hzero : x ≠ 0) (hm : m < 31) : gfTimesAlpha^[m + 1] x ≠ x := by
  have hcheck : ∀ x < 256, x ≠ 0 → x ∉ List.iterate gfTimesAlpha (gfTimesAlpha x) 31 := by decide +kernel
  exact fun h => hcheck x hx hzero (List.mem_iterate.2 ⟨m, hm, h.symm⟩)

/-- A symbol but zero at two degrees of a word of at most 32 symbols gives different values at α. -/
theorem gfTimesAlpha_iterate_inj {x j k : Nat} (hx : x < 256) (hzero : x ≠ 0) (hj : j < 32) (hk : k < 32)
    (h : gfTimesAlpha^[j] x = gfTimesAlpha^[k] x) : j = k := by
  induction j generalizing k with
  | zero =>
    cases k with
    | zero => rfl
    | succ k => exact absurd h.symm (gfTimesAlpha_iterate_ne_self hx hzero (by omega))
  | succ j ih =>
    cases k with
    | zero => exact absurd h (gfTimesAlpha_iterate_ne_self hx hzero (by omega))
    | succ k =>
      rw [Function.iterate_succ_apply', Function.iterate_succ_apply'] at h
      rw [ih (by omega) (by omega) (gfTimesAlpha_inj (gfTimesAlpha_iterate_lt hx j) (gfTimesAlpha_iterate_lt hx k) h)]

/-! ### One symbol changed (R397) -/

theorem foldl_syndrome0_xor (c : Nat) (l : List Nat) (acc : Nat) :
    l.foldl (fun acc s => acc ^^^ s) (acc ^^^ c) = l.foldl (fun acc s => acc ^^^ s) acc ^^^ c := by
  induction l generalizing acc with
  | nil => rfl
  | cons x l ih => rw [List.foldl_cons, List.foldl_cons, Nat.xor_right_comm, ih]

/-- A difference in the symbols so far comes through the rest of the word multiplied by α once a symbol. -/
theorem foldl_syndrome1_xor {c : Nat} (hc : c < 256) (l : Bytes) {acc : Nat} (hacc : acc < 256) :
    (l.map BitVec.toNat).foldl (fun acc s => gfTimesAlpha acc ^^^ s) (acc ^^^ c) =
      (l.map BitVec.toNat).foldl (fun acc s => gfTimesAlpha acc ^^^ s) acc ^^^ gfTimesAlpha^[l.length] c := by
  induction l generalizing acc c with
  | nil => rfl
  | cons x l ih =>
    rw [List.map_cons, List.foldl_cons, List.foldl_cons, gfTimesAlpha_xor hacc hc, Nat.xor_right_comm,
      ih (gfTimesAlpha_lt hc) (xor_lt_256 (gfTimesAlpha_lt hacc) x.isLt), List.length_cons, Function.iterate_succ_apply]

theorem syndrome1_lt (a : Bytes) : syndrome1 (a.map BitVec.toNat) < 256 := (remainderOf_hoopRemainder a).2.2.1

/-- A word's value at 1 and at α after one symbol, with the symbols b behind it, was changed by e. -/
theorem syndromes_changed (a b : Bytes) (x e : Byte) :
    syndrome0 ((a ++ (x ^^^ e) :: b).map BitVec.toNat) = syndrome0 ((a ++ x :: b).map BitVec.toNat) ^^^ e.toNat ∧
    syndrome1 ((a ++ (x ^^^ e) :: b).map BitVec.toNat) =
      syndrome1 ((a ++ x :: b).map BitVec.toNat) ^^^ gfTimesAlpha^[b.length] e.toNat := by
  constructor
  · rw [List.map_append, List.map_append, syndrome0_append, syndrome0_append, List.map_cons, List.map_cons, List.foldl_cons,
      List.foldl_cons, BitVec.toNat_xor, ← Nat.xor_assoc, foldl_syndrome0_xor]
  · rw [List.map_append, List.map_append, syndrome1_append, syndrome1_append, List.map_cons, List.map_cons, List.foldl_cons,
      List.foldl_cons, BitVec.toNat_xor, ← Nat.xor_assoc,
      foldl_syndrome1_xor e.isLt _ (xor_lt_256 (gfTimesAlpha_lt (syndrome1_lt a)) x.isLt)]

/-- Data with their check symbols have the value 0 at 1 and at α. -/
theorem syndromes_append_hoopCheck (d : Bytes) :
    syndrome0 ((d ++ hoopCheck d).map BitVec.toNat) = 0 ∧ syndrome1 ((d ++ hoopCheck d).map BitVec.toNat) = 0 := by
  by_contra h
  have hgood := hoopDecode_append_hoopCheck d
  simp only [hoopDecode, h, if_false] at hgood
  split at hgood
  · cases hgood
  · split at hgood <;> cases hgood

/-- The place of the changed symbol is found among the degrees of the word. -/
theorem find_changedDegree {e n k : Nat} (he : e < 256) (hzero : e ≠ 0) (hn : n ≤ 32) (hk : k < n) :
    (List.range n).find? (fun i => gfTimesPower e i = gfTimesAlpha^[k] e) = some k := by
  rw [List.find?_range_eq_some]
  refine ⟨by simp [gfTimesPower_eq_iterate], List.mem_range.2 hk, fun j hj => ?_⟩
  have hne : gfTimesPower e j ≠ gfTimesAlpha^[k] e := fun h =>
    Nat.ne_of_lt hj (gfTimesAlpha_iterate_inj he hzero (by omega) (by omega) ((gfTimesPower_eq_iterate e j).symm.trans h))
  simp [hne]

/-- Changing the symbol again gives the word back. -/
theorem change_again (a b : Bytes) (x e : Byte) :
    (List.range (a ++ (x ^^^ e) :: b).length).map (fun j => if j = a.length then byteAt (a ++ (x ^^^ e) :: b) j ^^^ e
      else byteAt (a ++ (x ^^^ e) :: b) j) = a ++ x :: b := by
  refine List.ext_getElem (by simp) fun j hj _ => ?_
  have hlt : j < (a ++ (x ^^^ e) :: b).length := by simpa using hj
  rw [List.getElem_map, List.getElem_range, byteAt, List.getD_eq_getElem _ _ hlt]
  obtain hleft | rfl | hright := Nat.lt_trichotomy j a.length
  · rw [if_neg (by omega), List.getElem_append_left hleft, List.getElem_append_left hleft]
  · simp
  · obtain ⟨m, rfl⟩ := Nat.exists_eq_add_of_lt hright
    simp [List.getElem_append_right, Nat.add_assoc]

/-- A word of the code with one symbol changed is corrected (R397). -/
theorem hoopDecode_changed {d a b : Bytes} {x e : Byte} (hword : d ++ hoopCheck d = a ++ x :: b) (hlen : d.length ≤ 30)
    (he : e ≠ 0) : hoopDecode (a ++ (x ^^^ e) :: b) = .corrected d := by
  have hcount : (a ++ (x ^^^ e) :: b).length = d.length + 2 := by
    have h := congrArg List.length hword
    simpa using h.symm
  have hplace : (a ++ (x ^^^ e) :: b).length - 1 - b.length = a.length := by simp
  have hzero : e.toNat ≠ 0 := fun h => he (BitVec.eq_of_toNat_eq h)
  have hpower := gfTimesAlpha_iterate_ne_zero hzero b.length
  obtain ⟨h0, h1⟩ := syndromes_append_hoopCheck d
  obtain ⟨hs0, hs1⟩ := syndromes_changed a b x e
  rw [← hword, h0, Nat.zero_xor] at hs0
  rw [← hword, h1, Nat.zero_xor] at hs1
  have hfind := find_changedDegree (n := (a ++ (x ^^^ e) :: b).length) (k := b.length) e.isLt hzero (by omega) (by simp; omega)
  simp only [hoopDecode, hs0, hs1, hzero, hpower, false_and, if_false, or_self, hfind, hplace, BitVec.ofNat_toNat,
    BitVec.setWidth_eq, change_again, ← hword]
  rw [hcount, Nat.add_sub_cancel, List.take_left' rfl]

/-- Settles O58: a changed symbol's value and its degree are the word's values at 1 and at α. -/
theorem hoopCodeCorrectsOneSymbol : Obligations.HoopCodeCorrectsOneSymbol := by
  refine ⟨fun d _ _ => hoopDecode_append_hoopCheck d, fun d i e _ hlen hi he => ?_⟩
  have hlt : i < (d ++ hoopCheck d).length := by simpa using hi
  rw [List.modify_eq_take_cons_drop hlt]
  refine hoopDecode_changed ?_ hlen he
  rw [← List.drop_eq_getElem_cons hlt, List.take_append_drop]

end Sys2Proof.Machine

/-! PROOFS. A step, and the state right after reset (R108, R215, R236, R315, R316, R441, R461, R480, R481, R486). -/

namespace Sys2Proof.Machine

/-- Settles O1: by the two shapes of the queue. -/
theorem stepPerformsFrontCommand : Obligations.StepPerformsFrontCommand := by
  refine ⟨?front, ?idle⟩
  case front => intro c rest s h; simp only [step, h]
  case idle => intro s h; simp only [step, h]

/-- The values of the reset state, map by map: an empty map reads as its default everywhere. -/
theorem resetValues : Claims.ResetValues :=
  ⟨rfl, rfl, rfl, rfl, rfl, rfl, fun _ => rfl, fun _ _ => rfl, rfl, rfl, rfl, rfl, fun _ => rfl, rfl, rfl, fun _ => rfl, rfl⟩

/-- Settles O3: nothing is listed at reset, so every value read is a default. -/
theorem resetState : Obligations.ResetState := ⟨resetValues, rfl⟩

end Sys2Proof.Machine

/-! PROOFS. Raising events, the queue of their frames, their flags and masks (R471 to R475). -/

namespace Sys2Proof.Machine

/-! ### A raise, by the counter's key (R471, R474) -/

section ByKey
variable {d : Dict} {step obj element amount unit value o e : Nat}

theorem Dict.overflow_count_key (h : objKey o e ≠ objKey Obj.eventQueueOverflowCount 0) :
    (d.overflow step).count o e = d.count o e := SMap.getD_put_ne _ _ _ _ h

theorem Dict.overflow_flag_key (h : objKey o e ≠ objKey Obj.eventQueueOverflowCount 0) :
    SMap.find (d.overflow step).flags (objKey o e) = SMap.find d.flags (objKey o e) := SMap.find_insert_ne _ _ h

theorem Dict.overflow_count_self (d : Dict) (step : Nat) :
    (d.overflow step).count Obj.eventQueueOverflowCount 0 = (d.count Obj.eventQueueOverflowCount 0 + 1) % 2 ^ 32 :=
  SMap.getD_put_self ..

/-- What queueing a frame can do: the frame is put last, or it is dropped, or it takes the place of the oldest maskable frame; the
counters and flags are those of an overflow in the last two cases (R474). -/
theorem Dict.enqueue_cases (d : Dict) (f : EventFrame) :
    (d.queue.length < 256 ∧ (f.nonMaskable = true ∨ (d.queue.filter (fun g => !g.nonMaskable)).length < 240) ∧
      d.enqueue f = { d with queue := d.queue ++ [f] }) ∨
    ((256 ≤ d.queue.length ∨ (f.nonMaskable = false ∧ 240 ≤ (d.queue.filter (fun g => !g.nonMaskable)).length)) ∧
      (f.nonMaskable = false ∨ (d.queue.filter (fun g => !g.nonMaskable)).length = 0) ∧ d.enqueue f = d.overflow f.mark.step) ∨
    (256 ≤ d.queue.length ∧ f.nonMaskable = true ∧ (d.queue.filter (fun g => !g.nonMaskable)).length ≠ 0 ∧
      d.enqueue f = { d.overflow f.mark.step with queue := dropMaskable d.queue ++ [f] }) := by
  unfold Dict.enqueue
  dsimp only
  cases hf : f.nonMaskable
  · rw [if_neg (by simp)]
    by_cases h : d.queue.length < 256 ∧ (d.queue.filter (fun g => !g.nonMaskable)).length < 240
    · exact .inl ⟨h.1, .inr h.2, if_pos h⟩
    · exact .inr (.inl ⟨(Nat.lt_or_ge d.queue.length 256).symm.imp_right (fun hroom => ⟨rfl, Nat.not_lt.1 fun hm => h ⟨hroom, hm⟩⟩),
        .inl rfl, if_neg h⟩)
  · rw [if_pos rfl]
    by_cases h : d.queue.length < 256
    · exact .inl ⟨h, .inl rfl, if_pos h⟩
    · rw [if_neg h]
      by_cases hm : (d.queue.filter (fun g => !g.nonMaskable)).length = 0
      · exact .inr (.inl ⟨.inl (by omega), .inr hm, if_pos hm⟩)
      · exact .inr (.inr ⟨by omega, rfl, hm, if_neg hm⟩)

theorem Dict.enqueue_count_key (f : EventFrame) (h : objKey o e ≠ objKey Obj.eventQueueOverflowCount 0) :
    (d.enqueue f).count o e = d.count o e := by
  have hover := Dict.overflow_count_key (d := d) (step := f.mark.step) h
  obtain ⟨-, -, heq⟩ | ⟨-, -, heq⟩ | ⟨-, -, -, heq⟩ := d.enqueue_cases f <;> rw [heq]
  exacts [rfl, hover, hover]

theorem Dict.enqueue_flag_key (f : EventFrame) (h : objKey o e ≠ objKey Obj.eventQueueOverflowCount 0) :
    SMap.find (d.enqueue f).flags (objKey o e) = SMap.find d.flags (objKey o e) := by
  have hover := Dict.overflow_flag_key (d := d) (step := f.mark.step) h
  obtain ⟨-, -, heq⟩ | ⟨-, -, heq⟩ | ⟨-, -, -, heq⟩ := d.enqueue_cases f <;> simp only [heq]
  exacts [hover, hover]

/-- The frame of a raise. -/
def Dict.raisedFrame (d : Dict) (step obj element amount unit value : Nat) : EventFrame :=
  { obj := obj, element := element, counter := (d.count obj element + amount) % 2 ^ 32, nonMaskable := nonMaskable.contains obj,
    mark := { step := step, unit := unit, value := value } }

/-- The dictionary with a raise counted, flagged and logged, before its frame is queued. -/
def Dict.raised (d : Dict) (step obj element amount unit value : Nat) : Dict :=
  { d with
    counts := SMap.put 0 d.counts (objKey obj element) ((d.count obj element + amount) % 2 ^ 32)
    flags := SMap.insert d.flags (objKey obj element) { step := step, unit := unit, value := value }
    logged := d.raisedFrame step obj element amount unit value :: d.logged }

/-- A raise counts, flags and logs; its frame is queued where the event is non-maskable, or not flagged yet and not masked. -/
theorem Dict.raise_cases (h : 0 < amount) :
    d.raise step obj element amount unit value = d.raised step obj element amount unit value ∨
    (d.raise step obj element amount unit value =
        (d.raised step obj element amount unit value).enqueue (d.raisedFrame step obj element amount unit value) ∧
      (obj ∈ nonMaskable ∨ objKey obj element ∉ d.masked)) := by
  unfold Dict.raise
  rw [if_neg (Nat.ne_of_gt h)]
  dsimp only
  split
  case isTrue hwanted =>
    refine .inr ⟨rfl, ?_⟩
    simp only [Bool.or_eq_true, Bool.and_eq_true, Bool.not_eq_true', List.contains_eq_mem, decide_eq_true_eq,
      decide_eq_false_iff_not] at hwanted
    exact hwanted.imp id And.right
  case isFalse => exact .inl rfl

theorem Dict.raise_count_key (h : 0 < amount) (hkey : objKey obj element ≠ objKey Obj.eventQueueOverflowCount 0) :
    (d.raise step obj element amount unit value).count obj element = (d.count obj element + amount) % 2 ^ 32 := by
  have hself : (d.raised step obj element amount unit value).count obj element = (d.count obj element + amount) % 2 ^ 32 :=
    SMap.getD_put_self ..
  obtain heq | ⟨heq, -⟩ := Dict.raise_cases (d := d) (step := step) (unit := unit) (value := value) h <;> rw [heq]
  exacts [hself, (Dict.enqueue_count_key _ hkey).trans hself]

theorem Dict.raise_flag_key (h : 0 < amount) (hkey : objKey obj element ≠ objKey Obj.eventQueueOverflowCount 0) :
    SMap.find (d.raise step obj element amount unit value).flags (objKey obj element) =
      some { step := step, unit := unit, value := value } := by
  have hself : SMap.find (d.raised step obj element amount unit value).flags (objKey obj element) =
    some { step := step, unit := unit, value := value } := SMap.find_insert_self ..
  obtain heq | ⟨heq, -⟩ := Dict.raise_cases (d := d) (step := step) (unit := unit) (value := value) h <;> rw [heq]
  exacts [hself, (Dict.enqueue_flag_key _ hkey).trans hself]

/-- A raise leaves the counters and flags of every other event but the queue's overflow. -/
theorem Dict.raise_other_key (h : objKey o e ≠ objKey obj element) (hkey : objKey o e ≠ objKey Obj.eventQueueOverflowCount 0) :
    (d.raise step obj element amount unit value).count o e = d.count o e ∧
      SMap.find (d.raise step obj element amount unit value).flags (objKey o e) = SMap.find d.flags (objKey o e) := by
  obtain rfl | hpos := Nat.eq_zero_or_pos amount
  · rw [Dict.raise_zero]
    exact ⟨rfl, rfl⟩
  have hcount : (d.raised step obj element amount unit value).count o e = d.count o e := SMap.getD_put_ne _ _ _ _ h
  have hflag : SMap.find (d.raised step obj element amount unit value).flags (objKey o e) = SMap.find d.flags (objKey o e) :=
    SMap.find_insert_ne _ _ h
  obtain heq | ⟨heq, -⟩ := Dict.raise_cases (d := d) (step := step) (unit := unit) (value := value) hpos <;> rw [heq]
  · exact ⟨hcount, hflag⟩
  · exact ⟨(Dict.enqueue_count_key _ hkey).trans hcount, (Dict.enqueue_flag_key _ hkey).trans hflag⟩

end ByKey

/-! ### The queue's limits (R474) -/

/-- The maskable frames of the queue. -/
def Dict.maskables (d : Dict) : Nat := (d.queue.filter (fun g => !g.nonMaskable)).length

theorem dropMaskable_split {before after : List EventFrame} {oldest : EventFrame} (hbefore : ∀ g ∈ before, g.nonMaskable = true)
    (holdest : oldest.nonMaskable = false) : dropMaskable (before ++ oldest :: after) = before ++ after := by
  induction before with
  | nil => simp [dropMaskable, holdest]
  | cons g before ih =>
    obtain ⟨hg, hrest⟩ := List.forall_mem_cons.1 hbefore
    simp [dropMaskable, hg, ih hrest]

/-- A queue with a maskable frame is some non-maskable frames, the oldest maskable one, and the rest. -/
theorem exists_oldest_maskable {q : List EventFrame} (h : (q.filter (fun g => !g.nonMaskable)).length ≠ 0) :
    ∃ before oldest after, q = before ++ oldest :: after ∧ (∀ g ∈ before, g.nonMaskable = true) ∧ oldest.nonMaskable = false := by
  induction q with
  | nil => simp at h
  | cons g q ih =>
    cases hg : g.nonMaskable
    case false => exact ⟨[], g, q, rfl, by simp, hg⟩
    case true =>
      obtain ⟨before, oldest, after, rfl, hbefore, holdest⟩ := ih (by simpa [hg] using h)
      exact ⟨g :: before, oldest, after, rfl, List.forall_mem_cons.2 ⟨hg, hbefore⟩, holdest⟩

/-- Queueing a frame keeps the limit of 256 frames. -/
theorem Dict.enqueue_length {d : Dict} (f : EventFrame) (h : d.queue.length ≤ 256) : (d.enqueue f).queue.length ≤ 256 := by
  obtain ⟨hroom, -, heq⟩ | ⟨-, -, heq⟩ | ⟨-, -, hsome, heq⟩ := d.enqueue_cases f <;> rw [heq]
  · simpa using hroom
  · exact h
  · obtain ⟨before, oldest, after, hqueue, hbefore, holdest⟩ := exists_oldest_maskable hsome
    rw [hqueue] at h ⊢
    simpa [dropMaskable_split hbefore holdest, Nat.add_assoc] using h

/-- Queueing a frame keeps the limit of 240 maskable frames. -/
theorem Dict.enqueue_maskables {d : Dict} (f : EventFrame) (h : d.maskables ≤ 240) : (d.enqueue f).maskables ≤ 240 := by
  unfold Dict.maskables at h ⊢
  obtain ⟨-, hroom, heq⟩ | ⟨-, -, heq⟩ | ⟨-, hstrong, hsome, heq⟩ := d.enqueue_cases f <;> rw [heq]
  · obtain hstrong | hroom := hroom
    · simpa [hstrong] using h
    · have hone := List.length_filter_le (fun g : EventFrame => !g.nonMaskable) [f]
      rw [List.length_singleton] at hone
      rw [List.filter_append, List.length_append]
      omega
  · exact h
  · obtain ⟨before, oldest, after, hqueue, hbefore, holdest⟩ := exists_oldest_maskable hsome
    rw [hqueue] at h ⊢
    simp only [dropMaskable_split hbefore holdest, List.filter_append, List.filter_cons, List.filter_nil, List.length_append,
      holdest, hstrong, Bool.not_false, Bool.not_true, if_true, if_false, List.length_cons, List.length_nil, Bool.false_eq_true] at h ⊢
    omega

/-- The event frame says in its flags byte whether frames were dropped before it (R473, R474). -/
theorem eventFrame_dropped (e : EventFrame) (dropped : Bool) :
    field (leAt (eventFrame e dropped).payload 3 1) 1 1 = if dropped then 1 else 0 := by
  have hbyte : leAt (eventFrame e dropped).payload 3 1 =
    leNat (leBytes 1 ((if e.nonMaskable then 1 else 0) + if dropped then 2 else 0)) := rfl
  rw [hbyte]
  cases e.nonMaskable <;> cases dropped <;> rfl

/-- The frames sent go to every live port, the first of them saying whether frames were dropped. -/
theorem S8.sendEvents_live {c : S8} {p : Port} {e : EventFrame} {rest : List EventFrame}
    (htake : c.dict.queue.take c.eventRoom = e :: rest) (hlive : c.ports.live p = true) :
    c.sendEvents.dict.dropped = false ∧ ∃ more,
      (c.sendEvents.ports.get p).events = (c.ports.get p).events ++ eventFrame e c.dict.dropped :: more := by
  simp only [S8.sendEvents, htake, reduceCtorEq, if_false, List.zipIdx_cons, List.map_cons]
  refine ⟨trivial, (rest.zipIdx 1).map (fun e => eventFrame e.1 (decide (e.2 = 0) && c.dict.dropped)), ?_⟩
  cases p <;> simp [Ports.onLive, Ports.get, hlive]

theorem eventQueueKeepsItsLimits : Claims.EventQueueKeepsItsLimits := by
  refine ⟨?queue, fun c p e rest => S8.sendEvents_live, eventFrame_dropped⟩
  rintro d _ f _ rfl rfl hlength hmaskables
  refine ⟨Dict.enqueue_length f hlength, Dict.enqueue_maskables f hmaskables, fun hfree hmay => ?room, fun hfull => ?full⟩
  case room =>
    obtain ⟨-, -, heq⟩ | ⟨hfull, -, -⟩ | ⟨hfull, -, -, -⟩ := d.enqueue_cases f
    · exact heq
    · obtain hfull | ⟨hweak, hfull⟩ := hfull
      · omega
      · rw [hweak] at hmay
        exact absurd hmay (by simp; omega)
    · omega
  case full =>
    obtain ⟨hroom, hmay, -⟩ | ⟨-, hnone, heq⟩ | ⟨-, hstrong, hsome, heq⟩ := d.enqueue_cases f
    · obtain hfull | ⟨hweak, hfull⟩ := hfull
      · omega
      · rw [hweak] at hmay
        exact absurd hmay (by simp; omega)
    · rw [heq]
      refine ⟨rfl, Dict.overflow_count_self d f.mark.step, fun _ => rfl, fun _ _ => rfl,
        fun before oldest after hstrong hqueue _ holdest => ?_⟩
      rw [hqueue, hstrong] at hnone
      simp [holdest] at hnone
    · rw [heq]
      refine ⟨rfl, Dict.overflow_count_self d f.mark.step, fun hweak => ?_, fun _ hnone => absurd hnone hsome,
        fun before oldest after _ hqueue hbefore holdest => ?_⟩
      · rw [hstrong] at hweak
        cases hweak
      · show dropMaskable d.queue ++ [f] = _
        rw [hqueue, dropMaskable_split hbefore holdest]

theorem Dict.raise_queue_length {d : Dict} (step obj element amount unit value : Nat) (h : d.queue.length ≤ 256) :
    (d.raise step obj element amount unit value).queue.length ≤ 256 := by
  obtain rfl | hpos := Nat.eq_zero_or_pos amount
  · rwa [Dict.raise_zero]
  · obtain heq | ⟨heq, -⟩ := Dict.raise_cases (d := d) (step := step) (obj := obj) (element := element) (unit := unit)
      (value := value) hpos <;> rw [heq]
    exacts [h, Dict.enqueue_length _ h]

theorem raiseCountsAndFlags : Claims.RaiseCountsAndFlags := by
  intro d step obj element amount unit value hamount hkey
  exact ⟨Dict.raise_count_key hamount hkey, by rw [Dict.raise_flag_key hamount hkey]; rfl,
    Dict.raise_queue_length step obj element amount unit value, fun o e ho hover => Dict.raise_other_key ho hover⟩

/-- Settles O16: by what queueing a frame and raising an event can do. -/
theorem eventsAreRaisedAndQueued : Obligations.EventsAreRaisedAndQueued := ⟨eventQueueKeepsItsLimits, raiseCountsAndFlags⟩

/-! ### EventClear and EventMask (R472, R475) -/

section Clear
variable {s : S8} {value : Bytes} {obj element : Nat} (hname : (obj, element) = namedCounter value)
include hname

theorem answerValue_eventClear : s.dict.answerValue Obj.eventClear value = leBytes 4 (s.dict.count obj element) := by
  obtain ⟨rfl, rfl⟩ := Prod.mk.inj hname
  rfl

theorem eventClearEffect_unnamed (h : s.isEventCounter obj element = false) : eventClearEffect s value = (statusRange, s) := by
  simp [eventClearEffect, ← hname, h]

theorem eventClearEffect_unset (h : s.isEventCounter obj element = true)
    (hflag : SMap.find s.dict.flags (objKey obj element) = none) : eventClearEffect s value = (statusOk, s) := by
  simp [eventClearEffect, ← hname, h, hflag]

theorem eventClearEffect_stale {r : Raise} (h : s.isEventCounter obj element = true)
    (hflag : SMap.find s.dict.flags (objKey obj element) = some r) (hvalue : leAt value 8 4 ≠ s.dict.count obj element) :
    eventClearEffect s value = (statusStale, s) := by
  simp [eventClearEffect, ← hname, h, hflag, hvalue]

theorem eventClearEffect_clears {r : Raise} (h : s.isEventCounter obj element = true)
    (hflag : SMap.find s.dict.flags (objKey obj element) = some r) (hvalue : leAt value 8 4 = s.dict.count obj element) :
    eventClearEffect s value = (statusOk, { s with dict := { s.dict with flags := SMap.erase s.dict.flags (objKey obj element) } }) := by
  simp [eventClearEffect, ← hname, h, hflag, hvalue]

theorem eventMaskEffect_masks (h : s.isEventCounter obj element = true) (hbyte : leAt value 3 1 = 1) (hmay : obj ∉ nonMaskable) :
    eventMaskEffect s value =
      (statusOk, { s with dict := { s.dict with masked := insertNat (objKey obj element) s.dict.masked } }) := by
  simp [eventMaskEffect, ← hname, h, hbyte, hmay]

theorem eventMaskEffect_unmasks (h : s.isEventCounter obj element = true) (hbyte : leAt value 3 1 = 0) :
    eventMaskEffect s value =
      (statusOk, { s with dict := { s.dict with masked := eraseNat (objKey obj element) s.dict.masked } }) := by
  simp [eventMaskEffect, ← hname, h, hbyte]

end Clear

theorem eventMaskEffect_range {s : S8} {value : Bytes}
    (h : s.isEventCounter (namedCounter value).1 (namedCounter value).2 = false ∨ 1 < leAt value 3 1) :
    eventMaskEffect s value = (statusRange, s) := by
  unfold eventMaskEffect
  exact if_pos (by simpa using h)

theorem eventMaskEffect_access {s : S8} {value : Bytes} (hstrong : (namedCounter value).1 ∈ nonMaskable)
    (h : s.isEventCounter (namedCounter value).1 (namedCounter value).2 = true) (hbyte : leAt value 3 1 = 1) :
    eventMaskEffect s value = (statusAccess, s) := by
  simp [eventMaskEffect, h, hbyte, hstrong]

/-- A clear that arrives is answered with its status and the counter that it names. -/
theorem exec_eventClear_answers {w : ObjWrite} {s : State} {obj element status : Nat} {c : S8}
    (harr : s.chip.writeArrives w Obj.eventClear) (hname : (obj, element) = namedCounter w.value)
    (h : eventClearEffect s.chip w.value = (status, c)) :
    exec (.eventClear w) s = .next { s with
      chip := c.answerWrite w.port w.requestId.toNat Obj.eventClear status w.value.length
        (leBytes 4 (s.chip.dict.count obj element)) } := by
  rw [exec_eventClear, execEventClear, act_of_wf rfl, S8.performWrite_arrives harr, h, answerValue_eventClear hname]

/-- A mask that arrives is answered with its status. -/
theorem exec_eventMask_answers {w : ObjWrite} {s : State} {status : Nat} {c : S8} (harr : s.chip.writeArrives w Obj.eventMask)
    (h : eventMaskEffect s.chip w.value = (status, c)) :
    exec (.eventMask w) s = .next { s with
      chip := c.answerWrite w.port w.requestId.toNat Obj.eventMask status w.value.length [] } := by
  rw [exec_eventMask, execEventMask, act_of_wf rfl, S8.performWrite_arrives harr, h]
  rfl

/-- Settles O15: by the cases of the two effects, and by what a raise counts and flags. -/
theorem flagsClearAndMask : Obligations.FlagsClearAndMask := by
  refine ⟨?clears, ?stale, ?masks, ?range, ?access, ?unset, ?unnamed, ?raise, fun obj => by simp [nonMaskable]⟩
  case clears =>
    intro w s obj element harr hname hcounter hvalue
    cases hflag : SMap.find s.chip.dict.flags (objKey obj element)
    case none =>
      exact ⟨s.chip, exec_eventClear_answers harr hname (eventClearEffect_unset hname hcounter hflag), rfl, hflag, fun _ _ => rfl⟩
    case some r =>
      exact ⟨_, exec_eventClear_answers harr hname (eventClearEffect_clears hname hcounter hflag hvalue), rfl,
        SMap.find_erase_self .., fun k hk => SMap.find_erase_ne _ hk⟩
  case stale =>
    intro w s obj element r harr hname hcounter hflag hvalue
    exact exec_eventClear_answers harr hname (eventClearEffect_stale hname hcounter hflag hvalue)
  case masks =>
    intro w s obj element harr hname hcounter hbyte hmay
    obtain hone | hzero : leAt w.value 3 1 = 1 ∨ leAt w.value 3 1 = 0 := by omega
    · refine ⟨_, exec_eventMask_answers harr (eventMaskEffect_masks hname hcounter hone (hmay hone)), rfl, fun k => ?_⟩
      by_cases hk : k = objKey obj element <;> simp [hk, hone]
    · refine ⟨_, exec_eventMask_answers harr (eventMaskEffect_unmasks hname hcounter hzero), rfl, fun k => ?_⟩
      by_cases hk : k = objKey obj element <;> simp [hk, hzero]
  case range => exact fun w s harr h => exec_eventMask_answers harr (eventMaskEffect_range h)
  case access => exact fun w s harr hstrong h hbyte => exec_eventMask_answers harr (eventMaskEffect_access hstrong h hbyte)
  case unset =>
    intro w s obj element harr hname hcounter hflag
    exact exec_eventClear_answers harr hname (eventClearEffect_unset hname hcounter hflag)
  case unnamed =>
    intro w s obj element harr hname hcounter
    exact ⟨_, exec_eventClear_answers harr hname (eventClearEffect_unnamed hname hcounter)⟩
  case raise =>
    intro d step obj element amount unit value hpos hlt hkey
    have hcount := Dict.raise_count_key (d := d) (step := step) (unit := unit) (value := value) hpos hkey
    refine ⟨hcount, by rw [Dict.raise_flag_key hpos hkey]; rfl, fun hold => by rw [hcount]; omega, fun hmasked hweak => ?_⟩
    obtain heq | ⟨-, hstrong | hunmasked⟩ := Dict.raise_cases (d := d) (step := step) (unit := unit) (value := value) hpos
    · rw [heq]
      rfl
    · exact absurd hstrong hweak
    · exact absurd hmasked hunmasked

end Sys2Proof.Machine

/-! PROOFS. The cap loop, the monitors, the energy estimate, droop, the inlet and the sensors (R424, R426, R430 to R435, R440, R517). -/

namespace Sys2Proof.Machine

/-! ### The cap loop (R426) -/

/-- A map that lists f of each key of a list finds f of them. -/
theorem SMap.find_map_keys {α : Type} (f : Nat → α) {l : List Nat} {k : Nat} (h : k ∈ l) :
    SMap.find (l.map (fun i => (i, f i))) k = some (f k) := by
  induction l with
  | nil => cases h
  | cons i l ih =>
    rw [List.map_cons, SMap.find_cons]
    split
    case isTrue heq => rw [heq]
    case isFalse hne => exact ih ((List.mem_cons.1 h).resolve_left hne)

theorem S8.find_capLoop_clockMoves (s : S8) (average : Nat) {h : Nat} (hh : h < 16) :
    SMap.find (s.capLoop average).power.clockMoves h =
      some (capMove (s.power.clock h) (s.power.permitted h) average (s.dict.get Obj.powerCap) (s.dict.get Obj.capMargin)) :=
  SMap.find_map_keys (fun h => capMove (s.power.clock h) (s.power.permitted h) average (s.dict.get Obj.powerCap)
    (s.dict.get Obj.capMargin)) (List.mem_range.2 hh)

/-! ### The monitors (R424) -/

/-- The module after a comparison of the monitors, the fault standing or not and raised or not. -/
def S8.monitored (s : S8) (input : Nat) (rails : List Nat) (agreeing : Nat) (fault : Bool) (raised : Nat) : S8 :=
  { s with
    power := { s.power with
      input := input, rails := rails, module := if fault then max input (railFigure rails) else input, agreeing := agreeing
      monitorFault := fault }
    dict := s.dict.raise s.run.step Obj.powerMonitorFaultCount 0 raised 0 input }

theorem S8.compareMonitors_of_differ {s : S8} {input : Nat} {rails : List Nat}
    (h : max input (railFigure rails) < 10 * (max input (railFigure rails) - min input (railFigure rails))) :
    s.compareMonitors input rails = s.monitored input rails 0 true (if s.power.monitorFault then 0 else 1) := by
  have hdiffer : monitorsDiffer input (railFigure rails) = true := decide_eq_true h
  unfold S8.compareMonitors S8.monitored
  cases s.power.monitorFault <;> simp [hdiffer]

theorem S8.compareMonitors_of_agree {s : S8} {input : Nat} {rails : List Nat}
    (h : 10 * (max input (railFigure rails) - min input (railFigure rails)) ≤ max input (railFigure rails))
    (hclears : s.power.monitorFault = false ∨ 99 ≤ s.power.agreeing) :
    s.compareMonitors input rails = s.monitored input rails (s.power.agreeing + 1) false 0 := by
  have hagree : monitorsDiffer input (railFigure rails) = false := decide_eq_false (Nat.not_lt.2 h)
  have hends : (s.power.monitorFault && decide (s.power.agreeing + 1 < 100)) = false := by
    obtain hnone | hlast := hclears
    · rw [hnone, Bool.false_and]
    · rw [decide_eq_false (by omega), Bool.and_false]
  unfold S8.compareMonitors S8.monitored
  simp [hagree, hends]

theorem exec_powerMonitorCompare_next (input : Nat) {rails : List Nat} (s : State) (h : rails.length = 51) :
    exec (.powerMonitorCompare input rails) s = .next { s with chip := s.chip.compareMonitors input rails } := by
  have hwf : WellFormed (.powerMonitorCompare input rails) = true := decide_eq_true h
  rw [exec_powerMonitorCompare, execPowerMonitorCompare, act_of_wf hwf]

/-! ### The energy estimate (R430) -/

theorem exec_estimateWindow_of_end (measured : Nat) {s : State} (h : s.chip.run.windowSteps = 1024) :
    exec (.estimateWindow measured) s = .next { s with chip := s.chip.endWindow measured } := by
  rw [exec_estimateWindow, execEstimateWindow, act_of_wf rfl, windowLength, if_pos h]

theorem exec_estimateWindow_of_not_end (measured : Nat) {s : State} (h : s.chip.run.windowSteps ≠ 1024) :
    exec (.estimateWindow measured) s = .next s := by
  rw [exec_estimateWindow, execEstimateWindow, act_of_wf rfl, windowLength, if_neg h]

section Window
variable {s : S8} {measured : Nat}

/-- The eighth mismatching window in a row sets the scale to the largest ratio, and counts. -/
theorem S8.endWindow_of_eighth (h : s.run.mismatches.length = 7) (hoff : windowMismatch measured s.run.windowEnergy = true) :
    (s.endWindow measured).power.scale = (energyRatio measured s.run.windowEnergy :: s.run.mismatches).foldl max 65536 ∧
    (s.endWindow measured).dict = s.dict.raise s.run.step Obj.estimateMismatchCount 0 1 0
      (energyRatio measured s.run.windowEnergy) := by
  simp [S8.endWindow, h, hoff]

theorem S8.endWindow_of_match (h : s.run.mismatches.length < 8) (hmatch : windowMismatch measured s.run.windowEnergy = false) :
    (s.endWindow measured).run.mismatches = [] ∧ (s.endWindow measured).power.scale = s.power.scale := by
  simp [S8.endWindow, Nat.not_le.2 h, hmatch]

theorem le_foldl_max (l : List Nat) (a : Nat) : a ≤ l.foldl max a := by
  induction l generalizing a with
  | nil => exact Nat.le_refl a
  | cons x l ih => exact (Nat.le_max_left a x).trans (ih (max a x))

/-- The end of a window never lowers the scale, which is 1 until the eighth mismatch. -/
theorem S8.scale_le_endWindow (measured : Nat) (h : s.run.mismatches.length < 8 → s.power.scale = 65536) :
    s.power.scale ≤ (s.endWindow measured).power.scale := by
  by_cases hsettled : 8 ≤ s.run.mismatches.length
  · simp [S8.endWindow, hsettled]
  · have hone := h (Nat.not_le.1 hsettled)
    cases hoff : windowMismatch measured s.run.windowEnergy
    · simp [S8.endWindow, hsettled, hoff, hone]
    · by_cases heighth : s.run.mismatches.length = 7
      · simpa [S8.endWindow, hoff, hone, heighth] using (Nat.le_max_left ..).trans (le_foldl_max s.run.mismatches _)
      · simp [S8.endWindow, hsettled, hoff, hone, heighth]

end Window

theorem loopsWatchTheDraw : Claims.DrawIsWatched := by
  refine ⟨?cap, ?differ, ?agree, ?before, ?windowEnd, fun s => rfl⟩
  case cap =>
    intro average s
    exact ⟨_, rfl, rfl, rfl, rfl, fun h hh => S8.find_capLoop_clockMoves s.chip average hh⟩
  case differ =>
    rintro input rails _ s hlen rfl hoff
    rw [exec_powerMonitorCompare_next input s hlen, S8.compareMonitors_of_differ hoff]
    rfl
  case agree =>
    rintro input rails _ s hlen rfl hnear hclears
    rw [exec_powerMonitorCompare_next input s hlen, S8.compareMonitors_of_agree hnear hclears]
    rfl
  case before => exact fun measured s h => exec_estimateWindow_of_not_end measured h
  case windowEnd =>
    intro measured s h
    exact ⟨_, exec_estimateWindow_of_end measured h, rfl, fun hseven hoff => S8.endWindow_of_eighth hseven (decide_eq_true hoff),
      fun hlt hnear => S8.endWindow_of_match hlt (decide_eq_false (Nat.not_lt.2 hnear))⟩

theorem estimateScaleNeverFalls : Claims.EstimateScaleNeverFalls := by
  intro measured s t hexec hscale
  by_cases h : s.chip.run.windowSteps = 1024
  · obtain rfl := Host.Outcome.next.inj ((exec_estimateWindow_of_end measured h).symm.trans hexec)
    exact S8.scale_le_endWindow measured hscale
  · obtain rfl := Host.Outcome.next.inj ((exec_estimateWindow_of_not_end measured h).symm.trans hexec)
    exact Nat.le_refl _

/-- Settles O6: the loops' equations case by case; a window's end raises the scale or leaves it. -/
theorem drawIsWatched : Obligations.DrawIsWatched := ⟨loopsWatchTheDraw, estimateScaleNeverFalls⟩

/-! ### Droop and the inlet (R431, R432, R517) -/

theorem droopStretchesOneHalf : Claims.DroopStretchesOneHalf := by
  refine ⟨fun d h period s => rfl, fun d h s => rfl, fun d h s => ⟨_, rfl, rfl, rfl, fun e => ?_⟩⟩
  exact mem_insertNat d.val e s.chip.run.losing

theorem inletSpells : Claims.InletSpells := by
  refine ⟨fun temp s h => ?high, fun temp s h => ?normal⟩
  case high =>
    rw [exec_inletHigh, execInletHigh, act_of_wf rfl]
    cases hspell : s.chip.power.inletHigh <;> simp [h]
  case normal =>
    rw [exec_inletNormal, execInletNormal, act_of_wf rfl]
    simp [Int.not_lt.2 h]

/-! ### Junction sensors (R433 to R435) -/

theorem sensorKey_inj {g h i j : Nat} (hi : i < 8) (hj : j < 8) (heq : sensorKey g i = sensorKey h j) : g = h ∧ i = j := by
  unfold sensorKey at heq
  omega

/-- A reading stored from sensor i on is found at its sensor, and no other key changes. -/
theorem getD_storeReadings (r : List Int) (m : SMap Int) (half i k : Nat) :
    SMap.getD (storeReadings m half i r) k 0 =
      if sensorKey half i ≤ k ∧ k < sensorKey half i + r.length then r.getD (k - sensorKey half i) 0 else SMap.getD m k 0 := by
  induction r generalizing m i with
  | nil => rw [if_neg (by simp), storeReadings]
  | cons x r ih =>
    have hstep : sensorKey half (i + 1) = sensorKey half i + 1 := rfl
    rw [storeReadings, ih, SMap.getD_put, hstep, List.length_cons]
    obtain hbelow | rfl | habove := Nat.lt_trichotomy k (sensorKey half i)
    · rw [if_neg (by omega), if_neg (by omega), if_neg (by omega)]
    · rw [if_neg (by omega), if_pos rfl, if_pos (by omega), Nat.sub_self, List.getD_cons_zero]
    · have hnext : k - sensorKey half i = k - (sensorKey half i + 1) + 1 := by omega
      by_cases hlt : k < sensorKey half i + 1 + r.length
      · rw [if_pos (by omega), if_pos (by omega), hnext, List.getD_cons_succ]
      · rw [if_neg (by omega), if_neg (by omega), if_neg (by omega)]

/-- A sensor out of range is broken at once. -/
theorem S8.judgeSensor_outOfRange {s : S8} {half sensor : Nat} (predicted : Int)
    (h : s.power.temp half sensor < -400 ∨ 1500 < s.power.temp half sensor) :
    (s.power.sensorState half sensor = 0 → (s.judgeSensor half sensor predicted).power.sensorState half sensor = 1) ∧
    (s.judgeSensor half sensor predicted).dict = s.dict.raise s.run.step Obj.sensorFaultCount 0
      (if s.power.sensorState half sensor = 0 then 1 else 0) (unitField 2 half) sensor := by
  have hout : inSensorRange (s.power.temp half sensor) = false := by
    simp only [inSensorRange, Bool.and_eq_false_iff, decide_eq_false_iff_not]
    omega
  refine ⟨fun hsound => ?_, ?_⟩
  · rw [Power.sensorState, S8.judgeSensor, SMap.getD_put_self]
    simp [hout, hsound]
  · simp [S8.judgeSensor, hout]

theorem S8.taken_of_broken {s : S8} {half sensor : Nat} (h : s.power.sensorState half sensor = 1) : s.taken half sensor = 950 := by
  unfold S8.taken
  rw [h]
  rfl

theorem S8.taken_of_overridden {s : S8} {half sensor : Nat} (h : s.power.sensorState half sensor = 2)
    (hlasts : s.cellar.seconds < SMap.getD s.power.overrides (sensorKey half sensor) 0) :
    s.taken half sensor = SMap.getD s.power.model (sensorKey half sensor) 0 + 30 := by
  unfold S8.taken
  rw [h]
  exact if_pos hlasts

/-- A valid override of a sensor that is broken holds until it expires. -/
theorem overrideEffect_overrides {s : S8} {value : Bytes} {half sensor expiry : Nat}
    (hsigned : signedBy Config.serviceKey value = true) (hserial : leAt value 0 8 = Config.serialNumber)
    (hhalf : half = 2 * leAt value 8 1 + leAt value 9 1) (hhalves : half < 16) (hsensor : sensor = leAt value 10 1)
    (hsensors : sensor < 8) (hexpiry : expiry = leAt value 12 4) (hlasts : s.cellar.seconds < expiry)
    (hbroken : s.power.sensorState half sensor ≠ 0) :
    overrideEffect s value = (statusOk, { s with power := { s.power with
      sensors := SMap.insert s.power.sensors (sensorKey half sensor) 2
      overrides := SMap.insert s.power.overrides (sensorKey half sensor) expiry } }) := by
  subst hhalf hsensor hexpiry
  unfold overrideEffect
  dsimp only
  rw [if_pos ⟨hsigned, hserial, hlasts, hhalves, hsensors⟩, if_neg hbroken]

theorem sensorsAreJudged : Claims.SensorsAreJudged := by
  refine ⟨?sample, ?model, ?override⟩
  case sample =>
    intro d h readings s hlen
    have hwf : WellFormed (.thermalSample d h readings) = true := decide_eq_true hlen
    have hkey (g i : Nat) : sensorKey g i = 8 * g + i := rfl
    refine ⟨_, by rw [exec_thermalSample, execThermalSample, act_of_wf hwf], rfl, fun i hi => ?_, fun g i hg hi => ?_⟩
    · rw [Power.temp, getD_storeReadings, hkey, hkey, if_pos (by omega), Nat.add_zero, Nat.add_sub_cancel_left]
    · rw [Power.temp, getD_storeReadings, hkey, hkey, if_neg (by omega), Power.temp, hkey]
  case model =>
    intro d h i predicted s hout
    obtain ⟨hbreaks, hdict⟩ := S8.judgeSensor_outOfRange predicted hout
    exact ⟨_, rfl, rfl, fun hsound => ⟨hbreaks hsound, S8.taken_of_broken (hbreaks hsound)⟩, hdict⟩
  case override =>
    intro w s half sensor expiry harr hsigned hserial hhalf hhalves hsensor hsensors hexpiry hlasts hbroken
    have heffect := overrideEffect_overrides hsigned hserial hhalf hhalves hsensor hsensors hexpiry hlasts hbroken
    refine ⟨(overrideEffect s.chip w.value).2, ?_, ?_⟩
    · rw [exec_sensorOverride, execSensorOverride, act_of_wf rfl,
        S8.performWrite_ok harr (by decide) (congrArg Prod.fst heffect)]
    · rw [heffect]
      refine ⟨rfl, S8.taken_of_overridden ?_ ?_⟩
      · simp [Power.sensorState, SMap.getD_insert]
      · simpa [SMap.getD_insert] using hlasts

/-- Settles O7: droop and the inlet by their equations, sensors by the readings stored and the states judged. -/
theorem heatAndDroopAreHandled : Obligations.HeatAndDroopAreHandled := ⟨droopStretchesOneHalf, inletSpells, sensorsAreJudged⟩

end Sys2Proof.Machine

/-! PROOFS. The clock monitors and the oscillator's trim (R442 to R446). -/

namespace Sys2Proof.Machine

/-! ### The clock monitors (R443 to R445) -/

section Switch
variable {s : S8} {die : Nat}

theorem S8.switchReference_of_switched (h : s.clock.sourceOf die ≠ 0) : s.switchReference die = s := if_pos h

/-- A die that cannot hold over is on neither clock, and is to be lost. -/
theorem S8.switchReference_of_fault (h : s.clock.sourceOf die = 0) (hfault : die ∈ s.clock.oscFault) :
    s.switchReference die =
      { s with clock := { s.clock with source := SMap.insert s.clock.source die 4 }, run := s.run.lose die } := by
  simp [S8.switchReference, h, hfault]

/-- A die with a sound oscillator runs on it, from now, with its loop free. -/
theorem S8.switchReference_of_sound (h : s.clock.sourceOf die = 0) (hsound : die ∉ s.clock.oscFault) :
    s.switchReference die =
      { s with
        clock := { s.clock with
          source := SMap.insert s.clock.source die 1
          switchedAt := SMap.insert s.clock.switchedAt die s.power.uptime
          frozen := eraseNat die s.clock.frozen }
        dict := s.dict.raise s.run.step Obj.clockSourceFailCount 0 1 (unitField 1 die) 0 } := by
  simp [S8.switchReference, h, hsound]

end Switch

theorem Clocks.sourceOf_insert (c : Clocks) (die source : Nat) :
    ({ c with source := SMap.insert c.source die source } : Clocks).sourceOf die = source := by
  simp [Clocks.sourceOf, SMap.getD]

/-- The die was flagged in the window before, on its own, and its oscillator is not yet known to be at fault. -/
def Clocks.wasAlone (c : Clocks) (die : Nat) : Bool :=
  c.flagged.contains die && c.sourceOf die = 0 && !(c.oscFault.contains die)

/-- The module after a window that is flagged or not, before the reference is switched. -/
def S8.windowJudged (s : S8) (die : Nat) (flagged : Bool) : S8 :=
  { s with
    clock := { s.clock with
      flagged := if flagged then insertNat die s.clock.flagged else eraseNat die s.clock.flagged
      flagsSeen := s.clock.flagsSeen.filter (fun k => k / 8 ≠ die)
      frozen := if flagged && !(s.clock.flagged.contains die && s.clock.sourceOf die = 0) then s.clock.frozen
        else eraseNat die s.clock.frozen
      oscFault := if s.clock.wasAlone die then insertNat die s.clock.oscFault else s.clock.oscFault }
    dict := s.dict.raise s.run.step Obj.oscillatorFaultCount 0 (if s.clock.wasAlone die then 1 else 0) (unitField 1 die) 0 }

section Judged
variable {s : S8} {die count : Nat}

theorem S8.clockWindow_eq (s : S8) (die count : Nat) :
    s.clockWindow die count =
      if count = 0 ∨ (windowFlagged count ∧ s.clock.flagsSeen.any (fun k => k / 8 = die))
      then (s.windowJudged die (windowFlagged count)).switchReference die
      else s.windowJudged die (windowFlagged count) := rfl

theorem S8.clockWindow_zero (s : S8) (die : Nat) :
    s.clockWindow die 0 = (s.windowJudged die true).switchReference die := rfl

theorem windowFlagged_iff (count : Nat) : windowFlagged count = true ↔ count < 980 ∨ 1020 < count := by
  simp only [windowFlagged, decide_eq_true_eq]
  omega

theorem S8.clockWindow_of_near (h : 980 ≤ count) (h' : count ≤ 1020) : s.clockWindow die count = s.windowJudged die false := by
  have hnear : windowFlagged count = false := by
    rw [← Bool.not_eq_true, windowFlagged_iff]
    omega
  rw [S8.clockWindow_eq, hnear, if_neg (by simp; omega)]

/-- A window with edges switches nothing while no other die's flag has come. -/
theorem S8.clockWindow_of_unseen (h : count ≠ 0) (hseen : ∀ r, 8 * die ≤ r → r < 8 * die + 8 → r ∉ s.clock.flagsSeen) :
    s.clockWindow die count = s.windowJudged die (windowFlagged count) := by
  have hothers : s.clock.flagsSeen.any (fun k => k / 8 = die) = false :=
    List.any_eq_false.2 fun k hk => by
      have := hseen k
      simp only [decide_eq_true_eq]
      exact fun hdie => hseen k (by omega) (by omega) hk
  rw [S8.clockWindow_eq, hothers, if_neg (by simp [h])]

theorem S8.switchReference_flagged (s : S8) (die : Nat) : (s.switchReference die).clock.flagged = s.clock.flagged := by
  unfold S8.switchReference
  split
  · rfl
  · split <;> rfl

/-- Switching the reference changes the clocks, the counters and the dies to be lost, and nothing else. -/
theorem S8.switchReference_frame (s : S8) (die : Nat) :
    s.switchReference die = { s with
      clock := (s.switchReference die).clock, dict := (s.switchReference die).dict
      run := { s.run with losing := (s.switchReference die).run.losing } } := by
  unfold S8.switchReference
  split
  · rfl
  · split <;> rfl

theorem S8.clockWindow_frame (s : S8) (die count : Nat) :
    s.clockWindow die count = { s with
      clock := (s.clockWindow die count).clock, dict := (s.clockWindow die count).dict
      run := { s.run with losing := (s.clockWindow die count).run.losing } } := by
  rw [S8.clockWindow_eq]
  split
  · exact S8.switchReference_frame (s.windowJudged die (windowFlagged count)) die
  · rfl

theorem S8.mem_clockWindow_flagged (s : S8) (die count : Nat) :
    die ∈ (s.clockWindow die count).clock.flagged ↔ count < 980 ∨ 1020 < count := by
  have hjudged : (s.clockWindow die count).clock.flagged = (s.windowJudged die (windowFlagged count)).clock.flagged := by
    rw [S8.clockWindow_eq]
    split
    · exact S8.switchReference_flagged ..
    · rfl
  rw [hjudged, ← windowFlagged_iff, S8.windowJudged]
  cases windowFlagged count <;> simp

end Judged

/-- The module with a die's window no longer flagged. -/
def S8.unflagged (s : S8) (die : Nat) : S8 := { s with clock := { s.clock with flagged := eraseNat die s.clock.flagged } }

theorem exec_windowFlagRx_of_flagged {d r : Die} {s : State} (hne : d ≠ r) (hflag : d.val ∈ s.chip.clock.flagged) :
    exec (.windowFlagRx d r) s = .next { s with chip := (s.chip.unflagged d.val).switchReference d.val } := by
  rw [exec_windowFlagRx, execWindowFlagRx, act_of_wf rfl, if_neg hne, if_pos (List.contains_iff_mem.2 hflag), S8.unflagged]

theorem clockMonitorJudgesTheCrystal : Claims.ClockMonitorJudgesTheCrystal := by
  refine ⟨fun d count s => ⟨_, rfl, ?_⟩, ?unflagged, ?flagged, ?missing⟩
  · refine ⟨congrArg (fun c => { s with chip := c }) (S8.clockWindow_frame s.chip d.val count),
      S8.mem_clockWindow_flagged s.chip d.val count, ?near, ?stopped, ?faulted, ?alone⟩
    case near =>
      intro hlow hhigh
      simp only [S8.clockWindow_of_near hlow hhigh]
      exact ⟨rfl, rfl⟩
    case stopped =>
      rintro rfl hsource hflag hosc
      have hnot : s.chip.clock.wasAlone d.val = false := by simp [Clocks.wasAlone, hflag]
      have hsound : d.val ∉ (s.chip.windowJudged d.val true).clock.oscFault := by simpa [S8.windowJudged, hnot] using hosc
      simp only [S8.clockWindow_zero, S8.switchReference_of_sound (s := s.chip.windowJudged d.val true) hsource hsound]
      refine ⟨Clocks.sourceOf_insert .., SMap.find_insert_self .., rfl, ?_⟩
      simp [S8.windowJudged, hnot]
    case faulted =>
      rintro rfl hsource hosc
      have hnot : s.chip.clock.wasAlone d.val = false := by simp [Clocks.wasAlone, hosc]
      have hfault : d.val ∈ (s.chip.windowJudged d.val true).clock.oscFault := by simpa [S8.windowJudged, hnot] using hosc
      simp only [S8.clockWindow_zero, S8.switchReference_of_fault (s := s.chip.windowJudged d.val true) hsource hfault]
      simp [S8.windowJudged, hnot, Run.lose]
    case alone =>
      intro hcount hsource hflag hosc hseen
      have halone : s.chip.clock.wasAlone d.val = true := by simp [Clocks.wasAlone, hflag, hosc, hsource]
      simp only [S8.clockWindow_of_unseen hcount hseen]
      refine ⟨by simp [S8.windowJudged, halone], hsource, by simp [S8.windowJudged, halone]⟩
  case unflagged =>
    intro d r s hne hflag
    rw [exec_windowFlagRx, execWindowFlagRx, act_of_wf rfl]
    simp [hne, hflag]
  case flagged =>
    intro d r s hne hflag hsource hosc
    rw [exec_windowFlagRx_of_flagged hne hflag, S8.switchReference_of_sound (s := s.chip.unflagged d.val) hsource hosc]
    exact ⟨_, rfl, rfl, Clocks.sourceOf_insert .., SMap.find_insert_self .., by simp, rfl⟩
  case missing =>
    intro d s hsource
    rw [exec_missingEdge, execMissingEdge, act_of_wf rfl, if_pos hsource]

/-! ### The oscillator's trim (R442, R445, R446) -/

section Holdover
variable {d : Die} {s : State} {since : Nat}

/-- In the first 10 s after the switch a die in holdover is not steered. -/
theorem exec_holdoverSteer_of_early (hsince : SMap.find s.chip.clock.switchedAt d.val = some since)
    (h : s.chip.power.uptime < since + 10000) : exec (.holdoverSteer d) s = .next s := by
  have hspan : ¬10000 ≤ s.chip.power.uptime - since := by omega
  rw [exec_holdoverSteer, execHoldoverSteer, act_of_wf rfl]
  simp [SMap.getD, hsince, hspan]

/-- From then on it follows its tick parent, or runs free. -/
theorem exec_holdoverSteer_of_late (hsince : SMap.find s.chip.clock.switchedAt d.val = some since)
    (h : since + 10000 ≤ s.chip.power.uptime) (hsource : s.chip.clock.sourceOf d.val = 1) :
    exec (.holdoverSteer d) s = .next { s with chip :=
      if s.chip.hasTickParent then
        { s.chip with clock := { s.chip.clock with
          source := SMap.insert s.chip.clock.source d.val 2
          oscMoves := SMap.put 0 s.chip.clock.oscMoves d.val
            (SMap.getD s.chip.clock.oscMoves d.val 0 + signOf (SMap.getD s.chip.clock.correction d.val 0)) } }
      else { s.chip with clock := { s.chip.clock with source := SMap.insert s.chip.clock.source d.val 3 } } } := by
  have hspan : 10000 ≤ s.chip.power.uptime - SMap.getD s.chip.clock.switchedAt d.val s.chip.power.uptime := by
    rw [SMap.getD, hsince, Option.getD_some]
    omega
  rw [exec_holdoverSteer, execHoldoverSteer, act_of_wf rfl]
  refine congrArg (fun c => Host.Outcome.next { s with chip := c }) (if_pos ?_)
  simp [hsource, hspan]

end Holdover

theorem trimFollowsItsReference : Claims.TrimFollowsItsReference := by
  refine ⟨fun d deviation s => ⟨_, rfl, rfl, fun h => if_pos h, ?others, ?own⟩,
    fun d s since hsince h => exec_holdoverSteer_of_early hsince h, ?late⟩
  case others =>
    intro e he
    dsimp only
    split
    · rfl
    · rw [SMap.getD_put, if_neg he]
  case own =>
    have hsmall : deviation.natAbs ≤ 25 ↔ -25 ≤ deviation ∧ deviation ≤ 25 := by omega
    dsimp only
    by_cases hheld : s.chip.clock.sourceOf d ≠ 0 ∨ d.val ∈ s.chip.clock.oscFault ∨ (-25 ≤ deviation ∧ deviation ≤ 25)
    · have hstays : (s.chip.clock.sourceOf d ≠ 0 || s.chip.clock.oscFault.contains d.val || deviation.natAbs ≤ 25) = true := by
        simpa [hsmall, or_assoc] using hheld
      rw [if_pos hheld, if_pos hstays, Int.add_zero]
    · have hmoves : ¬(s.chip.clock.sourceOf d ≠ 0 || s.chip.clock.oscFault.contains d.val || deviation.natAbs ≤ 25) = true := by
        simpa [hsmall, or_assoc] using hheld
      rw [if_neg hheld, if_neg hmoves, SMap.getD_put_self, signOf]
      split
      · omega
      · rw [if_pos (by omega)]
        omega
  case late =>
    intro d s since hsince h hsource
    rw [exec_holdoverSteer_of_late hsince h hsource]
    cases hparent : s.chip.hasTickParent
    case false =>
      have hroot : s.chip.dict.get Obj.tickParentLane = 0xFF := by simpa [S8.hasTickParent] using hparent
      exact ⟨_, rfl, rfl, fun _ => ⟨Clocks.sourceOf_insert .., rfl⟩, fun hne => absurd hroot hne⟩
    case true =>
      have hchild : s.chip.dict.get Obj.tickParentLane ≠ 0xFF := by simpa [S8.hasTickParent] using hparent
      exact ⟨_, rfl, rfl, fun heq => absurd heq hchild, fun _ => ⟨Clocks.sourceOf_insert .., SMap.getD_put_self ..⟩⟩

/-- Settles O10: by the monitor's and the trim's cases. -/
theorem clocksAreKept : Obligations.ClocksAreKept := ⟨clockMonitorJudgesTheCrystal, trimFollowsItsReference⟩

end Sys2Proof.Machine

/-! PROOFS. A seam crossing's timeout and the registers of the cores that wait (R222, R452, R453). -/

namespace Sys2Proof.Machine

/-! ### Two cores' transfers and one register (R219, R222, R453) -/

/-- A core's transfer of one row to half E of its die, in the grid's row 0. -/
def rowOut (core : Nat) : RowTransfer :=
  { source := scratchRow core 0, dest := scratchRow 40 0, rows := 1, status := none, machineMode := true }

/-- Cores 3 and 2 wait for transfers across one seam crossing. Core 2 has an xfer.row waiting for a tag besides, whose register number,
37, is none of R216's: counted from core 2 it is x5 of core 3. -/
def aliased : S8 :=
  { S8.reset with cores := { S8.reset.cores with
      transfers := [(16 * 3 + 2, rowOut 3), (16 * 2 + 2, rowOut 2)]
      xferStalls := [(3, (5, 2)), (2, (6, 2))]
      tagStalls := [(2, (37, rowOut 2))] } }

/-- The module with other clocks and another dictionary. -/
def aliasedWith (clock : Clocks) (dict : Dict) : S8 := { aliased with clock := clock, dict := dict }

/-- Both cores stand in the grid's row 0, and cross the seam in it. -/
theorem crossingsTo_rowOut :
    aliased.crossingsTo 0 3 (scratchRow 40 0) = [168, 0] ∧ aliased.crossingsTo 0 2 (scratchRow 40 0) = [168, 0] := by
  have hthree : aliased.crossingsTo 0 3 (scratchRow 40 0) = [168] ++ aliased.seamOnWay 0 (gridOf 0 3) (gridOf 1 4) := rfl
  have htwo : aliased.crossingsTo 0 2 (scratchRow 40 0) = [168] ++ aliased.seamOnWay 0 (gridOf 0 2) (gridOf 1 4) := rfl
  rw [hthree, htwo, S8.seamOnWay_of_row _ _ _ _ (by decide), S8.seamOnWay_of_row _ _ _ _ (by decide)]
  decide

theorem crossingsOnWay_aliasedWith (clock : Clocks) (dict : Dict) (bridges : List Nat) (die half : Nat) (place goal : Nat × Nat) :
    (aliasedWith clock dict).crossingsOnWay bridges die half place goal = aliased.crossingsOnWay bridges die half place goal := by
  have hseam (die : Nat) (a b : Nat × Nat) : (aliasedWith clock dict).seamOnWay die a b = aliased.seamOnWay die a b := rfl
  induction bridges generalizing die half place with
  | nil => rfl
  | cons bridge bridges ih => simp only [S8.crossingsOnWay, hseam, ih]

/-- Neither the clocks nor the dictionary decide the way. -/
theorem crossesSeam_aliasedWith (clock : Clocks) (dict : Dict) (row key : Nat) (x : RowTransfer) :
    (aliasedWith clock dict).crossesSeam 0 row key x = aliased.crossesSeam 0 row key x := by
  have hattached (a : Nat) : (aliasedWith clock dict).attachedAt a = aliased.attachedAt a := rfl
  have hcores : (aliasedWith clock dict).cores = aliased.cores := rfl
  simp only [S8.crossesSeam, S8.crossingsTo, hattached, hcores, crossingsOnWay_aliasedWith]

theorem crossesSeam_rowOut :
    aliased.crossesSeam 0 0 (16 * 3 + 2) (rowOut 3) = true ∧ aliased.crossesSeam 0 0 (16 * 2 + 2) (rowOut 2) = true := by
  obtain ⟨hthree, htwo⟩ := crossingsTo_rowOut
  simp [S8.crossesSeam, rowOut, hthree, htwo]

/-- The end of core 2's transfer frees its tag 2 for the waiting xfer.row, which takes it into register 37. -/
theorem seamLost_aliasedWith (clock : Clocks) (dict : Dict) : ((aliasedWith clock dict).seamLost 0 0).cores.xreg 3 5 = 2 := by
  obtain ⟨hthree, htwo⟩ := crossesSeam_rowOut
  have hlost : (aliasedWith clock dict).cores.transfers.filter (fun e => (aliasedWith clock dict).crossesSeam 0 0 e.1 e.2) =
      [(16 * 3 + 2, rowOut 3), (16 * 2 + 2, rowOut 2)] := by
    have htransfers : (aliasedWith clock dict).cores.transfers = [(16 * 3 + 2, rowOut 3), (16 * 2 + 2, rowOut 2)] := rfl
    simp only [htransfers, List.filter_cons, crossesSeam_aliasedWith, hthree, htwo, List.filter_nil, if_true]
  rw [S8.seamLost, hlost]
  rfl

/-- Refutes O11: where two cores wait for transfers that a seam's timeout ends, and one of them has an xfer.row waiting for a tag with
a register number above 31, the tag overwrites the status 1 in the other core's register. -/
theorem not_halfClocksAndCrossings : ¬ Obligations.HalfClocksAndCrossings := by
  rintro ⟨-, hisolates, -⟩
  obtain ⟨t, hexec, -, -, -, hseam, -⟩ := hisolates (.seam 0 0) { chip := aliased, pending := [] } (by decide)
  obtain ⟨-, -, -, hwaiting⟩ := hseam 0 0 rfl
  obtain ⟨-, hstatus⟩ := hwaiting (16 * 3 + 2) (rowOut 3) 5 (by decide) crossesSeam_rowOut.1
    (by decide) (by decide) (by decide) (by decide)
  rw [exec_crossingTimeout, execCrossingTimeout, act_of_wf rfl] at hexec
  obtain rfl := Host.Outcome.next.inj hexec
  cases (seamLost_aliasedWith _ _).symm.trans hstatus

end Sys2Proof.Machine

/-! PROOFS. Ripening jobs are defined, stopped and published (R383 to R385, R392, R395). -/

namespace Sys2Proof.Machine

/-! ### Defining and stopping jobs (R383 to R385) -/

section Request
variable {s : S8} {value : Bytes} {n : Nat} (hn : n = leAt value 0 1) (hlow : 1 ≤ n) (hhigh : n ≤ 4)

include hn hlow hhigh in
/-- A request for a job that is not under way defines it, to wait for its start or failed with its reason. -/
theorem ripenJobEffect_of_defines (hlength : value.length = 64)
    (hfree : ∀ k : Job, SMap.find s.ripen.jobs n = some k → k.live = false) :
    ripenJobEffect s value = (statusOk, { s with ripen := { s.ripen with
      jobs := SMap.insert s.ripen.jobs n (if s.jobReason (Job.ofRequest value) = 0 then Job.ofRequest value
        else { Job.ofRequest value with state := 5, reason := s.jobReason (Job.ofRequest value) }) } }) := by
  have hrange : ¬(n = 0 ∨ 4 < n) := by omega
  have hidle : ((SMap.find s.ripen.jobs n).map (fun (k : Job) => k.live)).getD false = false := by
    cases h : SMap.find s.ripen.jobs n with
    | none => rfl
    | some k => exact hfree k h
  subst hn
  simp [ripenJobEffect, hlength, hrange, hidle]

theorem S8.jobReason_eq_two {j : Job}
    (h : j.inRange s.run.step = false ∨ ∃ e ∈ s.ripen.jobs, e.2.live = true ∧ e.2.culture = j.culture) :
    s.jobReason j = 2 := by
  refine if_pos ?_
  simpa using h

theorem ripenStopEffect_of_number (hn : n = valueOf value) (hlow : 1 ≤ n) (hhigh : n ≤ 4) :
    ripenStopEffect s value = (statusOk, s.setJob n (fun j => { j with stopping := true })) := by
  subst hn
  exact if_neg (by omega)

end Request

/-- A job whose stop is held is gone after the boundary, and so are its passes. -/
theorem S8.jobBoundary_of_stopping {s : S8} {n : Nat} {j : Job} (hfind : SMap.find s.ripen.jobs n = some j) (hstop : j.stopping = true) :
    SMap.find (s.jobBoundary n j).ripen.jobs n = none ∧ ∀ p ∈ (s.jobBoundary n j).ripen.passes, p.job ≠ n := by
  have hgone : s.jobBoundary n j = { (s.dropPart j).forgetPasses n with ripen := { ((s.dropPart j).forgetPasses n).ripen with
      jobs := SMap.erase ((s.dropPart j).forgetPasses n).ripen.jobs n } } := by
    rw [S8.jobBoundary, if_pos hstop, S8.stopJob, hfind]
  rw [hgone]
  refine ⟨SMap.find_erase_self .., fun p hp => ?_⟩
  simpa using (List.mem_filter.1 hp).2

/-! ### Publishing a part (R3, R392, R395) -/

section Publish
variable {s : S8} {w : ObjWrite} {n v p : Nat} {j : Job} (harr : s.writeArrives w Obj.ripenPublishStep)
  (hlength : w.value.length = 12) (hn : n = leAt w.value 0 1) (hv : v = leAt w.value 2 2) (hp : p = leAt w.value 4 8)
  (hlow : 1 ≤ n) (hhigh : n ≤ 4) (hfind : SMap.find s.ripen.jobs n = some j)

include harr hn hv hp hfind in
/-- A publish step breaks the limit of R392 where it names the part that is ready and a step to come less than 64 ahead. -/
theorem S8.brokenMust_ripenPublishStep :
    s.brokenMust w.port Obj.ripenPublishStep w.value =
      if j.state = 4 ∧ j.part = v ∧ s.run.step < p ∧ p < s.run.step + 64 then some 392 else none := by
  obtain ⟨hanswers, hroom, hfirmware, howner, hcheck⟩ := harr
  have hrunning : s.boot.anyFirmware = true := hfirmware.resolve_right (by decide)
  have hclock : Obj.ripenPublishStep ≠ Obj.halfClockControl := by decide
  have hstart : Obj.ripenPublishStep ≠ Obj.runStartStep := by decide
  have hdrain : Obj.ripenPublishStep ≠ Obj.wheelDrainStep := by decide
  subst hn hv hp
  simp only [S8.brokenMust, hanswers, hroom, hrunning, howner, hcheck, hclock, hstart, hdrain, hfind, Option.map_some,
    Option.getD_some, decide_true, Bool.and_true, if_true, false_and, if_false, true_and, decide_eq_true_iff]
  exact if_congr (by tauto) rfl rfl

include hlength hn hv hp hlow hhigh hfind in
/-- The step is held for the part that is ready, and refused with reason 7 otherwise. -/
theorem ripenPublishEffect_of_job :
    ripenPublishEffect s w.value =
      if j.state = 4 ∧ j.part = v ∧ s.run.step < p then (statusOk, s.setJob n (fun j => { j with publish := some (v, p) }))
      else (statusState, s.setJob n (fun j => { j with reason := 7 })) := by
  have hrange : ¬(n = 0 ∨ 4 < n) := by omega
  subst hn hv hp
  simp [ripenPublishEffect, hlength, hrange, hfind, and_assoc]

end Publish

/-- Settles O40: each row by its effect, a stop by the boundary's equation, and a publish step by the limit of R392. -/
theorem jobsAreDefinedStoppedAndPublished : Obligations.JobsAreDefinedStoppedAndPublished := by
  refine ⟨?define, fun c j h => S8.jobReason_eq_two h, ?stop, fun c n j hfind hstop => S8.jobBoundary_of_stopping hfind hstop, ?publish⟩
  case define =>
    rintro w s n j harr hlength hn hlow hhigh hfree rfl
    have heffect := ripenJobEffect_of_defines hn hlow hhigh hlength hfree
    rw [exec_ripenJobRequest, execRipenJobRequest, act_of_wf rfl, S8.performWrite_ok harr (by decide) (congrArg Prod.fst heffect), heffect]
  case stop =>
    intro w s n harr hn hlow hhigh
    have heffect := ripenStopEffect_of_number (s := s.chip) hn hlow hhigh
    rw [exec_ripenJobStop, execRipenJobStop, act_of_wf rfl, S8.performWrite_ok harr (by decide) (congrArg Prod.fst heffect), heffect]
  case publish =>
    intro w s n v p j harr hlength hn hv hp hlow hhigh hfind
    have hbroken := S8.brokenMust_ripenPublishStep harr hn hv hp hfind
    have heffect := ripenPublishEffect_of_job hlength hn hv hp hlow hhigh hfind
    have hexec : exec (.ripenPublishStep w) s = actOr (.ripenPublishStep w) s (fun c =>
        c.performWriteOr w Obj.ripenPublishStep ripenPublishEffect) := rfl
    rw [hexec]
    refine ⟨fun hready hpart hahead => ?_, fun hready hpart hlate hsoon => ?_, fun hrefused => ?_⟩
    · rw [if_neg (by omega)] at hbroken
      rw [if_pos ⟨hready, hpart, by omega⟩] at heffect
      refine actOr_of_ok rfl ?_
      rw [S8.performWriteOr, hbroken, S8.performWrite_ok harr (by decide) (congrArg Prod.fst heffect), heffect]
    · rw [if_pos ⟨hready, hpart, hlate, hsoon⟩] at hbroken
      refine actOr_of_error rfl ?_
      rw [S8.performWriteOr, hbroken]
    · rw [if_neg (by omega)] at hbroken
      rw [if_neg (by omega)] at heffect
      refine actOr_of_ok rfl ?_
      rw [S8.performWriteOr, hbroken, S8.performWrite_arrives harr, heffect]
      rfl

end Sys2Proof.Machine

/-! PROOFS. Reads are answered inline, in segments or with BUSY (R464, R466, R468, R469). -/

namespace Sys2Proof.Machine

/-- A command that takes frames of one type performs what it does with a good frame of that type. -/
theorem act_receive_arrives {i : Instr} {s : State} {f : Frame} {v : FrameView} {type : Nat} {k : S8 → FrameView → S8}
    (hwf : WellFormed i = true) (harr : s.chip.frameArrives f v) (htype : v.type = type) :
    act i s (fun c => c.receive f type k) = .next { s with chip := k (s.chip.goodFrame f.port) v } := by
  rw [act_of_wf hwf, S8.receive_arrives harr htype]

/-! ### Reads (R464, R466, R468, R469) -/

section Read
variable {c : S8} {p : Port} {v : FrameView} (hop : v.at 7 1 = 0) (hroom : (c.ports.get p).answers.length < 32)
  (hfirmware : c.boot.anyFirmware = true)
include hop hroom hfirmware

/-- A value of at most 208 bytes is answered inline. -/
theorem S8.readFrame_of_short (hshort : (c.readObject v.obj).2.length ≤ 208) :
    c.readFrame p v = c.answerRead p (v.at 0 4) v.obj (c.readObject v.obj).1 0 (c.readObject v.obj).2 := by
  have hfree : ¬requestLimit ≤ (c.ports.get p).answers.length := Nat.not_le.2 hroom
  simp [S8.readFrame, hfree, hfirmware, hop, inlineLimit, hshort]

/-- A longer value is refused while the port has four transfers. -/
theorem S8.readFrame_of_busy (hlong : 208 < (c.readObject v.obj).2.length) (hopen : 4 ≤ c.dict.openOn p) :
    c.readFrame p v = c.answerRead p (v.at 0 4) v.obj statusBusy 0 [] := by
  have hfree : ¬requestLimit ≤ (c.ports.get p).answers.length := Nat.not_le.2 hroom
  simp [S8.readFrame, hfree, hfirmware, hop, inlineLimit, Nat.not_le.2 hlong, hopen]

/-- A longer value is sent in segments from a snapshot, under a new number. -/
theorem S8.readFrame_of_long {t : DictTransfer} {cycle : Nat} (hcycle : c.ports.cycle = cycle) (hlong : 208 < (c.readObject v.obj).2.length) 
    (hopen : c.dict.openOn p < 4) (ht : t =
      { id := c.dict.transferId, port := p, write := false, obj := v.obj, requestId := v.at 0 4
        length := (c.readObject v.obj).2.length, segments := [], snapshot := (c.readObject v.obj).2, lastCycle := cycle }) :
    c.readFrame p v = ({ c with dict := c.dict.openTransfer t }.answerRead p (v.at 0 4) v.obj statusOk t.id t.snapshot).queueSegments p
      t.id (segmentFrames t.id t.snapshot 0) := by
  have hfree : ¬requestLimit ≤ (c.ports.get p).answers.length := Nat.not_le.2 hroom
  subst ht hcycle
  simp [S8.readFrame, hfree, hfirmware, hop, inlineLimit, Nat.not_le.2 hlong, Nat.not_le.2 hopen]

end Read

@[simp] theorem S8.goodFrame_segments (s : S8) (p : Port) : ((s.goodFrame p).ports.get p).segments = (s.ports.get p).segments := by
  simp [S8.goodFrame]

@[simp] theorem S8.goodFrame_cycle (s : S8) (p : Port) : (s.goodFrame p).ports.cycle = s.ports.cycle := by simp [S8.goodFrame]

/-- On the port of a good frame, an answer and segment frames queued after it join what waits there; the other port stays. -/
theorem S8.queueSegments_answer {s c : S8} {p : Port} (hports : c.ports = (s.goodFrame p).ports) (u : UpFrame) (id : Nat)
    (frames : List UpFrame) :
    (((c.answer p u).queueSegments p id frames).ports.get p).answers = (s.ports.get p).answers ++ [u] ∧
    (((c.answer p u).queueSegments p id frames).ports.get p).segments =
      (s.ports.get p).segments.filter (fun u => leAt u.payload 0 2 ≠ id) ++ frames ∧
    ((c.answer p u).queueSegments p id frames).ports.get (otherPort p) = s.ports.get (otherPort p) := by
  simp [S8.queueSegments, S8.answer, hports, Ports.get_set_ne _ _ (otherPort_ne p)]

/-- Settles O12: a read's answer by the length of the value and the transfers that the port has open. -/
theorem readIsAnswered : Obligations.ReadIsAnswered := by
  have hexec {f : Frame} {v : FrameView} {s : State} (harr : s.chip.frameArrives f v) (htype : v.type = 0x10) :
      exec (.dictRead f) s = .next { s with chip := (s.chip.goodFrame f.port).readFrame f.port v } :=
    act_receive_arrives (i := .dictRead f) (decide_eq_true harr.1) harr htype
  refine ⟨?inline, ?segmented, ?busy⟩
  case inline =>
    rintro f v s c harr htype hop hroom hfirmware rfl hshort
    rw [hexec harr htype, S8.readFrame_of_short (c := s.chip.goodFrame f.port) hop (by simpa using hroom) hfirmware hshort]
  case segmented =>
    rintro f v s c harr htype hop hroom hfirmware rfl hlong hopen
    have hread := S8.readFrame_of_long (c := s.chip.goodFrame f.port) hop (by simpa using hroom) hfirmware (S8.goodFrame_cycle ..)
      hlong hopen rfl
    obtain ⟨hanswers, hsegments, hother⟩ := S8.queueSegments_answer (s := s.chip) (c := { s.chip.goodFrame f.port with dict := _ })
      (p := f.port) rfl _ _ _
    refine ⟨_, hexec harr htype, ?_⟩
    rw [hread]
    exact ⟨rfl, ⟨_, rfl, hsegments⟩, (congrArg List.length hanswers).trans List.length_append, hother⟩
  case busy =>
    rintro f v s c harr htype hop hroom hfirmware rfl hlong hopen
    rw [hexec harr htype, S8.readFrame_of_busy (c := s.chip.goodFrame f.port) hop (by simpa using hroom) hfirmware hlong hopen]
    rfl

end Sys2Proof.Machine

/-! PROOFS. Segmented writes and reads, from their opening to their end (R468 to R470). -/

namespace Sys2Proof.Machine

/-! ### Segmented writes (R468, R470) -/

section Open
variable {c : S8} {p : Port} {v : FrameView}

/-- An open that passes its checks opens a transfer that holds no byte, and answers. -/
theorem S8.openWrite_of_checked {cycle : Nat} (hcycle : c.ports.cycle = cycle) (hroom : (c.ports.get p).answers.length < 32)
    (hfirmware : c.boot.anyFirmware = true) (howner : c.ports.owner = p) (hcheck : openCheck v.obj (v.at 8 4) = statusOk)
    (hopen : c.dict.openOn p < 4) : ∃ u : UpFrame,
    c.openWrite p v = ({ c with dict := c.dict.openTransfer (DictTransfer.mk c.dict.transferId p true v.obj (v.at 0 4) (v.at 8 4) []
      [] cycle) } : S8).answer p u := by
  have hfree : ¬requestLimit ≤ (c.ports.get p).answers.length := Nat.not_le.2 hroom
  subst hcycle
  simp only [S8.openWrite, hfree, hfirmware, howner, hcheck, Nat.not_le.2 hopen, if_false, ne_eq, not_true, Bool.not_true,
    Bool.false_eq_true]
  exact ⟨_, rfl⟩

end Open

section Data
variable {c : S8} {p : Port} {v : FrameView} {w x : DictTransfer} {cycle : Nat}

/-- A data segment inside the value joins its transfer, which it may complete. -/
theorem S8.takeSegment_of_inside (hcycle : c.ports.cycle = cycle) (hfind : c.dict.transfer p (v.at 0 2) = some w) (hwrite : w.write = true)
    (hsome : 0 < v.at 8 2) (hfits : v.at 8 2 ≤ 208) (hinside : v.at 4 4 + v.at 8 2 ≤ w.length)
    (hx : x = { w with segments := w.segments ++ [(v.at 4 4, bytesAt v.payload 16 (v.at 8 2))], lastCycle := cycle }) :
    c.takeSegment p v =
      if segmentsCover x.length x.segments then ({ c with dict := c.dict.setTransfer x } : S8).finishWrite x
      else { c with dict := c.dict.setTransfer x } := by
  subst hx hcycle
  simp [S8.takeSegment, hfind, hwrite, Nat.ne_of_gt hsome, inlineLimit, Nat.not_lt.2 hfits, Nat.not_lt.2 hinside]

end Data

theorem writeCheck_lt (obj : Nat) (value : Bytes) : writeCheck obj value < 256 := by
  unfold writeCheck
  split
  · decide
  · split <;> try decide
    split_ifs <;> decide

/-- The status byte of an answer (R464). -/
theorem leAt_status_dictAnswer (type requestId obj typeCode flags transfer length : Nat) {status : Nat} (value : Bytes)
    (h : status < 256) : leAt (dictAnswer type requestId obj status typeCode flags transfer length value).payload 7 1 = status := by
  have hpayload : (dictAnswer type requestId obj status typeCode flags transfer length value).payload =
      joined [(4, requestId), (2, obj / 256), (1, obj % 256), (1, status), (1, typeCode), (1, flags), (2, transfer), (4, length)] ++ value := by
    simp [dictAnswer, joined]
  rw [hpayload]
  exact (leAt_joined value (i := 3) (by simp)).trans (Nat.mod_eq_of_lt h)

/-- A value that its object does not take ends the write without effect, and is answered with the status that refuses it. -/
theorem S8.finishWrite_of_refused (c : S8) {w : DictTransfer} (h : writeCheck w.obj (assemble w.length w.segments) ≠ statusOk) :
    ∃ u : UpFrame, c.finishWrite w = ({ c with dict := { c.dict with
        transfers := c.dict.transfers.filter (fun u => u.id ≠ w.id ∨ u.port ≠ w.port) } } : S8).answer w.port u ∧
      leAt u.payload 7 1 = writeCheck w.obj (assemble w.length w.segments) := by
  simp only [S8.finishWrite, if_neg h]
  exact ⟨_, rfl, leAt_status_dictAnswer (h := writeCheck_lt ..) ..⟩

/-! ### Transfers that end without effect (R470) -/

theorem S8.abortFrame_of_found {c : S8} {p : Port} {v : FrameView} {w : DictTransfer} (hroom : (c.ports.get p).answers.length < 32)
    (hfirmware : c.boot.anyFirmware = true) (howner : c.ports.owner = p) (hfind : c.dict.transfer p (v.at 12 2) = some w) :
    c.abortFrame p v = (c.endTransfer w statusAborted).answerWrite p (v.at 0 4) v.obj statusOk (v.at 8 4) [] := by
  have hfree : ¬requestLimit ≤ (c.ports.get p).answers.length := Nat.not_le.2 hroom
  simp [S8.abortFrame, hfree, hfirmware, howner, hfind]

theorem segmentedWrites : Claims.SegmentedWrites := by
  refine ⟨?opens, ?data, ?completes, fun c w h => c.finishWrite_of_refused h, ?aborts, ?segmentAborts, ?timesOut, fun c w status => rfl⟩
  case opens =>
    intro f v s harr htype hop hroom hfirmware howner hcheck hopen
    obtain ⟨u, hopened⟩ := S8.openWrite_of_checked (c := s.chip.goodFrame f.port) (S8.goodFrame_cycle ..) (by simpa using hroom)
      hfirmware (by simpa using howner) hcheck hopen
    have hexec := act_receive_arrives (i := .segmentedWriteOpen f) (k := fun c v => if v.at 7 1 = 1 then c.openWrite f.port v else c)
      (decide_eq_true harr.1) harr htype
    refine ⟨_, hexec, ?_⟩
    rw [if_pos hop, hopened]
    exact ⟨rfl, ⟨_, rfl⟩, by simp [S8.answer]⟩
  case data =>
    intro f v s w harr htype hop hfind hwrite hsome hfits hinside hmissing
    refine (act_receive_arrives (i := .segmentData f) (k := fun c v => if v.at 2 1 = 0 then c.takeSegment f.port v else c)
      (decide_eq_true harr.1) harr htype).trans ?_
    rw [if_pos hop, S8.takeSegment_of_inside (c := s.chip.goodFrame f.port) (S8.goodFrame_cycle ..) hfind hwrite hsome hfits hinside rfl,
      if_neg (by simp [hmissing])]
    rfl
  case completes =>
    intro f v s w x harr htype hop hfind hwrite hsome hfits hinside hx hcover
    refine (act_receive_arrives (i := .segmentData f) (k := fun c v => if v.at 2 1 = 0 then c.takeSegment f.port v else c)
      (decide_eq_true harr.1) harr htype).trans ?_
    rw [if_pos hop, S8.takeSegment_of_inside (c := s.chip.goodFrame f.port) (S8.goodFrame_cycle ..) hfind hwrite hsome hfits hinside hx,
      if_pos hcover]
    rfl
  case aborts =>
    intro f v s w harr htype hop hroom hfirmware howner hfind
    refine (act_receive_arrives (i := .transferAbort f) (k := fun c v => if v.at 7 1 = 2 then c.abortFrame f.port v else c)
      (decide_eq_true harr.1) harr htype).trans ?_
    rw [if_pos hop, S8.abortFrame_of_found (c := s.chip.goodFrame f.port) (by simpa using hroom) hfirmware (by simpa using howner) hfind]
  case segmentAborts =>
    intro f v s w harr htype hop hfind
    have hwf : WellFormed (.segmentAbort f) = true := decide_eq_true harr.1
    rw [exec_segmentAbort, execSegmentAbort, act_receive_arrives hwf harr htype]
    simp only [S8.goodFrame_dict, hfind, hop, if_true]
  case timesOut =>
    intro p id s w hfind hwrite hlate
    rw [exec_segmentedWriteTimeout, execSegmentedWriteTimeout, act_of_wf rfl]
    simp only [hfind]
    rw [if_pos ⟨hwrite, by omega⟩]

/-! ### Segmented reads (R469) -/

theorem Dict.transfer_eq_some {d : Dict} {p : Port} {id : Nat} {r : DictTransfer} (h : d.transfer p id = some r) :
    r.port = p ∧ r.id = id := by
  simpa using List.find?_some h

/-- A transfer that has left is not found again. -/
theorem Dict.transfer_filter {d : Dict} {p : Port} {id : Nat} {r : DictTransfer} (h : d.transfer p id = some r) :
    ({ d with transfers := d.transfers.filter (fun u => u.id ≠ r.id ∨ u.port ≠ r.port) } : Dict).transfer p id = none := by
  obtain ⟨rfl, rfl⟩ := Dict.transfer_eq_some h
  refine List.find?_eq_none.2 fun u hu => ?_
  have hother := (List.mem_filter.1 hu).2
  simp only [ne_eq, decide_eq_true_eq] at hother
  simp only [Bool.and_eq_true, decide_eq_true_eq]
  tauto

/-- A read's transfer ends without an answer or a count. -/
theorem S8.endTransfer_of_read (c : S8) {r : DictTransfer} (status : Nat) (h : r.write = false) :
    c.endTransfer r status = { c with
      ports := c.ports.set r.port { c.ports.get r.port with
        segments := (c.ports.get r.port).segments.filter (fun u => leAt u.payload 0 2 ≠ r.id) }
      dict := { c.dict with transfers := c.dict.transfers.filter (fun u => u.id ≠ r.id ∨ u.port ≠ r.port) } } := by
  simp [S8.endTransfer, S8.raise, h]

/-- Segment frames follow one another 208 bytes apart. -/
theorem leAt_offset_segmentFrames (id : Nat) (value : Bytes) (offset : Nat) {i : Nat} (hi : i < (segmentFrames id value offset).length) :
    leAt (((segmentFrames id value offset).map UpFrame.payload).getD i []) 4 4 = (offset + 208 * i) % 2 ^ 32 := by
  have hget : ((segmentFrames id value offset).map UpFrame.payload).getD i [] =
      joined [(2, id), (2, 0), (4, offset + 208 * i), (2, min 208 (value.length - (offset + 208 * i))), (6, 0)] ++
        bytesAt value (offset + 208 * i) (min 208 (value.length - (offset + 208 * i))) := by
    rw [List.getD_eq_getElem _ _ (by simpa using hi), List.getElem_map]
    simp [segmentFrames, joined, inlineLimit, zeros, leBytes, List.replicate_succ]
  rw [hget]
  exact leAt_joined _ (i := 2) (by simp)

theorem segmentedReads : Claims.SegmentedReads := by
  refine ⟨?resend, ?close, fun id value offset i hi => leAt_offset_segmentFrames id value offset hi⟩
  case resend =>
    intro f v s r harr htype hop hfind hread hinside
    have hwf : WellFormed (.segmentResend f) = true := decide_eq_true harr.1
    rw [exec_segmentResend, execSegmentResend, act_receive_arrives hwf harr htype]
    simp only [S8.goodFrame_dict, hfind]
    rw [if_pos ⟨hop, hread, hinside⟩]
    exact ⟨_, rfl, rfl, by simp [Dict.setTransfer], by simp [S8.queueSegments]⟩
  case close =>
    intro p id s r hfind hread hlate hsent
    rw [exec_segmentedReadClose, execSegmentedReadClose, act_of_wf rfl]
    simp only [hfind]
    rw [if_pos ⟨hread, by omega, by simpa using hsent⟩, S8.endTransfer_of_read s.chip statusOk hread]
    obtain ⟨rfl, -⟩ := Dict.transfer_eq_some hfind
    exact ⟨_, rfl, rfl, by simp, Dict.transfer_filter hfind⟩

/-- Settles O14: each frame and each time limit by what it does with the transfer it names. -/
theorem segmentedTransfersRun : Obligations.SegmentedTransfersRun := ⟨segmentedWrites, segmentedReads⟩

end Sys2Proof.Machine

/-! PROOFS. The coordinator is chosen; a handover is confirmed or fails (R488 to R494). -/

namespace Sys2Proof.Machine

/-- What every step of a fold keeps, the fold keeps. -/
theorem foldl_keeps {σ α β : Type} (p : σ → β) {g : σ → α → σ} (h : ∀ s a, p (g s a) = p s) (l : List α) (s : σ) :
    p (l.foldl g s) = p s := by
  induction l generalizing s with
  | nil => rfl
  | cons a l ih => exact (ih (g s a)).trans (h s a)

/-! ### The choice of the coordinator (R488, R490) -/

/-- What the choice of the coordinator settles: firmware, the dies that are lost, and the settings in effect. -/
def S8.chosen (s : S8) : Boot × List Nat × SMap Nat × SMap Bytes := (s.boot, s.run.lostDies, s.dict.settings, s.dict.blobs)

/-- Rebuilding a vat's tables writes memory and the vat's quality. -/
theorem S8.chosen_rebuildVat (s : S8) (k key : Nat) : (s.rebuildVat k key).chosen = s.chosen := by
  unfold S8.rebuildVat
  split
  · rfl
  · split <;> rfl

theorem S8.chosen_rebuildContent (s : S8) : s.rebuildContent.chosen = s.chosen := by
  refine foldl_keeps S8.chosen (fun c e => ?_) _ s
  exact c.chosen_rebuildVat e.1 e.2.1

theorem S8.chosen_askSource (s : S8) (u : Wheel) (n source : Nat) : (s.askSource u n source).chosen = s.chosen := by
  unfold S8.askSource S8.sendShardFlits
  split
  · rfl
  · split
    · split <;> rfl
    · simp [S8.chosen, Dict.note]

theorem S8.chosen_fetchFrom (s : S8) (u : Wheel) (n : Nat) (f : ShardFetch) : (s.fetchFrom u n f).chosen = s.chosen := by
  unfold S8.fetchFrom
  dsimp only
  split
  · rfl
  · exact S8.chosen_askSource ..

theorem S8.chosen_fetchMore (s : S8) : s.fetchMore.chosen = s.chosen := by
  refine foldl_keeps S8.chosen (fun c e => ?_) _ s
  exact c.chosen_fetchFrom e.1 e.2 _

/-- The dies that may coordinate stand in ascending order. -/
theorem S8.least_of_coordinators {s : S8} {die : Nat} {rest : List Nat} (h : s.coordinators = die :: rest) :
    s.mayCoordinate die = true ∧ die < 8 ∧ ∀ d < die, s.mayCoordinate d = false := by
  have hfirst : (List.range 8).find? s.mayCoordinate = some die := by
    rw [← List.head?_filter, show (List.range 8).filter s.mayCoordinate = die :: rest from h, List.head?_cons]
  obtain ⟨hmay, hlt, hleast⟩ := List.find?_range_eq_some.1 hfirst
  exact ⟨hmay, List.mem_range.1 hlt, fun d hd => by simpa using hleast d hd⟩

theorem S8.running_of_mayCoordinate {s : S8} {die : Nat} (h : s.mayCoordinate die = true) : SMap.getD s.boot.state die 0 = 3 := by
  simp only [S8.mayCoordinate, Bool.and_eq_true, decide_eq_true_iff] at h
  obtain ⟨⟨⟨hrunning, -⟩, -⟩, -⟩ := h
  exact hrunning

theorem exec_coordinatorChoice_of_coordinators {s : State} {die : Nat} {rest : List Nat} (hnone : s.chip.boot.coordinator = 0xFF)
    (h : s.chip.coordinators = die :: rest) :
    exec .coordinatorChoice s = .next { s with chip := s.chip.chooseCoordinator.rebuildContent.fetchMore } := by
  rw [exec_coordinatorChoice, execCoordinatorChoice, act_of_wf rfl, if_pos (by simp [hnone, h])]

/-- A die on another release takes the coordinator's image into the slot that does not run, and restarts. -/
theorem exec_starterRestart_of_release {d : Die} {s : State} {k : Nat} (hk : k = s.chip.boot.coordinator) (hlt : k < 8)
    (hruns : SMap.getD s.chip.boot.state d.val 0 = 3)
    (hother : s.chip.boot.release d.val (SMap.getD s.chip.boot.running d.val 0) ≠ s.chip.boot.release k (SMap.getD s.chip.boot.running k 0))
    (hreach : s.chip.cellarReachable k = true) (hown : s.chip.cellarReachable d.val = true) :
    exec (.starterRestart d) s = .next { s with chip := S8.judge { s.chip with
      boot := { s.chip.boot with
        images := SMap.insert s.chip.boot.images (2 * d.val + s.chip.boot.inactiveSlot d.val)
          { state := 1, bytes := s.chip.boot.imageBytes k (SMap.getD s.chip.boot.running k 0) }
        state := SMap.insert s.chip.boot.state d.val 1
        attempts := SMap.put 0 s.chip.boot.attempts d.val
          (if s.chip.boot.inactiveSlot d.val = SMap.getD s.chip.boot.preferred d.val 0 then 0 else 1)
        rejoining := insertNat d.val s.chip.boot.rejoining }
      run := { s.chip.run with lostDies := insertNat d.val s.chip.run.lostDies } } } := by
  subst hk
  rw [exec_starterRestart, execStarterRestart, act_of_wf rfl, if_neg (by simp [hruns, hother, hreach, hown]; omega)]

theorem coordinatorIsChosen : Claims.CoordinatorIsChosen := by
  refine ⟨?choice, ?least, ?restart⟩
  case choice =>
    intro s die rest hnone h
    have hkeeps : s.chip.chooseCoordinator.rebuildContent.fetchMore.chosen = s.chip.chooseCoordinator.chosen :=
      (S8.chosen_fetchMore _).trans (S8.chosen_rebuildContent _)
    refine ⟨_, exec_coordinatorChoice_of_coordinators hnone h, rfl, ?_⟩
    generalize s.chip.chooseCoordinator.rebuildContent.fetchMore = c at hkeeps
    simp only [S8.chosen, S8.chooseCoordinator, h, Prod.mk.injEq] at hkeeps
    obtain ⟨hboot, hlost, hsettings, hblobs⟩ := hkeeps
    simp only [hboot, hlost, hsettings, hblobs]
    exact ⟨trivial, trivial, trivial, fun d hd => by simp [hd]⟩
  case least =>
    intro s die rest h
    obtain ⟨hmay, hlt, hleast⟩ := S8.least_of_coordinators h
    exact ⟨hmay, hlt, hleast, S8.running_of_mayCoordinate hmay⟩
  case restart =>
    rintro d s k slot target hk hlt hruns rfl rfl hother hreach hown
    have hslot : s.chip.boot.inactiveSlot d.val = 1 - SMap.getD s.chip.boot.running d.val 0 := if_pos hruns
    refine ⟨_, exec_starterRestart_of_release hk hlt hruns hother hreach hown, rfl, ?_, ?_, ?_, ?_⟩
    · rw [hslot, SMap.find_insert_self]
    · simp [SMap.getD]
    · simp
    · simp

/-! ### Live handover (R492 to R494) -/

section Step
variable {s : S8} {value : Bytes}

theorem handoverEffect_of_passes (h : s.handoverRefusal (valueOf value) = 0) : handoverEffect s value = (statusOk, { s with
    boot := { s.boot with handoverStep := valueOf value, handoverState := 1, handoverReason := 0, switchedAt := none } }) := if_pos h

theorem handoverEffect_of_refused (h : s.handoverRefusal (valueOf value) ≠ 0) : handoverEffect s value = (statusState, { s with
    boot := { s.boot with handoverState := 5, handoverReason := s.handoverRefusal (valueOf value) } }) := if_neg h

end Step

/-- The instructions that meet a failure of a handover perform it. -/
theorem exec_of_handoverFailure {i : Instr} {s : State} (h : (i = .handoverHeartbeatTimeout ∧ s.chip.boot.handoverState = 2) ∨
    (∃ d h, i = .machineModeTrap d h ∧ (s.chip.boot.handoverState = 2 ∨
      (s.chip.boot.handoverState = 1 ∧ s.chip.boot.handoverStep ≤ s.chip.run.step + 64)))) :
    exec i s = .next { s with chip := s.chip.handoverFailed } := by
  obtain ⟨rfl, hstate⟩ | ⟨d, h, rfl, hstate⟩ := h
  · rw [exec_handoverHeartbeatTimeout, execHandoverHeartbeatTimeout, act_of_wf rfl, if_pos hstate]
  · rw [exec_machineModeTrap, execMachineModeTrap, act_of_wf rfl, if_pos hstate]

theorem handoverIsConfirmedOrFails : Claims.HandoverIsConfirmedOrFails := by
  refine ⟨fun w s harr => ⟨fun hnone => ?_, fun hrefused => ?_⟩, fun i s h => exec_of_handoverFailure h, ?confirm⟩
  · have heffect := handoverEffect_of_passes hnone
    rw [exec_handoverStep, execHandoverStep, act_of_wf rfl, S8.performWrite_ok harr (by decide) (congrArg Prod.fst heffect), heffect]
    exact ⟨_, rfl, rfl⟩
  · have heffect := handoverEffect_of_refused hrefused
    rw [exec_handoverStep, execHandoverStep, act_of_wf rfl, S8.performWrite_arrives harr, heffect]
    exact ⟨_, rfl, rfl⟩
  case confirm =>
    intro s h hswitched hstate hlate
    rw [exec_handoverConfirm, execHandoverConfirm, act_of_wf rfl]
    simp only [hswitched]
    rw [if_pos ⟨hstate, hlate⟩]
    exact ⟨_, rfl, rfl, fun d hd => SMap.find_map_keys (fun d => SMap.getD s.chip.boot.running d 0) (List.mem_range.2 hd)⟩

/-- Settles O20: the choice and the restart by what they leave, a handover by its checks and its ends. -/
theorem coordinatorAndHandover : Obligations.CoordinatorAndHandover := ⟨coordinatorIsChosen, handoverIsConfirmedOrFails⟩

end Sys2Proof.Machine

/-! PROOFS. Losing power, and the power-up sequence (R440, R446, R480 to R486, R490, R491, R502). -/

namespace Sys2Proof.Machine

/-! ### Losing power (R480, R481, R486, R490, R491, R502) -/

theorem powerLossKeepsWhatLasts : Claims.PowerLossKeepsWhatLasts := by
  refine ⟨fun i s hi => ?_, fun s => ⟨_, rfl, rfl, rfl⟩, fun s => ⟨_, rfl, rfl, rfl, rfl⟩,
    fun s => ⟨_, rfl, rfl, rfl, rfl⟩, fun s => rfl⟩
  have hbyte (a : Nat) : Mem.byte S8.reset.mem a = resetByte a := rfl
  obtain rfl | rfl | rfl := hi
  all_goals
    exact ⟨_, rfl, rfl, hbyte, rfl, rfl, rfl, rfl, rfl, rfl, rfl, rfl, rfl, rfl, rfl, rfl, rfl, rfl, rfl, rfl, rfl, rfl, rfl, rfl⟩

/-! ### The power-up sequence (R446, R480, R483, R484) -/

/-- POWER_UP, the release of MOD_RESET_N and the return of the rails each run the sequence with the pin high. -/
theorem exec_of_powerUp {i : Instr} {records cores : List Bool} {s : State} (hrecords : records.length = 8) (hcores : cores.length = 8)
    (hinput : s.chip.boot.inputGood = true)
    (h : (i = .powerUp records cores ∧ s.chip.boot.resetLow = false ∧ s.chip.boot.pwrGood = false) ∨
      (i = .modResetRelease records cores ∧ s.chip.boot.resetLow = true) ∨
      (i = .carrierRailsRestored records cores ∧ s.chip.boot.resetLow = false ∧ s.chip.boot.railsGood = false)) :
    exec i s = .next { s with
      chip := ({ s.chip with boot := { s.chip.boot with resetLow := false } } : S8).start records cores } := by
  have hpin (hhigh : s.chip.boot.resetLow = false) : { s.chip with boot := { s.chip.boot with resetLow := false } } = s.chip := by
    rw [← hhigh]
  obtain ⟨rfl, hhigh, hoff⟩ | ⟨rfl, hlow⟩ | ⟨rfl, hhigh, hrails⟩ := h
  · have hwf : WellFormed (.powerUp records cores) = true := by simp [WellFormed, hrecords, hcores]
    rw [exec_powerUp, execPowerUp, act_of_wf hwf, if_pos (by simp [hinput, hhigh, hoff]), hpin hhigh]
  · have hwf : WellFormed (.modResetRelease records cores) = true := by simp [WellFormed, hrecords, hcores]
    rw [exec_modResetRelease, execModResetRelease, act_of_wf hwf, if_pos (by simp [hinput, hlow])]
  · have hwf : WellFormed (.carrierRailsRestored records cores) = true := by simp [WellFormed, hrecords, hcores]
    rw [exec_carrierRailsRestored, execCarrierRailsRestored, act_of_wf hwf, if_pos (by simp [hinput, hhigh, hrails]), hpin hhigh]

theorem mem_falseAt {l : List Bool} {d : Nat} : d ∈ falseAt l ↔ d < 8 ∧ l.getD d false = false := by simp [falseAt]

section Start
variable (s : S8) (records cores : List Bool)

/-- Each die is in the state that its test record and its starter core give it. -/
theorem S8.find_start_state {d : Nat} (hd : d < 8) : SMap.find (s.start records cores).boot.state d =
    some (({ s.boot with badRecords := falseAt records, noStarter := falseAt cores } : Boot).startState d) :=
  SMap.find_map_keys (fun d => ({ s.boot with badRecords := falseAt records, noStarter := falseAt cores } : Boot).startState d)
    (List.mem_range.2 hd)

theorem S8.clock_start {h : Nat} (hh : h < 16) : (s.start records cores).power.clock h = 1700 := by
  rw [Power.clock, SMap.getD_eq]
  exact congrArg (Option.getD · 2000) (SMap.find_map_keys (fun _ => 1700) (List.mem_range.2 hh))

end Start

theorem powerUpStartsTheStarters : Claims.PowerUpStartsTheStarters := by
  refine ⟨?starts, ?releases⟩
  case starts =>
    intro i records cores s hrecords hcores hinput hhandover hi
    refine ⟨_, exec_of_powerUp hrecords hcores hinput hi, rfl, fun h hh => S8.clock_start _ _ _ hh, rfl, fun d hd hrecord hcore => ?_,
      fun d hd => ?_, ?_⟩
    · rw [SMap.getD_eq, S8.find_start_state _ _ _ hd]
      exact Boot.startState_of_sound (by simpa [mem_falseAt] using fun _ => hrecord) (by simpa [mem_falseAt] using fun _ => hcore)
    · exact mem_falseAt.trans (and_iff_right hd)
    · simp only [S8.start, if_neg hhandover, Dict.raise_zero]
  case releases =>
    intro records cores s hrecords hcores hinput
    have hwf : WellFormed (.modResetRelease records cores) = true := by simp [WellFormed, hrecords, hcores]
    rw [exec_modResetRelease, execModResetRelease, act_of_wf hwf, if_neg (by simp [hinput])]

/-- Settles O18: what is kept is `powerLoss`'s own choice, and the three ways up run one sequence. -/
theorem powerComesAndGoes : Obligations.PowerComesAndGoes := ⟨powerLossKeepsWhatLasts, powerUpStartsTheStarters⟩

end Sys2Proof.Machine

/-! PROOFS. In-field tests of cores, vats and routers (R414 to R418, R420). -/

namespace Sys2Proof.Machine

/-! ### Test packs (R420) -/

section Pack
variable {s : S8} {value : Bytes}

theorem testPackEffect_of_fits (h : valueOf value % 2 ^ 32 ≤ packLimit) : testPackEffect s value = (statusOk, { s with
    trier := { s.trier with packId := valueOf value / 2 ^ 32, packLength := valueOf value % 2 ^ 32, segments := [], packState := 1,
                            packReason := 0, packNext := none } }) := by
  rw [testPackEffect, if_neg (Nat.not_lt.2 h)]

theorem testPackEffect_of_long (h : packLimit < valueOf value % 2 ^ 32) :
    (testPackEffect s value).2.trier.packState = 4 ∧ (testPackEffect s value).2.trier.packReason = 5 ∧
      (testPackEffect s value).2.trier.pack = s.trier.pack := by
  rw [testPackEffect, if_pos h]
  exact ⟨rfl, rfl, rfl⟩

end Pack

/-- A frame of the pack being received is kept until the pack is whole. -/
theorem exec_bulkTestPack_of_part {f : Frame} {v : FrameView} {s : State} {segments : List (Nat × Bytes)}
    (harr : s.chip.frameArrives f v) (htype : v.type = 0x30) (hkind : v.at 0 1 = 4) (howner : s.chip.ports.owner = f.port)
    (hstate : s.chip.trier.packState = 1) (hid : v.at 4 4 = s.chip.trier.packId) (hhandle : v.handle = 0) (hsome : 0 < v.at 12 2)
    (hfits : v.at 12 2 ≤ 208) (hinside : v.at 8 4 + v.at 12 2 ≤ s.chip.trier.packLength)
    (hsegments : segments = s.chip.trier.segments ++ [(v.at 8 4, bytesAt v.payload 16 (v.at 12 2))])
    (hmissing : segmentsCover s.chip.trier.packLength segments = false) :
    exec (.bulkTestPack f) s = .next { s with chip := { s.chip.goodFrame f.port with
      trier := { s.chip.trier with segments := segments } } } := by
  have hwf : WellFormed (.bulkTestPack f) = true := decide_eq_true harr.1
  have htaken :
      ¬(s.chip.trier.packState ≠ 1 ∨ v.at 4 4 ≠ s.chip.trier.packId ∨ v.handle ≠ 0 ∨ v.at 12 2 = 0 ∨ 208 < v.at 12 2 ∨
      s.chip.trier.packLength < v.at 8 4 + v.at 12 2) := by
    simp only [hstate, hid, hhandle]
    omega
  subst hsegments
  rw [exec_bulkTestPack, execBulkTestPack, act_of_wf hwf, S8.receiveBulk_arrives harr htype hkind howner]
  simp only [S8.goodFrame_trier, htaken, if_false, hmissing, Bool.false_eq_true]

/-! ### Moves and stalls change the cores only (R232, R234, R417) -/

theorem S8.startMove_cores (s : S8) (half logical spare after : Nat) :
    s.startMove half logical spare after = { s with cores := (s.startMove half logical spare after).cores } := by
  unfold S8.startMove
  dsimp only
  split <;> rfl

theorem S8.moveToTest_cores (s : S8) (core : Nat) : s.moveToTest core = { s with cores := (s.moveToTest core).cores } := by
  unfold S8.moveToTest
  dsimp only
  split
  · split
    · rfl
    · exact S8.startMove_cores ..
  · rfl

theorem S8.stopMove_cores (s : S8) (half core : Nat) : s.stopMove half core = { s with cores := (s.stopMove half core).cores } := by
  unfold S8.stopMove
  split
  · rfl
  · split <;> rfl

/-! ### A core's time for a test (R416 to R418) -/

section Due
variable {s : S8} {k : Nat} (hserves : s.dieServes (k / 36 / 2) = true) (hdue : s.testDue k = true) (hidle : s.halfTests (k / 36) = false)
include hserves hdue hidle

theorem S8.coreDue_eq : s.coreDue k =
    if s.coreState k = 1 then { s with cores := { s.cores with states := SMap.insert s.cores.states k 3 } }
    else if s.coreState k ≠ 0 then s
    else if s.healthySpares (k / 36) = [] then s.blockTests (k / 36)
    else (S8.setTest { s with trier := { s.trier with blocked := eraseNat (k / 36) s.trier.blocked } } k
      (fun t => { t with due := true, deferral := 0, overdue := false })).moveToTest k := by
  rw [S8.coreDue, if_neg (by simp [hserves, hdue, hidle])]

end Due

@[simp] theorem S8.coreTest_setTest (s : S8) (core : Nat) (f : CoreTest → CoreTest) :
    (s.setTest core f).trier.coreTest core = f (s.trier.coreTest core) := SMap.getD_modify_self ..

/-- What an overdue core's half gives up for its test, and the move to it, are the cores'. -/
theorem S8.coreOverdue_of_overdue {s : S8} {k : Nat} (hdue : (s.trier.coreTest k).due = true)
    (hfirst : (s.trier.coreTest k).overdue = false) (hlate : 64 ≤ (s.trier.coreTest k).deferral) (hstate : s.coreState k = 0)
    (hspare : s.healthySpares (k / 36) ≠ [] ∨ s.halfTests (k / 36) = true) : ∃ cores,
    s.coreOverdue k = { (s.setTest k (fun t => { t with overdue := true })).raise Obj.testOverdueCount 0 1 (unitField 3 k)
      (s.trier.coreTest k).deferral with cores := cores } := by
  have htakes : ¬(!(s.trier.coreTest k).due || (s.trier.coreTest k).overdue || (s.trier.coreTest k).deferral < 64 ||
      s.coreState k ≠ 0 || (s.healthySpares (k / 36) = [] && !(s.halfTests (k / 36)))) = true := by
    simpa [hdue, hfirst, Nat.not_lt.2 hlate, hstate] using fun h => hspare.resolve_left (not_not_intro h)
  rw [S8.coreOverdue, if_neg htakes]
  dsimp only
  rw [S8.stopMove_cores]
  split
  · exact ⟨_, S8.moveToTest_cores ..⟩
  · split
    · split
      · exact ⟨_, rfl⟩
      · exact ⟨_, S8.startMove_cores ..⟩
    · exact ⟨_, rfl⟩

/-! ### The end of a core's test (R416) -/

theorem Cores.stateOf_congr {c d : Cores} (h : d.states = c.states) (k : Nat) : d.stateOf k = c.stateOf k := by
  rw [Cores.stateOf, Cores.stateOf, h]

theorem SMap.getD_foldl_insert {f : Nat → Nat} (l : List Nat) (m : SMap Nat) (k d : Nat) :
    SMap.getD (l.foldl (fun m c => SMap.insert m c (f c)) m) k d = if k ∈ l then f k else SMap.getD m k d := by
  induction l generalizing m with
  | nil => rfl
  | cons c l ih =>
    rw [List.foldl_cons, ih, SMap.getD_insert]
    by_cases hl : k ∈ l
    · simp [hl]
    · by_cases hc : k = c
      · simp [hc]
      · simp [hl, hc]

theorem S8.mem_healthySpares {s : S8} {k : Nat} :
    k ∈ s.healthySpares (k / 36) ↔ s.coreState k = 1 ∨ s.coreState k = 2 := by
  have hplace : ∃ i < 36, 36 * (k / 36) + i = k := ⟨k % 36, Nat.mod_lt _ (by decide), Nat.div_add_mod k 36⟩
  simp [S8.healthySpares, hplace]

/-- The agent's choice changes the cores, and what AgentStarved counts. -/
theorem S8.settleAgent_frame (s : S8) (half : Nat) :
    s.settleAgent half = { s with cores := (s.settleAgent half).cores, dict := (s.settleAgent half).dict } := by
  unfold S8.settleAgent
  dsimp only
  split <;> rfl

@[simp] theorem S8.settleAgent_unbacked (s : S8) (half : Nat) : (s.settleAgent half).cores.unbacked = s.cores.unbacked := by
  unfold S8.settleAgent
  dsimp only
  split <;> rfl

/-- Every healthy spare of the half is a spare, or the agent's. -/
theorem S8.coreState_settleAgent (s : S8) (k : Nat) :
    ((s.coreState k = 1 ∨ s.coreState k = 2) → (s.settleAgent (k / 36)).coreState k = 1 ∨ (s.settleAgent (k / 36)).coreState k = 2) ∧
    (¬(s.coreState k = 1 ∨ s.coreState k = 2) → (s.settleAgent (k / 36)).coreState k = s.coreState k) := by
  rw [← S8.mem_healthySpares]
  unfold S8.settleAgent
  dsimp only
  split
  case isTrue hnone => exact ⟨fun hmem => absurd hmem (by simp [hnone]), fun _ => rfl⟩
  case isFalse =>
    simp only [S8.coreState, Cores.stateOf, SMap.getD_foldl_insert]
    refine ⟨fun hmem => ?_, fun hmem => if_neg hmem⟩
    rw [if_pos hmem]
    split
    · exact .inr rfl
    · exact .inl rfl

theorem S8.clearScratch_mem (s : S8) (k : Nat) : s.clearScratch k = { s with mem := (s.clearScratch k).mem } := by
  unfold S8.clearScratch
  split <;> rfl

/-- The number that a core backed, if any, is left without a unit. -/
def S8.numberGone (s : S8) (number : Option Nat) : S8 :=
  match number with
  | none => s
  | some l => s.coreGone l

/-- A number that is left without a unit changes what is unbacked, what is named, and the dies to be lost. -/
theorem S8.numberGone_frame (s : S8) (number : Option Nat) : s.numberGone number = { s with
    cores := { s.cores with unbacked := (s.numberGone number).cores.unbacked }
    dict := (s.numberGone number).dict
    run := { s.run with losing := (s.numberGone number).run.losing } } := by
  cases number with
  | none => rfl
  | some l =>
    unfold S8.numberGone S8.coreGone S8.unbackCore
    dsimp only
    split <;> split <;> rfl

/-- It is unbacked, and its die is to be lost where the running sheet names it. -/
theorem S8.mem_numberGone {s : S8} {number : Option Nat} {l : Nat} (h : number = some l) :
    l ∈ (s.numberGone number).cores.unbacked ∧
    ∀ sh, s.run.running = some sh → sh.namesCore l = true → l / 72 ∈ (s.numberGone number).run.losing := by
  subst h
  have hunbacked : l ∈ (s.unbackCore l).cores.unbacked := by
    unfold S8.unbackCore
    split
    case isTrue hmem => exact List.contains_iff_mem.1 hmem
    case isFalse => exact (mem_insertNat ..).2 (.inl rfl)
  simp only [S8.numberGone, S8.coreGone]
  split
  case isTrue => exact ⟨hunbacked, fun _ _ _ => (mem_insertNat ..).2 (.inl rfl)⟩
  case isFalse hnamed => exact ⟨hunbacked, fun sh hsh hnames => absurd (by simp [hsh, hnames]) hnamed⟩

/-- The module with a core's test ended with a result. -/
def S8.testEnded (s : S8) (k result : Nat) : S8 :=
  (s.clearScratch k).setTest k (fun t => { t with
    lastStep := s.run.step, pack := s.trier.packVersion, result := result, failures := 0, due := false, deferral := 0, overdue := false })

/-- Ending a test clears the scratchpad and keeps the record, nothing else. -/
theorem S8.testEnded_frame (s : S8) (k result : Nat) : s.testEnded k result = { s with
    mem := (s.testEnded k result).mem, trier := { s.trier with cores := (s.testEnded k result).trier.cores } } := by
  unfold S8.testEnded
  rw [S8.clearScratch_mem]
  rfl

theorem S8.coreTest_testEnded (s : S8) (k result : Nat) : ((s.testEnded k result).trier.coreTest k).lastStep = s.run.step ∧
    ((s.testEnded k result).trier.coreTest k).failures = 0 ∧ ((s.testEnded k result).trier.coreTest k).result = result := by
  simp [S8.testEnded]

section Complete
variable {s : S8} {k : Nat} (hstate : s.coreState k = 3) (hmoves : ∀ e ∈ s.cores.moves, e.2.source ≠ k ∧ e.2.target ≠ k)
include hstate hmoves

theorem S8.testComplete_eq (passed : Bool) : s.testComplete k passed =
    if passed then
      S8.settleAgent { s.testEnded k (if (s.trier.coreTest k).failures = 0 then 1 else 2) with
        cores := { s.cores with states := SMap.insert s.cores.states k 1 } } (k / 36)
    else if (s.trier.coreTest k).failures = 0 then (s.clearScratch k).setTest k (fun t => { t with failures := 1 })
    else
      ((S8.numberGone { s.testEnded k 3 with cores := { s.cores with states := SMap.insert s.cores.states k 4 } }
        (s.cores.logicalOf k)).settleAgent (k / 36)).raise Obj.coreTestFailCount 0 1 (unitField 3 k) 0 := by
  have hruns : ¬(s.coreState k ≠ 3 ∨ (s.cores.moves.any (fun e => e.2.source = k ∨ e.2.target = k)) = true) := by
    simpa [hstate] using fun n m h => hmoves (n, m) h
  have hcleared : s.clearScratch k = { s with mem := (s.clearScratch k).mem } := S8.clearScratch_mem ..
  rw [S8.testComplete, if_neg hruns, S8.testEnded, S8.testEnded, hcleared]
  rfl

/-- A core that passes is a spare again, with its result kept. -/
theorem S8.testComplete_of_passed : ∃ cores dict,
    s.testComplete k true = { s.testEnded k (if (s.trier.coreTest k).failures = 0 then 1 else 2) with cores := cores, dict := dict } ∧
    (cores.stateOf k = 1 ∨ cores.stateOf k = 2) := by
  rw [S8.testComplete_eq hstate hmoves, if_pos rfl]
  refine ⟨_, _, S8.settleAgent_frame .., (S8.coreState_settleAgent _ k).1 (.inl ?_)⟩
  simp [S8.coreState, Cores.stateOf, SMap.getD]

/-- A core's first failure only has it tested once more. -/
theorem S8.testComplete_of_firstFailure (hfirst : (s.trier.coreTest k).failures = 0) :
    s.testComplete k false = (s.clearScratch k).setTest k (fun t => { t with failures := 1 }) := by
  rw [S8.testComplete_eq hstate hmoves, if_neg Bool.false_ne_true, if_pos hfirst]

/-- At its second failure a core is out of service, the number that it backed is unbacked, and that number's die is to be lost where the
running sheet names it. -/
theorem S8.testComplete_of_secondFailure (hagain : (s.trier.coreTest k).failures ≠ 0) : ∃ cores dict losing,
    s.testComplete k false = { s.testEnded k 3 with cores := cores, dict := dict, run := { s.run with losing := losing } } ∧
    cores.stateOf k = 4 ∧ ∀ l, s.cores.logicalOf k = some l → l ∈ cores.unbacked ∧
      ∀ sh, s.run.running = some sh → sh.namesCore l = true → l / 72 ∈ losing := by
  rw [S8.testComplete_eq hstate hmoves, if_neg Bool.false_ne_true, if_neg hagain]
  generalize hc : ({ s.testEnded k 3 with cores := { s.cores with states := SMap.insert s.cores.states k 4 } } : S8) = c
  have hrun : c.run = s.run := by rw [← hc, S8.testEnded_frame]
  have hfailed : (c.numberGone (s.cores.logicalOf k)).coreState k = 4 := by
    rw [S8.numberGone_frame, ← hc]
    simp [S8.coreState, Cores.stateOf, SMap.getD]
  have hstays := ((c.numberGone (s.cores.logicalOf k)).coreState_settleAgent k).2 (by omega)
  have hunbacked := (c.numberGone (s.cores.logicalOf k)).settleAgent_unbacked (k / 36)
  have hnumber (l : Nat) (hl : s.cores.logicalOf k = some l) := S8.mem_numberGone (s := c) hl
  have hgone := c.numberGone_frame (s.cores.logicalOf k)
  have hagent := (c.numberGone (s.cores.logicalOf k)).settleAgent_frame (k / 36)
  generalize (c.numberGone (s.cores.logicalOf k)).settleAgent (k / 36) = a at hstays hunbacked hagent ⊢
  generalize c.numberGone (s.cores.logicalOf k) = g at hfailed hstays hunbacked hnumber hgone hagent ⊢
  refine ⟨a.cores, (a.raise Obj.coreTestFailCount 0 1 (unitField 3 k) 0).dict, g.run.losing, ?_, hstays.trans hfailed, ?_⟩
  · calc a.raise Obj.coreTestFailCount 0 1 (unitField 3 k) 0
        = { c with
            cores := a.cores, dict := (a.raise Obj.coreTestFailCount 0 1 (unitField 3 k) 0).dict
            run := { c.run with losing := g.run.losing } } := by rw [hagent, hgone]; rfl
      _ = _ := by rw [hrun, ← hc]
  · rw [hunbacked, ← hrun]
    exact hnumber

end Complete

/-! ### Vat and router kernels (R104, R239, R414, R415) -/

theorem S8.unbackVat_unitsRetired (s : S8) (k : Nat) : (s.unbackVat k).vats.unitsRetired = s.vats.unitsRetired := by
  unfold S8.unbackVat
  split <;> rfl

theorem S8.mem_retireUnit (s : S8) (u : Nat) : u ∈ (s.retireUnit u).vats.unitsRetired := by
  unfold S8.retireUnit
  split
  case isTrue hmem => exact List.contains_iff_mem.1 hmem
  case isFalse =>
    rw [foldl_keeps (fun c : S8 => c.vats.unitsRetired) S8.unbackVat_unitsRetired]
    exact (mem_insertNat ..).2 (.inl rfl)

/-- A probe writes its record in the unit's ring, and spoils the round of one that it overwrites. -/
theorem S8.probe_frame (s : S8) (unit k : Nat) (bytes : Bytes) : s.probe unit k bytes = { s with
    mem := (s.probe unit k bytes).mem, dict := (s.probe unit k bytes).dict, turn := (s.probe unit k bytes).turn
    vats := { s.vats with
      probeNext := (s.probe unit k bytes).vats.probeNext, probeUnread := (s.probe unit k bytes).vats.probeUnread
      probeVats := (s.probe unit k bytes).vats.probeVats } } := rfl

theorem S8.probe_turn {s : S8} {unit : Nat} (k : Nat) (bytes : Bytes) (h : SMap.getD s.vats.probeUnread unit 0 ≠ 3) :
    (s.probe unit k bytes).turn = s.turn := if_neg h

section VatTest
variable {s : S8} {k kernel : Nat} {codes : List Nat} {recomputed : List Int} {pack body : Bytes} {v : PourVector} {input : PourInput}
  (hpack : pack = s.trier.activePack) (hkernel : kernel < leAt pack 2 2) (hkind : (kernelEntry pack kernel).kind = 1)
  (hserves : s.dieServes (vatDie k) = true) (hunit : unitOfVat k ∉ s.vats.unitsRetired) (hcodes : codes.length = pairCount k)
  (hbody : body = (pack.drop (kernelEntry pack kernel).offset).take (kernelEntry pack kernel).length)
  (hv : v = PourVector.ofBytes body (dataColumns k))
  (hinput : input = { s.probeInput s.mem k codes (highDrives v) with
    exponent := v.exponent, rindOff := s.dict.get Obj.rindMode = 1
    nominal := Config.nominalGain (vatDie k) (SMap.getD s.vats.gainStep k 0) })
include hpack hkernel hkind hserves hunit hcodes hbody hv hinput

/-- A vat kernel of the pack in use writes its probe record, and its replay and its limits decide. -/
theorem S8.vatTest_eq : s.vatTest k kernel codes recomputed =
    if recomputed ≠ (List.range (pairCount k)).map input.stage4 then
      (s.probe (unitOfVat k) k (probeBytes codes input.stage4)).retireUnit (unitOfVat k)
    else if (s.comparedPairs k).any (fun p => (kernelEntry pack kernel).limit < (input.stage4 p - expectedAt body p).natAbs) then
      (s.probe (unitOfVat k) k (probeBytes codes input.stage4)).vatFailed k
    else { s.probe (unitOfVat k) k (probeBytes codes input.stage4) with
      trier := { s.trier with vatFails := eraseNat k s.trier.vatFails } } := by
  subst hpack hbody hv hinput
  have hruns : ¬(leAt s.trier.activePack 2 2 ≤ kernel ∨ (kernelEntry s.trier.activePack kernel).kind ≠ 1 ∨
      (!s.dieServes (vatDie k)) = true ∨ s.vats.unitsRetired.contains (unitOfVat k) = true ∨ codes.length ≠ pairCount k) := by
    simpa [hkind, hserves, hunit, hcodes] using hkernel
  rw [S8.vatTest, if_neg hruns]
  rfl

end VatTest

/-- A retired router leaves the mesh; what the sheet then lacks is named, and its die to be lost. -/
theorem S8.retireRouter_frame (s : S8) (die half position : Nat) : s.retireRouter die half position = { s with
    fab := { s.fab with routers := insertNat (80 * die + 40 * half + position) s.fab.routers }
    run := (s.retireRouter die half position).run, dict := (s.retireRouter die half position).dict } := by
  unfold S8.retireRouter
  dsimp only
  split
  · rfl
  · split
    · rfl
    · split <;> rfl

/-- Settles O43: each test by its cases, what a move may change being the cores' alone. -/
theorem inFieldTestsRun : Obligations.InFieldTestsRun := by
  refine ⟨?request, ?part, ?due, ?overdue, ?complete, ?vat, ?router⟩
  case request =>
    intro w s harr
    refine ⟨_, ?_, fun hfits => congrArg Prod.snd (testPackEffect_of_fits hfits), fun hlong => testPackEffect_of_long hlong⟩
    rw [exec_testPackLoadRequest, execTestPackLoadRequest, act_of_wf rfl, S8.performWrite_ok harr (by decide) rfl]
  case part =>
    intro f v s segments harr htype hkind howner hstate hid hhandle hsome hfits hinside hsegments hmissing
    exact exec_bulkTestPack_of_part harr htype hkind howner hstate hid hhandle hsome hfits hinside hsegments hmissing
  case due =>
    rintro core s k rfl hserves hdue hidle
    have heq := S8.coreDue_eq hserves hdue hidle
    rw [exec_coreTestDue, execCoreTestDue, act_of_wf rfl, heq]
    refine ⟨fun hstate => ?_, fun hstate hnone => ?_, fun hstate hspare => ?_⟩
    · rw [if_pos hstate]
    · rw [if_neg (by omega), if_neg (not_not_intro hstate), if_pos hnone]
      rfl
    · rw [if_neg (by omega), if_neg (not_not_intro hstate), if_neg hspare, S8.moveToTest_cores]
      exact ⟨_, rfl, rfl, by simp, by simp⟩
  case overdue =>
    rintro core s k rfl hdue hfirst hlate hstate hspare
    obtain ⟨cores, heq⟩ := S8.coreOverdue_of_overdue hdue hfirst hlate hstate hspare
    rw [exec_testOverdue, execTestOverdue, act_of_wf rfl, heq]
    exact ⟨_, rfl, rfl, S8.coreTest_setTest ..⟩
  case complete =>
    rintro core passed s k rfl hstate hmoves
    rw [exec_coreTestComplete, execCoreTestComplete, act_of_wf rfl]
    by_cases hpass : passed = true
    case pos =>
      subst hpass
      obtain ⟨cores, dict, heq, hspare⟩ := S8.testComplete_of_passed hstate hmoves
      obtain ⟨hstep, hzero, hresult⟩ :=
        s.chip.coreTest_testEnded (coreKey core) (if (s.chip.trier.coreTest (coreKey core)).failures = 0 then 1 else 2)
      rw [heq, S8.testEnded_frame]
      exact ⟨_, rfl, rfl, fun _ => rfl, fun _ => ⟨hstep, hzero, hresult, hspare⟩, nofun, nofun⟩
    case neg =>
      obtain rfl := Bool.eq_false_of_not_eq_true hpass
      by_cases hfirst : (s.chip.trier.coreTest (coreKey core)).failures = 0
      · have hcleared : (s.chip.clearScratch (coreKey core)).trier = s.chip.trier := by rw [S8.clearScratch_mem]
        rw [S8.testComplete_of_firstFailure hstate hmoves hfirst]
        have hrecord := (s.chip.clearScratch (coreKey core)).coreTest_setTest (coreKey core) (fun t => { t with failures := 1 })
        rw [hcleared] at hrecord
        rw [S8.clearScratch_mem] at hrecord ⊢
        exact ⟨_, rfl, rfl, fun _ => rfl, nofun, fun _ _ => ⟨rfl, hrecord⟩, fun _ hagain => absurd hfirst hagain⟩
      · obtain ⟨cores, dict, losing, heq, hfailed, hgone⟩ := S8.testComplete_of_secondFailure hstate hmoves hfirst
        obtain ⟨-, -, hresult⟩ := s.chip.coreTest_testEnded (coreKey core) 3
        rw [heq, S8.testEnded_frame]
        exact ⟨_, rfl, rfl, fun h => absurd h (by simp [hfirst]), nofun, fun _ h => absurd h hfirst,
          fun _ _ => ⟨hfailed, hresult, hgone⟩⟩
  case vat =>
    rintro vat kernel codes recomputed s k pack body v input hwf rfl hpack hkernel hkind hserves hunit hcodes hbody hv hinput
    have heq := S8.vatTest_eq (recomputed := recomputed) hpack hkernel hkind hserves hunit (by simpa using hcodes) hbody hv hinput
    rw [exec_vatTest, execVatTest, act_of_wf hwf, heq]
    refine ⟨fun hdiffer => ?_, fun hequal hlimits => ?_⟩
    · rw [if_pos hdiffer]
      exact ⟨_, rfl, rfl, S8.mem_retireUnit ..⟩
    · rw [if_neg (not_not_intro hequal), if_neg (by simpa using hlimits)]
      have hturn := S8.probe_turn (s := s.chip) (unit := unitOfVat (vatKey vat)) (vatKey vat)
        (probeBytes (codes.map BitVec.toNat) input.stage4)
      have hframe := s.chip.probe_frame (unitOfVat (vatKey vat)) (vatKey vat) (probeBytes (codes.map BitVec.toNat) input.stage4)
      generalize s.chip.probe (unitOfVat (vatKey vat)) (vatKey vat) (probeBytes (codes.map BitVec.toNat) input.stage4) = c at hturn hframe ⊢
      refine ⟨_, rfl, ?_, hturn⟩
      rw [hframe]
  case router =>
    rintro die half position expected got s key hlength rfl hserves hsound hfree
    have hwf : WellFormed (.routerTest die half position expected got) = true := decide_eq_true hlength
    rw [exec_routerTest, execRouterTest, act_of_wf hwf]
    refine ⟨fun hequal => ?_, fun hdiffer => ?_⟩
    · rw [if_pos (by simp [hequal])]
    · rw [if_neg (by simp [hserves, hsound, hfree, hdiffer]), S8.raise, S8.retireRouter_frame]
      exact ⟨_, rfl, rfl⟩

end Sys2Proof.Machine

/-! PROOFS. The trier's samples, checks and verdicts, and the digests (R403 to R407, R410, R412, R413). -/

namespace Sys2Proof.Machine

/-! ### Samples (R403, R404) -/

/-- A unit's rotation stands at a vat. -/
def S8.rotated (s : S8) (u k : Nat) : S8 :=
  { s with trier := { s.trier with rotation := SMap.insert s.trier.rotation u k } }

theorem S8.writeRecord_frame (s : S8) (key : Nat) (r : TrierRecord) : s.writeRecord key r = { s with
    mem := (s.writeRecord key r).mem, trier := { s.trier with records := SMap.insert s.trier.records key r } } := by
  unfold S8.writeRecord S8.keepRecord
  rfl

section Sample
variable {s : S8} {u k interval : Nat} (hinterval : interval = s.dict.get Obj.trierInterval) (hserves : s.dieServes (u / 36) = true)
  (hunit : u ∉ s.vats.unitsRetired) (hstep : s.run.step % interval = sampleOffset interval u)
  (hnext : nextOf (s.rotationOf u) (SMap.find s.trier.rotation u) = some k)
include hinterval hserves hunit hstep

/-- A unit's step of the interval has come: it is not turned away before its rotation. -/
theorem S8.sample_runs : ¬(!s.dieServes (u / 36) || s.vats.unitsRetired.contains u || s.run.step % s.dict.get Obj.trierInterval ≠
    sampleOffset (s.dict.get Obj.trierInterval) u) = true := by
  subst hinterval
  simp [hserves, hunit, hstep]

include hnext

/-- A retained result that may be sampled is kept in the record that is free. -/
theorem S8.sample_of_retained {r : TrierRecord} {i : Nat} (hretained : s.retained k (s.run.step / interval % 96) = some r)
    (hfree : s.freeRecord (vatHalf k) = some i) (hsampleable : s.sampleable k r = true) :
    s.sample u = { (s.rotated u k).writeRecord (recordKey (vatHalf k) i)
        { r with temp := s.meanTemp (vatHalf k), seconds := s.cellar.seconds } with
      dict := s.dict.tally Obj.trierSampleCount 1 } := by
  have hruns := S8.sample_runs hinterval hserves hunit hstep
  subst hinterval
  rw [S8.sample, if_neg hruns, hnext]
  dsimp only
  rw [hretained, hfree]
  dsimp only
  rw [if_pos hsampleable]
  rfl

/-- Without a result, a free record or leave to sample, the unit skips. -/
theorem S8.sample_of_skip (h : s.retained k (s.run.step / interval % 96) = none ∨ s.freeRecord (vatHalf k) = none ∨
      (∃ r, s.retained k (s.run.step / interval % 96) = some r ∧ s.sampleable k r = false)) :
    s.sample u = (s.rotated u k).raise Obj.trierSkipCount 0 1 (s.vatUnit k) 0 := by
  have hruns := S8.sample_runs hinterval hserves hunit hstep
  subst hinterval
  rw [S8.sample, if_neg hruns, hnext]
  dsimp only
  split
  case h_1 r i hretained hfree =>
    have hbarred : ¬s.sampleable k r = true := by
      rintro hsampleable
      obtain hnone | hnone | ⟨r', hr', hbarred⟩ := h
      · exact nomatch hretained.symm.trans hnone
      · exact nomatch hfree.symm.trans hnone
      · obtain rfl := Option.some.inj (hretained.symm.trans hr')
        exact nomatch hsampleable.symm.trans hbarred
    rw [if_neg hbarred]
    rfl
  case h_2 => rfl

end Sample

/-! ### Checks and verdicts (R405 to R407, R410) -/

/-- The first core to check a record: its result is the reference itself. -/
theorem S8.checkRecord_of_first {s : S8} {key core : Nat} {r : TrierRecord} {g : Golden} {got : List Int}
    (hfind : SMap.find s.trier.records key = some r) (hreference : r.reference = []) (hcomputed : r.computed = [])
    (hcores : r.cores = []) (hgolden : s.goldenOf r.physical = some g) (hmay : s.mayCompute r core = true)
    (hgot : got = g.reference r.physical r.form (PourVector.ofBytes r.rows (dataColumns r.physical))) :
    s.checkRecord key core [] = s.arbitrate key { r with
      cores := [core], computed := [got]
      tolerance := tolerance (s.dict.get Obj.trierToleranceSigma) r.temp r.seconds (rmsOf got) } := by
  have hexact : got.zipIdx.map (fun e => e.1 + ([] : List Int).getD e.2 0) = got := by simp
  simp only [S8.checkRecord, hfind, hreference, hgolden, hmay, ← hgot, hexact, hcores, hcomputed, ne_eq, not_true, if_false,
    Bool.not_true, Bool.false_eq_true, List.nil_append, if_true]

section Arbitrate
variable {s : S8} {key : Nat} {r : TrierRecord} {a : List Int} (h : r.computed = [a])
include h

/-- One result that agrees within the tolerance is a verdict. -/
theorem S8.arbitrate_of_agreement (hagrees : disagreements r.tolerance r.results a = []) :
    s.arbitrate key r = s.giveVerdict key r 1 := by
  simp only [S8.arbitrate, h, hagrees, if_true]

theorem S8.arbitrate_of_disagreement (hdiffers : disagreements r.tolerance r.results a ≠ []) :
    s.arbitrate key r = (s.keepRecord key r).raise Obj.trierDisagreeCount 0 1 (unitOfVatKey r.vat) r.lane := by
  simp only [S8.arbitrate, h, hdiffers, if_false]

end Arbitrate

theorem samplesAreCheckedAndJudged : Claims.SamplesAreCheckedAndJudged := by
  refine ⟨?samples, ?checks, fun sigma seconds temp rho => Nat.le_max_left .., ?timeout⟩
  case samples =>
    rintro unit s u k interval rfl hinterval hserves hunit hstep hnext
    rw [exec_trierSample, execTrierSample, act_of_wf rfl]
    refine ⟨fun r i hretained hfree hsampleable => ?_, fun hskip => ?_⟩
    · rw [S8.sample_of_retained hinterval hserves hunit hstep hnext hretained hfree hsampleable, S8.writeRecord_frame]
      exact ⟨_, rfl, rfl⟩
    · rw [S8.sample_of_skip hinterval hserves hunit hstep hnext hskip]
      rfl
  case checks =>
    rintro die half record core s key r r' g got rfl hfind hreference hcomputed hcores hgolden hmay hgot rfl
    rw [exec_taskTrierCheck, execTaskTrierCheck, act_of_wf rfl,
      S8.checkRecord_of_first hfind hreference hcomputed hcores hgolden hmay hgot]
    refine ⟨fun hagrees => ?_, fun hdiffers => ?_⟩
    · rw [S8.arbitrate_of_agreement rfl hagrees, S8.giveVerdict]
      exact ⟨_, rfl, rfl⟩
    · rw [S8.arbitrate_of_disagreement rfl hdiffers, S8.raise, S8.keepRecord]
      exact ⟨_, rfl, rfl⟩
  case timeout =>
    rintro die half record s key r rfl hfind
    rw [exec_trierVerdictTimeout, execTrierVerdictTimeout, act_of_wf rfl]
    simp only [hfind]
    refine ⟨fun hlate => ?_, fun hearly => ?_⟩
    · rw [if_pos hlate, S8.abandonRecord, S8.raise, S8.giveVerdict]
    · rw [if_neg (Nat.not_le.2 hearly)]

/-! ### Digests (R412, R413) -/

/-- A READY version whose blocks are all held reports its digest, and counts where another is expected. -/
theorem S8.digestWheel_of_held {s : S8} {u : Wheel} (htable : s.wheels.table = [u]) (hready : u.state = 2)
    (hheld : ∀ n ∈ u.needed, s.shardHeld u n = true) : s.digestWheel u = { s with
      wheels := { s.wheels with table := [{ u with digest := s.replicaDigest u }] }
      dict := s.dict.raise s.run.step Obj.replicaMismatchCount 0
        (if s.dict.expectedDigest u ≠ zeros 32 ∧ s.dict.expectedDigest u ≠ s.replicaDigest u then 1 else 0)
        (unitField 11 u.wheelId) u.version } := by
  have hall : u.needed.all (fun n => s.shardHeld u n) = true := List.all_eq_true.2 hheld
  rw [S8.digestWheel, if_neg (by simp [hready, hall])]
  simp [S8.raise, Wheels.set, htable]

/-- The vats in service whose tables do not match are memory's and the vat map's to say. -/
theorem S8.mismatching_congr {s c : S8} (hmem : c.mem = s.mem) (hcontent : c.wheels.content = s.wheels.content) :
    c.servingVats.filter (fun k => !(c.tablesMatch k)) = s.servingVats.filter (fun k => !(s.tablesMatch k)) := by
  simp only [S8.servingVats, S8.tablesMatch, hmem, hcontent]

theorem digestsAreRecomputed : Claims.DigestsAreRecomputed := by
  refine ⟨fun s u htable hready hheld hmatch => ?_, fun s k htable hmismatch => ?_⟩
  · have hmatches : s.chip.servingVats.filter (fun k => !(s.chip.tablesMatch k)) = [] :=
      List.filter_eq_nil_iff.2 fun k hk => by simp [hmatch k hk]
    rw [exec_replicaDigestCheck, execReplicaDigestCheck, act_of_wf rfl]
    have hdigest := S8.digestWheel_of_held htable hready hheld
    have hnone := (S8.mismatching_congr (c := s.chip.digestWheel u) (by rw [hdigest]) (by rw [hdigest])).trans hmatches
    simp only [htable, List.foldl_cons, List.foldl_nil, hnone]
    rw [hdigest]
  · rw [exec_replicaDigestCheck, execReplicaDigestCheck, act_of_wf rfl]
    simp only [htable, List.foldl_nil, hmismatch, List.foldl_cons]
    exact ⟨_, rfl, rfl, by simp [S8.raise, S8.makeCandidate]⟩

/-- Settles O42: a sample and a check by their outcomes, the digests by the table's one version and by the one vat that differs. -/
theorem trierJudgesAndDigestsAgree : Obligations.TrierJudgesAndDigestsAgree := ⟨samplesAreCheckedAndJudged, digestsAreRecomputed⟩

end Sys2Proof.Machine

/-! PROOFS. Wheels are loaded and unloaded (R351 to R353, R357, R358, R365, R366). -/

namespace Sys2Proof.Machine

/-! ### A load under way (R358, R362 to R365) -/

/-- What loading a wheel leaves alone: the run but for what its lanes send, serving, the cultures, the ports and power. -/
def S8.beside (s : S8) : Run × Serving × Cultures × Ports × Power :=
  ({ s.run with transfersSent := [] }, s.serve, s.cultures, s.ports, s.power)

/-- The entry of a load that has begun and has failed for no other reason than that a block found no vat. -/
def Wheel.IsLoad (id version : Nat) (manifest : Manifest) (placement : List Placement) (u : Wheel) : Prop :=
  u.wheelId = id ∧ u.version = version ∧ (u.state = 1 ∨ (u.state = 3 ∧ u.reason = 6)) ∧
    u.manifest = manifest ∧ u.placement = placement

/-- A module in which such an entry stands, and what loading leaves alone is as it was. -/
structure S8.LoadStands (was : Run × Serving × Cultures × Ports × Power) (good : Wheel → Prop) (c : S8) : Prop where
  beside : c.beside = was
  entry : ∃ u ∈ c.wheels.table, good u

theorem Wheels.exists_set {w : Wheels} {good : Wheel → Prop} (key : Nat) {f : Wheel → Wheel} (hf : ∀ u, good u → good (f u))
    (h : ∃ u ∈ w.table, good u) : ∃ u ∈ (w.set key f).table, good u := by
  obtain ⟨u, hu, hgood⟩ := h
  refine ⟨_, List.mem_map.2 ⟨u, hu, rfl⟩, ?_⟩
  split
  · exact hf u hgood
  · exact hgood

section Load
variable {was : Run × Serving × Cultures × Ports × Power} {id version : Nat} {manifest : Manifest}
  {placement : List Placement} {c d : S8}

/-- A step of loading that keeps what it should leave alone and at most changes other fields of the entries. -/
theorem S8.LoadStands.step (h : c.LoadStands was (Wheel.IsLoad id version manifest placement)) (hbeside : d.beside = c.beside)
    (htable : d.wheels.table = c.wheels.table) : d.LoadStands was (Wheel.IsLoad id version manifest placement) :=
  ⟨hbeside.trans h.beside, htable ▸ h.entry⟩

theorem S8.LoadStands.set (h : c.LoadStands was (Wheel.IsLoad id version manifest placement)) (key : Nat) {f : Wheel → Wheel}
    (hf : ∀ u, Wheel.IsLoad id version manifest placement u → Wheel.IsLoad id version manifest placement (f u))
    (hbeside : d.beside = c.beside) (htable : d.wheels.table = (c.wheels.set key f).table) :
    d.LoadStands was (Wheel.IsLoad id version manifest placement) :=
  ⟨hbeside.trans h.beside, htable ▸ Wheels.exists_set key hf h.entry⟩

theorem S8.LoadStands.askSource (h : c.LoadStands was (Wheel.IsLoad id version manifest placement)) (u : Wheel) (n source : Nat) :
    (c.askSource u n source).LoadStands was (Wheel.IsLoad id version manifest placement) := by
  unfold S8.askSource S8.sendShardFlits
  split
  · exact h
  · split
    · split
      · exact h
      · exact h.step rfl rfl
    · exact h.step rfl rfl

theorem S8.LoadStands.fetchFrom (h : c.LoadStands was (Wheel.IsLoad id version manifest placement)) (u : Wheel) (n : Nat)
    (f : ShardFetch) : (c.fetchFrom u n f).LoadStands was (Wheel.IsLoad id version manifest placement) := by
  unfold S8.fetchFrom
  dsimp only
  split
  · refine h.set u.key ?_ rfl rfl
    exact fun _ hv => hv
  · refine S8.LoadStands.askSource ?_ ..
    refine h.set u.key ?_ rfl rfl
    exact fun _ hv => hv

theorem S8.LoadStands.fetchMore (h : c.LoadStands was (Wheel.IsLoad id version manifest placement)) :
    c.fetchMore.LoadStands was (Wheel.IsLoad id version manifest placement) :=
  List.foldlRecOn _ _ h fun _ hc e _ => hc.fetchFrom e.1 e.2 _

/-- Giving back a failed load's vats changes memory, the vats' content and turning. -/
theorem S8.LoadStands.releaseSpares (h : c.LoadStands was (Wheel.IsLoad id version manifest placement)) (targets : SMap Nat) :
    (targets.foldl (fun s e => s.releaseSpare e.2) c).LoadStands was (Wheel.IsLoad id version manifest placement) :=
  List.foldlRecOn targets _ h fun _ hc _ _ => hc.step rfl rfl

theorem S8.LoadStands.failLoad (h : c.LoadStands was (Wheel.IsLoad id version manifest placement)) (key : Nat) :
    (c.failLoad key 6).LoadStands was (Wheel.IsLoad id version manifest placement) := by
  unfold S8.failLoad
  split
  · exact h
  · refine (h.releaseSpares _).set key (fun v hv => ?_) rfl rfl
    obtain ⟨hid, hversion, -, hmanifest, hplacement⟩ := hv
    exact ⟨hid, hversion, .inr ⟨rfl, rfl⟩, hmanifest, hplacement⟩

theorem S8.LoadStands.programmeEntry (h : c.LoadStands was (Wheel.IsLoad id version manifest placement)) (u : Wheel) (i : Nat)
    (p : Placement) : (c.programmeEntry u i p).LoadStands was (Wheel.IsLoad id version manifest placement) := by
  unfold S8.programmeEntry
  dsimp only
  split
  · exact h
  · split
    · exact h
    · split
      · refine h.set ((u.key * 65536 + p.block / 62) / 65536) ?_ rfl rfl
        exact fun _ hv => hv
      · split
        · split
          · exact h.failLoad ..
          · exact h
        · refine h.set u.key ?_ rfl rfl
          exact fun _ hv => hv

theorem S8.LoadStands.programmeMore (h : c.LoadStands was (Wheel.IsLoad id version manifest placement)) :
    c.programmeMore.LoadStands was (Wheel.IsLoad id version manifest placement) := by
  refine List.foldlRecOn _ _ h fun c hc u _ => ?_
  split
  · refine List.foldlRecOn _ _ hc fun c hc e _ => ?_
    split
    · exact hc
    · split
      · exact hc.programmeEntry ..
      · exact hc
  · exact hc

end Load

/-- The module in which a load has begun: its entry stands and the golden partition holds only what its manifest names. -/
def S8.loadEntered (s : S8) (id version : Nat) : S8 :=
  let m := Manifest.ofBytes s.wheels.manifest
  let u := Wheel.fresh id version m (placementOf s.wheels.placement)
  let golden := SMap.keep (fun k b => k / 65536 ≠ u.key || sha256 b = (m.shards.getD (k % 65536) (0, [])).2) s.cellar.golden
  { s with
    cellar := { s.cellar with golden := golden }
    wheels := { s.wheels with unloaded := eraseNat u.key s.wheels.unloaded }.put
      { u with verified := u.needed.filter (fun n => (SMap.find golden (u.key * 65536 + n)).isSome) } }

theorem S8.beginLoad_eq (s : S8) (id version : Nat) :
    s.beginLoad id version = (s.loadEntered id version).fetchMore.programmeMore := rfl

theorem S8.loadStands_beginLoad (s : S8) (id version : Nat) : (s.beginLoad id version).LoadStands s.beside
    (Wheel.IsLoad id version (Manifest.ofBytes s.wheels.manifest) (placementOf s.wheels.placement)) := by
  rw [S8.beginLoad_eq]
  have hentered : (s.loadEntered id version).LoadStands s.beside
      (Wheel.IsLoad id version (Manifest.ofBytes s.wheels.manifest) (placementOf s.wheels.placement)) :=
    ⟨rfl, _, List.mem_append_right _ (List.mem_singleton.2 rfl), rfl, rfl, .inl rfl, rfl, rfl⟩
  exact hentered.fetchMore.programmeMore

/-! ### A load that cannot begin (R365) -/

/-- Taking out a failed entry leaves the entries that have not failed. -/
theorem filter_eraseP_failed (l : List Wheel) :
    (l.eraseP (fun v => v.state = 3)).filter (fun v => v.state ≠ 3) = l.filter (fun v => v.state ≠ 3) := by
  obtain hall | ⟨a, front, back, -, ha, hl, herased⟩ := List.exists_or_eq_self_of_eraseP (fun v : Wheel => decide (v.state = 3)) l
  · rw [hall]
  · rw [herased, hl, List.filter_append, List.filter_append, List.filter_cons_of_neg (by simpa using ha)]

/-- Putting a failed entry for a version that is not held, while there is room, leaves every held version as it was. -/
theorem Wheels.held_put_failed {w : Wheels} {u : Wheel} (hstate : u.state = 3) (hnone : w.held.any (fun v => v.key = u.key) = false) :
    (w.put u).held = w.held := by
  have hothers : (w.table.filter (fun v => v.key ≠ u.key)).filter (fun v => v.state ≠ 3) = w.held := by
    rw [List.filter_comm]
    refine List.filter_eq_self.2 fun v hv => ?_
    have hkey := List.any_eq_false.1 hnone v hv
    simpa using hkey
  unfold Wheels.put Wheels.held at *
  simp only [List.filter_append]
  split
  · rw [filter_eraseP_failed, hothers]
    simp [hstate]
  · rw [hothers]
    simp [hstate]

theorem S8.held_refuseLoad (s : S8) (id version reason : Nat) : (s.refuseLoad id version reason).wheels.held = s.wheels.held := by
  unfold S8.refuseLoad S8.raise
  dsimp only
  split
  · rfl
  · next hroom =>
    rw [Bool.or_eq_true, not_or, Bool.not_eq_true] at hroom
    exact Wheels.held_put_failed rfl hroom.1

theorem S8.refuseLoad_frame (s : S8) (id version reason : Nat) : s.refuseLoad id version reason = { s with
    wheels := { s.wheels with table := (s.refuseLoad id version reason).wheels.table }
    dict := s.dict.raise s.run.step Obj.wheelLoadFailCount 0 1 (unitField 11 id) reason } := by
  unfold S8.refuseLoad S8.raise
  dsimp only
  split <;> rfl

/-! ### What a request that begins a load has passed (R352, R353, R357, R365) -/

theorem S8.of_loadReason_eq_zero {s : S8} {id version : Nat} (h : s.loadReason id version = 0) :
    (∃ key, s.dict.publisherKey (leAt s.wheels.manifest 3 1) = some key ∧ signedBy key s.wheels.manifest = true) ∧
      manifestInRange s.wheels.manifest id version = true ∧ s.wheels.held.length < 8 ∧
      (∀ u ∈ s.wheels.held, u.wheelId ≠ id ∨ u.version ≠ version) ∧
      s.placementGood s.wheels.placement id version (leAt s.wheels.manifest 12 4) = true := by
  unfold S8.loadReason at h
  dsimp only at h
  split at h
  · exact absurd h (by decide)
  split at h
  · exact absurd h (by decide)
  next key hkey =>
  split at h
  · exact absurd h (by decide)
  next hsigned =>
  split at h
  · exact absurd h (by decide)
  next hrange =>
  split at h
  · exact absurd h (by decide)
  next hfree =>
  split at h
  · exact absurd h (by decide)
  next hplaces =>
  rw [not_or, Nat.not_le] at hfree
  refine ⟨⟨key, hkey, by simpa using hsigned⟩, by simpa using hrange, hfree.1, fun u hu => ?_, by simpa using hplaces⟩
  by_contra! hsame
  exact hfree.2 (List.any_eq_true.2 ⟨u, hu, by simpa using hsame⟩)

/-! ### Unloading (R365, R366) -/

/-- Giving back a list of vats leaves alone whatever giving back one of them does. -/
theorem S8.releaseSpares_keeps {β : Type} (p : S8 → β) (h : ∀ (s : S8) (k : Nat), p (s.releaseSpare k) = p s)
    (targets : SMap Nat) (s : S8) :
    p (targets.foldl (fun s e => s.releaseSpare e.2) s) = p s :=
  foldl_keeps p (fun s e => h s e.2) targets s

theorem S8.releaseSpares_frees (targets : SMap Nat) (s : S8) (k : Nat)
    (hk : (∃ e ∈ targets, e.2 = k) ∨ (SMap.find s.wheels.content k = none ∧ k ∉ s.turn.programming)) :
    SMap.find (targets.foldl (fun s e => s.releaseSpare e.2) s).wheels.content k = none ∧
      k ∉ (targets.foldl (fun s e => s.releaseSpare e.2) s).turn.programming := by
  induction targets generalizing s with
  | nil => simpa using hk
  | cons e rest ih =>
    refine ih (s.releaseSpare e.2) ?_
    obtain ⟨e', hmem, rfl⟩ | ⟨hcontent, hturn⟩ := hk
    · obtain rfl | hrest := List.mem_cons.1 hmem
      · exact .inr ⟨SMap.find_erase_self .., fun h => ((mem_eraseNat ..).1 h).2 rfl⟩
      · exact .inl ⟨e', hrest, rfl⟩
    · refine .inr ⟨?_, fun h => hturn ((mem_eraseNat ..).1 h).1⟩
      simp only [S8.releaseSpare, SMap.find_erase, hcontent, ite_self]

/-- The module that a load given up leaves, its vats free. -/
theorem S8.failLoad_of_find {s : S8} {key reason : Nat} {u : Wheel} (h : s.wheels.find key = some u) :
    s.failLoad key reason = S8.raise { u.targets.foldl (fun s e => s.releaseSpare e.2) s with
      wheels := (u.targets.foldl (fun s e => s.releaseSpare e.2) s).wheels.set key (fun v => { v with
        state := 3, reason := reason, fetching := [], targets := [], ready := [] }) }
      Obj.wheelLoadFailCount 0 1 (unitField 11 u.wheelId) reason := by
  unfold S8.failLoad
  rw [h]

theorem Wheels.key_of_find {w : Wheels} {key : Nat} {u : Wheel} (h : w.find key = some u) : u ∈ w.table ∧ u.key = key :=
  ⟨List.mem_of_find?_eq_some h, by simpa using List.find?_some h⟩

/-- A load given up is failed with the reason, its vats are free, and neither the run, serving nor the cellar has changed. -/
theorem S8.failLoad_gives_up {s : S8} {key reason : Nat} {u : Wheel} (h : s.wheels.find key = some u) :
    (s.failLoad key reason).run = s.run ∧ (s.failLoad key reason).serve = s.serve ∧ (s.failLoad key reason).cellar = s.cellar ∧
      (∃ x ∈ (s.failLoad key reason).wheels.table,
        x.key = u.key ∧ x.state = 3 ∧ x.reason = reason ∧ x.fetching = [] ∧ x.targets = []) ∧
      (s.failLoad key reason).dict = s.dict.raise s.run.step Obj.wheelLoadFailCount 0 1 (unitField 11 u.wheelId) reason ∧
      ∀ e ∈ u.targets,
        SMap.find (s.failLoad key reason).wheels.content e.2 = none ∧ e.2 ∉ (s.failLoad key reason).turn.programming := by
  obtain ⟨hmem, hkey⟩ := Wheels.key_of_find h
  have hfree := S8.releaseSpares_frees u.targets s
  have hrun := S8.releaseSpares_keeps S8.run (fun _ _ => rfl) u.targets s
  have hserve := S8.releaseSpares_keeps S8.serve (fun _ _ => rfl) u.targets s
  have hcellar := S8.releaseSpares_keeps S8.cellar (fun _ _ => rfl) u.targets s
  have hdict := S8.releaseSpares_keeps S8.dict (fun _ _ => rfl) u.targets s
  have htable := S8.releaseSpares_keeps (fun s => s.wheels.table) (fun _ _ => rfl) u.targets s
  rw [S8.failLoad_of_find h]
  generalize u.targets.foldl (fun s e => s.releaseSpare e.2) s = freed at *
  refine ⟨hrun, hserve, hcellar, ⟨_, List.mem_map.2 ⟨u, htable ▸ hmem, if_pos hkey⟩, rfl, rfl, rfl, rfl, rfl⟩, ?_,
    fun e he => hfree e.2 (.inl ⟨e, he, rfl⟩)⟩
  simp only [S8.raise, hdict, hrun]

theorem wheelUnloadEffect_loading {s : S8} {value : Bytes} {u : Wheel} (h : s.wheels.find (field (valueOf value) 0 40) = some u)
    (hstate : u.state = 1) : wheelUnloadEffect s value = (statusOk, s.failLoad (field (valueOf value) 0 40) 7) := by
  simp only [wheelUnloadEffect, h, hstate, if_pos]

theorem wheelUnloadEffect_used {s : S8} {value : Bytes} {u : Wheel} (h : s.wheels.find (field (valueOf value) 0 40) = some u)
    (hstate : u.state = 2) (hused : s.run.usesWheel u = true) :
    wheelUnloadEffect s value = (statusState, s.raise Obj.unloadRefusedCount 0 1 (unitField 11 u.wheelId) u.version) := by
  simp [wheelUnloadEffect, h, hstate, hused]

theorem wheelUnloadEffect_ready {s : S8} {value : Bytes} {u : Wheel} (h : s.wheels.find (field (valueOf value) 0 40) = some u)
    (hstate : u.state = 2) (hused : s.run.usesWheel u = false) :
    wheelUnloadEffect s value =
      (statusOk, { s with wheels := s.wheels.set (field (valueOf value) 0 40) (fun v => { v with state := 4, fetching := [] }) }) := by
  simp [wheelUnloadEffect, h, hstate, hused]

/-! ### The two commands -/

theorem exec_wheelLoadRequest_arrives {w : ObjWrite} {s : State} (harr : s.chip.writeArrives w Obj.wheelLoadRequest) :
    exec (.wheelLoadRequest w) s = .next { s with
      chip := (wheelLoadEffect s.chip w.value).2.writeDone w Obj.wheelLoadRequest } := by
  rw [exec_wheelLoadRequest, execWheelLoadRequest, act_of_wf rfl, S8.performWrite_ok harr (by decide) rfl]

/-- Settles O55: every step of loading keeps the entry of a load that began; a refusal and an unload change the table alone. -/
theorem wheelsAreLoadedAndUnloaded : Obligations.WheelsAreLoadedAndUnloaded := by
  unfold Obligations.WheelsAreLoadedAndUnloaded
  refine ⟨?loaded, ?refused, fun s id version => S8.of_loadReason_eq_zero, ?unloaded⟩
  case loaded =>
    rintro w s id version harr rfl rfl hreason
    obtain ⟨hbeside, u, hu, hgood⟩ :=
      S8.loadStands_beginLoad s.chip (field (valueOf w.value) 32 8) (field (valueOf w.value) 0 32)
    generalize hbegun : s.chip.beginLoad (field (valueOf w.value) 32 8) (field (valueOf w.value) 0 32) = c at *
    obtain ⟨hrun, hserve, hcultures, hports, hpower⟩ := by simpa only [S8.beside, Prod.mk.injEq] using hbeside
    refine ⟨c, ?_, ?_, hserve, hcultures, hports, hpower, u, hu, hgood⟩
    · rw [exec_wheelLoadRequest_arrives harr, wheelLoadEffect, if_pos hreason, hbegun]
    · exact congrArg (fun r : Run => { r with transfersSent := c.run.transfersSent }) hrun
  case refused =>
    rintro w s id version harr rfl rfl hreason
    have hframe := S8.refuseLoad_frame s.chip (field (valueOf w.value) 32 8) (field (valueOf w.value) 0 32)
      (s.chip.loadReason (field (valueOf w.value) 32 8) (field (valueOf w.value) 0 32))
    refine ⟨_, ?_, hframe, S8.held_refuseLoad ..⟩
    rw [exec_wheelLoadRequest_arrives harr, wheelLoadEffect, if_neg hreason]
  case unloaded =>
    intro w s u harr hfind
    refine ⟨fun hstate => ?_, fun hstate hused => ?_, fun hstate hused => ?_⟩
    · have heffect := wheelUnloadEffect_loading hfind hstate
      refine ⟨_, ?_, S8.failLoad_gives_up hfind⟩
      rw [exec_wheelUnload, execWheelUnload, act_of_wf rfl, S8.performWrite_ok harr (by decide) (congrArg Prod.fst heffect), heffect]
    · rw [exec_wheelUnload, execWheelUnload, act_of_wf rfl, S8.performWrite_arrives harr, wheelUnloadEffect_used hfind hstate hused]
      rfl
    · have heffect := wheelUnloadEffect_ready hfind hstate hused
      refine ⟨_, ?_, rfl⟩
      rw [exec_wheelUnload, execWheelUnload, act_of_wf rfl, S8.performWrite_ok harr (by decide) (congrArg Prod.fst heffect), heffect]
      rfl

end Sys2Proof.Machine

/-! PROOFS. Cultures are received, written and unloaded (R364, R374, R375, R378 to R380, R393). -/

namespace Sys2Proof.Machine

/-! ### The culture table (R375) -/

theorem Cultures.key_of_find {c : Cultures} {key : Nat} {v : Culture} (h : c.find key = some v) : v ∈ c.table ∧ v.key = key :=
  ⟨List.mem_of_find?_eq_some h, by simpa using List.find?_some h⟩

/-- The entry found after a change is the changed one. -/
theorem Cultures.find_set {c : Cultures} {key : Nat} {f : Culture → Culture} {v : Culture} (h : c.find key = some v)
    (hkey : (f v).key = key) : (c.set key f).find key = some (f v) := by
  have hv := (Cultures.key_of_find h).2
  unfold Cultures.find at h
  unfold Cultures.set Cultures.find
  obtain ⟨-, front, back, htable, hfront⟩ := List.find?_eq_some_iff_append.1 h
  have hfront : ∀ u ∈ front, u.key ≠ key := fun u hu => by simpa using hfront u hu
  have hkept : front.map (fun v => if v.key = key then f v else v) = front :=
    (List.map_congr_left fun u hu => if_neg (hfront u hu)).trans (List.map_id' _)
  rw [htable, List.map_append, hkept, List.map_cons, if_pos hv, List.find?_append,
    List.find?_eq_none.2 fun u hu => by simpa using hfront u hu, List.find?_cons_of_pos (by simpa using hkey), Option.none_or]

theorem Cultures.mem_set {c : Cultures} {key : Nat} {f : Culture → Culture} {v : Culture} (h : v ∈ c.table) (hkey : v.key = key) :
    f v ∈ (c.set key f).table :=
  List.mem_map.2 ⟨v, h, if_pos hkey⟩

theorem Cultures.getLast_put (c : Cultures) (v : Culture) : (c.put v).table.getLast? = some v := by
  simp [Cultures.put]

theorem Cultures.find_put (c : Cultures) (v : Culture) : (c.put v).find v.key = some v := by
  have hnone : ∀ l : List Culture, (∀ u ∈ l, u ∈ c.table.filter (fun u => u.key ≠ v.key)) →
      (l ++ [v]).find? (fun u => u.key = v.key) = some v := by
    intro l hl
    rw [List.find?_append, List.find?_eq_none.2 fun u hu => by simpa using (List.mem_filter.1 (hl u hu)).2]
    simp
  refine hnone _ fun u hu => ?_
  split at hu
  · exact List.mem_of_mem_eraseP hu
  · exact hu

/-- Every version held and of another key is held on. -/
theorem Cultures.mem_put {c : Cultures} {u v : Culture} (h : u ∈ c.table) (hkey : u.key ≠ v.key) (hstate : u.state ≠ 6) :
    u ∈ (c.put v).table := by
  have hrest : u ∈ c.table.filter (fun u => u.key ≠ v.key) := List.mem_filter.2 ⟨h, by simpa using hkey⟩
  refine List.mem_append_left _ ?_
  split
  · exact (List.mem_eraseP_of_neg (by simpa using hstate)).2 hrest
  · exact hrest

/-! ### A load that fails (R375) -/

/-- Giving back a failed load's vats leaves all but memory, the vats' content and turning. -/
theorem S8.failCulture_of_find {s : S8} {key reason : Nat} {v : Culture} (h : s.cultures.find key = some v) :
    (s.failCulture key reason).run = s.run ∧ (s.failCulture key reason).serve = s.serve ∧
      (s.failCulture key reason).cellar = s.cellar ∧
      (s.failCulture key reason).dict = s.dict.raise s.run.step Obj.cultureLoadFailCount 0 1 (unitField 11 v.cultureId) reason ∧
      (s.failCulture key reason).cultures.table = (s.cultures.set key
        (fun u => { u with state := 6, reason := reason, place := none, targets := [], segments := [] })).table := by
  have hrun := S8.releaseSpares_keeps S8.run (fun _ _ => rfl) v.targets s
  have hserve := S8.releaseSpares_keeps S8.serve (fun _ _ => rfl) v.targets s
  have hcellar := S8.releaseSpares_keeps S8.cellar (fun _ _ => rfl) v.targets s
  have hdict := S8.releaseSpares_keeps S8.dict (fun _ _ => rfl) v.targets s
  have hcultures := S8.releaseSpares_keeps S8.cultures (fun _ _ => rfl) v.targets s
  unfold S8.failCulture
  rw [h]
  dsimp only
  generalize v.targets.foldl (fun s e => s.releaseSpare e.2) s = freed at *
  refine ⟨hrun, hserve, hcellar, ?_, ?_⟩
  · simp only [S8.raise, hdict, hrun]
  · cases hplace : v.place <;> simp only [S8.raise, hcultures, Cultures.setPlace]

/-- A load that fails stands in the table with its reason. -/
theorem S8.exists_failed {s : S8} {key reason : Nat} {v x : Culture} (h : s.cultures.find key = some v) (hx : x ∈ s.cultures.table)
    (hkey : x.key = key) : ∃ y ∈ (s.failCulture key reason).cultures.table, y.key = key ∧ y.tries = x.tries ∧ y.state = 6 ∧
      y.reason = reason := by
  obtain ⟨-, -, -, -, htable⟩ := S8.failCulture_of_find (reason := reason) h
  rw [htable]
  exact ⟨_, Cultures.mem_set hx hkey, hkey, rfl, rfl, rfl⟩

/-! ### A request (R375, R379) -/

theorem cultureLoadEffect_begins {s : S8} {value : Bytes} (hlength : value.length = 44)
    (hroom : (s.cultures.table.filter (fun u => u.state ≠ 6)).length < 512) :
    cultureLoadEffect s value = (statusOk, s.beginCulture value) := by
  rw [cultureLoadEffect, if_neg (not_not.2 hlength), if_neg (Nat.not_le.2 hroom)]

theorem not_held_of_failed {l : List Culture} {key : Nat} (h : ∀ u ∈ l, u.key = key → u.state = 6) :
    ¬ l.any (fun u => u.key = key && u.state ≠ 6) = true := by
  simpa using h

theorem S8.beginCulture_received {s : S8} {b : Bytes}
    (hfailed : ∀ u ∈ s.cultures.table, u.key = (Culture.ofRequest b).key → u.state = 6)
    (hreason : s.cultureReason (Culture.ofRequest b) (leAt b 4 1) = 0) (hflag : field (leAt b 4 1) 1 1 = 0) :
    s.beginCulture b = { s with cultures := s.cultures.put (Culture.ofRequest b) } := by
  rw [S8.beginCulture, if_neg (not_held_of_failed hfailed), if_neg (not_not.2 hreason), if_neg (by rw [hflag]; decide)]

theorem S8.beginCulture_refused {s : S8} {b : Bytes}
    (hfailed : ∀ u ∈ s.cultures.table, u.key = (Culture.ofRequest b).key → u.state = 6)
    (hreason : s.cultureReason (Culture.ofRequest b) (leAt b 4 1) ≠ 0) :
    s.beginCulture b = S8.failCulture { s with cultures := s.cultures.put (Culture.ofRequest b) } (Culture.ofRequest b).key
      (s.cultureReason (Culture.ofRequest b) (leAt b 4 1)) := by
  rw [S8.beginCulture, if_neg (not_held_of_failed hfailed), if_pos hreason]

/-- A request that fails at once has no vats to give back: only its entry and the count change. -/
theorem S8.failCulture_fresh (s : S8) (b : Bytes) (reason : Nat) :
    S8.failCulture { s with cultures := s.cultures.put (Culture.ofRequest b) } (Culture.ofRequest b).key reason = { s with
      cultures := { s.cultures with table := (S8.failCulture { s with cultures := s.cultures.put (Culture.ofRequest b) }
        (Culture.ofRequest b).key reason).cultures.table }
      dict := s.dict.raise s.run.step Obj.cultureLoadFailCount 0 1 (unitField 11 (Culture.ofRequest b).cultureId) reason } := by
  have hfind := Cultures.find_put s.cultures (Culture.ofRequest b)
  unfold S8.failCulture
  rw [hfind]
  rfl

theorem S8.cultureReason_unnamed (s : S8) {v : Culture} (h : v.cultureId = 0 ∨ v.version = 0) : s.cultureReason v 0 = 2 := by
  rw [S8.cultureReason, if_pos (h.elim .inl fun h => .inr (.inl h))]

theorem S8.cultureReason_known {s : S8} {v : Culture} (hid : 0 < v.cultureId) (hversion : 0 < v.version)
    (hlength : imageLengthOk v.length = true) :
    (∃ n, (n ∈ s.versionsHeld v.cultureId ∨ n ∈ s.versionsStored v.cultureId) ∧ v.version ≤ n) ↔ s.cultureReason v 0 = 3 := by
  have hfields : ¬(v.cultureId = 0 ∨ v.version = 0 ∨ (!(imageLengthOk v.length)) = true) := by
    simp [hid.ne', hversion.ne', hlength]
  rw [S8.cultureReason, if_neg hfields]
  constructor
  · rintro ⟨n, hn, hle⟩
    exact if_pos (List.any_eq_true.2 ⟨n, List.mem_append.2 hn, decide_eq_true hle⟩)
  · intro hthree
    by_contra hnone
    refine absurd hthree ?_
    rw [if_neg]
    · decide
    · intro hany
      obtain ⟨n, hn, hle⟩ := List.any_eq_true.1 hany
      exact hnone ⟨n, List.mem_append.1 hn, of_decide_eq_true hle⟩

/-! ### What settling a version that has its image keeps (R375, R378, R379) -/

/-- What placing a version leaves alone: the run, the culture partition and ripening. -/
def S8.besidePlacing (s : S8) : Run × SMap Bytes × Ripening := (s.run, s.cellar.images, s.ripen)

theorem S8.setSequence_besidePlacing (s : S8) (slot : Nat) (f : Sequence → Sequence) :
    (s.setSequence slot f).besidePlacing = s.besidePlacing := by
  unfold S8.setSequence
  split <;> rfl

theorem S8.pauseParked_besidePlacing (s : S8) (slot : Nat) (q : Sequence) :
    (s.pauseParked slot q).besidePlacing = s.besidePlacing := by
  unfold S8.pauseParked
  split
  · exact S8.setSequence_besidePlacing ..
  · split
    · exact S8.setSequence_besidePlacing ..
    · exact S8.setSequence_besidePlacing ..

theorem S8.pausePinned_besidePlacing (s : S8) (u : Culture) : (s.pausePinned u).besidePlacing = s.besidePlacing := by
  refine foldl_keeps S8.besidePlacing (fun c e => ?_) _ s
  split
  · split
    · rfl
    · exact S8.pauseParked_besidePlacing ..
  · exact S8.setSequence_besidePlacing ..

/-- Writing a role begins to programme a vat. -/
theorem S8.writeRole_keeps (s : S8) (key n l : Nat) : (s.writeRole key n l).run = s.run ∧ (s.writeRole key n l).serve = s.serve ∧
    (s.writeRole key n l).cellar = s.cellar := by
  unfold S8.writeRole
  split
  · dsimp only
    split <;> exact ⟨rfl, rfl, rfl⟩
  · exact ⟨rfl, rfl, rfl⟩

theorem S8.writeRole_besidePlacing (s : S8) (key n l : Nat) : (s.writeRole key n l).besidePlacing = s.besidePlacing := by
  unfold S8.writeRole
  split
  · dsimp only
    split <;> rfl
  · rfl

theorem S8.placeCulture_besidePlacing (s : S8) (key : Nat) : (s.placeCulture key).besidePlacing = s.besidePlacing := by
  unfold S8.placeCulture
  split
  · rfl
  · dsimp only
    split
    · rfl
    · split
      · rfl
      · exact foldl_keeps S8.besidePlacing (fun c e => S8.writeRole_besidePlacing ..) _ _

theorem S8.spaceWait_besidePlacing (s : S8) (key : Nat) : (s.spaceWait key).besidePlacing = s.besidePlacing := by
  unfold S8.spaceWait
  split
  · rfl
  · split <;> rfl

theorem S8.forcePlace_besidePlacing (s : S8) (key : Nat) : (s.forcePlace key).besidePlacing = s.besidePlacing := by
  unfold S8.forcePlace
  split
  · rfl
  · split
    · rfl
    · split
      · rfl
      · exact S8.pausePinned_besidePlacing ..

theorem S8.settleCulture_besidePlacing (s : S8) (key : Nat) : (s.settleCulture key).besidePlacing = s.besidePlacing :=
  (S8.forcePlace_besidePlacing ..).trans ((S8.spaceWait_besidePlacing ..).trans (S8.placeCulture_besidePlacing ..))

/-! ### An image that is whole (R374, R375) -/

theorem S8.imageWhole_other {s : S8} {v : Culture} (hsha : sha256 (assemble v.length v.segments) ≠ v.sha) :
    s.imageWhole v = s.failCulture v.key 1 := by
  rw [S8.imageWhole, if_neg hsha]

theorem S8.imageWhole_malformed {s : S8} {v : Culture} (hsha : sha256 (assemble v.length v.segments) = v.sha)
    (hbad : cultureMalformed (assemble v.length v.segments) v.cultureId v.version = true) : s.imageWhole v = s.failCulture v.key 5 := by
  rw [S8.imageWhole, if_pos hsha, S8.imageVerified, if_pos hbad]

theorem S8.imageWhole_shapeless {s : S8} {v : Culture} (hsha : sha256 (assemble v.length v.segments) = v.sha)
    (hgood : cultureMalformed (assemble v.length v.segments) v.cultureId v.version = false)
    (hshape : ∀ p ∈ s.run.places, p.shape ≠ leAt (assemble v.length v.segments) 8 4) : s.imageWhole v = s.failCulture v.key 4 := by
  rw [S8.imageWhole, if_pos hsha, S8.imageVerified, if_neg (by simp [hgood]), if_pos (by simpa using hshape)]

theorem S8.imageWhole_kept {s : S8} {v : Culture} (hsha : sha256 (assemble v.length v.segments) = v.sha)
    (hgood : cultureMalformed (assemble v.length v.segments) v.cultureId v.version = false)
    (hshape : ∃ p ∈ s.run.places, p.shape = leAt (assemble v.length v.segments) 8 4) :
    (s.imageWhole v).run = s.run ∧ SMap.find (s.imageWhole v).cellar.images v.key = some (assemble v.length v.segments) := by
  rw [S8.imageWhole, if_pos hsha, S8.imageVerified, if_neg (by simp [hgood]), if_neg (by simpa using hshape)]
  exact ⟨congrArg Prod.fst (S8.settleCulture_besidePlacing ..),
    (congrArg (fun m => SMap.find m.2.1 v.key) (S8.settleCulture_besidePlacing ..)).trans (SMap.find_insert_self ..)⟩

/-! ### A frame of an image (R374) -/

/-- The entry of a version to which a frame's bytes have come. -/
def Culture.taking (u : Culture) (v : FrameView) : Culture :=
  { u with segments := u.segments ++ [(v.at 8 4, bytesAt v.payload 16 (v.at 12 2))] }

/-- The module in which a frame's bytes are held. -/
def S8.cultureTook (s : S8) (f : Frame) (u : Culture) (v : FrameView) : S8 :=
  { s.goodFrame f.port with cultures := s.cultures.set u.key (fun _ => u.taking v) }

section Frames
variable {f : Frame} {v : FrameView} {s : State} {u : Culture}

theorem exec_bulkCulture_taken (harr : s.chip.frameArrives f v) (htype : v.type = 0x30) (hkind : v.at 0 1 = 5)
    (howner : s.chip.ports.owner = f.port) (hfind : s.chip.cultures.find (v.at 2 2 * 65536 + v.at 4 2) = some u) (hstate : u.state = 1)
    (hhandle : v.handle = 0) (hsome : 0 < v.at 12 2) (hmost : v.at 12 2 ≤ 208) (hfits : v.at 8 4 + v.at 12 2 ≤ u.length) :
    exec (.bulkCulture f) s = .next { s with
      chip := if segmentsCover u.length (u.taking v).segments then (s.chip.cultureTook f u v).imageWhole (u.taking v)
        else s.chip.cultureTook f u v } := by
  have hwf : WellFormed (.bulkCulture f) = true := decide_eq_true harr.1
  have hfind' : (s.chip.goodFrame f.port).cultures.find (v.at 2 2 * 65536 + v.at 4 2) = some u := hfind
  have htaken : ¬(u.state ≠ 1 ∨ v.handle ≠ 0 ∨ v.at 12 2 = 0 ∨ 208 < v.at 12 2 ∨ u.length < v.at 8 4 + v.at 12 2) := by omega
  rw [exec_bulkCulture, execBulkCulture, act_of_wf hwf, S8.receiveBulk_arrives harr htype hkind howner]
  dsimp only
  rw [hfind']
  dsimp only
  rw [if_neg htaken, ← (Cultures.key_of_find hfind).2]
  rfl

theorem S8.find_cultureTook {s : S8} {key : Nat} (hfind : s.cultures.find key = some u) :
    (s.cultureTook f u v).cultures.find u.key = some (u.taking v) := by
  have hkey := (Cultures.key_of_find hfind).2
  subst hkey
  exact Cultures.find_set hfind rfl

end Frames

/-! ### Writing a place (R364, R375) -/

theorem exec_cultureWriteComplete_ended {place : Fin 512} {verified : Bool} {s : State} {v : Culture} {p : PlaceRecord}
    (hfind : s.chip.cultures.table.find? (fun v => v.state = 3 && v.place = some place.val && !v.verified) = some v)
    (hplace : s.chip.run.placeRecord place = some p) (hended : ∀ e ∈ v.targets, s.chip.calibrationEnded e.2 = true) :
    exec (.cultureWriteComplete place verified) s = .next { s with
      chip := if verified && v.targets.all (fun e => s.chip.readVerified e.2) then
          { s.chip with cultures := s.chip.cultures.set v.key (fun u => { u with verified := true }) }
        else s.chip.rolesFailed v p } := by
  have hnone : ¬ v.targets.any (fun e => !(s.chip.calibrationEnded e.2)) = true := by simpa using hended
  rw [exec_cultureWriteComplete, execCultureWriteComplete, act_of_wf rfl, hfind, hplace]
  dsimp only
  rw [if_neg hnone]

/-- Setting vats aside changes neither the run, serving, the cellar nor the culture table. -/
theorem S8.setAside_keeps {β : Type} (p : S8 → β) (h : ∀ (s : S8) (k : Nat), p ((s.releaseSpare k).makeCandidate k) = p s)
    (bad : SMap Nat) (s : S8) : p (bad.foldl (fun s e => (s.releaseSpare e.2).makeCandidate e.2) s) = p s :=
  foldl_keeps p (fun s e => h s e.2) bad s

theorem Cultures.exists_find {c : Cultures} {v : Culture} (h : v ∈ c.table) : ∃ u, c.find v.key = some u :=
  Option.isSome_iff_exists.1 (List.find?_isSome.2 ⟨v, h, decide_eq_true rfl⟩)

theorem S8.writeRoles_keeps (key : Nat) (l : List (Nat × Nat)) (s : S8) :
    (l.foldl (fun s e => s.writeRole key e.1 e.2) s).run = s.run ∧ (l.foldl (fun s e => s.writeRole key e.1 e.2) s).serve = s.serve ∧
      (l.foldl (fun s e => s.writeRole key e.1 e.2) s).cellar = s.cellar :=
  ⟨foldl_keeps S8.run (fun c e => (S8.writeRole_keeps c key e.1 e.2).1) l s,
    foldl_keeps S8.serve (fun c e => (S8.writeRole_keeps c key e.1 e.2).2.1) l s,
    foldl_keeps S8.cellar (fun c e => (S8.writeRole_keeps c key e.1 e.2).2.2) l s⟩

/-- A version with a key and a number of tries stands in the table. -/
def Cultures.HasTried (c : Cultures) (key tries : Nat) : Prop := ∃ x ∈ c.table, x.key = key ∧ x.tries = tries

theorem S8.writeRole_hasTried {s : S8} {key n l k tries : Nat} (h : s.cultures.HasTried k tries) :
    (s.writeRole key n l).cultures.HasTried k tries := by
  unfold S8.writeRole
  split
  · dsimp only
    split
    · exact h
    · obtain ⟨x, hx, hkey, htries⟩ := h
      refine ⟨_, List.mem_map.2 ⟨x, hx, rfl⟩, ?_⟩
      split <;> exact ⟨hkey, htries⟩
  · exact h

theorem S8.writeRoles_hasTried {s : S8} {key k tries : Nat} (l : List (Nat × Nat)) (h : s.cultures.HasTried k tries) :
    (l.foldl (fun s e => s.writeRole key e.1 e.2) s).cultures.HasTried k tries :=
  List.foldlRecOn (motive := fun s : S8 => s.cultures.HasTried k tries) l _ h fun _ hc _ _ => S8.writeRole_hasTried hc

/-- The module in which the roles that failed are set aside, their vats free. -/
def S8.rolesAside (s : S8) (v : Culture) : S8 :=
  let bad := s.failedRoles v
  let s1 := bad.foldl (fun s e => (s.releaseSpare e.2).makeCandidate e.2) s
  { s1 with cultures := s1.cultures.set v.key (fun u => { u with
    tries := v.tries + 1, targets := SMap.keep (fun n _ => !(bad.any (fun e => e.1 = n))) u.targets }) }

theorem S8.rolesFailed_eq (s : S8) (v : Culture) (p : PlaceRecord) : s.rolesFailed v p =
    if 3 ≤ v.tries + 1 then (s.rolesAside v).failCulture v.key 6
    else ((v.writes p).filter (fun e => (s.failedRoles v).any (fun x => x.1 = e.1))).foldl (fun s e => s.writeRole v.key e.1 e.2)
      (s.rolesAside v) := rfl

theorem S8.rolesAside_keeps (s : S8) (v : Culture) :
    (s.rolesAside v).run = s.run ∧ (s.rolesAside v).serve = s.serve ∧ (s.rolesAside v).cellar = s.cellar :=
  ⟨S8.setAside_keeps S8.run (fun _ _ => rfl) (s.failedRoles v) s, S8.setAside_keeps S8.serve (fun _ _ => rfl) (s.failedRoles v) s,
    S8.setAside_keeps S8.cellar (fun _ _ => rfl) (s.failedRoles v) s⟩

theorem S8.rolesAside_hasTried {s : S8} {v : Culture} (hv : v ∈ s.cultures.table) :
    (s.rolesAside v).cultures.HasTried v.key (v.tries + 1) := by
  have hcultures := S8.setAside_keeps S8.cultures (fun _ _ => rfl) (s.failedRoles v) s
  exact ⟨_, Cultures.mem_set (hcultures ▸ hv) rfl, rfl, rfl⟩

/-- The roles that failed are set aside and the version has one more try behind it; the third ends the load. -/
theorem S8.rolesFailed_outcome {s : S8} {v : Culture} {p : PlaceRecord} (hv : v ∈ s.cultures.table) :
    (s.rolesFailed v p).run = s.run ∧ (s.rolesFailed v p).serve = s.serve ∧ (s.rolesFailed v p).cellar = s.cellar ∧
      ∃ x ∈ (s.rolesFailed v p).cultures.table,
        x.key = v.key ∧ x.tries = v.tries + 1 ∧ (2 ≤ v.tries → x.state = 6 ∧ x.reason = 6) := by
  obtain ⟨hrun, hserve, hcellar⟩ := s.rolesAside_keeps v
  have htried := S8.rolesAside_hasTried hv
  rw [S8.rolesFailed_eq]
  generalize s.rolesAside v = aside at *
  split
  · obtain ⟨x, hx, hkey, htries⟩ := htried
    obtain ⟨u, hfind⟩ := Cultures.exists_find hx
    rw [hkey] at hfind
    obtain ⟨hrun', hserve', hcellar', -, -⟩ := S8.failCulture_of_find (reason := 6) hfind
    obtain ⟨y, hy, hykey, hytries, hfailed⟩ := S8.exists_failed (reason := 6) hfind hx hkey
    exact ⟨hrun'.trans hrun, hserve'.trans hserve, hcellar'.trans hcellar, y, hy, hykey, hytries.trans htries, fun _ => hfailed⟩
  · next hfew =>
    obtain ⟨hrun', hserve', hcellar'⟩ := S8.writeRoles_keeps v.key _ aside
    obtain ⟨x, hx, hkey, htries⟩ := S8.writeRoles_hasTried _ htried
    exact ⟨hrun'.trans hrun, hserve'.trans hserve, hcellar'.trans hcellar, x, hx, hkey, htries, fun hmany => absurd hmany (by omega)⟩

/-! ### Unloading (R374, R378, R380) -/

theorem cultureUnloadEffect_retires {s : S8} {value : Bytes} {v : Culture} (hfind : s.cultures.find (valueOf value) = some v)
    (hpins : v.pins = 0) (hstate : v.state = 4 ∨ v.state = 5) : cultureUnloadEffect s value = (statusOk,
      S8.retireVersion { s with cellar := { s.cellar with images := SMap.erase s.cellar.images (valueOf value) } } v) := by
  have hfree : ¬(0 < v.pins ∨ v.state = 3) := by omega
  simp only [cultureUnloadEffect, hfind]
  rw [if_neg hfree, if_pos hstate]

theorem cultureUnloadEffect_used {s : S8} {value : Bytes} {v : Culture} (hfind : s.cultures.find (valueOf value) = some v)
    (hused : 0 < v.pins ∨ v.state = 3) : cultureUnloadEffect s value =
      (statusState, s.raise Obj.unloadRefusedCount 0 1 (unitField 11 v.cultureId) v.version) := by
  simp only [cultureUnloadEffect, hfind]
  rw [if_pos hused]

theorem S8.retireVersion_frame (s : S8) (v : Culture) : s.retireVersion v = { s with cultures := { s.cultures with
    table := (s.retireVersion v).cultures.table, places := (s.retireVersion v).cultures.places } } := by
  unfold S8.retireVersion
  cases v.place <;> rfl

theorem S8.retireVersion_table (s : S8) (v : Culture) :
    (s.retireVersion v).cultures.table = (s.cultures.set v.key (fun u => { u with state := 5 })).table := by
  unfold S8.retireVersion
  cases v.place <;> rfl

theorem S8.placeState_retireVersion (s : S8) {v : Culture} {n : Nat} (h : v.place = some n) :
    (s.retireVersion v).cultures.placeState n = 3 := by
  unfold S8.retireVersion
  rw [h]
  exact SMap.getD_put_self (s.cultures.set v.key _).places n 3 0

/-! ### The obligations -/

theorem exec_cultureLoadRequest_begins {w : ObjWrite} {s : State} (harr : s.chip.writeArrives w Obj.cultureLoadRequest)
    (hlength : w.value.length = 44) (hroom : (s.chip.cultures.table.filter (fun u => u.state ≠ 6)).length < 512) :
    exec (.cultureLoadRequest w) s = .next { s with chip := (s.chip.beginCulture w.value).writeDone w Obj.cultureLoadRequest } := by
  have heffect := cultureLoadEffect_begins hlength hroom
  rw [exec_cultureLoadRequest, execCultureLoadRequest, act_of_wf rfl,
    S8.performWrite_ok harr (by decide) (congrArg Prod.fst heffect), heffect]

theorem culturesAreReceived : Claims.CulturesAreReceived := by
  unfold Claims.CulturesAreReceived
  refine ⟨?requested, fun s v => ⟨s.cultureReason_unnamed, S8.cultureReason_known⟩, ?taken⟩
  case requested =>
    rintro w s v harr hlength hroom rfl hfailed
    refine ⟨fun hreason hflag => ?_, fun hreason => ?_⟩
    · refine ⟨{ s.chip with cultures := s.chip.cultures.put (Culture.ofRequest w.value) }, ?_, rfl, Cultures.getLast_put ..,
        fun u hu hstate => Cultures.mem_put hu (fun hkey => hstate (hfailed u hu hkey)) hstate⟩
      rw [exec_cultureLoadRequest_begins harr hlength hroom, S8.beginCulture_received hfailed hreason hflag]
    · have hfind := Cultures.find_put s.chip.cultures (Culture.ofRequest w.value)
      obtain ⟨hmem, -⟩ := Cultures.key_of_find hfind
      obtain ⟨x, hx, hkey, -, hstate, hwhy⟩ :=
        S8.exists_failed (s := { s.chip with cultures := s.chip.cultures.put (Culture.ofRequest w.value) })
          (reason := s.chip.cultureReason (Culture.ofRequest w.value) (leAt w.value 4 1)) hfind hmem rfl
      refine ⟨_, ?_, S8.failCulture_fresh s.chip w.value (s.chip.cultureReason (Culture.ofRequest w.value) (leAt w.value 4 1)),
        x, hx, hkey, hstate, hwhy⟩
      rw [exec_cultureLoadRequest_begins harr hlength hroom, S8.beginCulture_refused hfailed hreason]
  case taken =>
    rintro f v s u now harr htype hkind howner hfind hstate hhandle hsome hmost hfits rfl
    have hexec := exec_bulkCulture_taken harr htype hkind howner hfind hstate hhandle hsome hmost hfits
    have htook : (s.chip.cultureTook f u v).cultures.find u.key = some (u.taking v) := S8.find_cultureTook hfind
    refine ⟨fun hpart => ?_, fun image hcover himage => ?_⟩
    · rw [if_neg (by rw [Culture.taking, hpart]; decide)] at hexec
      exact ⟨_, hexec, rfl, htook⟩
    · have hcover : segmentsCover u.length (u.taking v).segments = true := hcover
      rw [if_pos hcover] at hexec
      subst himage
      refine ⟨fun hsha hgood hshape => ?_, fun reason hwhy => ?_⟩
      · obtain ⟨hrun, himages⟩ := S8.imageWhole_kept (s := s.chip.cultureTook f u v) (v := u.taking v) hsha hgood hshape
        exact ⟨_, hexec, rfl, hrun, himages⟩
      · have hfails : (s.chip.cultureTook f u v).imageWhole (u.taking v) = (s.chip.cultureTook f u v).failCulture u.key reason := by
          obtain ⟨hsha, rfl⟩ | ⟨hsha, hbad, rfl⟩ | ⟨hsha, hgood, hshape, rfl⟩ := hwhy
          · exact S8.imageWhole_other hsha
          · exact S8.imageWhole_malformed hsha hbad
          · exact S8.imageWhole_shapeless hsha hgood hshape
        rw [hfails] at hexec
        obtain ⟨hrun, -, hcellar, hdict, -⟩ := S8.failCulture_of_find (reason := reason) htook
        obtain ⟨x, hx, hkey, -, hfailed⟩ := S8.exists_failed (reason := reason) htook (Cultures.key_of_find htook).1 rfl
        exact ⟨_, hexec, rfl, hcellar, hrun, hdict, x, hx, hkey, hfailed⟩

theorem culturesAreWrittenAndUnloaded : Claims.CulturesAreWrittenAndUnloaded := by
  unfold Claims.CulturesAreWrittenAndUnloaded
  refine ⟨?written, ?waiting, ?unloaded⟩
  case written =>
    intro place s v p hfind hplace hended
    refine ⟨fun hmet => ?_, fun verified hnot => ?_⟩
    · have hall : v.targets.all (fun e => s.chip.readVerified e.2) = true := List.all_eq_true.2 hmet
      rw [exec_cultureWriteComplete_ended hfind hplace hended, if_pos (by rw [hall]; rfl)]
    · have hnotall : ¬ (verified && v.targets.all (fun e => s.chip.readVerified e.2)) = true := by
        obtain rfl | ⟨e, he, hbad⟩ := hnot
        · simp
        · intro hall
          rw [Bool.and_eq_true, List.all_eq_true] at hall
          exact absurd (hall.2 e he) (by simp [hbad])
      obtain ⟨hrun, hserve, hcellar, hfailed⟩ := S8.rolesFailed_outcome (p := p) (List.mem_of_find?_eq_some hfind)
      refine ⟨_, exec_cultureWriteComplete_ended hfind hplace hended, rfl, ?_⟩
      rw [if_neg hnotall]
      exact ⟨hrun, hserve, hcellar, hfailed⟩
  case waiting =>
    rintro place verified s v hfind ⟨e, he, hbusy⟩
    have hany : v.targets.any (fun e => !(s.chip.calibrationEnded e.2)) = true := List.any_eq_true.2 ⟨e, he, by simp [hbusy]⟩
    rw [exec_cultureWriteComplete, execCultureWriteComplete, act_of_wf rfl, hfind]
    cases s.chip.run.placeRecord place.val with
    | none => rfl
    | some p =>
      dsimp only
      rw [if_pos hany]
  case unloaded =>
    intro w s v harr hfind
    refine ⟨fun hpins hstate => ?_, fun hused => ?_⟩
    · have heffect := cultureUnloadEffect_retires hfind hpins hstate
      have hframe := S8.retireVersion_frame
        { s.chip with cellar := { s.chip.cellar with images := SMap.erase s.chip.cellar.images (valueOf w.value) } } v
      refine ⟨_, ?_, hframe, ?_, fun n => S8.placeState_retireVersion _⟩
      · rw [exec_cultureUnload, execCultureUnload, act_of_wf rfl, S8.performWrite_ok harr (by decide) (congrArg Prod.fst heffect), heffect]
      · have hkey := (Cultures.key_of_find hfind).2
        rw [← hkey] at hfind ⊢
        unfold Cultures.find
        rw [S8.retireVersion_table]
        exact Cultures.find_set hfind rfl
    · rw [exec_cultureUnload, execCultureUnload, act_of_wf rfl, S8.performWrite_arrives harr, cultureUnloadEffect_used hfind hused]
      rfl

/-- Settles O57: a failed load and a retired version keep their entry; settling a version keeps the run and the image stored. -/
theorem culturesAreKept : Obligations.CulturesAreKept := ⟨culturesAreReceived, culturesAreWrittenAndUnloaded⟩

end Sys2Proof.Machine

/-! PROOFS. Ripening updates and the tasks that carry gradients (R388 to R392, R395). -/

namespace Sys2Proof.Machine

/-! ### An update's formula (R391) -/

theorem insertNat_pairwise {l : List Nat} (h : l.Pairwise (· < ·)) (k : Nat) : (insertNat k l).Pairwise (· < ·) := by
  induction l with
  | nil => exact List.pairwise_singleton ..
  | cons x rest ih =>
    obtain ⟨hx, hrest⟩ := List.pairwise_cons.1 h
    unfold insertNat
    split
    · next hlt => exact List.pairwise_cons.2 ⟨fun y hy => (List.mem_cons.1 hy).elim (· ▸ hlt) fun hy => hlt.trans (hx y hy), h⟩
    · split
      · exact h
      · next hge hne =>
        refine List.pairwise_cons.2 ⟨fun y hy => ?_, ih hrest⟩
        obtain rfl | hy := (mem_insertNat ..).1 hy
        · omega
        · exact hx y hy

/-- An update works through each key once. -/
theorem Job.keys_nodup (j : Job) : j.keys.Nodup := by
  have hrising : j.keys.Pairwise (· < ·) :=
    List.foldlRecOn (motive := fun l : List Nat => l.Pairwise (· < ·)) _ _ .nil fun _ hl e _ => insertNat_pairwise hl e.1
  exact hrising.imp Nat.ne_of_lt

/-- A weight's momentum after its update: β·mom + f·g. -/
def Job.momentumAt (j : Job) (f : Fp) (k : Nat) : Fp :=
  binary32.add (binary32.mul j.beta (binary32.decode (SMap.getD j.momentum k 0)))
    (binary32.mul f (binary32.decode (SMap.getD j.gradient k 0)))

/-- A master weight after its update. -/
def Job.masterAt (j : Job) (f : Fp) (k : Nat) : Fp :=
  binary32.sub (binary32.decode (SMap.getD j.master k 0)) (binary32.mul j.learningRate (j.momentumAt f k))

/-- The update of one weight sets its momentum and its master weight. -/
theorem Job.step_eq (j : Job) (f : Fp) (k : Nat) : j.step f k = { j with
    momentum := SMap.put 0 j.momentum k (binary32.encode (j.momentumAt f k))
    master := SMap.put 0 j.master k (binary32.encode (j.masterAt f k)) } := rfl

theorem Job.momentumAt_step (j : Job) (f : Fp) {k x : Nat} (h : k ≠ x) : (j.step f x).momentumAt f k = j.momentumAt f k := by
  simp only [Job.step_eq, Job.momentumAt, Job.beta, SMap.getD_put, if_neg h]

theorem Job.masterAt_step (j : Job) (f : Fp) {k x : Nat} (h : k ≠ x) : (j.step f x).masterAt f k = j.masterAt f k := by
  have hmomentum := j.momentumAt_step f h
  unfold Job.masterAt
  rw [hmomentum]
  simp only [Job.step_eq, Job.learningRate, SMap.getD_put, if_neg h]

theorem Job.foldl_step_frame (f : Fp) (ks : List Nat) (j : Job) :
    ks.foldl (fun a k => a.step f k) j = { j with
      momentum := (ks.foldl (fun a k => a.step f k) j).momentum
      master := (ks.foldl (fun a k => a.step f k) j).master } := by
  induction ks generalizing j with
  | nil => rfl
  | cons x xs ih =>
    rw [List.foldl_cons, ih]
    rfl

/-- Keys that the steps do not work through keep their momentum and master weight. -/
theorem Job.foldl_step_of_not_mem (f : Fp) {ks : List Nat} {k : Nat} (h : k ∉ ks) (j : Job) :
    SMap.getD (ks.foldl (fun a k => a.step f k) j).momentum k 0 = SMap.getD j.momentum k 0 ∧
      SMap.getD (ks.foldl (fun a k => a.step f k) j).master k 0 = SMap.getD j.master k 0 := by
  induction ks generalizing j with
  | nil => exact ⟨rfl, rfl⟩
  | cons x xs ih =>
    have hx : k ≠ x := List.ne_of_not_mem_cons h
    obtain ⟨hmomentum, hmaster⟩ := ih (List.not_mem_of_not_mem_cons h) (j.step f x)
    exact ⟨hmomentum.trans (SMap.getD_put_ne _ _ _ _ hx), hmaster.trans (SMap.getD_put_ne _ _ _ _ hx)⟩

/-- Each key that the steps work through, once, takes its value by the formula. -/
theorem Job.foldl_step_of_mem (f : Fp) {ks : List Nat} (hks : ks.Nodup) {k : Nat} (h : k ∈ ks) (j : Job) :
    SMap.getD (ks.foldl (fun a k => a.step f k) j).momentum k 0 = binary32.encode (j.momentumAt f k) ∧
      SMap.getD (ks.foldl (fun a k => a.step f k) j).master k 0 = binary32.encode (j.masterAt f k) := by
  induction ks generalizing j with
  | nil => cases h
  | cons x xs ih =>
    obtain ⟨hx, hxs⟩ := List.nodup_cons.1 hks
    obtain rfl | hmem := List.mem_cons.1 h
    · obtain ⟨hmomentum, hmaster⟩ := Job.foldl_step_of_not_mem f hx (j.step f k)
      exact ⟨hmomentum.trans (SMap.getD_put_self ..), hmaster.trans (SMap.getD_put_self ..)⟩
    · have hne : k ≠ x := fun hkx => hx (hkx ▸ hmem)
      have hstepped := ih hxs hmem (j.step f x)
      rwa [j.momentumAt_step f hne, j.masterAt_step f hne] at hstepped

/-- An update changes the momentum, the master weights, the gradient sums and the count. -/
theorem Job.update_frame (j : Job) : j.update =
    { j with momentum := j.update.momentum, master := j.update.master, gradient := [], updates := j.updates + 1 } := by
  have hframe := Job.foldl_step_frame j.clipFactor j.keys j
  unfold Job.update
  dsimp only
  rw [hframe]

/-! ### The job an update leaves (R391, R392, R395) -/

/-- The jobs after a change of one of them. -/
theorem S8.find_setJob (s : S8) (n : Nat) (f : Job → Job) :
    SMap.find (s.setJob n f).ripen.jobs n = (SMap.find s.ripen.jobs n).map f := by
  unfold S8.setJob
  dsimp only
  induction s.ripen.jobs with
  | nil => rfl
  | cons e rest ih =>
    rw [List.map_cons, SMap.find_cons, SMap.find_cons, ih]
    by_cases h : e.1 = n
    · simp [h]
    · simp [h, Ne.symm h]

theorem S8.dropPart_ripen (s : S8) (j : Job) : (s.dropPart j).ripen = s.ripen := by
  unfold S8.dropPart
  split
  · rfl
  · next v _ =>
    have hripen := S8.releaseSpares_keeps S8.ripen (fun _ _ => rfl) v.targets s
    split
    · rfl
    · dsimp only
      split <;> exact hripen

/-- The job that has failed. -/
def Job.failed (j : Job) (reason : Nat) : Job :=
  { j with state := 5, reason := reason, publish := none, stopping := false, master := [], momentum := [], gradient := [] }

theorem S8.find_failJob {s : S8} {n reason : Nat} {j : Job} (h : SMap.find s.ripen.jobs n = some j) :
    SMap.find (s.failJob n reason).ripen.jobs n = some (j.failed reason) := by
  have hkept : ((s.dropPart j).forgetPasses n).ripen.jobs = s.ripen.jobs := (congrArg Ripening.jobs (s.dropPart_ripen j) :)
  have hfailed : s.failJob n reason = ((s.dropPart j).forgetPasses n).setJob n (fun j => j.failed reason) := by
    unfold S8.failJob
    rw [h]
    rfl
  rw [hfailed, S8.find_setJob, hkept, h, Option.map_some]

/-- The job whose part is being written. -/
def Job.writing (j : Job) (v : Nat) : Job := { j with state := 3, part := v, publish := none }

theorem S8.makePart_ripen {s : S8} {n : Nat} {j : Job} (h : s.nextVersion j.culture ≤ 0xFFFF) :
    (s.makePart n j).ripen = (s.setJob n (fun j' => j'.writing (s.nextVersion j.culture))).ripen := by
  have hripen := s.dropPart_ripen j
  unfold S8.makePart
  dsimp only
  rw [if_neg (Nat.not_lt.2 h)]
  refine (congrArg (fun m => m.2.2) (S8.settleCulture_besidePlacing ..)).trans ?_
  simp only [S8.besidePlacing, S8.setJob, S8.raise, S8.writeCellar_ripen, hripen]
  rfl

theorem S8.updateJob_of_due {s : S8} {n : Nat} {j : Job} (hfind : SMap.find s.ripen.jobs n = some j)
    (hdue : j.updateDue s.run.step = true) : s.updateJob n =
      if j.update.diverged then (s.setJob n (fun _ => j.update)).failJob n 5
      else if j.update.updates % j.update.publishUpdates = 0 then (s.setJob n (fun _ => j.update)).makePart n j.update
      else s.setJob n (fun _ => j.update) := by
  unfold S8.updateJob
  rw [hfind]
  dsimp only
  rw [if_neg (by simp [hdue])]

theorem exec_ripenUpdate_due {job : Fin 4} {s : State} {n : Nat} {j : Job} (hn : n = job.val + 1)
    (hfind : SMap.find s.chip.ripen.jobs n = some j) (hdue : j.updateDue s.chip.run.step = true) :
    exec (.ripenUpdate job) s = .next { s with
      chip := if j.update.diverged then (s.chip.setJob n (fun _ => j.update)).failJob n 5
        else if j.update.updates % j.publishUpdates = 0 then (s.chip.setJob n (fun _ => j.update)).makePart n j.update
        else s.chip.setJob n (fun _ => j.update) } := by
  subst hn
  have hpublish : j.update.publishUpdates = j.publishUpdates := by rw [j.update_frame]; rfl
  rw [exec_ripenUpdate, execRipenUpdate, act_of_wf rfl, S8.updateJob_of_due hfind hdue, hpublish]

theorem updatesFollowTheirFormula : Claims.UpdatesFollowTheirFormula := by
  unfold Claims.UpdatesFollowTheirFormula
  refine ⟨?formula, ?due, ?ready⟩
  case formula =>
    refine fun j => ⟨rfl, rfl, fun k => ⟨fun hk => ?_, fun hk => ?_⟩⟩
    · exact Job.foldl_step_of_mem j.clipFactor j.keys_nodup hk j
    · exact Job.foldl_step_of_not_mem j.clipFactor hk j
  case due =>
    intro job s n j hn hfind hdue
    have hexec := exec_ripenUpdate_due hn hfind hdue
    have hupdated : SMap.find (s.chip.setJob n (fun _ => j.update)).ripen.jobs n = some j.update := by
      rw [S8.find_setJob, hfind, Option.map_some]
    refine ⟨fun hfinite hmore => ?_, fun hdiverged => ?_, fun hfinite hpart hversions => ?_⟩
    · rw [hexec, if_neg (by simp [hfinite]), if_neg hmore]
    · rw [if_pos hdiverged] at hexec
      have hpublished : j.update.published = j.published := by rw [j.update_frame]
      exact ⟨_, _, hexec, rfl, S8.find_failJob hupdated, rfl, rfl, hpublished, rfl⟩
    · rw [if_neg (by simp [hfinite]), if_pos hpart] at hexec
      have hculture : j.update.culture = j.culture := by rw [j.update_frame]; rfl
      have hfits : (s.chip.setJob n (fun _ => j.update)).nextVersion j.update.culture ≤ 0xFFFF := by rw [hculture]; exact hversions
      refine ⟨_, j.update.writing (s.chip.nextVersion j.culture), hexec, rfl, ?_, rfl, rfl, rfl, rfl⟩
      dsimp only
      rw [S8.makePart_ripen hfits, S8.find_setJob, hupdated, hculture]
      rfl
  case ready =>
    rintro job s n j v rfl hfind hstate hv hpart hwriting hverified
    rw [exec_ripenPartReady, execRipenPartReady, act_of_wf rfl, hfind]
    dsimp only
    rw [if_pos (by simp [hstate, hv, hpart, hwriting, hverified])]

/-! ### Kind-7 tasks (R388 to R390) -/

section Task
variable {job : Fin 4} {task : Nat} {lane : Lane} {s : State} {sh : Sheet} {t : CoreTask} {n : Nat} {j : Job}
  (hn : n = job.val + 1) (hjob : SMap.find s.chip.ripen.jobs n = some j) (hruns : j.runs = true)
  (hworks : s.chip.taskWorks task 7 lane sh t)

include hn hjob hruns hworks in
theorem exec_taskRipening_works : exec (.taskRipening job task lane) s = .next { s with chip := s.chip.ripenLane n task lane sh t } := by
  subst hn
  rw [exec_taskRipening, execTaskRipening, act_of_wf rfl, if_pos (by simp [hjob, hruns]), S8.onTask_of_works hworks]

end Task

section Lane
variable {c : S8} {n index lane : Nat} {sh : Sheet} {t : CoreTask} {j : Job} {k : Track} {p : Pass} {rows : Nat}

/-- On a ripening track, a task that does not read logits keeps its input rows. -/
theorem S8.ripenLane_stores {slot : Nat} {q : Sequence} (htrack : sh.track lane = some k) (hripen : k.ripen = true)
    (hlogits : sh.readsLogits t = false) (hcarried : SMap.find c.run.carrying (128 * t.phase + lane) = some slot)
    (hslot : SMap.find c.serve.slots slot = some q) (hq : q.req.ripenJob = n)
    (hrows : rows = Config.routineInputs 7 t.routine (c.run.argumentOf index t lane))
    (hgood : c.mem.badRows t.core (t.inRow rows lane) rows = []) :
    c.ripenLane n index lane sh t = { c with ripen := { c.ripen with
      store := SMap.insert c.ripen.store (storeKey slot t.phase index) (c.mem.readRows t.core (t.inRow rows lane) rows) } } := by
  subst hrows
  rw [S8.ripenLane, if_pos (by simp [htrack, hripen]), if_neg (by simp [hlogits]), S8.storeActivations, hcarried]
  dsimp only
  rw [if_pos (by simp [hslot, hq]), S8.reading_of_good hgood]

/-- The rows of the loss gradient, from the logits of the lane. -/
def lossRows (v target : Nat) (logits : Bytes) : Bytes :=
  toSplit ((lossGradient ((List.range v).map (fun i => bfloat16.decode (leAt logits (2 * i) 2))) target).map (·.1))

/-- On a ripening track, a task that reads the logits of a loss position writes its gradient and counts. -/
theorem S8.ripenLane_loses {v : Nat} (htrack : sh.track lane = some k) (hripen : k.ripen = true) (hlogits : sh.readsLogits t = true)
    (hpass : c.ripen.passes.find? (fun p => p.job = n && p.lane = lane && p.sampling = c.run.step) = some p)
    (hv : v = c.vocabulary sh) (hrows : rows = ceilDiv (2 * v) 512) (hgood : c.mem.badRows t.core (t.inRow rows lane) rows = []) :
    ∃ dict : Dict, c.ripenLane n index lane sh t = { c with
      mem := c.mem.writeRows t.core (t.outRow ((lossRows v p.target (c.mem.readRows t.core (t.inRow rows lane) rows)).length / 512) lane)
        (lossRows v p.target (c.mem.readRows t.core (t.inRow rows lane) rows))
      dict := dict } := by
  subst hv hrows
  rw [S8.ripenLane, if_pos (by simp [htrack, hripen]), if_pos hlogits, hpass]
  dsimp only
  rw [S8.lossLane]
  dsimp only
  rw [S8.reading_of_good hgood]
  exact ⟨_, rfl⟩

/-- The job with new gradient sums and so many loss tokens more. -/
def Job.summed (gradient : SMap Nat) (tokens : Nat) (j : Job) : Job :=
  { j with gradient := gradient, lossTokens := j.lossTokens + tokens }

/-- The gradient sums after a phase: each role's outer product added. -/
def S8.phaseGradient (c : S8) (sh : Sheet) (j : Job) (t : CoreTask) (p : Pass) (input : Bytes) : SMap Nat :=
  (c.rolesIn sh j t.phase).foldl (fun m r =>
    addOuter m r (Config.storedInput r (c.ripen.entry p.slot t.phase)) (Config.roleGradient r input j.master)) j.gradient

theorem S8.sumGradients_frame (c : S8) (sh : Sheet) (n : Nat) (j : Job) (t : CoreTask) (p : Pass) (input : Bytes) :
    c.sumGradients sh n j t p input = { c with ripen := { c.ripen with
      jobs := (c.sumGradients sh n j t p input).ripen.jobs, passes := (c.sumGradients sh n j t p input).ripen.passes } } := by
  unfold S8.sumGradients
  dsimp only
  split <;> rfl

theorem S8.sumGradients_jobs (c : S8) (sh : Sheet) (n : Nat) (j : Job) (t : CoreTask) (p : Pass) (input : Bytes) :
    (c.sumGradients sh n j t p input).ripen.jobs =
      (c.setJob n (Job.summed (c.phaseGradient sh j t p input) (if t.phase = c.passEnd sh j then 1 else 0))).ripen.jobs := by
  unfold S8.sumGradients
  dsimp only
  split <;> rfl

/-- What the last task of a phase leaves of the job: its gradient sums and its count of loss tokens are new. -/
theorem S8.find_sumGradients {c : S8} (sh : Sheet) {n : Nat} {j : Job} (t : CoreTask) (p : Pass) (input : Bytes)
    (hjob : SMap.find c.ripen.jobs n = some j) : SMap.find (c.sumGradients sh n j t p input).ripen.jobs n =
      some (j.summed (c.phaseGradient sh j t p input) (if t.phase = c.passEnd sh j then 1 else 0)) := by
  rw [S8.sumGradients_jobs, S8.find_setJob, hjob, Option.map_some]

/-- The rows that a backward task writes for a pass. -/
def S8.passRows (c : S8) (t : CoreTask) (arg out : Nat) (input : Bytes) (j : Job) (p : Pass) : Bytes :=
  padTo (512 * out) (Config.gradientRows t.routine arg input (c.ripen.entry p.slot t.phase) j.master)

/-- The module in which a backward task has written a pass's rows. -/
def S8.passWrote (c : S8) (lane : Nat) (t : CoreTask) (arg rows out : Nat) (j : Job) (p : Pass) : S8 :=
  let input := c.mem.readRows t.core (t.inRow rows lane) rows
  { c with mem := c.mem.writeRows t.core (t.outRow out lane) (c.passRows t arg out input j p) }

/-- On the companion lane of a pass, a task writes the gradient's rows, and the last of its phase adds to the sums. -/
theorem S8.ripenLane_passes {arg out : Nat} (hjob : SMap.find c.ripen.jobs n = some j)
    (htrack : ((sh.track lane).map (·.ripen)).getD false = false)
    (hpass : c.ripen.passes.find? (fun p => p.job = n && p.lane + 1 = lane && p.phase sh c.run.step = some t.phase) = some p)
    (harg : arg = c.run.argumentOf index t lane) (hrows : rows = Config.routineInputs 7 t.routine arg)
    (hout : out = Config.routineOutputs 7 t.routine arg) (hgood : c.mem.badRows t.core (t.inRow rows lane) rows = []) :
    c.ripenLane n index lane sh t =
      if sh.lastRipening index lane t then
        (c.passWrote lane t arg rows out j p).sumGradients sh n j t p (c.mem.readRows t.core (t.inRow rows lane) rows)
      else c.passWrote lane t arg rows out j p := by
  subst harg hrows hout
  rw [S8.ripenLane, if_neg (by simp [htrack]), hpass]
  dsimp only
  rw [S8.backwardLane, hjob]
  dsimp only
  rw [S8.reading_of_good hgood]
  rfl

end Lane

theorem ripeningTasksCarryGradients : Claims.RipeningTasksCarryGradients := by
  unfold Claims.RipeningTasksCarryGradients
  refine ⟨?stores, ?loses, ?passes⟩
  case stores =>
    intro job task lane s sh t n slot rows j q k hn hjob hruns hworks htrack hripen hlogits hcarried hslot hq hrows hgood
    rw [exec_taskRipening_works hn hjob hruns hworks, S8.ripenLane_stores htrack hripen hlogits hcarried hslot hq hrows hgood]
  case loses =>
    intro job task lane s sh t n v rows j k p hn hjob hruns hworks htrack hripen hlogits hpass hv hrows hgood
    obtain ⟨dict, hlane⟩ := S8.ripenLane_loses (index := task) htrack hripen hlogits hpass hv hrows hgood
    refine ⟨_, _, exec_taskRipening_works hn hjob hruns hworks, ?_, rfl⟩
    rw [hlane]
    rfl
  case passes =>
    intro job task lane s sh t n arg rows out j p hn hjob hruns hworks htrack hpass harg hrows hout hgood
    have hlane := S8.ripenLane_passes hjob htrack hpass harg hrows hout hgood
    refine ⟨_, exec_taskRipening_works hn hjob hruns hworks, ?_, fun hmore => ?_, ?_⟩
    · rw [hlane]
      split
      · rw [S8.sumGradients_frame]
        rfl
      · rfl
    · dsimp only
      rw [hlane, if_neg (by simp [hmore])]
      rfl
    · dsimp only
      rw [hlane]
      split
      · exact ⟨_, S8.find_sumGradients sh t p _ hjob, rfl⟩
      · exact ⟨j, hjob, rfl⟩

/-- Settles O41: an update's keys are worked through once each; a kind-7 task does what its side of the pass asks for. -/
theorem ripeningUpdatesAndGradients : Obligations.RipeningUpdatesAndGradients := ⟨updatesFollowTheirFormula, ripeningTasksCarryGradients⟩

end Sys2Proof.Machine

/-! PROOFS. Boot attempts and firmware loads, and what O19 turns on (R485, R487). -/

namespace Sys2Proof.Machine

/-! ### A boot attempt (R485) -/

theorem imageResult_eq_zero_iff (image : Bytes) : imageResult image = 0 ↔ 4096 ≤ leAt image 12 4 ∧ leAt image 12 4 ≤ 268435456 ∧
    leAt image 2 2 = Config.hardwareRevision ∧ signedBy Config.firmwareKey (image.take (leAt image 12 4)) = true := by
  unfold imageResult
  split
  · next hlength => exact iff_of_false (by decide) fun ⟨hlow, hhigh, _⟩ => by omega
  · next hlength =>
    split
    · next hrevision => exact iff_of_false (by decide) fun ⟨_, _, hsame, _⟩ => hrevision hsame
    · next hrevision =>
      split
      · next hsigned => exact iff_of_false (by decide) fun ⟨_, _, _, hgood⟩ => by simp [hgood] at hsigned
      · next hsigned => exact iff_of_true rfl ⟨by omega, by omega, not_not.1 hrevision, by simpa using hsigned⟩

/-- The starter's finding on an attempt: 1 for a slot that it cannot read, and otherwise its check of the image. -/
def S8.attemptResult (s : S8) (die slot : Nat) (read : ReadResult) : Nat :=
  if read = .failed ∨ !(s.cellarReachable die) then 1 else imageResult (s.boot.imageBytes die slot)

theorem exec_bootAttempt_tries {d : Die} {read : ReadResult} {s : State}
    (hstarter : SMap.getD s.chip.boot.state d.val 0 = 1 ∨ SMap.getD s.chip.boot.state d.val 0 = 2) :
    exec (.bootAttempt d read) s = .next { s with
      chip := if s.chip.attemptResult d (s.chip.boot.attemptSlot d) read = 0 then s.chip.bootPassed d (s.chip.boot.attemptSlot d)
        else s.chip.bootFailed d (s.chip.boot.attemptSlot d) (s.chip.attemptResult d (s.chip.boot.attemptSlot d) read) } := by
  rw [exec_bootAttempt, execBootAttempt, act_of_wf rfl]
  dsimp only
  rw [if_pos hstarter]
  rfl

theorem exec_bootAttempt_passes {d : Die} {read : ReadResult} {s : State} {slot : Nat}
    (hstarter : SMap.getD s.chip.boot.state d.val 0 = 1 ∨ SMap.getD s.chip.boot.state d.val 0 = 2)
    (hslot : s.chip.boot.attemptSlot d = slot) (hresult : s.chip.attemptResult d slot read = 0) :
    exec (.bootAttempt d read) s = .next { s with chip := s.chip.bootPassed d slot } := by
  subst hslot
  rw [exec_bootAttempt_tries hstarter, if_pos hresult]

theorem S8.bootPassed_cores (s : S8) (die slot : Nat) : (s.bootPassed die slot).cores = s.cores.settle die := rfl

theorem S8.attemptResult_ne_zero {s : S8} {die slot : Nat} {read : ReadResult}
    (h : read = .failed ∨ s.cellarReachable die = false ∨ imageResult (s.boot.imageBytes die slot) ≠ 0) :
    s.attemptResult die slot read ≠ 0 := by
  unfold S8.attemptResult
  split
  · decide
  · next hread =>
    obtain ⟨hnot, hreach⟩ := not_or.1 hread
    obtain hfailed | haway | hbad := h
    · exact absurd hfailed hnot
    · simp [haway] at hreach
    · exact hbad

theorem S8.bootFailed_frame (s : S8) (die slot result : Nat) : s.bootFailed die slot result = { s with
    boot := (s.bootFailed die slot result).boot
    dict := s.dict.raise s.run.step Obj.bootAttemptCount 0 1 (unitField 1 die) slot } := rfl

theorem S8.mem_starterAlert_bootFailed (s : S8) (die slot result : Nat) : die ∈ (s.bootFailed die slot result).boot.starterAlert ↔
    die ∈ s.boot.starterAlert ∨ 3 ≤ SMap.getD s.boot.failures die 0 := by
  unfold S8.bootFailed
  dsimp only
  split
  · next hmany => exact iff_of_true ((mem_insertNat ..).2 (.inl rfl)) (.inr (by omega))
  · next hfew => exact ⟨.inl, fun h => h.resolve_right (by omega)⟩

/-! ### Loading firmware (R487) -/

theorem Boot.inactiveSlot_le (b : Boot) (die : Nat) : b.inactiveSlot die ≤ 1 := by
  unfold Boot.inactiveSlot
  split <;> exact Nat.sub_le ..

/-- Other dies' slots are others. -/
theorem Boot.writeImages_other (image : Bytes) {dies : List Nat} {die slot : Nat} (hdie : die ∉ dies) (hslot : slot ≤ 1) (b : Boot) :
    SMap.find (dies.foldl (fun b d => b.writeImage image d) b).images (2 * die + slot) = SMap.find b.images (2 * die + slot) := by
  induction dies generalizing b with
  | nil => rfl
  | cons e rest ih =>
    have hne : die ≠ e := List.ne_of_not_mem_cons hdie
    have hle := b.inactiveSlot_le e
    exact (ih (List.not_mem_of_not_mem_cons hdie) (b.writeImage image e)).trans (SMap.find_insert_ne _ _ (by omega))

/-- A die of the list whose firmware runs has the image in the slot that does not run. -/
theorem Boot.writeImages_running (image : Bytes) {dies : List Nat} (hdies : dies.Nodup) {die : Nat} (hdie : die ∈ dies) {b : Boot}
    (hstate : SMap.getD b.state die 0 = 3) :
    SMap.find (dies.foldl (fun b d => b.writeImage image d) b).images (2 * die + (1 - SMap.getD b.running die 0)) =
      some { state := 1, bytes := image } := by
  induction dies generalizing b with
  | nil => cases hdie
  | cons e rest ih =>
    obtain ⟨he, hrest⟩ := List.nodup_cons.1 hdies
    obtain rfl | hmem := List.mem_cons.1 hdie
    · have hslot : b.inactiveSlot die = 1 - SMap.getD b.running die 0 := if_pos hstate
      refine (Boot.writeImages_other image he (Nat.sub_le ..) _).trans ?_
      rw [← hslot]
      exact SMap.find_insert_self ..
    · exact ih hrest hmem (b := b.writeImage image e) hstate

/-- The finding on an image that is whole. -/
def Boot.loadResult (b : Boot) : Nat :=
  if leAt (assemble b.loadLength b.segments) 12 4 ≠ b.loadLength then 2 else imageResult (assemble b.loadLength b.segments)

theorem S8.finishFirmware_good {s : S8} (h : s.boot.loadResult = 0) : s.finishFirmware = { s with
    boot := { ((List.range 8).filter s.cellarReachable).foldl (fun b d => b.writeImage (assemble s.boot.loadLength s.boot.segments) d) s.boot with
      loadState := 3, loadReason := 0, segments := [] } } :=
  if_pos h

theorem S8.finishFirmware_bad {s : S8} (h : s.boot.loadResult ≠ 0) :
    s.finishFirmware.boot.images = s.boot.images ∧ s.finishFirmware.boot.loadState = 4 := by
  rw [show s.finishFirmware = _ from if_neg h]
  exact ⟨rfl, rfl⟩

theorem S8.finishFirmware_frame (s : S8) : s.finishFirmware = { s with boot := s.finishFirmware.boot } := by
  by_cases h : s.boot.loadResult = 0
  · rw [S8.finishFirmware_good h]
  · rw [show s.finishFirmware = _ from if_neg h]

/-- The module in which a frame's bytes of an image are held. -/
def S8.firmwareTook (s : S8) (f : Frame) (v : FrameView) : S8 :=
  { s.goodFrame f.port with boot := { s.boot with segments := s.boot.segments ++ [(v.at 4 4, bytesAt v.payload 16 (v.at 8 2))] } }

theorem exec_bulkFirmware_taken {f : Frame} {v : FrameView} {s : State} (harr : s.chip.frameArrives f v) (htype : v.type = 0x30)
    (hkind : v.at 0 1 = 6) (howner : s.chip.ports.owner = f.port) (hload : s.chip.boot.loadState = 1) (hsome : 0 < v.at 8 2)
    (hmost : v.at 8 2 ≤ 208) (hfits : v.at 4 4 + v.at 8 2 ≤ s.chip.boot.loadLength) :
    exec (.bulkFirmware f) s = .next { s with
      chip := if segmentsCover s.chip.boot.loadLength (s.chip.firmwareTook f v).boot.segments then (s.chip.firmwareTook f v).finishFirmware
        else s.chip.firmwareTook f v } := by
  have hwf : WellFormed (.bulkFirmware f) = true := decide_eq_true harr.1
  have htaken : ¬((s.chip.goodFrame f.port).boot.loadState ≠ 1 ∨ v.at 8 2 = 0 ∨ 208 < v.at 8 2 ∨
      (s.chip.goodFrame f.port).boot.loadLength < v.at 4 4 + v.at 8 2) := by
    change ¬(s.chip.boot.loadState ≠ 1 ∨ v.at 8 2 = 0 ∨ 208 < v.at 8 2 ∨ s.chip.boot.loadLength < v.at 4 4 + v.at 8 2)
    omega
  rw [exec_bulkFirmware, execBulkFirmware, act_of_wf hwf, S8.receiveBulk_arrives harr htype hkind howner]
  dsimp only
  rw [if_neg htaken]
  rfl

theorem firmwareIsLoaded : Claims.FirmwareIsLoaded := by
  unfold Claims.FirmwareIsLoaded
  refine ⟨?requested, ?taken⟩
  case requested =>
    intro w s harr
    refine ⟨_, ?_, rfl⟩
    rw [exec_firmwareLoadRequest, execFirmwareLoadRequest, act_of_wf rfl, S8.performWrite_ok harr (by decide) rfl]
    rfl
  case taken =>
    rintro f v s segments harr htype hkind howner hload hsome hmost hfits rfl
    have hexec := exec_bulkFirmware_taken harr htype hkind howner hload hsome hmost hfits
    refine ⟨fun hpart => ?_, fun hcover => ?_⟩
    · rw [if_neg (by rw [S8.firmwareTook, hpart]; decide)] at hexec
      exact hexec
    · have hcover : segmentsCover s.chip.boot.loadLength (s.chip.firmwareTook f v).boot.segments = true := hcover
      rw [if_pos hcover] at hexec
      refine ⟨_, hexec, ?_, fun hgood hlength => ?_, fun hbad => ?_⟩
      · rw [S8.finishFirmware_frame]
        rfl
      · have hresult : (s.chip.firmwareTook f v).boot.loadResult = 0 := by
          unfold Boot.loadResult
          exact (if_neg (not_not.2 hlength)).trans hgood
        rw [S8.finishFirmware_good hresult]
        refine ⟨rfl, fun d hd hreach hstate _ => ?_⟩
        exact Boot.writeImages_running _ (List.nodup_range.filter _) (List.mem_filter.2 ⟨List.mem_range.2 hd, hreach⟩)
          (b := (s.chip.firmwareTook f v).boot) hstate
      · refine S8.finishFirmware_bad (s := s.chip.firmwareTook f v) ?_
        unfold Boot.loadResult
        split
        · decide
        · exact hbad

/-! ### What O19 turns on: is there an image that the firmware key signed? -/

/-- A core map that no settling keeps sound: spare number 32 names a core of the other half's range, 41, and number 0's own core and
core 5 are retired. -/
def Cores.astray (c : Cores) : Cores :=
  { c with map := [(32, 41)], agents := [], unbacked := []
           states := (List.range 72).map (fun i => (i, if i = 0 ∨ i = 5 then 4 else if i = 41 then 1 else 0)) }

/-- Settling that map leaves number 0 backed by a retired core. -/
theorem Cores.settle_astray :
    0 ∉ (S8.reset.cores.astray.settle 0).unbacked ∧
      (S8.reset.cores.astray.settle 0).stateOf ((S8.reset.cores.astray.settle 0).physical 0) = 4 := by
  decide +kernel

/-- A module whose die 0 waits with an image in slot 0 and that core map. -/
def S8.waitingAstray (image : Bytes) : S8 :=
  { S8.reset with
    cores := S8.reset.cores.astray
    boot := { S8.reset.boot with
      state := [(0, 1)], images := [(0, { state := 1, bytes := image })], preferred := [], attempts := [], coordinator := 0xFF } }

theorem S8.waitingAstray_reachable (image : Bytes) : (S8.waitingAstray image).cellarReachable 0 = true := by
  have hpower : (SMap.find S8.reset.power.tripped 0).isNone = true ∧ (!(S8.reset.power.cycling.contains 0)) = true ∧
    SMap.getD S8.reset.clock.halfState 1 0 < 2 := by decide +kernel
  obtain ⟨htripped, hcycling, hhalf⟩ := hpower
  have hstate : SMap.getD (S8.waitingAstray image).boot.state 0 0 ≠ 0 := Nat.one_ne_zero
  unfold S8.cellarReachable
  rw [Bool.and_eq_true, Bool.and_eq_true, Bool.and_eq_true]
  exact ⟨⟨⟨htripped, hcycling⟩, decide_eq_true hstate⟩, decide_eq_true hhalf⟩

/-- Where the key has signed an image, a boot attempt starts it and leaves a retired core behind a number. -/
theorem not_bootAttemptStartsFirmware {image : Bytes} (himage : imageResult image = 0) : ¬ Claims.BootAttemptStartsFirmware := by
  intro hclaim
  have hstarter : SMap.getD (S8.waitingAstray image).boot.state 0 0 = 1 := rfl
  have hreach := S8.waitingAstray_reachable image
  obtain ⟨t, hexec, -, -, hcores, -⟩ := hclaim.1 0 .readable ⟨S8.waitingAstray image, []⟩ 0 (.inl hstarter) rfl rfl himage rfl hreach
  have hresult : (S8.waitingAstray image).attemptResult 0 0 .readable = 0 := by
    unfold S8.attemptResult
    rw [if_neg (by simp [hreach])]
    exact himage
  have hpassed := exec_bootAttempt_passes (d := 0) (s := ⟨S8.waitingAstray image, []⟩) (.inl hstarter) rfl hresult
  obtain rfl := Host.Outcome.next.inj (hpassed.symm.trans hexec)
  have hcore := hcores 0 rfl (by decide)
  dsimp only at hcore
  rw [S8.bootPassed_cores] at hcore
  have hsettled : (S8.waitingAstray image).cores.settle (0 : Die).val = S8.reset.cores.astray.settle 0 := congrArg _ rfl
  rw [hsettled] at hcore
  obtain ⟨hbacked, hretired⟩ := Cores.settle_astray
  exact hcore.elim hbacked fun hsound => hsound hretired

/-- O19 holds exactly when the firmware key has signed no image of the right length and revision. `Config.firmwareKey` is an opaque
constant of the model: a key of modulus 0 signs nothing, another may sign an image, so O19 itself stays open. What makes it fail
under a key that signs is `Cores.astray`, a core map that no map of a half's own cores looks like. -/
theorem firmwareIsStartedAndLoaded_iff : Obligations.FirmwareIsStartedAndLoaded ↔ ∀ image : Bytes, imageResult image ≠ 0 := by
  constructor
  · intro h image himage
    exact not_bootAttemptStartsFirmware himage h.1
  · intro hnone
    refine ⟨?_, firmwareIsLoaded⟩
    unfold Claims.BootAttemptStartsFirmware
    refine ⟨fun d read s slot _ _ _ hgood => absurd hgood (hnone _), ?_, fun b die => rfl, imageResult_eq_zero_iff⟩
    rintro d read s slot hstarter rfl hfails
    have hexec := exec_bootAttempt_tries (d := d) (read := read) hstarter
    rw [if_neg (S8.attemptResult_ne_zero hfails)] at hexec
    refine ⟨_, hexec, rfl, ?_, ?_, S8.mem_starterAlert_bootFailed ..⟩
    · exact (SMap.getD_insert ..).trans (if_pos rfl)
    · exact (SMap.getD_insert ..).trans (if_pos rfl)

end Sys2Proof.Machine

/-! PROOFS. Direct accesses and scrubs, and what O9 turns on (R6, R27 to R32, R216, R227, R231, R275, R395, R398 to R400, R402, R452). -/

namespace Sys2Proof.Machine

/-! ### Stores (R6, R27, R275) -/

/-- Writing runs of bytes changes the bytes, and which words are bad. -/
theorem Mem.writeAll_frame (m : Mem) (ws : List (Nat × Bytes)) :
    m.writeAll ws = { m with bytes := (m.writeAll ws).bytes, bad := (m.writeAll ws).bad } := by
  induction ws generalizing m with
  | nil => rfl
  | cons w ws ih => exact ih (m.write w.1 w.2)

/-- A byte that one of several runs of zeros covers is zero. -/
theorem Mem.byte_writeAll_zeros {ws : List (Nat × Bytes)} {k : Nat} (hzero : ∀ w ∈ ws, w.2 = zeros w.2.length) {m : Mem}
    (h : m.byte k = 0 ∨ ∃ w ∈ ws, w.1 ≤ k ∧ k < w.1 + w.2.length) : (m.writeAll ws).byte k = 0 := by
  induction ws generalizing m with
  | nil => exact h.resolve_right fun ⟨w, hw, _⟩ => List.not_mem_nil hw
  | cons w ws ih =>
    refine ih (fun v hv => hzero v (List.mem_cons_of_mem w hv)) (m := m.write w.1 w.2) ?_
    have hw : w.2.getD (k - w.1) 0 = 0 := by
      rw [hzero w List.mem_cons_self, zeros, List.getD_eq_getElem?_getD]
      exact List.getElem?_getD_replicate_default_eq ..
    rw [Mem.byte_write, hw]
    obtain hk | ⟨v, hv, hcovers⟩ := h
    · exact .inl (by rw [hk, ite_self])
    · obtain rfl | hv := List.mem_cons.1 hv
      · exact .inl (if_pos hcovers)
      · exact .inr ⟨v, hv, hcovers⟩

/-- The runs that a store zeroes: bytes 24–31 of each root entry it touches (R6). -/
def S8.reservedRuns (s : S8) (a n : Nat) : List (Nat × Bytes) := (s.rootsTouched a n).map (fun e => (e.2 + 24, zeros 8))

theorem S8.storeBytes_mem (s : S8) (a : Nat) (b : Bytes) :
    (s.storeBytes a b).mem = (s.mem.write a (tableBits a b)).writeAll (s.reservedRuns a b.length) := by
  rw [S8.reservedRuns, Mem.writeAll, List.foldl_map]
  rfl

theorem S8.storeBytes_frame (s : S8) (a : Nat) (b : Bytes) : s.storeBytes a b = { s with
    mem := { s.mem with bytes := (s.storeBytes a b).mem.bytes, bad := (s.storeBytes a b).mem.bad }
    attn := { s.attn with publishing := (s.storeBytes a b).attn.publishing }
    dict := (s.storeBytes a b).dict } := by
  have hmem : (s.storeBytes a b).mem =
      { s.mem with bytes := (s.storeBytes a b).mem.bytes, bad := (s.storeBytes a b).mem.bad } := by
    rw [S8.storeBytes_mem]
    exact Mem.writeAll_frame ..
  exact congrArg (fun m => { s with
    mem := m
    attn := { s.attn with publishing := (s.storeBytes a b).attn.publishing }
    dict := (s.storeBytes a b).dict }) hmem

theorem S8.byte_storeBytes_reserved {s : S8} {a k : Nat} {b : Bytes} {e : Nat × Nat} (he : e ∈ s.rootsTouched a b.length)
    (hlow : e.2 + 24 ≤ k) (hhigh : k < e.2 + 32) : (s.storeBytes a b).mem.byte k = 0 := by
  rw [S8.storeBytes_mem]
  refine Mem.byte_writeAll_zeros (fun w hw => ?_) (.inr ⟨(e.2 + 24, zeros 8), List.mem_map.2 ⟨e, he, rfl⟩, hlow, ?_⟩)
  · obtain ⟨e, -, rfl⟩ := List.mem_map.1 hw
    rfl
  · change k < e.2 + 24 + 8
    omega

/-! ### The outcomes of an access (R27, R216) -/

section Outcomes
variable {x : Access} {s : State} (hwf : WellFormed (.memoryAccess x) = true) (hissues : s.chip.issues x.agent = true)
include hwf hissues

theorem exec_memoryAccess_stores (hwrite : x.write = true) (haligned : scalarMisaligned x = false)
    (hpermits : s.chip.permits (reachOf x.agent) true x.addr.toNat x.len = true) :
    exec (.memoryAccess x) s = .next { s with chip := (s.chip.storeBytes x.addr.toNat x.data).answered true false [] } := by
  rw [exec_memoryAccess, execMemoryAccess, act_of_wf hwf]
  simp [S8.access, hissues, haligned, hwrite, hpermits]

theorem exec_memoryAccess_loads (hread : x.write = false) (haligned : scalarMisaligned x = false)
    (hpermits : s.chip.permits (reachOf x.agent) false x.addr.toNat x.len = true) :
    exec (.memoryAccess x) s = .next { s with chip := s.chip.load x.agent x.addr.toNat x.len x.upset } := by
  rw [exec_memoryAccess, execMemoryAccess, act_of_wf hwf]
  simp [S8.access, hissues, haligned, hread, hpermits]

theorem exec_memoryAccess_refused (haligned : scalarMisaligned x = false)
    (hpermits : s.chip.permits (reachOf x.agent) x.write x.addr.toNat x.len = false) :
    exec (.memoryAccess x) s = .next { s with chip :=
      (s.chip.addressFault x.write x.addr.toNat x.len).answered false false (if x.write then [] else zeros x.len) } := by
  rw [exec_memoryAccess, execMemoryAccess, act_of_wf hwf]
  simp [S8.access, hissues, haligned, hpermits]

theorem exec_memoryAccess_misaligned (hmisaligned : scalarMisaligned x = true) :
    exec (.memoryAccess x) s = .next { s with chip :=
      (s.chip.takeFault x.agent (if x.write then 6 else 4) x.addr.toNat).answered false true [] } := by
  rw [exec_memoryAccess, execMemoryAccess, act_of_wf hwf]
  simp [S8.access, hissues, hmisaligned]

end Outcomes

theorem writeStoresItsBytes : Claims.WriteStoresItsBytes := by
  intro x s hwf hwrite hissues haligned hpermits
  have hexec := exec_memoryAccess_stores hwf hissues hwrite haligned hpermits
  have hlen : x.data.length = x.len := by
    simp only [WellFormed, hwrite, if_true, Bool.and_eq_true, decide_eq_true_eq] at hwf
    exact hwf.2
  refine ⟨_, hexec, ?_, rfl, fun e he a hlow hhigh => ?_, fun a hclear => ?_⟩
  · rw [S8.storeBytes_frame]
    rfl
  · exact S8.byte_storeBytes_reserved (hlen ▸ he) hlow hhigh
  · rw [← hlen] at hclear ⊢
    exact S8.byte_storeBytes hclear

/-! ### Accesses that are refused (R27, R29, R32, R216, R452) -/

/-- AddressFault takes its flag with the address, whatever else the refusal counts. -/
theorem S8.addressFault_flag (s : S8) (write : Bool) (a len : Nat) :
    (SMap.find (s.addressFault write a len).dict.flags (objKey eventAddressFault 0)).map (·.value) = some a := by
  have hother : eventAddressFault ≠ dieObj Obj.stagingRejectCount (field a 34 3) := by
    unfold eventAddressFault dieObj Obj.stagingRejectCount
    omega
  unfold S8.addressFault
  dsimp only
  rw [Dict.raise_flag_ne hother (by decide), Dict.note, Dict.raise_flag_self (by decide) (by decide)]
  rfl

theorem S8.permits_of_not_serving {s : S8} {r : Reach} {write : Bool} {a len : Nat} (hplace : placeOf a ≠ .mirror)
    (hdie : s.dieServes (field a 34 3) = false) : s.permits r write a len = false := by
  simp [S8.permits, hplace, hdie]

theorem S8.permits_of_not_placePermits {s : S8} {r : Reach} {write : Bool} {a len : Nat}
    (h : s.placePermits r write a len = false) : s.permits r write a len = false := by
  simp [S8.permits, h]

theorem bridgesBetween_self (die : Nat) : bridgesBetween die die = [] := by simp [bridgesBetween]

/-- Places of the two halves of a die lie on the two sides of its seam. -/
theorem gridOf_side_ne {g h : Nat} (hg : g < 2) (hh : h < 2) (hne : g ≠ h) (p q : Nat) :
    ¬((gridOf g p).2 < 5) = ((gridOf h q).2 < 5) := by
  have hside (n : Nat) (hn : n < 2) (r : Nat) : (gridOf n r).2 < 5 ↔ n = 0 := by
    unfold gridOf
    dsimp only
    split <;> omega
  rw [eq_iff_iff, hside g hg, hside h hh]
  omega

/-- A way from one half of a die to the other passes one of the seam's eight crossings. -/
theorem S8.exists_seamOnWay (s : S8) (die : Nat) {g h p q : Nat} (hg : g < 2) (hh : h < 2) (hne : g ≠ h) (hp : p < 40) (hq : q < 40) :
    ∃ k < 8, 8 * die + k ∈ s.seamOnWay die (gridOf g p) (gridOf h q) := by
  unfold S8.seamOnWay
  rw [if_neg (gridOf_side_ne hg hh hne p q)]
  split
  · exact ⟨(gridOf h q).1, by unfold gridOf; dsimp only; omega, List.mem_singleton.2 rfl⟩
  · exact ⟨(gridOf g p).1, by unfold gridOf; dsimp only; omega, List.mem_singleton.2 rfl⟩

/-- A core's access to the other half's working area passes a seam crossing of its die. -/
theorem S8.exists_seam_to_working (s : S8) {core : Core} {a h : Nat} (hplace : placeOf a = .working h) (hdie : h / 2 = core.die.val)
    (hother : h ≠ coreHalfKey core) : ∃ k < 8, 8 * core.die.val + k ∈ s.crossingsTo (coreHalfKey core) core.num.val a := by
  have hhalf : coreHalfKey core = 2 * core.die.val + halfBit core.half := rfl
  have hbit : halfBit core.half < 2 := by cases core.half <;> decide
  have hsame : coreHalfKey core / 2 = core.die.val := by omega
  have hnum : core.num.val ≠ 36 := by omega
  have hattached : s.attachedAt a = some (h, 36, []) := by rw [S8.attachedAt, hplace]
  unfold S8.crossingsTo
  rw [hattached]
  dsimp only
  rw [if_neg hnum, hsame, hdie, bridgesBetween_self]
  exact s.exists_seamOnWay core.die.val (by omega) (by omega) (by omega) (by omega) (by decide)

theorem scalarMisaligned_iff {x : Access} {core : Core} {machine : Bool} (h : x.agent = .core core machine none) :
    scalarMisaligned x = true ↔ x.len ∈ [2, 4, 8] ∧ x.addr.toNat % x.len ≠ 0 := by
  simp [scalarMisaligned, h]

theorem forbiddenAccessIsRefused : Claims.ForbiddenAccessIsRefused := by
  refine ⟨?refused, ?misaligned, fun x s => S8.permits_of_not_serving, ?isolated, ?seams, ?rows⟩
  case refused =>
    intro x s hwf hissues haligned hpermits
    exact ⟨_, exec_memoryAccess_refused hwf hissues haligned hpermits, rfl, S8.addressFault_flag ..⟩
  case misaligned =>
    intro x s core machine hwf hagent hissues hlen haddr
    rw [exec_memoryAccess_misaligned hwf hissues ((scalarMisaligned_iff hagent).2 ⟨hlen, haddr⟩), hagent]
    rfl
  case isolated =>
    intro x s k hway hisolated
    exact S8.permits_of_isolated _ _ _ _ _ k hway hisolated
  case seams =>
    intro x s core machine row h hagent hplace hdie hother hisolated
    obtain ⟨k, hk, hway⟩ := s.chip.exists_seam_to_working hplace hdie hother
    rw [hagent]
    exact S8.permits_of_isolated _ _ _ _ _ _ hway (hisolated k hk)
  case rows =>
    intro x s hplace hrow
    refine S8.permits_of_not_placePermits ?_
    obtain haddr | hlen := hrow
    · simp [S8.placePermits, hplace, haddr]
    · simp [S8.placePermits, hplace, hlen]

/-- The bytes of memory decide what a byte reads as. -/
theorem Mem.byte_of_bytes {m n : Mem} (h : m.bytes = n.bytes) (a : Nat) : m.byte a = n.byte a :=
  congrArg (fun b => SMap.getD b a (resetByte a)) h

/-! ### Words met as a place is read (R398 to R402) -/

theorem S8.retireUnitsOf_of_place {s : S8} {a : Nat} {bad : List Nat} (hplace : placeOf a ≠ .rindStore) : s.retireUnitsOf a bad = s := by
  unfold S8.retireUnitsOf
  split
  · rfl
  · split
    · next h => exact absurd h hplace
    · rfl

theorem S8.meetWords_of_place {s : S8} {a n : Nat} {upset : Upsets} (hplace : placeOf a ≠ .rindStore) :
    s.meetWords a n upset = { s with
      mem := s.mem.meet s.run.step a (correctedIn upset a n) (badIn s.mem upset a n)
      dict := s.dict.meet s.run.step a (correctedIn upset a n).length (badIn s.mem upset a n).length } :=
  S8.retireUnitsOf_of_place hplace

theorem S8.meetArea_of_place {s : S8} {a : Nat} {bad : List Nat} {upset : Upsets} (hplace : ∀ half, placeOf a ≠ .working half) :
    s.meetArea a bad upset = s := by
  unfold S8.meetArea
  split
  · next half h => exact absurd h (hplace half)
  · rfl

/-- Of the words that an access reaches, one word holds only itself. -/
theorem word_of_range {w word : Nat} (h : (decide (16 * word < 16 * w + 16) && decide (16 * w < 16 * word + 16)) = true) : w = word := by
  simp only [Bool.and_eq_true, decide_eq_true_eq] at h
  omega

section Word
variable {m : Mem} {word : Nat} (hbad : word ∉ m.bad)
include hbad

theorem badIn_word_of_decoding {upset : Upsets} (h : ∀ e ∈ upset, e.2 ≠ .uncorrectable) : badIn m upset (16 * word) 16 = [] := by
  refine List.filter_eq_nil_iff.2 fun w hw hrange => ?_
  obtain hmem | hmem := List.mem_append.1 (List.mem_eraseDups.1 hw)
  · obtain ⟨e, he, -⟩ := List.mem_map.1 hmem
    obtain ⟨hupset, hfound⟩ := List.mem_filter.1 he
    exact h e hupset (by simpa using hfound)
  · exact hbad (word_of_range hrange ▸ hmem)

theorem badIn_word_of_uncorrectable : badIn m [(word, .uncorrectable)] (16 * word) 16 = [word] := by
  have hothers : (m.bad.filter (fun w => !w == word)).eraseDups.filter
      (fun w => decide (16 * word < 16 * w + 16) && decide (16 * w < 16 * word + 16)) = [] := by
    refine List.filter_eq_nil_iff.2 fun w hw hrange => ?_
    have hmem := List.mem_filter.1 (List.mem_eraseDups.1 hw)
    exact hbad (word_of_range hrange ▸ hmem.1)
  have hall : badIn m [(word, .uncorrectable)] (16 * word) 16 = (word :: m.bad).eraseDups.filter
      (fun w => decide (16 * word < 16 * w + 16) && decide (16 * w < 16 * word + 16)) := rfl
  rw [hall, List.eraseDups_cons, List.filter_cons_of_pos (by simp), hothers]

end Word

section Scrub
variable {s : S8} {word : Nat} (harea : ∀ half, placeOf (16 * word) ≠ .working half) (hbad : word ∉ s.mem.bad)
include harea hbad

theorem S8.scrubWord_sound : s.scrubWord word none = s := by
  have hnone : badIn s.mem [] (16 * word) 16 = [] := badIn_word_of_decoding hbad (fun e he => absurd he List.not_mem_nil)
  exact (S8.meetArea_of_place harea).trans (S8.meetWords_of_sound hnone)

theorem S8.scrubWord_corrected (hplace : placeOf (16 * word) ≠ .rindStore) : s.scrubWord word (some .corrected) = { s with
    mem := s.mem.meet s.run.step (16 * word) [word] []
    dict := s.dict.meet s.run.step (16 * word) 1 0 } := by
  have hnone : badIn s.mem [(word, .corrected)] (16 * word) 16 = [] := badIn_word_of_decoding hbad (by simp)
  have hone : correctedIn [(word, .corrected)] (16 * word) 16 = [word] := by simp [correctedIn]
  refine (S8.meetArea_of_place harea).trans ?_
  rw [S8.meetWords_of_place hplace, hnone, hone]
  rfl

theorem S8.scrubWord_uncorrectable (hplace : placeOf (16 * word) ≠ .rindStore) : s.scrubWord word (some .uncorrectable) = { s with
    mem := s.mem.meet s.run.step (16 * word) [] [word]
    dict := s.dict.meet s.run.step (16 * word) 0 1 } := by
  have hnone : correctedIn [(word, .uncorrectable)] (16 * word) 16 = [] := by simp [correctedIn]
  refine (S8.meetArea_of_place harea).trans ?_
  rw [S8.meetWords_of_place hplace, badIn_word_of_uncorrectable hbad, hnone]
  rfl

end Scrub

theorem Dict.meet_scratchpad {d : Dict} {step a corrected bad : Nat} (hplace : placeOf a = .scratchpad) :
    d.meet step a corrected bad =
      (d.raise step Obj.scratchpadCorrectedCount 0 corrected 0 a).raise step Obj.scratchpadUncorrectableCount 0 bad 0 a := by
  rw [Dict.meet, hplace]

theorem Dict.meet_hotPool {d : Dict} {step a corrected bad : Nat} (hplace : placeOf a = .hotPool) :
    d.meet step a corrected bad =
      (d.raise step Obj.dramCorrectedCount 0 corrected 0 a).raise step Obj.dramUncorrectableCount 0 bad 0 a := by
  rw [Dict.meet, hplace]

/-- A scratchpad word that does not decode is marked, and its row is due (R399). -/
theorem Mem.meet_scratchpad_bad {m : Mem} {step a word : Nat} (hplace : placeOf a = .scratchpad) :
    word ∈ (m.meet step a [] [word]).bad ∧ 16 * word / 512 ∈ (m.meet step a [] [word]).rowsDue := by
  simp [Mem.meet, hplace, List.mem_eraseDups]

/-- A word of the hot pool that does not decode is marked, and a frame is due (R400). -/
theorem Mem.meet_hotPool_bad {m : Mem} {step a word : Nat} (hplace : placeOf a = .hotPool) :
    word ∈ (m.meet step a [] [word]).bad ∧ (m.meet step a [] [word]).framesDue ≠ [] := by
  refine ⟨by simp [Mem.meet, hplace, List.mem_eraseDups], ?_⟩
  refine List.ne_nil_of_mem (a := (16 * word - 16 * word / 2 ^ 33 * 2 ^ 33) / 10240 + 16 * word / 2 ^ 33 * 2 ^ 20) ?_
  simp [Mem.meet, hplace, List.mem_eraseDups]

theorem exec_sramScrub_scratchpad {word : Nat} {s : State} (hplace : placeOf (16 * word) = .scratchpad)
    (hserves : s.chip.dieServes (field (16 * word) 34 3) = true) (found : Option WordErr) :
    exec (.sramScrub word found) s = .next { s with chip := s.chip.scrubWord word found } := by
  rw [exec_sramScrub, execSramScrub, act_of_wf rfl, hplace, hserves]
  rfl

theorem exec_dramScrub_hotPool {word : Nat} {s : State} (hplace : placeOf (16 * word) = .hotPool)
    (hserves : s.chip.dieServes (field (16 * word) 34 3) = true) (found : Option WordErr) :
    exec (.dramScrub word found) s = .next { s with chip := s.chip.scrubWord word found } := by
  rw [exec_dramScrub, execDramScrub, act_of_wf rfl, hplace, hserves]
  rfl

theorem scrubFindsWords : Claims.ScrubFindsWords := by
  refine ⟨fun word s hplace hserves hbad => ?scratchpad, fun word s hplace hserves hbad => ?hotPool⟩
  case scratchpad =>
    have hexec := exec_sramScrub_scratchpad hplace hserves
    have hstore : placeOf (16 * word) ≠ .rindStore := by simp [hplace]
    have harea (half : Nat) : placeOf (16 * word) ≠ .working half := by simp [hplace]
    refine ⟨?sound, ⟨_, hexec _, ?corrected⟩, ⟨_, hexec _, ?uncorrectable⟩⟩
    case sound => rw [hexec, S8.scrubWord_sound harea hbad]
    case corrected =>
      rw [S8.scrubWord_corrected harea hbad hstore, Dict.meet_scratchpad hplace, Dict.raise_zero]
      exact ⟨rfl, Mem.meet_bytes .., rfl⟩
    case uncorrectable =>
      rw [S8.scrubWord_uncorrectable harea hbad hstore, Dict.meet_scratchpad hplace, Dict.raise_zero]
      exact ⟨rfl, Mem.meet_bytes .., rfl, Mem.meet_scratchpad_bad hplace⟩
  case hotPool =>
    have hexec := exec_dramScrub_hotPool hplace hserves
    have hstore : placeOf (16 * word) ≠ .rindStore := by simp [hplace]
    have harea (half : Nat) : placeOf (16 * word) ≠ .working half := by simp [hplace]
    refine ⟨?sound, ⟨_, hexec _, ?corrected⟩, ⟨_, hexec _, ?uncorrectable⟩⟩
    case sound => rw [hexec, S8.scrubWord_sound harea hbad]
    case corrected =>
      rw [S8.scrubWord_corrected harea hbad hstore, Dict.meet_hotPool hplace, Dict.raise_zero]
      exact ⟨rfl, Mem.meet_bytes .., rfl⟩
    case uncorrectable =>
      rw [S8.scrubWord_uncorrectable harea hbad hstore, Dict.meet_hotPool hplace, Dict.raise_zero]
      exact ⟨rfl, Mem.meet_bytes .., rfl, Mem.meet_hotPool_bad hplace⟩

/-! ### Loads (R27, R31, R227, R231) -/

/-- What a load leaves where it meets its words: the counts and marks, the probe record read, and what the words that do not decode do. -/
def S8.loadMet (s : S8) (a n : Nat) (upset : Upsets) : S8 :=
  ((s.meetWords a n upset).probeRead a n).meetArea a (badIn s.mem upset a n) upset

theorem S8.load_of_mirror {s : S8} {g : Agent} {a n : Nat} {upset : Upsets} (hplace : placeOf a = .mirror) :
    s.load g a n upset = s.answered true false (s.mirrorBytes a n) := by
  unfold S8.load
  split
  · rfl
  · next hother => exact absurd hplace hother

/-- Elsewhere a load meets its words, delivers what it read, takes an exception where a word does not decode, and is answered. -/
theorem S8.load_of_place {s : S8} {g : Agent} {a n : Nat} {upset : Upsets} (hplace : placeOf a ≠ .mirror) :
    ∃ (faults : Bool) (value : Nat), s.load g a n upset =
      (if faults then ((s.loadMet a n upset).deliverLoad g (s.readBytes a n)).takeFault g 5 value
        else (s.loadMet a n upset).deliverLoad g (s.readBytes a n)).answered true faults (s.readBytes a n) := by
  unfold S8.load
  split
  · next hmirror => exact absurd hmirror hplace
  · exact ⟨_, _, rfl⟩

theorem S8.load_last (s : S8) (g : Agent) (a n : Nat) (upset : Upsets) : (s.load g a n upset).mem.last.performed = true ∧
    (s.load g a n upset).mem.last.data = if placeOf a = .mirror then s.mirrorBytes a n else s.readBytes a n := by
  by_cases hplace : placeOf a = .mirror
  · rw [S8.load_of_mirror hplace, if_pos hplace]
    exact ⟨rfl, rfl⟩
  · obtain ⟨faults, value, hload⟩ := S8.load_of_place (g := g) (n := n) (upset := upset) hplace
    rw [hload, if_neg hplace]
    exact ⟨rfl, rfl⟩

/-- The bytes of memory after a load that is not of the mirror are those after its words are met. -/
theorem S8.load_bytes {s : S8} {g : Agent} {a n : Nat} {upset : Upsets} (hplace : placeOf a ≠ .mirror) :
    (s.load g a n upset).mem.bytes = (s.loadMet a n upset).mem.bytes := by
  obtain ⟨faults, value, hload⟩ := S8.load_of_place (s := s) (g := g) (n := n) (upset := upset) hplace
  rw [hload, S8.answered_bytes]
  split
  · rw [S8.takeFault_bytes, S8.deliverLoad_bytes]
  · rw [S8.deliverLoad_bytes]

/-- The vector registers after a load that is not of the mirror are those to which it delivers. -/
theorem S8.load_vreg {s : S8} {g : Agent} {a n : Nat} {upset : Upsets} (hplace : placeOf a ≠ .mirror) (core r : Nat) :
    (s.load g a n upset).cores.vreg core r = ((s.loadMet a n upset).deliverLoad g (s.readBytes a n)).cores.vreg core r := by
  obtain ⟨faults, value, hload⟩ := S8.load_of_place (s := s) (g := g) (n := n) (upset := upset) hplace
  rw [hload]
  cases faults
  · rfl
  · cases g <;> rfl

theorem S8.readBytes_hotPool {s : S8} {a : Nat} (hplace : placeOf a = .hotPool) : s.readBytes a 1 = [s.mem.byte a] := by
  simp [S8.readBytes, S8.foundByte, hplace]

/-! ### Whole-row vector loads (R227, R231) -/

section Group
variable {c : Cores} {core v : Nat} {b : Bytes}

theorem Cores.setGroup_eq : c.setGroup core v b = (((c.setV core v (bytesAt b 0 128)).setV core (v + 1) (bytesAt b 128 128)).setV core
    (v + 2) (bytesAt b 256 128)).setV core (v + 3) (bytesAt b 384 128) := rfl

theorem Cores.vreg_setGroup_in {i : Nat} (hi : i < 4) : (c.setGroup core v b).vreg core (v + i) = bytesAt b (128 * i) 128 := by
  have hself (c : Cores) (r k : Nat) : (c.setV core r (bytesAt b k 128)).vreg core r = bytesAt b k 128 :=
    (Cores.vreg_setV_self _).trans (padTo_of_length (bytesAt_length ..))
  have hother (c : Cores) (k : Nat) {r j : Nat} (h : r < j) : (c.setV core (v + j) (bytesAt b k 128)).vreg core (v + r) =
      c.vreg core (v + r) := Cores.vreg_setV_ne _ (by omega)
  rw [Cores.setGroup_eq]
  match i, hi with
  | 0, _ => exact (hother _ _ (by decide)).trans ((hother _ _ (by decide)).trans ((hother _ _ (by decide)).trans (hself ..)))
  | 1, _ => exact (hother _ _ (by decide)).trans ((hother _ _ (by decide)).trans (hself ..))
  | 2, _ => exact (hother _ _ (by decide)).trans (hself ..)
  | 3, _ => exact hself ..

theorem Cores.vreg_setGroup_out {core' r : Nat} (h : ∀ i < 4, 32 * core' + r ≠ 32 * core + (v + i)) :
    (c.setGroup core v b).vreg core' r = c.vreg core' r := by
  rw [Cores.setGroup_eq, Cores.vreg_setV_ne _ (h 3 (by decide)), Cores.vreg_setV_ne _ (h 2 (by decide)),
    Cores.vreg_setV_ne _ (h 1 (by decide)), Cores.vreg_setV_ne (r := v) _ (h 0 (by decide))]

end Group

/-- A core reaches the scratchpad directly only by a whole-row access to a group of four registers (R227). -/
theorem S8.group_of_permits {s : S8} {core : Core} {machine write : Bool} {v : Fin 32} {a len : Nat} (hplace : placeOf a = .scratchpad)
    (hpermits : s.permits (reachOf (.core core machine (some v))) write a len = true) : v.val % 4 = 0 := by
  by_contra hnot
  have hplacePermits : s.placePermits (reachOf (.core core machine (some v))) write a len = false := by
    simp [S8.placePermits, hplace, reachOf, hnot]
  rw [S8.permits_of_not_placePermits hplacePermits] at hpermits
  cases hpermits

theorem S8.loadMet_cores_of_scratchpad {s : S8} {a n : Nat} {upset : Upsets} (hplace : placeOf a = .scratchpad) :
    (s.loadMet a n upset).cores = s.cores := by
  rw [S8.loadMet, S8.meetArea_of_place (by simp [hplace]), S8.probeRead_frame, S8.meetWords_of_place (by simp [hplace])]

theorem rowLoadWritesItsGroup {x : Access} {s : State} {core : Core} {machine : Bool} {v : Fin 32}
    (hwf : WellFormed (.memoryAccess x) = true) (hagent : x.agent = .core core machine (some v)) (hread : x.write = false)
    (hlen : x.len = 512) (hissues : s.chip.issues x.agent = true) (hplace : placeOf x.addr.toNat = .scratchpad)
    (hpermits : s.chip.permits (reachOf x.agent) false x.addr.toNat x.len = true) : ∃ t, exec (.memoryAccess x) s = .next t ∧
      (∀ i < 4, t.chip.cores.vreg (coreKey core) (v + i) = bytesAt (s.chip.readBytes x.addr.toNat 512) (128 * i) 128) ∧
      (∀ c i, (c ≠ coreKey core ∨ i < v.val ∨ v.val + 4 ≤ i) → i < 32 → t.chip.cores.vreg c i = s.chip.cores.vreg c i) := by
  have haligned : scalarMisaligned x = false := by simp [scalarMisaligned, hagent]
  have hgroup := S8.group_of_permits hplace (hagent ▸ hpermits)
  have hvector (c r : Nat) : (s.chip.load x.agent x.addr.toNat x.len x.upset).cores.vreg c r =
      (s.chip.cores.setGroup (coreKey core) v (s.chip.readBytes x.addr.toNat 512)).vreg c r := by
    rw [S8.load_vreg (by simp [hplace]), hagent, hlen]
    exact congrArg (fun c' : Cores => (c'.setGroup (coreKey core) v (s.chip.readBytes x.addr.toNat 512)).vreg c r)
      (S8.loadMet_cores_of_scratchpad hplace)
  refine ⟨_, exec_memoryAccess_loads hwf hissues hread haligned hpermits, fun i hi => ?_, fun c i hother hi => ?_⟩
  · exact (hvector ..).trans (Cores.vreg_setGroup_in hi)
  · refine (hvector ..).trans (Cores.vreg_setGroup_out fun j hj => ?_)
    have hv := v.isLt
    omega

/-! ### Loads and the ripening rows (R384, R395) -/

theorem placeOf_working_bounds {a half : Nat} (h : placeOf a = .working half) :
    half < 16 ∧ workBase half ≤ a ∧ a < workBase half + 2 ^ 30 := by
  unfold placeOf at h
  dsimp only at h
  split_ifs at h with hrange hdram <;> cases h
  · have hwest : 2 * field a 34 3 % 2 = 0 := by omega
    rw [workBase, if_pos hwest]
    unfold address field at *
    omega
  · have heast : ¬(2 * field a 34 3 + 1) % 2 = 0 := by omega
    rw [workBase, if_neg heast]
    unfold address field at *
    omega

/-- A half's ripening rows begin beyond the last word of its working area. -/
def RipenAreaBeyond (half : Nat) : Prop := 2 ^ 30 < Config.ripenArea half + 16

theorem S8.inRipenArea_of_beyond {s : S8} {half a n w : Nat} (hbeyond : RipenAreaBeyond half)
    (hplace : placeOf (a + n - 1) = .working half) (hw : 16 * w < a + n) : s.inRipenArea half w = false := by
  obtain ⟨-, -, hend⟩ := placeOf_working_bounds hplace
  have hword : workBase half % 16 = 0 := by
    unfold workBase address
    split <;> omega
  have hbefore : ¬workBase half + Config.ripenArea half ≤ 16 * w := by
    unfold RipenAreaBeyond at hbeyond
    omega
  simp [S8.inRipenArea, hbefore]

theorem S8.masterFault_of_outside {s : S8} {half : Nat} {bad : List Nat} (h : ∀ w ∈ bad, s.inRipenArea half w = false) :
    s.masterFault half bad = s :=
  if_pos (.inr (by simpa using h))

theorem S8.loadMet_bytes {s : S8} {a n : Nat} {upset : Upsets} (hbeyond : ∀ half < 16, RipenAreaBeyond half)
    (hplace : placeOf a = placeOf (a + n - 1)) : (s.loadMet a n upset).mem.bytes = s.mem.bytes := by
  have hmet : ((s.meetWords a n upset).probeRead a n).mem.bytes = s.mem.bytes := by
    rw [S8.probeRead_bytes, S8.meetWords_bytes]
  unfold S8.loadMet S8.meetArea
  split
  · next half harea =>
    have hend := hplace.symm.trans harea
    split
    · exact hmet
    · rw [S8.sheetCopies_bytes, S8.masterFault_of_outside, hmet]
      intro w hw
      have hreached : a < 16 * w + 16 ∧ 16 * w < a + n := by simpa using (List.mem_filter.1 hw).2
      exact S8.inRipenArea_of_beyond (hbeyond half (placeOf_working_bounds harea).1) hend hreached.2
  · exact hmet

theorem readAnswersItsBytes_of_beyond (hbeyond : ∀ half < 16, RipenAreaBeyond half) : Claims.ReadAnswersItsBytes := by
  refine ⟨?reads, fun x s core machine v => rowLoadWritesItsGroup⟩
  intro x s hwf hread hissues haligned hpermits
  obtain ⟨hperformed, hdata⟩ := s.chip.load_last x.agent x.addr.toNat x.len x.upset
  have hsame : placeOf x.addr.toNat = placeOf (x.addr.toNat + x.len - 1) := by
    simp only [S8.permits, Bool.and_eq_true, decide_eq_true_eq] at hpermits
    exact hpermits.1.1.1
  have hbytes : (s.chip.load x.agent x.addr.toNat x.len x.upset).mem.bytes = s.chip.mem.bytes := by
    by_cases hmirror : placeOf x.addr.toNat = .mirror
    · rw [S8.load_of_mirror hmirror, S8.answered_bytes]
    · rw [S8.load_bytes hmirror, S8.loadMet_bytes hbeyond hsame]
  refine ⟨_, exec_memoryAccess_loads hwf hissues hread haligned hpermits, hperformed, hdata, fun hpool hone => ?_, fun a => ?_⟩
  · rw [hdata, if_neg (by simp [hpool]), hone, S8.readBytes_hotPool hpool]
  · exact Mem.byte_of_bytes hbytes a

/-! ### A load that fails a ripening job -/

/-- A version of culture 0. -/
def Culture.stub (version : Nat) : Culture :=
  { cultureId := 0, version := version, state := 4, reason := 0, place := none, pins := 0, shape := 0, force := false, length := 0,
    sha := [], segments := [], waited := false, part := false, roles := [], targets := [], tries := 0, verified := false }

/-- Job 1's part, version 1, is being written: its job ripens version 0. -/
def Job.partWriting : Job := { Job.ofRequest [] with state := 3, part := 1 }

/-- The place of version 0: its one role is held by vat 0 of a half. -/
def PlaceRecord.inHalf (half : Nat) : PlaceRecord :=
  { place := 0, group := 0, roles := 1, vats := [4096 * (half / 2) + 1152 * (half % 2)], shape := 0 }

/-- A module whose job 1 has its master copy in a half, and writes its part to vat 0. -/
def S8.ripening (half : Nat) (m : Mem) (d : Dict) : S8 :=
  { S8.reset with
    mem := m
    dict := d
    run := { S8.reset.run with lostDies := [], running := some { Sheet.ofBytes [] with places := [PlaceRecord.inHalf half] } }
    cultures := { S8.reset.cultures with table := [{ Culture.stub 0 with place := some 0, roles := [0] },
      { Culture.stub 1 with part := true, targets := [(0, 0)] }] }
    ripen := { S8.reset.ripen with jobs := [(1, Job.partWriting)] } }

/-- The half's job has its master copy there. -/
theorem S8.jobRoles_ripening {half : Nat} (hhalf : half < 16) (m : Mem) (d : Dict) : ∃ l, vatHalf l = half ∧
    (S8.ripening half m d).jobRoles Job.partWriting = [(0, 0, l)] := by
  have hvat : ∀ half < 16, 4096 * (half / 2) + 1152 * (half % 2) ≠ 0xFFFF ∧
    vatHalf (vatOfWord (4096 * (half / 2) + 1152 * (half % 2))) = half := by decide +kernel
  obtain ⟨hword, hvatHalf⟩ := hvat half hhalf
  have hbase : (S8.ripening half m d).jobBase Job.partWriting =
      some ({ Culture.stub 0 with place := some 0, roles := [0] }, PlaceRecord.inHalf half) := rfl
  have hvatOf : (PlaceRecord.inHalf half).vatOf 0 = some (vatOfWord (4096 * (half / 2) + 1152 * (half % 2))) := by
    simp [PlaceRecord.vatOf, PlaceRecord.inHalf, hword]
  refine ⟨_, hvatHalf, ?_⟩
  rw [S8.jobRoles, hbase]
  simp [List.zipIdx, hvatOf]

/-- The job fails with a word of its ripening rows, and the vat of its part goes back to State 0 or 3. -/
theorem S8.masterFault_ripening {half : Nat} (hhalf : half < 16) {m : Mem} {d : Dict} {w : Nat}
    (harea : (S8.ripening half m d).inRipenArea half w = true) : ∃ state, (state = 0 ∨ state = 3) ∧
    ((S8.ripening half m d).masterFault half [w]).mem = m.setState 0 state := by
  obtain ⟨l, hl, hroles⟩ := S8.jobRoles_ripening hhalf m d
  have hjobs : (((S8.ripening half m d).ripen.jobs.filter (fun e => e.2.runs &&
      ((S8.ripening half m d).jobRoles e.2).any (fun r => vatHalf r.2.2 = half))).map (·.1)) = [1] := by
    have hlist : (S8.ripening half m d).ripen.jobs = [(1, Job.partWriting)] := rfl
    have hruns : Job.partWriting.runs = true := rfl
    rw [hlist]
    simp [hruns, hroles, hl]
  have hpick : (S8.ripening half m d).pick [1] = 1 := by simp [S8.pick, Nat.mod_one]
  refine ⟨(S8.ripening half m d).picked.leftState 0, ?_, ?_⟩
  · unfold S8.leftState
    split
    · exact .inl rfl
    · exact .inr rfl
  · unfold S8.masterFault
    dsimp only
    rw [hjobs, hpick, if_neg (by simp [harea])]
    rfl

/-- The first word of a half's ripening rows. -/
def ripenWord (half : Nat) : Nat := (workBase half + Config.ripenArea half + 15) / 16

theorem inRipenArea_ripenWord {s : S8} {half : Nat} (hrows : 0 < s.dict.get Obj.ripenAreaMiB) :
    s.inRipenArea half (ripenWord half) = true := by
  unfold S8.inRipenArea ripenWord
  dsimp only
  rw [Bool.and_eq_true, decide_eq_true_eq, decide_eq_true_eq]
  omega

theorem placeOf_working {a half : Nat} (hhalf : half < 16) (hlow : workBase half ≤ a) (hhigh : a < workBase half + 2 ^ 30) :
    placeOf a = .working half := by
  have hregion : a < 2 ^ 37 ∧ a / 2 ^ 34 = half / 2 ∧
      (if half % 2 = 0 then 0x1C0000000 ≤ a % 2 ^ 34 ∧ a % 2 ^ 34 < 0x200000000 else 0x3C0000000 ≤ a % 2 ^ 34) := by
    unfold workBase address at hlow hhigh
    split_ifs at hlow hhigh ⊢ <;> omega
  obtain ⟨hsmall, hdie, hoffset⟩ := hregion
  have hfields : field a 37 3 = 0 ∧ field a 40 8 = 0 ∧ field a 34 3 = half / 2 ∧ field a 0 34 = a % 2 ^ 34 := by
    unfold field
    omega
  obtain ⟨hzero, hdram, hdieField, hoff⟩ := hfields
  unfold placeOf
  dsimp only
  rw [if_neg (by omega), if_pos hdram, hdieField, hoff]
  split_ifs at hoffset with heven
  · rw [if_neg (by omega), if_neg (by omega), if_pos hoffset.2, show 2 * (half / 2) = half by omega]
  · rw [if_neg (by omega), if_neg (by omega), if_neg (by omega), if_neg (by omega), if_neg (by omega),
      show 2 * (half / 2) + 1 = half by omega]

theorem placeOf_ripenWord {half : Nat} (hhalf : half < 16) (hwithin : ¬RipenAreaBeyond half) :
    placeOf (16 * ripenWord half) = .working half := by
  have hword : workBase half % 16 = 0 := by
    unfold workBase address
    split <;> omega
  unfold RipenAreaBeyond at hwithin
  exact placeOf_working hhalf (by unfold ripenWord; omega) (by unfold ripenWord; omega)

/-- A machine-mode core of a half reads the first byte of the half's ripening rows, in a word that does not decode. -/
def ripenRead (half : Nat) : Access :=
  { agent := .core { die := Fin.ofNat 8 (half / 2), half := if half % 2 = 0 then .w else .e, num := 0 } true none
    write := false, addr := BitVec.ofNat 64 (16 * ripenWord half), len := 1, data := [], upset := [(ripenWord half, .uncorrectable)] }

/-- That module, with a 1 MiB ripening area in each half and vat 0 in State 1. -/
def S8.aboutToFail (half : Nat) : S8 := S8.ripening half (Mem.reset.setState 0 1) (Dict.reset.store Obj.ripenAreaMiB 1)

theorem ripenRead_addr {half : Nat} (hhalf : half < 16) (hwithin : ¬RipenAreaBeyond half) :
    (ripenRead half).addr.toNat = 16 * ripenWord half := by
  obtain ⟨-, -, hend⟩ := placeOf_working_bounds (placeOf_ripenWord hhalf hwithin)
  have hsmall : workBase half + 2 ^ 30 ≤ 2 ^ 64 := by
    unfold workBase address
    split <;> omega
  exact (BitVec.toNat_ofNat ..).trans (Nat.mod_eq_of_lt (by omega))

theorem S8.aboutToFail_permits {half a : Nat} (hplace : placeOf a = .working half) (r : Reach) (hmachine : r.machine = true)
    (hattention : r.attention = false) : (S8.aboutToFail half).permits r false a 1 = true := by
  have hserves : (S8.aboutToFail half).dieServes (field a 34 3) = true := rfl
  have hisolated : (S8.aboutToFail half).clock.isolated = [] := rfl
  simp [S8.permits, S8.placePermits, hplace, hmachine, hattention, hserves, hisolated]

theorem S8.probeRead_of_place {s : S8} {a n : Nat} (hplace : placeOf a ≠ .rindStore) : s.probeRead a n = s :=
  if_neg fun h => hplace h.1

@[simp] theorem Dict.meet_get (d : Dict) (step a corrected bad o : Nat) : (d.meet step a corrected bad).get o = d.get o := by
  unfold Dict.meet
  split <;> rw [Dict.raise_get, Dict.raise_get]

@[simp] theorem Mem.byte_setState (m : Mem) (k state : Nat) : (m.setState k state).byte (tableBase k + 3) = BitVec.ofNat 8 state := by
  rw [Mem.setState, Mem.byte_write, if_pos ⟨le_rfl, Nat.lt_succ_self _⟩, Nat.sub_self]
  rfl

/-- The module as that load has counted and marked the word. -/
def S8.marked (half w : Nat) : S8 :=
  S8.ripening half ((S8.aboutToFail half).mem.meet 0 (16 * w) [] [w]) ((S8.aboutToFail half).dict.meet 0 (16 * w) 0 1)

theorem S8.loadMet_aboutToFail {half w : Nat} (hplace : placeOf (16 * w) = .working half) :
    (S8.aboutToFail half).loadMet (16 * w) 1 [(w, .uncorrectable)] =
      ((S8.marked half w).masterFault half [w]).sheetCopies half [w] [(w, .uncorrectable)] := by
  have hstore : placeOf (16 * w) ≠ .rindStore := by simp [hplace]
  have hsound : (S8.aboutToFail half).mem.bad = [] := rfl
  have hbad : badIn (S8.aboutToFail half).mem [(w, .uncorrectable)] (16 * w) 1 = [w] := by
    simp [badIn, hsound, List.eraseDups_cons]
  have hcorrected : correctedIn [(w, .uncorrectable)] (16 * w) 1 = [] := by simp [correctedIn]
  rw [S8.loadMet, S8.probeRead_of_place hstore, S8.meetWords_of_place hstore, hbad, hcorrected, S8.meetArea, hplace]
  rfl

theorem S8.marked_rows (half w : Nat) : (S8.marked half w).dict.get Obj.ripenAreaMiB = 1 := by
  have hstored : (S8.aboutToFail half).dict.get Obj.ripenAreaMiB = 1 := (Dict.get_store ..).trans (if_pos rfl)
  exact (Dict.meet_get ..).trans hstored

/-- A load that meets the word fails the job, and vat 0 goes back to State 0 or 3. -/
theorem S8.byte_loadMet_aboutToFail {half w : Nat} (hhalf : half < 16) (hplace : placeOf (16 * w) = .working half)
    (harea : (S8.marked half w).inRipenArea half w = true) : ∃ state, (state = 0 ∨ state = 3) ∧
      ((S8.aboutToFail half).loadMet (16 * w) 1 [(w, .uncorrectable)]).mem.byte (tableBase 0 + 3) = BitVec.ofNat 8 state := by
  obtain ⟨state, hstate, hmem⟩ := S8.masterFault_ripening hhalf harea
  refine ⟨state, hstate, ?_⟩
  have hfailed : ((S8.marked half w).masterFault half [w]).mem = ((S8.aboutToFail half).mem.meet 0 (16 * w) [] [w]).setState 0 state :=
    hmem
  rw [S8.loadMet_aboutToFail hplace, Mem.byte_of_bytes (S8.sheetCopies_bytes ..), hfailed, Mem.byte_setState]

theorem not_readAnswersItsBytes_of_within {half : Nat} (hhalf : half < 16) (hwithin : ¬RipenAreaBeyond half) :
    ¬Claims.ReadAnswersItsBytes := by
  rintro ⟨hreads, -⟩
  have hplace := placeOf_ripenWord hhalf hwithin
  have haddr := ripenRead_addr hhalf hwithin
  have hpermits : (S8.aboutToFail half).permits (reachOf (ripenRead half).agent) false (ripenRead half).addr.toNat 1 = true :=
    S8.aboutToFail_permits (haddr ▸ hplace) _ rfl rfl
  have hloads := exec_memoryAccess_loads (x := ripenRead half) (s := ⟨S8.aboutToFail half, []⟩) rfl rfl rfl rfl hpermits
  obtain ⟨t, hexec, -, -, -, hbytes⟩ := hreads (ripenRead half) ⟨S8.aboutToFail half, []⟩ rfl rfl rfl rfl hpermits
  obtain rfl := Host.Outcome.next.inj (hloads.symm.trans hexec)
  obtain ⟨state, hstate, hfailed⟩ := S8.byte_loadMet_aboutToFail hhalf hplace
    (inRipenArea_ripenWord (Nat.lt_of_lt_of_eq Nat.one_pos (S8.marked_rows half (ripenWord half)).symm))
  have hbefore : (S8.aboutToFail half).mem.byte (tableBase 0 + 3) = BitVec.ofNat 8 1 := Mem.byte_setState ..
  have hkept : ((S8.aboutToFail half).load (ripenRead half).agent (16 * ripenWord half) 1
      [(ripenWord half, .uncorrectable)]).mem.byte (tableBase 0 + 3) = BitVec.ofNat 8 1 := by
    rw [← haddr, ← hbefore]
    exact hbytes (tableBase 0 + 3)
  have hplaceOther : placeOf (16 * ripenWord half) ≠ .mirror := by simp [hplace]
  have hstates := hfailed.symm.trans ((Mem.byte_of_bytes (S8.load_bytes hplaceOther) _).symm.trans hkept)
  obtain rfl | rfl := hstate <;> cases hstates

/-- O9 holds exactly when no word of a half's working area lies in the half's ripening rows. Where those rows begin is
`Config.ripenArea`, an opaque constant of the model, so O9 itself stays open. What makes it fail where they begin within the area is the
end of a ripening job (R395): a load that finds a word of the rows not to decode fails the job, and the vats being written for its part
go back to State 0, a byte of their tables (R392). -/
theorem memoryAnswersAccesses_iff : Obligations.MemoryAnswersAccesses ↔ ∀ half < 16, RipenAreaBeyond half := by
  refine ⟨fun ⟨_, hreads, _⟩ half hhalf => ?_, fun hbeyond =>
    ⟨writeStoresItsBytes, readAnswersItsBytes_of_beyond hbeyond, forbiddenAccessIsRefused, scrubFindsWords⟩⟩
  by_contra hwithin
  exact not_readAnswersItsBytes_of_within hhalf hwithin hreads

end Sys2Proof.Machine
